-- ==== Sys2Proof/Word.lean ====
section
/-! DEFINITION. The word types of the N1 and their plainest arithmetic (spec/00 R5, spec/01 Table 1.1). -/

namespace Sys2Proof

/-- A general register of the A, M or E file, a control register or a generic pointer (Table 1.1). -/
abbrev Word := BitVec 64

/-- One byte of any memory. -/
abbrev Byte := BitVec 8

/-- A V-file register (Table 1.1). -/
abbrev VReg := BitVec 1024

/-- A mask register, one bit per byte of a vector (Table 1.1). -/
abbrev MaskReg := BitVec 128

end Sys2Proof
end

