-- ==== Sys2Proof/Syntax.lean ====
section
/-! DEFINITION. The whole instruction syntax: one constructor of `Instr` per row of the opcode table. The first 210
rows are the slot operations of spec/03 (Tables 3.7 to 3.10) with the operands their encodings give them; the other 122
are the steps the machine takes beside its bundles, with the operands this model gives them (log entry 2). -/

namespace Sys2Proof

/-- The four slots of a bundle, in slot order (R12, R88). -/
inductive Slot where
  | a | v | m | e
  deriving DecidableEq, Repr, Inhabited

/-- A register file, coded by the DF field (R96). -/
inductive RFile where
  | a | v | m | e
  deriving DecidableEq, Repr, Inhabited

/-- The guard of a slot word (R16, R89): predicate `p`, inverted when `inv`. -/
structure Guard where
  inv : Bool
  p : BitVec 3
  deriving DecidableEq, Repr, Inhabited

/-- A source field: a register or a latch of the operation's slot (Table 3.4). -/
inductive Src where
  | reg (n : BitVec 5)
  | latch (k : BitVec 2)
  deriving DecidableEq, Repr, Inhabited

/-- A destination field: a register, or `_` (R25, Table 3.4). -/
inductive Dst where
  | reg (n : BitVec 5)
  | drop
  deriving DecidableEq, Repr, Inhabited

/-- Integer compare conditions (Table 3.5). -/
inductive ICond where
  | eq | ne | lt | ge | ltu | geu
  deriving DecidableEq, Repr, Inhabited

/-- Float compare conditions (Table 3.5). -/
inductive FCond where
  | eq | ne | lt | le | gt | ge | un
  deriving DecidableEq, Repr, Inhabited

/-- Integer lane widths (R95). -/
inductive LaneW where
  | w8 | w16 | w32 | w64
  deriving DecidableEq, Repr, Inhabited

/-- Float lane types (R95). -/
inductive FloatT where
  | fp32 | bf16 | fp16 | fp64
  deriving DecidableEq, Repr, Inhabited

/-- Wrapped, signed-saturating and unsigned-saturating addition (Table 5.2). -/
inductive SatMode where
  | wrap | sat | usat
  deriving DecidableEq, Repr, Inhabited

/-- The width code of `SEXT` and `ZEXT` (Table 4.3). -/
inductive ExtW where
  | byte | half | word
  deriving DecidableEq, Repr, Inhabited

/-- The scope of a `FENCE` (R248). -/
inductive Scope where
  | t | n | p
  deriving DecidableEq, Repr, Inhabited

/-- The crook's lock modes (R322). -/
inductive LockMode where
  | is | ix | s | six | inc | x
  deriving DecidableEq, Repr, Inhabited

/-- The control registers `MTCR` and `MFCR` name (Table 4.7). -/
inductive CReg where
  | fmt (n : BitVec 4)
  | ftab (n : BitVec 4)
  | ftctl
  | cbctl (n : BitVec 2)
  | lc (n : BitVec 2)
  | sbase | slim | fflags | rbq
  | tshape (n : BitVec 4)
  | xstat | xcause | xpc | xprog | xaddr | xvec | xctl | self
  deriving DecidableEq, Repr, Inhabited

/-- The seventeen registers of one engine register set (Table 9.5). -/
inductive NestReg where
  | mctl | mfmt | mabase | mbbase | mzbase
  | mstr (l : Fin 6)
  | mcnt (l : Fin 6)
  deriving DecidableEq, Repr, Inhabited

/-- The engine registers `EWR` and `ERD` name (Table 9.5). -/
inductive EReg where
  | shadow (r : NestReg)
  | active (r : NestReg)
  | mstat
  | bstat (b : BitVec 5)
  | bcfg (b : BitVec 5)
  deriving DecidableEq, Repr, Inhabited

/-- A tile of a node of the pasture. -/
structure TileRef where
  node : Nat
  tile : Nat
  deriving DecidableEq, Repr, Inhabited

/-- A context slot of a tile. -/
structure CtxRef where
  node : Nat
  tile : Nat
  slot : Nat
  deriving DecidableEq, Repr, Inhabited

/-- The two access queues of a context (R244). -/
inductive QueueSel where
  | load | store
  deriving DecidableEq, Repr, Inhabited

/-- A flit: control dword, eight payload dwords, trailer dword (Table 15.1). -/
structure Flit where
  ctl : Word
  pay : List Word
  trail : Word
  deriving DecidableEq, Repr, Inhabited

/-- A remote request as it stands at its home (Table 15.2a), with the requester's own id of the access. -/
structure RemoteReq where
  home : Nat
  tile : Nat
  offset : Nat
  size : Nat
  srcNode : Nat
  srcTile : Nat
  sub : BitVec 3
  pmask : BitVec 16
  data : List Byte
  id : Nat
  deriving DecidableEq, Repr, Inhabited

/-- A response to a remote request (Table 15.2b). -/
structure RemoteResp where
  node : Nat
  tile : Nat
  status : BitVec 8
  pmask : BitVec 16
  data : List Byte
  id : Nat
  deriving DecidableEq, Repr, Inhabited

/-- A crook message (Table 15.2c); `dest` is the node it arrives at. -/
structure CrookMsg where
  dest : Nat
  mode : LockMode
  ctx : CtxRef
  name : Word
  tick : Nat
  result : Word
  id : Nat
  deriving DecidableEq, Repr, Inhabited

/-- A fold message (Table 15.2d); `dest` is the node it arrives at. -/
structure FoldMsg where
  dest : Nat
  src : Nat
  rpd : Nat
  lpd : Nat
  data : List Byte
  deriving DecidableEq, Repr, Inhabited

/-- A unit of the corrected-error accounting (Table 17.2): class, tile and index. -/
structure RasUnit where
  cls : BitVec 4
  tile : Nat
  index : Nat
  deriving DecidableEq, Repr, Inhabited

/-- A segment of a drove image (Table 13.6) with its bytes. -/
structure Segment where
  node : Nat
  tile : Nat
  kind : Nat
  gen : BitVec 4
  dest : Nat
  hash : List Byte
  bytes : List Byte
  deriving DecidableEq, Repr, Inhabited

/-- The tile state a kind 3 segment carries (R358, R360), in decoded form (log entry 3). -/
structure TileInit where
  node : Nat
  tile : Nat
  stage : Nat
  origin : Nat
  width : Nat
  height : Nat
  slots : Nat
  xvec : Word
  instreams : List (Nat × Word × Word × Nat)
  outstreams : List (Nat × Word × Nat)
  senders : List (Nat × Nat × Nat × Nat × Nat)
  joinStreams : List (Nat × Nat)
  reserves : List (Nat × Nat)
  windows : List (Word × Word × Word)
  cregs : List (Nat × Word)
  needs : List Word
  checkpoints : List (Word × Word × Word)
  gentab : Option Nat
  deriving DecidableEq, Repr, Inhabited

/-- The fold region and layout a drove's `fold` statement and `.fold` directive give a node (R290, R294). -/
structure FoldRegion where
  x : Nat
  y : Nat
  w : Nat
  h : Nat
  frames : Nat
  vecbytes : Nat
  layers : Nat
  heads : Nat
  deriving DecidableEq, Repr, Inhabited

/-- A host queue binding (R355, R412, R414): egress when `out`. -/
structure QueueBinding where
  node : Nat
  queue : Nat
  tile : Nat
  stream : Nat
  cap : Nat
  out : Bool
  deriving DecidableEq, Repr, Inhabited

/-- A drove image (R362): its manifest bytes, its segments, and the placement facts they carry in decoded form. -/
structure DroveImage where
  drove : BitVec 32
  manifest : List Byte
  keyId : List Byte
  signature : List Byte
  gen : BitVec 4
  segments : List Segment
  tiles : List TileInit
  fold : List (Nat × FoldRegion)
  queues : List QueueBinding
  deriving DecidableEq, Repr, Inhabited

/-- A firmware image (R434): version, key, signature and bytes. -/
structure FirmwareImage where
  version : BitVec 32
  key : List Byte
  signature : List Byte
  bytes : List Byte
  deriving DecidableEq, Repr, Inhabited

/-- The instructions and steps of the N1, one constructor per row of the opcode table. -/
inductive Instr where
  /-- NOP (R90). -/
  | nop
  /-- ADD (R114). -/
  | add (g : Guard) (d : Dst) (a : Src) (b : Src)
  /-- SUB (R114). -/
  | sub (g : Guard) (d : Dst) (a : Src) (b : Src)
  /-- AND (R114). -/
  | and (g : Guard) (d : Dst) (a : Src) (b : Src)
  /-- OR (R114). -/
  | or (g : Guard) (d : Dst) (a : Src) (b : Src)
  /-- XOR (R114). -/
  | xor (g : Guard) (d : Dst) (a : Src) (b : Src)
  /-- ANDN (R114). -/
  | andn (g : Guard) (d : Dst) (a : Src) (b : Src)
  /-- SHL (R114). -/
  | shl (g : Guard) (d : Dst) (a : Src) (b : Src)
  /-- SHR (R114). -/
  | shr (g : Guard) (d : Dst) (a : Src) (b : Src)
  /-- SAR (R114). -/
  | sar (g : Guard) (d : Dst) (a : Src) (b : Src)
  /-- ROL (R114). -/
  | rol (g : Guard) (d : Dst) (a : Src) (b : Src)
  /-- MIN (R114). -/
  | min (g : Guard) (d : Dst) (a : Src) (b : Src)
  /-- MAX (R114). -/
  | max (g : Guard) (d : Dst) (a : Src) (b : Src)
  /-- MINU (R114). -/
  | minu (g : Guard) (d : Dst) (a : Src) (b : Src)
  /-- MAXU (R114). -/
  | maxu (g : Guard) (d : Dst) (a : Src) (b : Src)
  /-- ADDX (R115). -/
  | addx (g : Guard) (d : Dst) (a : Src) (b : Src)
  /-- CLZ (R116). -/
  | clz (g : Guard) (d : Dst) (a : Src)
  /-- CTZ (R116). -/
  | ctz (g : Guard) (d : Dst) (a : Src)
  /-- POPC (R116). -/
  | popc (g : Guard) (d : Dst) (a : Src)
  /-- BREV (R116). -/
  | brev (g : Guard) (d : Dst) (a : Src)
  /-- BSWAP (R116). -/
  | bswap (g : Guard) (d : Dst) (a : Src)
  /-- SEXT (R116). -/
  | sext (g : Guard) (d : Dst) (a : Src) (w : ExtW)
  /-- ZEXT (R116). -/
  | zext (g : Guard) (d : Dst) (a : Src) (w : ExtW)
  /-- MOV (R116). -/
  | mov (g : Guard) (d : Dst) (a : Src)
  /-- MUL (R119). -/
  | mul (g : Guard) (d : Dst) (a : Src) (b : Src)
  /-- MULH (R119). -/
  | mulh (g : Guard) (d : Dst) (a : Src) (b : Src)
  /-- MULHU (R119). -/
  | mulhu (g : Guard) (d : Dst) (a : Src) (b : Src)
  /-- DIV (R119). -/
  | div (g : Guard) (d : Dst) (a : Src) (b : Src)
  /-- DIVU (R119). -/
  | divu (g : Guard) (d : Dst) (a : Src) (b : Src)
  /-- REM (R119). -/
  | rem (g : Guard) (d : Dst) (a : Src) (b : Src)
  /-- REMU (R119). -/
  | remu (g : Guard) (d : Dst) (a : Src) (b : Src)
  /-- EXTR (R117). -/
  | extr (g : Guard) (d : Dst) (a : Src) (b : Src)
  /-- INSR (R117). -/
  | insr (g : Guard) (d : BitVec 5) (a : Src) (b : Src)
  /-- SEL (R121). -/
  | sel (g : Guard) (d : Dst) (a : Src) (b : Src) (v : Bool) (k : BitVec 3)
  /-- CMP (R120). -/
  | cmp (g : Guard) (c : ICond) (q : BitVec 3) (a : Src) (b : Src)
  /-- PAND (R122). -/
  | pand (g : Guard) (d : BitVec 3) (a : BitVec 3) (b : BitVec 3)
  /-- POR (R122). -/
  | por (g : Guard) (d : BitVec 3) (a : BitVec 3) (b : BitVec 3)
  /-- PNOT (R122). -/
  | pnot (g : Guard) (d : BitVec 3) (a : BitVec 3)
  /-- ADDI (R114). -/
  | addi (g : Guard) (d : Dst) (a : Src) (i : BitVec 10)
  /-- SUBI (R114). -/
  | subi (g : Guard) (d : Dst) (a : Src) (i : BitVec 10)
  /-- ANDI (R114). -/
  | andi (g : Guard) (d : Dst) (a : Src) (i : BitVec 10)
  /-- ORI (R114). -/
  | ori (g : Guard) (d : Dst) (a : Src) (i : BitVec 10)
  /-- XORI (R114). -/
  | xori (g : Guard) (d : Dst) (a : Src) (i : BitVec 10)
  /-- SHLI (R114). -/
  | shli (g : Guard) (d : Dst) (a : Src) (i : BitVec 6)
  /-- SHRI (R114). -/
  | shri (g : Guard) (d : Dst) (a : Src) (i : BitVec 6)
  /-- SARI (R114). -/
  | sari (g : Guard) (d : Dst) (a : Src) (i : BitVec 6)
  /-- CMPI (R120). -/
  | cmpi (g : Guard) (c : ICond) (q : BitVec 3) (a : Src) (i : BitVec 10)
  /-- MOVI (R118). -/
  | movi (g : Guard) (d : Dst) (i : BitVec 16)
  /-- MOVH_1 (R118). -/
  | movh1 (g : Guard) (d : BitVec 5) (i : BitVec 16)
  /-- MOVH_2 (R118). -/
  | movh2 (g : Guard) (d : BitVec 5) (i : BitVec 16)
  /-- MOVH_3 (R118). -/
  | movh3 (g : Guard) (d : BitVec 5) (i : BitVec 16)
  /-- BR (R125). -/
  | br (g : Guard) (i : BitVec 16)
  /-- JMP (R125). -/
  | jmp (g : Guard) (a : Src)
  /-- CALL (R125). -/
  | call (g : Guard) (d : Dst) (i : BitVec 16)
  /-- CALLR (R125). -/
  | callr (g : Guard) (d : Dst) (a : Src)
  /-- RET (R127). -/
  | ret (g : Guard) (a : Src)
  /-- LOOPI (R128). -/
  | loopi (g : Guard) (l : BitVec 12) (c : BitVec 10)
  /-- LOOP (R128). -/
  | loop (g : Guard) (l : BitVec 12) (a : Src)
  /-- MTCR (R133). -/
  | mtcr (g : Guard) (a : Src) (r : CReg)
  /-- MFCR (R134). -/
  | mfcr (g : Guard) (d : Dst) (r : CReg)
  /-- TRAP (R137). -/
  | trap (g : Guard) (k : BitVec 4)
  /-- TRET (R196). -/
  | tret (g : Guard)
  /-- IFENCE (R139). -/
  | ifence (g : Guard)
  /-- DCHK (R140). -/
  | dchk (g : Guard) (a : Src) (b : Src)
  /-- XMOV (R141). -/
  | xmov (g : Guard) (d : BitVec 5) (a : Src) (k : BitVec 4) (e : RFile) (s : RFile)
  /-- VADD (R149). -/
  | vadd (g : Guard) (d : Dst) (a : Src) (b : Src) (w : LaneW) (s : SatMode)
  /-- VSUB (R149). -/
  | vsub (g : Guard) (d : Dst) (a : Src) (b : Src) (w : LaneW) (s : SatMode)
  /-- VMUL (R149). -/
  | vmul (g : Guard) (d : Dst) (a : Src) (b : Src) (w : LaneW)
  /-- VMULH (R149). -/
  | vmulh (g : Guard) (d : Dst) (a : Src) (b : Src) (w : LaneW)
  /-- VMULH_U (R149). -/
  | vmulhU (g : Guard) (d : Dst) (a : Src) (b : Src) (w : LaneW)
  /-- VAND (R149). -/
  | vand (g : Guard) (d : Dst) (a : Src) (b : Src)
  /-- VOR (R149). -/
  | vor (g : Guard) (d : Dst) (a : Src) (b : Src)
  /-- VXOR (R149). -/
  | vxor (g : Guard) (d : Dst) (a : Src) (b : Src)
  /-- VSHL (R149). -/
  | vshl (g : Guard) (d : Dst) (a : Src) (b : Src) (w : LaneW)
  /-- VSHR (R149). -/
  | vshr (g : Guard) (d : Dst) (a : Src) (b : Src) (w : LaneW)
  /-- VSAR (R149). -/
  | vsar (g : Guard) (d : Dst) (a : Src) (b : Src) (w : LaneW)
  /-- VSHL_IMM (R149). -/
  | vshlImm (g : Guard) (d : Dst) (a : Src) (w : LaneW) (c : BitVec 6)
  /-- VSHR_IMM (R149). -/
  | vshrImm (g : Guard) (d : Dst) (a : Src) (w : LaneW) (c : BitVec 6)
  /-- VSAR_IMM (R149). -/
  | vsarImm (g : Guard) (d : Dst) (a : Src) (w : LaneW) (c : BitVec 6)
  /-- VMIN (R149). -/
  | vmin (g : Guard) (d : Dst) (a : Src) (b : Src) (w : LaneW)
  /-- VMAX (R149). -/
  | vmax (g : Guard) (d : Dst) (a : Src) (b : Src) (w : LaneW)
  /-- VMIN_U (R149). -/
  | vminU (g : Guard) (d : Dst) (a : Src) (b : Src) (w : LaneW)
  /-- VMAX_U (R149). -/
  | vmaxU (g : Guard) (d : Dst) (a : Src) (b : Src) (w : LaneW)
  /-- VABS (R149). -/
  | vabs (g : Guard) (d : Dst) (a : Src) (w : LaneW)
  /-- VNEG (R149). -/
  | vneg (g : Guard) (d : Dst) (a : Src) (w : LaneW)
  /-- VCMP (R150). -/
  | vcmp (g : Guard) (c : ICond) (q : BitVec 3) (a : Src) (b : Src) (w : LaneW)
  /-- VSEL (R151). -/
  | vsel (g : Guard) (d : Dst) (a : Src) (b : Src) (k : BitVec 3)
  /-- VSPLAT_IMM (R152). -/
  | vsplatImm (g : Guard) (d : Dst) (w : LaneW) (i : BitVec 10)
  /-- VSPLAT_LANE (R152). -/
  | vsplatLane (g : Guard) (d : Dst) (a : Src) (l : BitVec 8) (w : LaneW)
  /-- VPERM (R153). -/
  | vperm (g : Guard) (d : Dst) (a : Src) (b : Src) (w : LaneW)
  /-- VROT (R153). -/
  | vrot (g : Guard) (d : Dst) (a : Src) (w : LaneW) (c : BitVec 8)
  /-- VSLIDE (R153). -/
  | vslide (g : Guard) (d : Dst) (a : Src) (w : LaneW) (x : Bool) (c : BitVec 7)
  /-- VCOMPRESS (R154). -/
  | vcompress (g : Guard) (d : Dst) (a : Src) (w : LaneW)
  /-- VEXPAND (R154). -/
  | vexpand (g : Guard) (d : Dst) (a : Src) (w : LaneW)
  /-- VREDSUM (R155). -/
  | vredsum (g : Guard) (d : Dst) (a : Src) (w : LaneW)
  /-- VREDMAX (R155). -/
  | vredmax (g : Guard) (d : Dst) (a : Src) (w : LaneW)
  /-- VREDMIN (R155). -/
  | vredmin (g : Guard) (d : Dst) (a : Src) (w : LaneW)
  /-- VREDSUM_F (R156). -/
  | vredsumF (g : Guard) (d : Dst) (a : Src) (t : FloatT)
  /-- VREDMAX_F (R156). -/
  | vredmaxF (g : Guard) (d : Dst) (a : Src) (t : FloatT)
  /-- VREDMIN_F (R156). -/
  | vredminF (g : Guard) (d : Dst) (a : Src) (t : FloatT)
  /-- VSCAN_F (R157). -/
  | vscanF (g : Guard) (d : Dst) (a : Src) (t : FloatT)
  /-- VSCAN_I (R157). -/
  | vscanI (g : Guard) (d : Dst) (a : Src) (w : LaneW)
  /-- VFADD (R158). -/
  | vfadd (g : Guard) (d : Dst) (a : Src) (b : Src) (t : FloatT)
  /-- VFSUB (R158). -/
  | vfsub (g : Guard) (d : Dst) (a : Src) (b : Src) (t : FloatT)
  /-- VFMUL (R158). -/
  | vfmul (g : Guard) (d : Dst) (a : Src) (b : Src) (t : FloatT)
  /-- VFMA (R159). -/
  | vfma (g : Guard) (d : BitVec 5) (a : Src) (b : Src) (t : FloatT)
  /-- VFMS (R159). -/
  | vfms (g : Guard) (d : BitVec 5) (a : Src) (b : Src) (t : FloatT)
  /-- VFNMA (R159). -/
  | vfnma (g : Guard) (d : BitVec 5) (a : Src) (b : Src) (t : FloatT)
  /-- VFMAX (R160). -/
  | vfmax (g : Guard) (d : Dst) (a : Src) (b : Src) (t : FloatT)
  /-- VFMIN (R160). -/
  | vfmin (g : Guard) (d : Dst) (a : Src) (b : Src) (t : FloatT)
  /-- VFSCALE (R161). -/
  | vfscale (g : Guard) (d : Dst) (a : Src) (b : Src) (t : FloatT)
  /-- VFABS (R162). -/
  | vfabs (g : Guard) (d : Dst) (a : Src) (t : FloatT)
  /-- VFNEG (R162). -/
  | vfneg (g : Guard) (d : Dst) (a : Src) (t : FloatT)
  /-- VFCLASS (R162). -/
  | vfclass (g : Guard) (d : Dst) (a : Src) (t : FloatT)
  /-- VFCMP (R163). -/
  | vfcmp (g : Guard) (c : FCond) (q : BitVec 3) (a : Src) (b : Src) (t : FloatT)
  /-- VFRCP (R164). -/
  | vfrcp (g : Guard) (d : Dst) (a : Src) (t : FloatT)
  /-- VFRSQ (R164). -/
  | vfrsq (g : Guard) (d : Dst) (a : Src) (t : FloatT)
  /-- VFEXP2 (R164). -/
  | vfexp2 (g : Guard) (d : Dst) (a : Src) (t : FloatT)
  /-- VFLOG2 (R164). -/
  | vflog2 (g : Guard) (d : Dst) (a : Src) (t : FloatT)
  /-- VROPE (R167). -/
  | vrope (g : Guard) (d : Dst) (a : Src) (b : Src)
  /-- VCVT (R168). -/
  | vcvt (g : Guard) (d : Dst) (a : Src) (o : BitVec 5) (m : BitVec 5)
  /-- VQBLK (R171). -/
  | vqblk (g : Guard) (d : Dst) (a : Src) (o : BitVec 5) (m : BitVec 5)
  /-- VDQBLK (R172). -/
  | vdqblk (g : Guard) (d : Dst) (a : Src) (o : BitVec 5) (m : BitVec 5)
  /-- VCBX (R174). -/
  | vcbx (g : Guard) (d : Dst) (a : Src) (w : LaneW) (k : BitVec 2)
  /-- VCBQ (R175). -/
  | vcbq (g : Guard) (d : Dst) (a : Src) (t : FloatT) (k : BitVec 2)
  /-- VPACK (R177). -/
  | vpack (g : Guard) (d : Dst) (a : Src) (c : BitVec 4)
  /-- VUNPACK (R177). -/
  | vunpack (g : Guard) (d : Dst) (a : Src) (c : BitVec 4)
  /-- VRAND (R178). -/
  | vrand (g : Guard) (d : Dst)
  /-- KAND (R179). -/
  | kand (g : Guard) (d : BitVec 3) (a : BitVec 3) (b : BitVec 3)
  /-- KOR (R179). -/
  | kor (g : Guard) (d : BitVec 3) (a : BitVec 3) (b : BitVec 3)
  /-- KNOT (R179). -/
  | knot (g : Guard) (d : BitVec 3) (a : BitVec 3)
  /-- KMOV (R179). -/
  | kmov (g : Guard) (d : BitVec 3) (a : BitVec 3)
  /-- VDCHK (R180). -/
  | vdchk (g : Guard) (a : Src) (b : Src)
  /-- LD_B (R257). -/
  | ldB (g : Guard) (l : BitVec 10) (x : RFile) (d : BitVec 5) (b : BitVec 5)
  /-- LD_H (R257). -/
  | ldH (g : Guard) (l : BitVec 10) (x : RFile) (d : BitVec 5) (b : BitVec 5)
  /-- LD_W (R257). -/
  | ldW (g : Guard) (l : BitVec 10) (x : RFile) (d : BitVec 5) (b : BitVec 5)
  /-- LD_D (R257). -/
  | ldD (g : Guard) (l : BitVec 10) (x : RFile) (d : BitVec 5) (b : BitVec 5)
  /-- LD_BU (R257). -/
  | ldBu (g : Guard) (l : BitVec 10) (x : RFile) (d : BitVec 5) (b : BitVec 5)
  /-- LD_HU (R257). -/
  | ldHu (g : Guard) (l : BitVec 10) (x : RFile) (d : BitVec 5) (b : BitVec 5)
  /-- LD_WU (R257). -/
  | ldWu (g : Guard) (l : BitVec 10) (x : RFile) (d : BitVec 5) (b : BitVec 5)
  /-- LDV (R257). -/
  | ldv (g : Guard) (l : BitVec 10) (d : BitVec 5) (b : BitVec 5)
  /-- LDVS (R257). -/
  | ldvs (g : Guard) (l : BitVec 10) (d : BitVec 5) (b : BitVec 5)
  /-- LDVG (R257). -/
  | ldvg (g : Guard) (l : BitVec 10) (d : BitVec 5) (b : BitVec 5)
  /-- ATOM_W (R260). -/
  | atomW (g : Guard) (l : BitVec 10) (x : RFile) (d : BitVec 5) (b : BitVec 5)
  /-- ATOM_D (R260). -/
  | atomD (g : Guard) (l : BitVec 10) (x : RFile) (d : BitVec 5) (b : BitVec 5)
  /-- ATOM_CAS_W (R260). -/
  | atomCasW (g : Guard) (l : BitVec 10) (x : RFile) (d : BitVec 5) (b : BitVec 5)
  /-- ATOM_CAS_D (R260). -/
  | atomCasD (g : Guard) (l : BitVec 10) (x : RFile) (d : BitVec 5) (b : BitVec 5)
  /-- RED_W (R260). -/
  | redW (g : Guard) (b : BitVec 5)
  /-- RED_D (R260). -/
  | redD (g : Guard) (b : BitVec 5)
  /-- ST_B (R258). -/
  | stB (g : Guard) (d : BitVec 5) (b : BitVec 5)
  /-- ST_H (R258). -/
  | stH (g : Guard) (d : BitVec 5) (b : BitVec 5)
  /-- ST_W (R258). -/
  | stW (g : Guard) (d : BitVec 5) (b : BitVec 5)
  /-- ST_D (R258). -/
  | stD (g : Guard) (d : BitVec 5) (b : BitVec 5)
  /-- STV (R258). -/
  | stv (g : Guard) (d : BitVec 5) (b : BitVec 5)
  /-- STVS (R258). -/
  | stvs (g : Guard) (d : BitVec 5) (b : BitVec 5)
  /-- STVX (R258). -/
  | stvx (g : Guard) (d : BitVec 5) (b : BitVec 5)
  /-- LDSP (R259). -/
  | ldsp (g : Guard) (d : Dst) (i : BitVec 10)
  /-- STSP (R259). -/
  | stsp (g : Guard) (a : Src) (i : BitVec 10)
  /-- MARK (R247). -/
  | mark (g : Guard)
  /-- FENCE (R248). -/
  | fence (g : Guard) (s : Scope)
  /-- SHDR (R261). -/
  | shdr (g : Guard) (l : BitVec 10) (x : RFile) (d : BitVec 5) (b : BitVec 5)
  /-- SRD (R261). -/
  | srd (g : Guard) (l : BitVec 10) (x : RFile) (d : BitVec 5) (b : BitVec 5)
  /-- SWAIT (R263). -/
  | swait (g : Guard) (s : BitVec 5)
  /-- SDONE (R263). -/
  | sdone (g : Guard) (s : BitVec 5)
  /-- SOPEN (R264). -/
  | sopen (g : Guard) (s : BitVec 5)
  /-- SWR (R266). -/
  | swr (g : Guard) (s : BitVec 5) (a : Src) (b : Src)
  /-- SCLOSE (R267). -/
  | sclose (g : Guard) (s : BitVec 5) (a : Src)
  /-- SFREE (R267). -/
  | sfree (g : Guard) (s : BitVec 5)
  /-- SBIND (R268). -/
  | sbind (g : Guard) (s : BitVec 5) (a : Src)
  /-- STAG (R265). -/
  | stag (g : Guard) (s : BitVec 5) (a : Src) (b : Src)
  /-- FVIEW (R315). -/
  | fview (g : Guard) (l : BitVec 10) (x : RFile) (d : BitVec 5) (b : BitVec 5)
  /-- FSEQ (R316). -/
  | fseq (g : Guard) (l : BitVec 10) (x : RFile) (d : BitVec 5) (b : BitVec 5)
  /-- FPROBE (R317). -/
  | fprobe (g : Guard) (l : BitVec 10) (x : RFile) (d : BitVec 5) (b : BitVec 5)
  /-- FLDK (R307). -/
  | fldk (g : Guard) (t : BitVec 4) (a : Src) (b : Src)
  /-- FAPP (R307). -/
  | fapp (g : Guard) (t : BitVec 4) (a : Src) (b : Src)
  /-- FFORK (R311). -/
  | ffork (g : Guard) (a : Src) (b : Src)
  /-- FTRUNC (R312). -/
  | ftrunc (g : Guard) (a : Src) (b : Src)
  /-- FFREE (R313). -/
  | ffree (g : Guard) (a : Src) (b : Src)
  /-- FHINT (R314). -/
  | fhint (g : Guard) (a : Src) (b : Src)
  /-- EWR (R276). -/
  | ewr (g : Guard) (a : Src) (r : EReg)
  /-- ERD (R276). -/
  | erd (g : Guard) (d : Dst) (r : EReg)
  /-- ESTAT (R276). -/
  | estat (g : Guard) (d : Dst)
  /-- EGO (R274). -/
  | ego (g : Guard)
  /-- EABORT (R274). -/
  | eabort (g : Guard)
  /-- MLOADW (R274). -/
  | mloadw (g : Guard)
  /-- MMAC (R274). -/
  | mmac (g : Guard)
  /-- MDRAIN (R274). -/
  | mdrain (g : Guard)
  /-- CPY (R277). -/
  | cpy (g : Guard) (q : BitVec 2)
  /-- CPYQ (R280). -/
  | cpyq (g : Guard) (d : Dst)
  /-- BINIT (R282). -/
  | binit (g : Guard) (a : Src) (k : BitVec 5)
  /-- BARR (R282). -/
  | barr (g : Guard) (a : Src) (k : BitVec 5)
  /-- BADD (R282). -/
  | badd (g : Guard) (a : Src) (k : BitVec 5)
  /-- BWAIT (R282). -/
  | bwait (g : Guard) (k : BitVec 5)
  /-- GBAR (R232). -/
  | gbar (g : Guard) (h : BitVec 3) (w : BitVec 3)
  /-- TFORK (R284). -/
  | tfork (g : Guard) (d : Dst) (q : BitVec 3) (b : Src)
  /-- TJOIN (R285). -/
  | tjoin (g : Guard)
  /-- TCANCEL (R286). -/
  | tcancel (g : Guard) (a : Src)
  /-- TEXIT (R285). -/
  | texit (g : Guard)
  /-- TYIELD (R285). -/
  | tyield (g : Guard)
  /-- LKTRY (R340). -/
  | lktry (g : Guard) (l : BitVec 10) (m : LockMode) (d : BitVec 4) (s : Src)
  /-- LKQRY (R341). -/
  | lkqry (g : Guard) (l : BitVec 10) (d : BitVec 4) (s : Src)
  /-- LKACQ (R339). -/
  | lkacq (g : Guard) (d : Dst) (a : Src) (m : LockMode)
  /-- LKUPG (R339). -/
  | lkupg (g : Guard) (d : Dst) (a : Src) (m : LockMode)
  /-- LKREL (R342). -/
  | lkrel (g : Guard) (a : Src)
  /-- LKRELA (R342). -/
  | lkrela (g : Guard)
  /-- LKMAT (R343). -/
  | lkmat (g : Guard) (a : Src)
  /-- CBWR (R287). -/
  | cbwr (g : Guard) (k : BitVec 2) (a : Src) (b : Src)
  /-- CBWR_NW (R287). -/
  | cbwrNw (g : Guard) (k : BitVec 2) (a : Src) (b : Src)
  /-- CBLD (R287). -/
  | cbld (g : Guard) (k : BitVec 2) (a : Src) (b : Src)
  /-- CBINV (R287). -/
  | cbinv (g : Guard) (k : BitVec 2) (a : Src)
  /-- BUNDLE_ISSUE (R45): The core issues the chosen task's next bundle in a core cycle. -/
  | bundleIssue (t : TileRef)
  /-- RESULT_COMPLETION (R20): An operation's result is written and its latch entry pushed at t+L. -/
  | resultCompletion (t : TileRef)
  /-- LANDING_ARRIVAL (R32): A timed value reaches the landing buffer. -/
  | landingArrival (c : CtxRef) (k : Nat)
  /-- LANDING_WRITE (R30): A landed value is written at its named cycle. -/
  | landingWrite (c : CtxRef)
  /-- LANDING_TIMEOUT (R35): A freeze of 16,384 wall cycles raises LANDING_TIMEOUT. -/
  | landingTimeout (t : TileRef)
  /-- BLOCK_SWITCH (R47): A wait ends the block, empties latches and switches tasks in 2 cycles. -/
  | blockSwitch (t : TileRef)
  /-- WAIT_READY (R221): A waiting task's condition holds and it becomes Ready. -/
  | waitReady (c : CtxRef)
  /-- INTERRUPT_PENDING (R187): An interrupt line becomes pending on a tile. -/
  | interruptPending (t : TileRef) (l : BitVec 4)
  /-- TRAP_ENTRY (R188): A trap is taken at a boundary and the schedule captured into the frame. -/
  | trapEntry (t : TileRef)
  /-- HANDLER_ENTRY (R190): The handler's entry bundle issues after capture. -/
  | handlerEntry (t : TileRef)
  /-- LATE_FAULT (R186): A class 3 fault response arrives and is taken or deferred. -/
  | lateFault (c : CtxRef) (k : Nat)
  /-- LOST_LANDING (R189): A waited-for trap landing fails to arrive within 16,384 cycles. -/
  | lostLanding (c : CtxRef) (k : Nat)
  /-- RETURN_BUNDLE_ISSUE (R196): The return bundle issues at T' after the restore. -/
  | returnBundleIssue (t : TileRef)
  /-- PACKET_FIRST_FLIT (R207): A packet's first flit takes a receive buffer and its header is checked. -/
  | packetFirstFlit (t : TileRef) (k : Nat)
  /-- PACKET_RECEIVED (R211): A packet's last flit is decoded and it is stamped. -/
  | packetReceived (t : TileRef) (st : BitVec 5) (k : Nat)
  /-- NEXT_WRITE (R220): A supervisor store to NEXT rejudges Held packets. -/
  | nextWrite (t : TileRef) (st : BitVec 5) (v : BitVec 32)
  /-- CREDIT_ARRIVAL (R208): A returned credit reaches a sender and raises its FREE. -/
  | creditArrival (t : TileRef) (st : BitVec 5) (k : Nat)
  /-- PACKET_LAUNCH (R267): A closed packet starts on the link after earlier accesses are performed. -/
  | packetLaunch (c : CtxRef)
  /-- TASK_ADMISSION (R366): The shepherd admits one candidate into a Free slot. -/
  | taskAdmission (t : TileRef)
  /-- STEAL_ROUND (R227): An idle tile probes other tiles' deque tails. -/
  | stealRound (t : TileRef)
  /-- JOIN_MESSAGE (R229): A child's join message decrements the parent's JCNT. -/
  | joinMessage (c : CtxRef) (k : Nat)
  /-- QUEUE_ISSUE (R244): A load or store queue issues its head entry toward its home. -/
  | queueIssue (c : CtxRef) (q : QueueSel)
  /-- BANK_ACCEPT (R241): An access is performed at its home bank. -/
  | bankAccept (k : Nat)
  /-- BARR_APPLY (R282): BARR reaches the store queue head and decrements the barrier. -/
  | barrApply (c : CtxRef)
  /-- CPY_DISPATCH (R251): A copy reaches the queue head and is dispatched to the engine. -/
  | cpyDispatch (c : CtxRef)
  /-- COPY_ROW (R278): The copy engine moves one row. -/
  | copyRow (t : TileRef) (k : Nat)
  /-- SHADOW_SWAP_IN (R275): A Ready shadow set swaps in and is checked. -/
  | shadowSwapIn (t : TileRef)
  /-- ENGINE_COMPLETE (R272): An engine operation completes, flags and DONE updated. -/
  | engineComplete (t : TileRef)
  /-- FOLD_DISPATCH (R305): A fold transfer reaches the queue head and enters the fold unit. -/
  | foldDispatch (c : CtxRef)
  /-- FOLD_ROW (R307): One FLDK or FAPP row is performed. -/
  | foldRow (t : TileRef) (k : Nat)
  /-- FOLD_WALK (R299): The walker resolves a TLB miss to a page. -/
  | foldWalk (t : TileRef) (v : BitVec 5) (k : Nat)
  /-- FOLD_TRANSFER_COMPLETE (R305): A fold transfer completes and counts on its barrier. -/
  | foldTransferComplete (t : TileRef) (k : Nat)
  /-- FOLD_RECORD_OP (R319): The walker applies an FFORK, FTRUNC or FFREE at one instant. -/
  | foldRecordOp (t : TileRef) (k : Nat)
  /-- PAGE_PROMOTION (R297): A compressed page is promoted and the read served. -/
  | pagePromotion (n : Nat) (k : Nat)
  /-- PAGE_MOVE_COMPLETE (R297): A move between nodes finishes and the page takes its new state. -/
  | pageMoveComplete (n : Nat) (k : Nat)
  /-- WOUND_DELIVERY (R331): A wound reaches a task and its claims are ended. -/
  | woundDelivery (c : CtxRef) (w : Word)
  /-- WOUND_RELEASE_TIMEOUT (R331): Locks of a wounded task are released by 4 us. -/
  | woundReleaseTimeout (c : CtxRef)
  /-- CROOK_UE (R335): An uncorrectable lock entry error wounds holders and clears the object. -/
  | crookUe (n : Nat) (w : Word)
  /-- PASTURE_TICK (R330): The pasture tick advances every 16 cy. -/
  | pastureTick (n : Nat)
  /-- PSCTL_SAVE (R378): A save command requests the halt of named contexts. -/
  | psctlSave (t : TileRef) (w : Word)
  /-- PSCTL_RESUME_IN_PLACE (R391): Resumes saved contexts in place. -/
  | psctlResumeInPlace (t : TileRef) (w : Word)
  /-- PSCTL_RESUME_FROM_TILE (R392): Moves a saved context from another tile and resumes it. -/
  | psctlResumeFromTile (t : TileRef) (w : Word)
  /-- PREEMPT_HALT (R378): A save request reaches the tile and halts the named contexts. -/
  | preemptHalt (t : TileRef)
  /-- SAVE_COMPLETE (R396): The save records are written and DONE is set. -/
  | saveComplete (t : TileRef)
  /-- TREE_CANCEL (R376): A tree's tasks, locks and tied pages are released within bounds. -/
  | treeCancel (n : Nat) (k : BitVec 32)
  /-- DROVE_LOAD (R363): The loader verifies and writes a drove image. -/
  | droveLoad (n : Nat) (im : DroveImage)
  /-- DROVE_REMOVAL (R364): Removal clears VALID and holds new packets. -/
  | droveRemoval (n : Nat) (k : Nat)
  /-- DROVE_WITHDRAWAL (R364): Windows, descriptors and code are withdrawn once nothing remains. -/
  | droveWithdrawal (n : Nat) (k : Nat)
  /-- DGCMD_LOAD (R371): Starts loading a standby generation. -/
  | dgcmdLoad (n : Nat) (k : Nat) (g : BitVec 4)
  /-- DGCMD_SWITCH (R371): Swaps ACT and STB at the switch point. -/
  | dgcmdSwitch (n : Nat) (k : Nat)
  /-- DGCMD_ABORT (R371): Clears the standby generation. -/
  | dgcmdAbort (n : Nat) (k : Nat)
  /-- DGCMD_INVALID (R370): An unknown or ill-timed command sets CMDERR. -/
  | dgcmdInvalid (n : Nat) (k : Nat) (w : Word)
  /-- GENERATION_VERIFIED (R371): The standby generation is verified and its record published. -/
  | generationVerified (n : Nat) (k : Nat)
  /-- GENERATION_DRAINED (R371): OLD reaches 0 and the state returns to One. -/
  | generationDrained (n : Nat) (k : Nat)
  /-- TCMD_CANCEL (R409): A host write to TCMD cancels a tree. -/
  | tcmdCancel (n : Nat) (k : BitVec 32)
  /-- SWINT (R409): A write raises interrupt line 2 on a tile. -/
  | swint (n : Nat) (w : Word)
  /-- MBIN7_WRITE (R409): A host mailbox write raises line 1. -/
  | mbin7Write (n : Nat) (w : Word)
  /-- MAILBOX_ACCESS (R410): A node supervisor starts a management access by MBREQ.GO. -/
  | mailboxAccess (t : TileRef) (w : Word)
  /-- MAILBOX_COMPLETE (R410): The management controller performs the access and sets DONE. -/
  | mailboxComplete (t : TileRef)
  /-- QTAIL_WRITE (R411): The host advances a queue's tail index. -/
  | qtailWrite (n : Nat) (k : Nat) (w : Word)
  /-- QCFG_WRITE (R411): The host enables or configures a queue, checked by R411. -/
  | qcfgWrite (n : Nat) (k : Nat) (w : Word)
  /-- INGRESS_RECORD (R413): The node takes an ingress record and sends its packet. -/
  | ingressRecord (n : Nat) (k : Nat)
  /-- EGRESS_PACKET (R414): A packet is written to an egress ring and MSI-X signalled. -/
  | egressPacket (n : Nat) (k : Nat)
  /-- CRESYNC (R430): Repairs a stream's sender credits after a port fault. -/
  | cresync (n : Nat) (w : Word)
  /-- LINK_FLIT_RECEIVE (R403): A flit is received, CRC-checked and acknowledged. -/
  | linkFlitReceive (n : Nat) (b : Nat) (fl : Flit)
  /-- CREDIT_FLIT (R401): A TYPE 2 flit returns stream credits. -/
  | creditFlit (n : Nat) (ws : List Word)
  /-- REMOTE_LOAD (R402): A home performs a remote load request. -/
  | remoteLoad (r : RemoteReq)
  /-- REMOTE_STORE (R402): A home performs a remote store request. -/
  | remoteStore (r : RemoteReq)
  /-- REMOTE_ATOM (R402): A home performs a remote atomic. -/
  | remoteAtom (r : RemoteReq)
  /-- REMOTE_ATOM_CAS (R402): A home performs a remote compare-and-swap. -/
  | remoteAtomCas (r : RemoteReq)
  /-- REMOTE_RED (R402): A home performs a remote reduction. -/
  | remoteRed (r : RemoteReq)
  /-- REMOTE_UNKNOWN_OPERATION (R402): A home answers an unknown operation with STATUS 0x05. -/
  | remoteUnknownOperation (r : RemoteReq)
  /-- REMOTE_RESPONSE (R402): A response arrives; a nonzero STATUS raises a class 3 trap. -/
  | remoteResponse (r : RemoteResp)
  /-- CROOK_ACQUIRE_MSG (R327): An LKACQ request arrives at the home crook. -/
  | crookAcquireMsg (m : CrookMsg)
  /-- CROOK_TRY_MSG (R340): An LKTRY request arrives and is granted or refused. -/
  | crookTryMsg (m : CrookMsg)
  /-- CROOK_UPGRADE_MSG (R329): An LKUPG request arrives and is judged. -/
  | crookUpgradeMsg (m : CrookMsg)
  /-- CROOK_RELEASE_MSG (R334): A release of one object arrives at its home. -/
  | crookReleaseMsg (m : CrookMsg)
  /-- CROOK_WITHDRAW_MSG (R376): A queued request is withdrawn at cancellation. -/
  | crookWithdrawMsg (m : CrookMsg)
  /-- CROOK_QUERY_MSG (R341): An LKQRY arrives and is answered with a snapshot. -/
  | crookQueryMsg (m : CrookMsg)
  /-- CROOK_STATUS_MSG (R338): A status message from the home reaches the requester. -/
  | crookStatusMsg (m : CrookMsg)
  /-- CROOK_WOUND_MSG (R331): A wound message reaches the wounded context's node. -/
  | crookWoundMsg (m : CrookMsg)
  /-- CROOK_QUERY_RESULT_MSG (R341): A query result lands at the requester. -/
  | crookQueryResultMsg (m : CrookMsg)
  /-- FOLD_RELEASE_MSG (R298): The receiver drops one reference of a remote page. -/
  | foldReleaseMsg (m : FoldMsg)
  /-- FOLD_FETCH_MSG (R402): A holder answers a fetch with page data. -/
  | foldFetchMsg (m : FoldMsg)
  /-- FOLD_OFFER_MSG (R402): A receiver allocates for an offered page and accepts or refuses. -/
  | foldOfferMsg (m : FoldMsg)
  /-- FOLD_ACCEPT_MSG (R402): The sender learns its offer is accepted and sends page data. -/
  | foldAcceptMsg (m : FoldMsg)
  /-- FOLD_REFUSE_MSG (R402): A refusal keeps the page's state and fails the hint. -/
  | foldRefuseMsg (m : FoldMsg)
  /-- FOLD_PAGE_DATA_MSG (R402): Page data is written into the receiving frame. -/
  | foldPageDataMsg (m : FoldMsg)
  /-- FOLD_MOVE_COMPLETE_MSG (R402): The sender's descriptor takes its final state. -/
  | foldMoveCompleteMsg (m : FoldMsg)
  /-- TICK_EXCHANGE_MSG (R330): A node adjusts to a neighbour's pasture tick. -/
  | tickExchangeMsg (n : Nat) (k : BitVec 56)
  /-- HOLD_MSG (R430): A sender is told to hold a stream. -/
  | holdMsg (n : Nat) (src : Nat) (w : Word)
  /-- HOLD_ANSWER_MSG (R430): A sender reports it has drained. -/
  | holdAnswerMsg (n : Nat) (src : Nat) (w v : Word)
  /-- HOLD_END_MSG (R430): A sender's FREE is reset and its hold ends. -/
  | holdEndMsg (n : Nat) (src : Nat) (w v : Word)
  /-- MUSTER_SEGMENT_MSG (R363): Image segment data arrives by muster. -/
  | musterSegmentMsg (n : Nat) (k : Nat) (bs : List Byte)
  /-- MEMBERSHIP_UPDATE_MSG (R407): A word of PMEMB is updated. -/
  | membershipUpdateMsg (n : Nat) (k : BitVec 6) (w : Word)
  /-- MOVE_POINT_MSG (R431): Output descriptors naming the old node are rewritten to the spare. -/
  | movePointMsg (n : Nat) (w : Word)
  /-- CORRECTED_ERROR (R425): A corrected error is counted against its unit. -/
  | correctedError (n : Nat) (u : RasUnit) (k : Nat)
  /-- UNCORRECTED_ERROR (R423): An uncorrectable SRAM error poisons its unit. -/
  | uncorrectedError (n : Nat) (u : RasUnit) (k : Nat)
  /-- SUSPECT_REVERSION (R425): A suspect unit not crossing again within RETD days becomes good. -/
  | suspectReversion (n : Nat) (u : RasUnit)
  /-- COUNTER_HOUR_BUCKET (R425): The corrected-error window drops its oldest hourly bucket. -/
  | counterHourBucket (n : Nat)
  /-- BACKGROUND_SCRUB (R425): Every SRAM unit and record is rewritten once a day. -/
  | backgroundScrub (n : Nat)
  /-- BANK_RETIREMENT (R427): A bank is copied to a fallow bank while serving. -/
  | bankRetirement (t : TileRef) (k : Nat)
  /-- TILE_CORE_RETIREMENT (R428): A core is replaced by the row's fallow tile through a save. -/
  | tileCoreRetirement (t : TileRef)
  /-- LANE_RETIREMENT (R425): A lane is swapped for its group's spare at the next replay. -/
  | laneRetirement (n : Nat) (k : Nat)
  /-- BUNDLE_DOWN (R429): A second lane failure takes a bundle out of service. -/
  | bundleDown (n : Nat) (k : Nat)
  /-- RASCFG_LOCK (R426): Writing LCK locks RAS, key table and PWRCAP fields. -/
  | rascfgLock (n : Nat) (w : Word)
  /-- LANE_SILENCE (R431): 1 ms of silence on every bundle marks a node failed. -/
  | laneSilence (n : Nat)
  /-- TRANSHUMANCE (R431): The drove leaves a retiring or failed node for a spare. -/
  | transhumance (n : Nat) (k : Nat)
  /-- BOOT (R434): The ROM verifies and starts the firmware. -/
  | boot (n : Nat) (im : FirmwareImage)
  /-- RECOVERY_IMAGE (R434): A new firmware image is accepted in recovery. -/
  | recoveryImage (n : Nat) (im : FirmwareImage)
  /-- ATTESTATION_REQUEST (R434): A nonce write requests an attestation report. -/
  | attestationRequest (n : Nat) (bs : List Byte)
  /-- ATTESTATION_COMPLETE (R434): The signed report appears and the request bit clears. -/
  | attestationComplete (n : Nat)
  /-- THROTTLE_STEP (R435): The matrix throttle factor steps every 100 us. -/
  | throttleStep (n : Nat) (x : Bool)
  /-- PWRCAP_WRITE (R435): Writes the power cap, clamped to 600 to 1,200 W. -/
  | pwrcapWrite (n : Nat) (w : Word)
  /-- THERMAL_TRIP (R435): At 110 C the node stops issue and lanes. -/
  | thermalTrip (n : Nat)
  /-- POWER_LOSS (R431): Loss of power fails the node. -/
  | powerLoss (n : Nat)
  /-- RESET (R10): Every register field takes its reset value. -/
  | reset (n : Nat)
  /-- REGISTER_WRITE (R8): A write to a register without behaviour of its own, by its access code. -/
  | registerWrite (n : Nat) (k : BitVec 26) (w : Word)
  /-- NESTED_LANDING_LOST (R381): A handler landing not arrived within 16,384 wall cycles of a nested halt is written as zero and sets HLOST. -/
  | nestedLandingLost (c : CtxRef) (k : Nat)
  /-- FLIT_SLOT (R405): When a flit slot comes up on a bundle direction, it sends from the class queues in priority order, or an idle flit. -/
  | flitSlot (n : Nat) (b : Nat)
  /-- REQUEST_CREDIT_RETURN (R406): A relay or home returns a request credit for an incoming bundle, so a waiting request may be sent. -/
  | requestCreditReturn (n : Nat) (b : Nat)
  /-- LANE_RETRAINED (R425): A lane's retraining of up to 20 µs ends and its bundle stops replaying. -/
  | laneRetrained (n : Nat) (k : Nat)
  deriving DecidableEq, Repr, Inhabited

end Sys2Proof
end

