-- ==== Sys2Proof/WellFormed.lean ====
section
/-! DEFINITION. Well-formedness of instructions: exactly what R102 asks of a word within its own 32 bits and the operand
types do not already say (reserved guards, E registers above e15, reserved lane counts and formats), and the ranges of
the operands of the steps. -/

namespace Sys2Proof

/-- The guard N = 1, P = 0 is reserved (R89). -/
def Guard.wf (g : Guard) : Bool := !(g.inv && g.p == 0)

/-- E-file codes 16 to 31 are reserved (R93). -/
def Src.wfE : Src → Bool
  | .reg n => n.toNat < 16
  | .latch _ => true

/-- E-file codes 16 to 31 are reserved (R93). -/
def Dst.wfE : Dst → Bool
  | .reg n => n.toNat < 16
  | .drop => true

/-- The lane width in bits (R95). -/
def LaneW.bits : LaneW → Nat
  | .w8 => 8 | .w16 => 16 | .w32 => 32 | .w64 => 64

/-- The lane count of a width (R95). -/
def LaneW.lanes (w : LaneW) : Nat := 1024 / w.bits

/-- The DF values the scalar loads, atomics and fold queries accept, with an E register no higher than e15
(R96, Table 3.9). -/
def mlScalar (x : RFile) (d : BitVec 5) : Bool :=
  match x with
  | .a => true | .m => true | .v => false
  | .e => d.toNat < 16

/-- The DF values `SHDR` and `SRD` accept: every file (Table 3.9). -/
def mlAny (x : RFile) (d : BitVec 5) : Bool :=
  match x with
  | .e => d.toNat < 16
  | _ => true

/-- A format code that is a narrow format, or `f.lp`, which is resolved at issue (Table 2.1, R65). -/
def narrowOrLp (c : BitVec 5) : Bool := 15 ≤ c.toNat

/-- A float type a block quantisation may read or write: FP32, BF16 or FP16 (R171, R172). -/
def blockFloat (c : BitVec 5) : Bool := c == 0x0C || c == 0x0A || c == 0x0B

/-- An element type a block quantisation may write or read: INT8, INT4, a narrow format or `f.lp` (R171, R172). -/
def blockElem (c : BitVec 5) : Bool := c == 0x02 || c == 0x00 || narrowOrLp c

/-- `XMOV`'s operand limits (R141): a part index only where a V operand stands, a latch source only from the A file, no
E register above e15. -/
def xmovWf (d : BitVec 5) (a : Src) (k : BitVec 4) (e s : RFile) : Bool :=
  (decide (e = .v) || decide (s = .v) || k == 0) &&
  (match e with | .e => decide (d.toNat < 16) | _ => true) &&
  (match a with
   | .latch _ => decide (s = .a)
   | .reg n => match s with | .e => decide (n.toNat < 16) | _ => true)

/-- A tile reference inside the pasture (R3). -/
def TileRef.wf (t : TileRef) : Bool := decide (t.node < 4096) && decide (t.tile < 256)

/-- A context reference inside the pasture (R3, R17). -/
def CtxRef.wf (c : CtxRef) : Bool := decide (c.node < 4096) && decide (c.tile < 256) && decide (c.slot < 8)

/-- A segment inside a pasture, its place inside its tile's memory (Table 13.6). -/
def Segment.wf (g : Segment) : Bool :=
  decide (g.node < 4096) && decide (g.tile < 256) && decide (g.kind < 16)
    && (if g.kind = 0 ∨ g.kind = 7 then decide (g.dest < 4096) else decide (g.dest < 0xC00000))

/-- The state of a tile inside a pasture, its streams and their buffers inside the tile (Tables 1.1, 7.3, 7.4). -/
def TileInit.wf (i : TileInit) : Bool :=
  decide (i.node < 4096) && decide (i.tile < 256) && decide (i.origin < 256) && [1, 2, 4, 8].contains i.slots
    && i.instreams.all (fun x => decide (x.1 < 32) && decide (x.2.2.2 < 0x40000))
    && i.outstreams.all (fun x => decide (x.1 < 32) && decide (x.2.2 < 0x40000))

/-- The CAP of the k-th of n senders of a stream with NBUF buffers (R357). -/
def capOf (nbuf n k : Nat) : Nat := nbuf / n + (if k < nbuf % n then 1 else 0)

/-- Whether the senders of each input stream of a tile stand in ascending (node, tile) order, each with its CAP of R357, which its
output descriptor or its host queue holds. -/
def DroveImage.capsGood (im : DroveImage) (i : TileInit) : Bool :=
  i.instreams.all (fun x =>
    let ss := i.senders.filter (fun e => e.1 == x.1)
    let nbuf := (x.2.1.extractLsb' 35 7).toNat
    (ss.zip (ss.drop 1)).all (fun p => decide (p.1.2.1 < p.2.2.1 ∨ (p.1.2.1 = p.2.2.1 ∧ p.1.2.2.1 < p.2.2.2.1)))
      && ss.zipIdx.all (fun e =>
        let c := capOf nbuf ss.length e.2
        let me := e.1
        me.2.2.2.2 == c
          && im.tiles.all (fun j => j.node != me.2.1 || j.tile != me.2.2.1
            || j.outstreams.all (fun o => o.1 != me.2.2.2.1 || (o.2.1.extractLsb' 21 7).toNat == c))
          && im.queues.all (fun q => q.out || q.node != i.node || q.tile != i.tile || q.stream != x.1 || q.cap == c)))

/-- Whether two entries of window tables name the same bytes (Table 8.3). -/
def sameWindow (v w : Word × Word × Word) : Bool :=
  v.1.extractLsb' 26 26 == w.1.extractLsb' 26 26 && v.2.1 == w.2.1 && v.2.2 == w.2.2

/-- Whether a stream edge joins one stage to another: an output stream of the one names the input stream of the other (R357). -/
def DroveImage.feeds (im : DroveImage) (a b : Nat) : Bool :=
  im.tiles.any (fun i => i.stage == a && i.outstreams.any (fun x =>
    im.tiles.any (fun j => j.stage == b && j.node == (x.2.1.extractLsb' 52 12).toNat && j.tile == (x.2.1.extractLsb' 44 8).toNat
      && j.instreams.any (fun y => y.2.1.extractLsb' 6 16 == x.2.1.extractLsb' 28 16))))

/-- Whether a window carries the node and the rectangle of a tile's stage, as the stage's own do (R357, Table 8.3). -/
def TileInit.declares (i : TileInit) (w : Word × Word × Word) : Bool :=
  (w.1.extractLsb' 40 12).toNat == i.node && (w.1.extractLsb' 36 4).toNat * 16 + (w.1.extractLsb' 32 4).toNat == i.origin
    && 2 ^ (w.1.extractLsb' 29 3).toNat == i.width && 2 ^ (w.1.extractLsb' 26 3).toNat == i.height

/-- The number of the stage whose window an entry is: the stages are numbered in the order of the drove source (log entry 3). -/
def DroveImage.stageOf (im : DroveImage) (w : Word × Word × Word) : Option Nat :=
  (im.tiles.find? (fun j => j.declares w)).map (fun j => j.stage)

/-- Whether a window table stands in the order of R357: the stage's own windows, then those of each stage related to it, with that
stage's node, rectangle and access, in the order of the drove source. -/
def DroveImage.windowsOrdered (im : DroveImage) (i : TileInit) : Bool :=
  let rest := i.windows.filter (fun w => !i.declares w)
  i.windows == i.windows.filter i.declares ++ rest
    && rest.all (fun w => (im.stageOf w).isSome)
    && (rest.zip (rest.drop 1)).all (fun p => decide ((im.stageOf p.1).getD 0 ≤ (im.stageOf p.2).getD 0))
    && im.tiles.all (fun j => j.stage == i.stage || (let theirs := rest.filter j.declares
        theirs == j.windows.filter j.declares || (theirs.isEmpty && !im.feeds i.stage j.stage && !im.feeds j.stage i.stage)))

/-- Whether the tiles of a stage hold one window table, built in the order of R357, and IDEM stands where every stage that declares the
window declares it `ro`. -/
def DroveImage.windowsGood (im : DroveImage) (i : TileInit) : Bool :=
  im.tiles.all (fun j => j.node != i.node || j.stage != i.stage || j.windows == i.windows)
    && im.windowsOrdered i
    && i.windows.all (fun w => w.1.getLsbD 63
      && w.1.getLsbD 61 == im.tiles.all (fun j => j.windows.all (fun v => !sameWindow v w || !v.1.getLsbD 62)))

/-- A drove image whose parts are (R290, R357, R362). -/
def DroveImage.wf (im : DroveImage) : Bool :=
  im.segments.all Segment.wf && im.tiles.all TileInit.wf && im.tiles.all im.capsGood && im.tiles.all im.windowsGood
    && im.queues.all (fun q => decide (q.node < 4096) && decide (q.tile < 256))
    && im.fold.all (fun f => decide (f.1 < 4096) && [64, 128, 256, 512, 1024].contains f.2.vecbytes
      && decide (1 ≤ f.2.layers) && decide (f.2.layers ≤ 256) && decide (1 ≤ f.2.heads) && decide (f.2.heads ≤ 256)
      && decide (f.2.x + f.2.w ≤ 16) && decide (f.2.y + f.2.h ≤ 16) && decide (0 < f.2.w) && decide (0 < f.2.h))

/-- Well-formed instructions. -/
def Instr.wf : Instr → Bool
  | .nop => true
  | .add g _ _ _ => g.wf
  | .sub g _ _ _ => g.wf
  | .and g _ _ _ => g.wf
  | .or g _ _ _ => g.wf
  | .xor g _ _ _ => g.wf
  | .andn g _ _ _ => g.wf
  | .shl g _ _ _ => g.wf
  | .shr g _ _ _ => g.wf
  | .sar g _ _ _ => g.wf
  | .rol g _ _ _ => g.wf
  | .min g _ _ _ => g.wf
  | .max g _ _ _ => g.wf
  | .minu g _ _ _ => g.wf
  | .maxu g _ _ _ => g.wf
  | .addx g _ _ _ => g.wf
  | .clz g _ _ => g.wf
  | .ctz g _ _ => g.wf
  | .popc g _ _ => g.wf
  | .brev g _ _ => g.wf
  | .bswap g _ _ => g.wf
  | .sext g _ _ _ => g.wf
  | .zext g _ _ _ => g.wf
  | .mov g _ _ => g.wf
  | .mul g _ _ _ => g.wf
  | .mulh g _ _ _ => g.wf
  | .mulhu g _ _ _ => g.wf
  | .div g _ _ _ => g.wf
  | .divu g _ _ _ => g.wf
  | .rem g _ _ _ => g.wf
  | .remu g _ _ _ => g.wf
  | .extr g _ _ _ => g.wf
  | .insr g _ _ _ => g.wf
  | .sel g _ _ _ _ _ => g.wf
  | .cmp g _ _ _ _ => g.wf
  | .pand g _ _ _ => g.wf
  | .por g _ _ _ => g.wf
  | .pnot g _ _ => g.wf
  | .addi g _ _ _ => g.wf
  | .subi g _ _ _ => g.wf
  | .andi g _ _ _ => g.wf
  | .ori g _ _ _ => g.wf
  | .xori g _ _ _ => g.wf
  | .shli g _ _ _ => g.wf
  | .shri g _ _ _ => g.wf
  | .sari g _ _ _ => g.wf
  | .cmpi g _ _ _ _ => g.wf
  | .movi g _ _ => g.wf
  | .movh1 g _ _ => g.wf
  | .movh2 g _ _ => g.wf
  | .movh3 g _ _ => g.wf
  | .br g _ => g.wf
  | .jmp g _ => g.wf
  | .call g _ _ => g.wf
  | .callr g _ _ => g.wf
  | .ret g _ => g.wf
  | .loopi g _ _ => g.wf
  | .loop g _ _ => g.wf
  | .mtcr g _ _ => g.wf
  | .mfcr g _ _ => g.wf
  | .trap g _ => g.wf
  | .tret g => g.wf
  | .ifence g => g.wf
  | .dchk g _ _ => g.wf
  | .xmov g d a k e s => g.wf && xmovWf d a k e s
  | .vadd g _ _ _ _ _ => g.wf
  | .vsub g _ _ _ _ _ => g.wf
  | .vmul g _ _ _ _ => g.wf
  | .vmulh g _ _ _ _ => g.wf
  | .vmulhU g _ _ _ _ => g.wf
  | .vand g _ _ _ => g.wf
  | .vor g _ _ _ => g.wf
  | .vxor g _ _ _ => g.wf
  | .vshl g _ _ _ _ => g.wf
  | .vshr g _ _ _ _ => g.wf
  | .vsar g _ _ _ _ => g.wf
  | .vshlImm g _ _ w c => g.wf && decide (c.toNat < w.bits)
  | .vshrImm g _ _ w c => g.wf && decide (c.toNat < w.bits)
  | .vsarImm g _ _ w c => g.wf && decide (c.toNat < w.bits)
  | .vmin g _ _ _ _ => g.wf
  | .vmax g _ _ _ _ => g.wf
  | .vminU g _ _ _ _ => g.wf
  | .vmaxU g _ _ _ _ => g.wf
  | .vabs g _ _ _ => g.wf
  | .vneg g _ _ _ => g.wf
  | .vcmp g _ _ _ _ _ => g.wf
  | .vsel g _ _ _ _ => g.wf
  | .vsplatImm g _ _ _ => g.wf
  | .vsplatLane g _ _ l w => g.wf && decide (l.toNat < w.lanes)
  | .vperm g _ _ _ _ => g.wf
  | .vrot g _ _ w c => g.wf && decide (c.toNat < w.lanes)
  | .vslide g _ _ w _ c => g.wf && decide (c.toNat < w.lanes)
  | .vcompress g _ _ _ => g.wf
  | .vexpand g _ _ _ => g.wf
  | .vredsum g _ _ _ => g.wf
  | .vredmax g _ _ _ => g.wf
  | .vredmin g _ _ _ => g.wf
  | .vredsumF g _ _ _ => g.wf
  | .vredmaxF g _ _ _ => g.wf
  | .vredminF g _ _ _ => g.wf
  | .vscanF g _ _ _ => g.wf
  | .vscanI g _ _ _ => g.wf
  | .vfadd g _ _ _ _ => g.wf
  | .vfsub g _ _ _ _ => g.wf
  | .vfmul g _ _ _ _ => g.wf
  | .vfma g _ _ _ _ => g.wf
  | .vfms g _ _ _ _ => g.wf
  | .vfnma g _ _ _ _ => g.wf
  | .vfmax g _ _ _ _ => g.wf
  | .vfmin g _ _ _ _ => g.wf
  | .vfscale g _ _ _ _ => g.wf
  | .vfabs g _ _ _ => g.wf
  | .vfneg g _ _ _ => g.wf
  | .vfclass g _ _ _ => g.wf
  | .vfcmp g _ _ _ _ _ => g.wf
  | .vfrcp g _ _ t => g.wf && decide (t ≠ .fp64)
  | .vfrsq g _ _ t => g.wf && decide (t ≠ .fp64)
  | .vfexp2 g _ _ t => g.wf && decide (t ≠ .fp64)
  | .vflog2 g _ _ t => g.wf && decide (t ≠ .fp64)
  | .vrope g _ _ _ => g.wf
  | .vcvt g _ _ _ _ => g.wf
  | .vqblk g _ _ o m => g.wf && blockElem o && blockFloat m
  | .vdqblk g _ _ o m => g.wf && blockFloat o && blockElem m
  | .vcbx g _ _ _ _ => g.wf
  | .vcbq g _ _ _ _ => g.wf
  | .vpack g _ _ c => g.wf && decide (1 ≤ c.toNat) && decide (c.toNat ≤ 8)
  | .vunpack g _ _ c => g.wf && decide (1 ≤ c.toNat) && decide (c.toNat ≤ 8)
  | .vrand g _ => g.wf
  | .kand g _ _ _ => g.wf
  | .kor g _ _ _ => g.wf
  | .knot g _ _ => g.wf
  | .kmov g _ _ => g.wf
  | .vdchk g _ _ => g.wf
  | .ldB g _ x d _ => g.wf && mlScalar x d
  | .ldH g _ x d _ => g.wf && mlScalar x d
  | .ldW g _ x d _ => g.wf && mlScalar x d
  | .ldD g _ x d _ => g.wf && mlScalar x d
  | .ldBu g _ x d _ => g.wf && mlScalar x d
  | .ldHu g _ x d _ => g.wf && mlScalar x d
  | .ldWu g _ x d _ => g.wf && mlScalar x d
  | .ldv g _ _ _ => g.wf
  | .ldvs g _ _ _ => g.wf
  | .ldvg g _ _ _ => g.wf
  | .atomW g _ x d _ => g.wf && mlScalar x d
  | .atomD g _ x d _ => g.wf && mlScalar x d
  | .atomCasW g _ x d _ => g.wf && mlScalar x d
  | .atomCasD g _ x d _ => g.wf && mlScalar x d
  | .redW g _ => g.wf
  | .redD g _ => g.wf
  | .stB g _ _ => g.wf
  | .stH g _ _ => g.wf
  | .stW g _ _ => g.wf
  | .stD g _ _ => g.wf
  | .stv g _ _ => g.wf
  | .stvs g _ _ => g.wf
  | .stvx g _ _ => g.wf
  | .ldsp g _ _ => g.wf
  | .stsp g _ _ => g.wf
  | .mark g => g.wf
  | .fence g _ => g.wf
  | .shdr g _ x d _ => g.wf && mlAny x d
  | .srd g _ x d _ => g.wf && mlAny x d
  | .swait g _ => g.wf
  | .sdone g _ => g.wf
  | .sopen g _ => g.wf
  | .swr g _ _ _ => g.wf
  | .sclose g _ _ => g.wf
  | .sfree g _ => g.wf
  | .sbind g _ _ => g.wf
  | .stag g _ _ _ => g.wf
  | .fview g _ x d _ => g.wf && mlScalar x d
  | .fseq g _ x d _ => g.wf && mlScalar x d
  | .fprobe g _ x d _ => g.wf && mlScalar x d
  | .fldk g _ _ _ => g.wf
  | .fapp g _ _ _ => g.wf
  | .ffork g _ _ => g.wf
  | .ftrunc g _ _ => g.wf
  | .ffree g _ _ => g.wf
  | .fhint g _ _ => g.wf
  | .ewr g a _ => g.wf && a.wfE
  | .erd g d _ => g.wf && d.wfE
  | .estat g d => g.wf && d.wfE
  | .ego g => g.wf
  | .eabort g => g.wf
  | .mloadw g => g.wf
  | .mmac g => g.wf
  | .mdrain g => g.wf
  | .cpy g _ => g.wf
  | .cpyq g d => g.wf && d.wfE
  | .binit g a _ => g.wf && a.wfE
  | .barr g a _ => g.wf && a.wfE
  | .badd g a _ => g.wf && a.wfE
  | .bwait g _ => g.wf
  | .gbar g h w => g.wf && decide (h.toNat ≤ 4) && decide (w.toNat ≤ 4)
  | .tfork g d _ b => g.wf && d.wfE && b.wfE
  | .tjoin g => g.wf
  | .tcancel g a => g.wf && a.wfE
  | .texit g => g.wf
  | .tyield g => g.wf
  | .lktry g _ _ _ s => g.wf && s.wfE
  | .lkqry g _ _ s => g.wf && s.wfE
  | .lkacq g d a _ => g.wf && d.wfE && a.wfE
  | .lkupg g d a _ => g.wf && d.wfE && a.wfE
  | .lkrel g a => g.wf && a.wfE
  | .lkrela g => g.wf
  | .lkmat g a => g.wf && a.wfE
  | .cbwr g _ a b => g.wf && a.wfE && b.wfE
  | .cbwrNw g _ a b => g.wf && a.wfE && b.wfE
  | .cbld g _ a b => g.wf && a.wfE && b.wfE
  | .cbinv g _ a => g.wf && a.wfE
  | .bundleIssue t => t.wf
  | .resultCompletion t => t.wf
  | .landingArrival c _ => c.wf
  | .landingWrite c => c.wf
  | .landingTimeout t => t.wf
  | .blockSwitch t => t.wf
  | .waitReady c => c.wf
  | .interruptPending t _ => t.wf
  | .trapEntry t => t.wf
  | .handlerEntry t => t.wf
  | .lateFault c _ => c.wf
  | .lostLanding c _ => c.wf
  | .returnBundleIssue t => t.wf
  | .packetFirstFlit t _ => t.wf
  | .packetReceived t _ _ => t.wf
  | .nextWrite t _ _ => t.wf
  | .creditArrival t _ _ => t.wf
  | .packetLaunch c => c.wf
  | .taskAdmission t => t.wf
  | .stealRound t => t.wf
  | .joinMessage c _ => c.wf
  | .queueIssue c _ => c.wf
  | .bankAccept _ => true
  | .barrApply c => c.wf
  | .cpyDispatch c => c.wf
  | .copyRow t _ => t.wf
  | .shadowSwapIn t => t.wf
  | .engineComplete t => t.wf
  | .foldDispatch c => c.wf
  | .foldRow t _ => t.wf
  | .foldWalk t _ _ => t.wf
  | .foldTransferComplete t _ => t.wf
  | .foldRecordOp t _ => t.wf
  | .pagePromotion n _ => decide (n < 4096)
  | .pageMoveComplete n _ => decide (n < 4096)
  | .woundDelivery c _ => c.wf
  | .woundReleaseTimeout c => c.wf
  | .crookUe n _ => decide (n < 4096)
  | .pastureTick n => decide (n < 4096)
  | .psctlSave t _ => t.wf
  | .psctlResumeInPlace t _ => t.wf
  | .psctlResumeFromTile t _ => t.wf
  | .preemptHalt t => t.wf
  | .saveComplete t => t.wf
  | .treeCancel n _ => decide (n < 4096)
  | .droveLoad n im => decide (n < 4096) && im.wf
  | .droveRemoval n _ => decide (n < 4096)
  | .droveWithdrawal n _ => decide (n < 4096)
  | .dgcmdLoad n _ _ => decide (n < 4096)
  | .dgcmdSwitch n _ => decide (n < 4096)
  | .dgcmdAbort n _ => decide (n < 4096)
  | .dgcmdInvalid n _ _ => decide (n < 4096)
  | .generationVerified n _ => decide (n < 4096)
  | .generationDrained n _ => decide (n < 4096)
  | .tcmdCancel n _ => decide (n < 4096)
  | .swint n _ => decide (n < 4096)
  | .mbin7Write n _ => decide (n < 4096)
  | .mailboxAccess t _ => t.wf
  | .mailboxComplete t => t.wf
  | .qtailWrite n k _ => decide (n < 4096) && decide (k < 16384)
  | .qcfgWrite n k _ => decide (n < 4096) && decide (k < 16384)
  | .ingressRecord n k => decide (n < 4096) && decide (k < 8192)
  | .egressPacket n k => decide (n < 4096) && decide (k < 8192)
  | .cresync n _ => decide (n < 4096)
  | .linkFlitReceive n b _ => decide (n < 4096) && decide (b < 126)
  | .creditFlit n _ => decide (n < 4096)
  | .remoteLoad r => decide (r.home < 4096) && decide (r.tile < 256)
  | .remoteStore r => decide (r.home < 4096) && decide (r.tile < 256)
  | .remoteAtom r => decide (r.home < 4096) && decide (r.tile < 256)
  | .remoteAtomCas r => decide (r.home < 4096) && decide (r.tile < 256)
  | .remoteRed r => decide (r.home < 4096) && decide (r.tile < 256)
  | .remoteUnknownOperation r => decide (r.home < 4096) && decide (r.tile < 256)
  | .remoteResponse r => decide (r.node < 4096) && decide (r.tile < 256)
  | .crookAcquireMsg m => decide (m.dest < 4096) && m.ctx.wf
  | .crookTryMsg m => decide (m.dest < 4096) && m.ctx.wf
  | .crookUpgradeMsg m => decide (m.dest < 4096) && m.ctx.wf
  | .crookReleaseMsg m => decide (m.dest < 4096) && m.ctx.wf
  | .crookWithdrawMsg m => decide (m.dest < 4096) && m.ctx.wf
  | .crookQueryMsg m => decide (m.dest < 4096) && m.ctx.wf
  | .crookStatusMsg m => decide (m.dest < 4096) && m.ctx.wf
  | .crookWoundMsg m => decide (m.dest < 4096) && m.ctx.wf
  | .crookQueryResultMsg m => decide (m.dest < 4096) && m.ctx.wf
  | .foldReleaseMsg m => decide (m.dest < 4096) && decide (m.src < 4096)
  | .foldFetchMsg m => decide (m.dest < 4096) && decide (m.src < 4096)
  | .foldOfferMsg m => decide (m.dest < 4096) && decide (m.src < 4096)
  | .foldAcceptMsg m => decide (m.dest < 4096) && decide (m.src < 4096)
  | .foldRefuseMsg m => decide (m.dest < 4096) && decide (m.src < 4096)
  | .foldPageDataMsg m => decide (m.dest < 4096) && decide (m.src < 4096)
  | .foldMoveCompleteMsg m => decide (m.dest < 4096) && decide (m.src < 4096)
  | .tickExchangeMsg n _ => decide (n < 4096)
  | .holdMsg n src _ => decide (n < 4096) && decide (src < 4096)
  | .holdAnswerMsg n src _ _ => decide (n < 4096) && decide (src < 4096)
  | .holdEndMsg n src _ _ => decide (n < 4096) && decide (src < 4096)
  | .musterSegmentMsg n _ _ => decide (n < 4096)
  | .membershipUpdateMsg n _ _ => decide (n < 4096)
  | .movePointMsg n _ => decide (n < 4096)
  | .correctedError n u _ => decide (n < 4096) && decide (u.tile < 256)
  | .uncorrectedError n u _ => decide (n < 4096) && decide (u.tile < 256)
  | .suspectReversion n u => decide (n < 4096) && decide (u.tile < 256)
  | .counterHourBucket n => decide (n < 4096)
  | .backgroundScrub n => decide (n < 4096)
  | .bankRetirement t k => t.wf && decide (k < 192)
  | .tileCoreRetirement t => t.wf
  | .laneRetirement n k => decide (n < 4096) && decide (k < 1024)
  | .bundleDown n k => decide (n < 4096) && decide (k < 126)
  | .rascfgLock n _ => decide (n < 4096)
  | .laneSilence n => decide (n < 4096)
  | .transhumance n k => decide (n < 4096) && decide (k < 4096)
  | .boot n _ => decide (n < 4096)
  | .recoveryImage n _ => decide (n < 4096)
  | .attestationRequest n _ => decide (n < 4096)
  | .attestationComplete n => decide (n < 4096)
  | .throttleStep n _ => decide (n < 4096)
  | .pwrcapWrite n _ => decide (n < 4096)
  | .thermalTrip n => decide (n < 4096)
  | .powerLoss n => decide (n < 4096)
  | .reset n => decide (n < 4096)
  | .registerWrite n _ _ => decide (n < 4096)
  | .nestedLandingLost c _ => c.wf
  | .flitSlot n b => decide (n < 4096) && decide (b < 126)
  | .requestCreditReturn n b => decide (n < 4096) && decide (b < 126)
  | .laneRetrained n k => decide (n < 4096) && decide (k < 1024)

end Sys2Proof
end

