-- ==== Sys2Proof/Decode.lean ====
section
/-! DEFINITION. Decoding and encoding of slot words (spec/03 Tables 3.1, 3.4 to 3.10). A word is first cut into the
fields every format class shares; `decodeFields` reads an instruction from them, `Instr.toFields` writes them. Nothing
reserved falls through to a neighbour: every refusal has a name. -/

namespace Sys2Proof

/-- Why a slot word is not an instruction (R97, R102). -/
inductive Reject where
  | reservedOpcode
  | reservedFn
  | nonzeroField
  | reservedOperand
  | illFormed
  | notASlotWord
  deriving DecidableEq, Repr

/-- The cut of a slot word that every format class shares (Tables 3.1, 3.6). -/
structure Fields where
  op : BitVec 6
  n : Bool
  p : BitVec 3
  d : BitVec 6
  a : BitVec 6
  b : BitVec 6
  fn : BitVec 4
  deriving DecidableEq, Repr

/-- The fields of a word. -/
def splitWord (w : BitVec 32) : Fields where
  op := w.extractLsb' 26 6
  n := w.getLsbD 25
  p := w.extractLsb' 22 3
  d := w.extractLsb' 16 6
  a := w.extractLsb' 10 6
  b := w.extractLsb' 4 6
  fn := w.extractLsb' 0 4

/-- The word of the fields. -/
def joinWord (f : Fields) : BitVec 32 :=
  f.op ++ BitVec.ofBool f.n ++ f.p ++ f.d ++ f.a ++ f.b ++ f.fn

/-- S fields (Table 3.4). -/
def Src.bits : Src → BitVec 6
  | .reg n => (0 : BitVec 1) ++ n
  | .latch k => (8 : BitVec 4) ++ k

/-- S fields (Table 3.4). -/
def Src.ofBits (x : BitVec 6) : Except Reject Src :=
  if x.getLsbD 5 = false then .ok (.reg (x.extractLsb' 0 5))
  else if x.extractLsb' 2 4 = 8 then .ok (.latch (x.extractLsb' 0 2))
  else .error .reservedOperand

/-- The 5-bit S field of the EL class (R97): `0b0nnnn` a register, `0b100kk` a latch. -/
def Src.elBits : Src → BitVec 5
  | .reg n => n
  | .latch k => (4 : BitVec 3) ++ k

/-- The 5-bit S field of the EL class (R97). -/
def Src.ofElBits (x : BitVec 5) : Except Reject Src :=
  if x.getLsbD 4 = false then .ok (.reg x)
  else if x.extractLsb' 2 3 = 4 then .ok (.latch (x.extractLsb' 0 2))
  else .error .reservedOperand

/-- D fields (Table 3.4). -/
def Dst.bits : Dst → BitVec 6
  | .reg n => (0 : BitVec 1) ++ n
  | .drop => 0x20

/-- D fields (Table 3.4). -/
def Dst.ofBits (x : BitVec 6) : Except Reject Dst :=
  if x.getLsbD 5 = false then .ok (.reg (x.extractLsb' 0 5))
  else if x = 0x20 then .ok .drop
  else .error .reservedOperand

/-- A field that names a register or a stream and nothing else. -/
def regBits (n : BitVec 5) : BitVec 6 := (0 : BitVec 1) ++ n

/-- A field that names a register or a stream and nothing else. -/
def regOfBits (x : BitVec 6) : Except Reject (BitVec 5) :=
  if x.getLsbD 5 = false then .ok (x.extractLsb' 0 5) else .error .reservedOperand

/-- A predicate or mask number in the low bits of a field (R94). -/
def lowBits (q : BitVec 3) : BitVec 6 := (0 : BitVec 3) ++ q

/-- A predicate or mask number in the low bits of a field (R94). -/
def lowOfBits (x : BitVec 6) : Except Reject (BitVec 3) :=
  if x.extractLsb' 3 3 = 0 then .ok (x.extractLsb' 0 3) else .error .reservedOperand

/-- A field the opcode leaves unused must be zero (R97). -/
def zeroField (x : BitVec 6) : Except Reject Unit :=
  if x = 0 then .ok () else .error .nonzeroField

def ExtW.bits : ExtW → BitVec 6
  | .byte => 0 | .half => 1 | .word => 2

def ExtW.ofBits (x : BitVec 6) : Except Reject ExtW :=
  if x = 0 then .ok .byte else if x = 1 then .ok .half else if x = 2 then .ok .word else .error .reservedOperand

def ICond.bits : ICond → BitVec 3
  | .eq => 0 | .ne => 1 | .lt => 2 | .ge => 3 | .ltu => 4 | .geu => 5

def ICond.ofBits (x : BitVec 3) : Except Reject ICond :=
  if x = 0 then .ok .eq else if x = 1 then .ok .ne else if x = 2 then .ok .lt else if x = 3 then .ok .ge
  else if x = 4 then .ok .ltu else if x = 5 then .ok .geu else .error .reservedOperand

/-- FN[1:0] of `VCMP`: 1 for the unsigned conditions, 0 for the others (R150). -/
def ICond.unsignedCode : ICond → BitVec 2
  | .ltu => 1 | .geu => 1 | _ => 0

/-- The FN[1:0] of a `VCMP` must match its condition (R150). -/
def unsignedMatches (c : ICond) (u : BitVec 2) : Except Reject Unit :=
  if u = c.unsignedCode then .ok () else .error .reservedFn

def FCond.bits : FCond → BitVec 3
  | .eq => 0 | .ne => 1 | .lt => 2 | .le => 3 | .gt => 4 | .ge => 5 | .un => 6

def FCond.ofBits (x : BitVec 3) : Except Reject FCond :=
  if x = 0 then .ok .eq else if x = 1 then .ok .ne else if x = 2 then .ok .lt else if x = 3 then .ok .le
  else if x = 4 then .ok .gt else if x = 5 then .ok .ge else if x = 6 then .ok .un else .error .reservedOperand

def LaneW.code : LaneW → BitVec 2
  | .w8 => 0 | .w16 => 1 | .w32 => 2 | .w64 => 3

def LaneW.ofCode (x : BitVec 2) : LaneW :=
  if x = 0 then .w8 else if x = 1 then .w16 else if x = 2 then .w32 else .w64

def FloatT.code : FloatT → BitVec 2
  | .fp32 => 0 | .bf16 => 1 | .fp16 => 2 | .fp64 => 3

def FloatT.ofCode (x : BitVec 2) : FloatT :=
  if x = 0 then .fp32 else if x = 1 then .bf16 else if x = 2 then .fp16 else .fp64

def SatMode.code : SatMode → BitVec 2
  | .wrap => 0 | .sat => 1 | .usat => 2

def SatMode.ofCode (x : BitVec 2) : Except Reject SatMode :=
  if x = 0 then .ok .wrap else if x = 1 then .ok .sat else if x = 2 then .ok .usat else .error .reservedFn

def RFile.code : RFile → BitVec 2
  | .a => 0 | .v => 1 | .m => 2 | .e => 3

def RFile.ofCode (x : BitVec 2) : RFile :=
  if x = 0 then .a else if x = 1 then .v else if x = 2 then .m else .e

def Scope.bits : Scope → BitVec 4
  | .t => 0 | .n => 1 | .p => 2

def Scope.ofBits (x : BitVec 4) : Except Reject Scope :=
  if x = 0 then .ok .t else if x = 1 then .ok .n else if x = 2 then .ok .p else .error .reservedFn

def LockMode.bits : LockMode → BitVec 3
  | .is => 0 | .ix => 1 | .s => 2 | .six => 3 | .inc => 4 | .x => 5

def LockMode.ofBits (x : BitVec 3) : Except Reject LockMode :=
  if x = 0 then .ok .is else if x = 1 then .ok .ix else if x = 2 then .ok .s else if x = 3 then .ok .six
  else if x = 4 then .ok .inc else if x = 5 then .ok .x else .error .reservedOperand

/-- The number of a control register (Table 4.7). -/
def CReg.number : CReg → BitVec 10
  | .fmt n => (0x00 : BitVec 6) ++ n
  | .ftab n => (0x01 : BitVec 6) ++ n
  | .ftctl => 0x020
  | .cbctl n => (0x09 : BitVec 8) ++ n
  | .lc n => (0x0A : BitVec 8) ++ n
  | .sbase => 0x030 | .slim => 0x031 | .fflags => 0x038 | .rbq => 0x039
  | .tshape n => (0x04 : BitVec 6) ++ n
  | .xstat => 0x060 | .xcause => 0x061 | .xpc => 0x062 | .xprog => 0x063 | .xaddr => 0x064
  | .xvec => 0x065 | .xctl => 0x066 | .self => 0x070

/-- The control register of a number; the others are reserved (R132). -/
def CReg.ofNumber (x : BitVec 10) : Except Reject CReg :=
  if x.extractLsb' 4 6 = 0x00 then .ok (.fmt (x.extractLsb' 0 4))
  else if x.extractLsb' 4 6 = 0x01 then .ok (.ftab (x.extractLsb' 0 4))
  else if x = 0x020 then .ok .ftctl
  else if x.extractLsb' 2 8 = 0x09 then .ok (.cbctl (x.extractLsb' 0 2))
  else if x.extractLsb' 2 8 = 0x0A then .ok (.lc (x.extractLsb' 0 2))
  else if x = 0x030 then .ok .sbase
  else if x = 0x031 then .ok .slim
  else if x = 0x038 then .ok .fflags
  else if x = 0x039 then .ok .rbq
  else if x.extractLsb' 4 6 = 0x04 then .ok (.tshape (x.extractLsb' 0 4))
  else if x = 0x060 then .ok .xstat
  else if x = 0x061 then .ok .xcause
  else if x = 0x062 then .ok .xpc
  else if x = 0x063 then .ok .xprog
  else if x = 0x064 then .ok .xaddr
  else if x = 0x065 then .ok .xvec
  else if x = 0x066 then .ok .xctl
  else if x = 0x070 then .ok .self
  else .error .reservedOperand

/-- The offset of a register inside an engine register set (Table 9.5). -/
def NestReg.number : NestReg → BitVec 8
  | .mctl => 0x00 | .mfmt => 0x01 | .mabase => 0x02 | .mbbase => 0x03 | .mzbase => 0x04
  | .mstr l => 0x08 + BitVec.ofNat 8 l.val
  | .mcnt l => 0x10 + BitVec.ofNat 8 l.val

/-- The engine register of an offset; the others are not listed (Table 9.5). -/
def NestReg.ofNumber (x : BitVec 8) : Except Reject NestReg :=
  if x = 0x00 then .ok .mctl
  else if x = 0x01 then .ok .mfmt
  else if x = 0x02 then .ok .mabase
  else if x = 0x03 then .ok .mbbase
  else if x = 0x04 then .ok .mzbase
  else if h : 8 ≤ x.toNat ∧ x.toNat < 14 then .ok (.mstr ⟨x.toNat - 8, by omega⟩)
  else if h : 16 ≤ x.toNat ∧ x.toNat < 22 then .ok (.mcnt ⟨x.toNat - 16, by omega⟩)
  else .error .reservedOperand

/-- The number of an engine register (Table 9.5). -/
def EReg.number : EReg → BitVec 10
  | .shadow r => (0 : BitVec 2) ++ r.number
  | .active r => (1 : BitVec 2) ++ r.number
  | .mstat => 0x200
  | .bstat b => (0x18 : BitVec 5) ++ b
  | .bcfg b => (0x19 : BitVec 5) ++ b

/-- The engine register of a number; the others raise ILLEGAL by R102 (R269). -/
def EReg.ofNumber (x : BitVec 10) : Except Reject EReg :=
  if x.extractLsb' 8 2 = 0 then (NestReg.ofNumber (x.extractLsb' 0 8)).map .shadow
  else if x.extractLsb' 8 2 = 1 then (NestReg.ofNumber (x.extractLsb' 0 8)).map .active
  else if x = 0x200 then .ok .mstat
  else if x.extractLsb' 5 5 = 0x18 then .ok (.bstat (x.extractLsb' 0 5))
  else if x.extractLsb' 5 5 = 0x19 then .ok (.bcfg (x.extractLsb' 0 5))
  else .error .reservedOperand

/-- The count of an immediate shift: I[9:6] must be zero (R113). -/
def shiftOfBits (b : BitVec 6) (fn : BitVec 4) : Except Reject (BitVec 6) :=
  if b.extractLsb' 2 4 = 0 then .ok (b.extractLsb' 0 2 ++ fn) else .error .nonzeroField

/-- A 4-bit number in a 6-bit field whose high bits are zero (R94, R141). -/
def partOfBits (x : BitVec 6) : Except Reject (BitVec 4) :=
  if x.extractLsb' 4 2 = 0 then .ok (x.extractLsb' 0 4) else .error .nonzeroField

/-- A 2-bit bank number in the D field (R287). -/
def bankOfBits (x : BitVec 6) : Except Reject (BitVec 2) :=
  if x.extractLsb' 2 4 = 0 then .ok (x.extractLsb' 0 2) else .error .nonzeroField

/-- The lane width in S1 of an immediate splat: S1[5:2] zero (R152). -/
def splatWidth (x : BitVec 6) : Except Reject LaneW :=
  if x.extractLsb' 2 4 = 0 then .ok (LaneW.ofCode (x.extractLsb' 0 2)) else .error .nonzeroField

/-- A 5-bit number in I[4:0] with I[9:5] zero: the base of `RED`, the barrier of R282. -/
def baseOnly (b : BitVec 6) (fn : BitVec 4) : Except Reject (BitVec 5) :=
  if b.extractLsb' 1 5 = 0 then .ok (b.extractLsb' 0 1 ++ fn) else .error .nonzeroField

/-- The S1 of `CPY` names e0, e4, e8 or e12 (R277). -/
def quadOfBits (x : BitVec 6) : Except Reject (BitVec 2) :=
  if x.extractLsb' 4 2 = 0 ∧ x.extractLsb' 0 2 = 0 then .ok (x.extractLsb' 2 2) else .error .reservedOperand

/-- The S1 of `TFORK` names an even E register (R284). -/
def pairOfBits (x : BitVec 6) : Except Reject (BitVec 3) :=
  if x.extractLsb' 4 2 = 0 ∧ x.extractLsb' 0 1 = 0 then .ok (x.extractLsb' 1 3) else .error .reservedOperand

/-- The height code of `GBAR`: I[5:3], with I[9:6] zero (R231). -/
def groupHeight (b : BitVec 6) (fn : BitVec 4) : Except Reject (BitVec 3) :=
  if b.extractLsb' 2 4 = 0 then .ok (b.extractLsb' 0 2 ++ fn.extractLsb' 3 1) else .error .nonzeroField

/-- The mode code in S2 of `LKACQ` and `LKUPG`: [5:3] zero (R337). -/
def lockModeOfField (x : BitVec 6) : Except Reject LockMode :=
  if x.extractLsb' 3 3 = 0 then LockMode.ofBits (x.extractLsb' 0 3) else .error .nonzeroField

/-- The MODE of `LKQRY` is zero (R337). -/
def zeroMode (x : BitVec 3) : Except Reject Unit :=
  if x = 0 then .ok () else .error .reservedOperand

/-- The A slot's opcode map (Table 3.7). -/
def decodeA (g : Guard) (f : Fields) : Except Reject Instr :=
  match f.op.toNat with
  | 0x01 =>
    if f.fn = 0 then do
      let d ← Dst.ofBits f.d
      let a ← Src.ofBits f.a
      let b ← Src.ofBits f.b
      .ok (.add g d a b)
    else if f.fn = 1 then do
      let d ← Dst.ofBits f.d
      let a ← Src.ofBits f.a
      let b ← Src.ofBits f.b
      .ok (.sub g d a b)
    else if f.fn = 2 then do
      let d ← Dst.ofBits f.d
      let a ← Src.ofBits f.a
      let b ← Src.ofBits f.b
      .ok (.and g d a b)
    else if f.fn = 3 then do
      let d ← Dst.ofBits f.d
      let a ← Src.ofBits f.a
      let b ← Src.ofBits f.b
      .ok (.or g d a b)
    else if f.fn = 4 then do
      let d ← Dst.ofBits f.d
      let a ← Src.ofBits f.a
      let b ← Src.ofBits f.b
      .ok (.xor g d a b)
    else if f.fn = 5 then do
      let d ← Dst.ofBits f.d
      let a ← Src.ofBits f.a
      let b ← Src.ofBits f.b
      .ok (.andn g d a b)
    else if f.fn = 6 then do
      let d ← Dst.ofBits f.d
      let a ← Src.ofBits f.a
      let b ← Src.ofBits f.b
      .ok (.shl g d a b)
    else if f.fn = 7 then do
      let d ← Dst.ofBits f.d
      let a ← Src.ofBits f.a
      let b ← Src.ofBits f.b
      .ok (.shr g d a b)
    else if f.fn = 8 then do
      let d ← Dst.ofBits f.d
      let a ← Src.ofBits f.a
      let b ← Src.ofBits f.b
      .ok (.sar g d a b)
    else if f.fn = 9 then do
      let d ← Dst.ofBits f.d
      let a ← Src.ofBits f.a
      let b ← Src.ofBits f.b
      .ok (.rol g d a b)
    else if f.fn = 10 then do
      let d ← Dst.ofBits f.d
      let a ← Src.ofBits f.a
      let b ← Src.ofBits f.b
      .ok (.min g d a b)
    else if f.fn = 11 then do
      let d ← Dst.ofBits f.d
      let a ← Src.ofBits f.a
      let b ← Src.ofBits f.b
      .ok (.max g d a b)
    else if f.fn = 12 then do
      let d ← Dst.ofBits f.d
      let a ← Src.ofBits f.a
      let b ← Src.ofBits f.b
      .ok (.minu g d a b)
    else if f.fn = 13 then do
      let d ← Dst.ofBits f.d
      let a ← Src.ofBits f.a
      let b ← Src.ofBits f.b
      .ok (.maxu g d a b)
    else if f.fn = 14 then do
      let d ← Dst.ofBits f.d
      let a ← Src.ofBits f.a
      let b ← Src.ofBits f.b
      .ok (.addx g d a b)
    else .error .reservedFn
  | 0x02 =>
    if f.fn = 0 then do
      let d ← Dst.ofBits f.d
      let a ← Src.ofBits f.a
      zeroField f.b
      .ok (.clz g d a)
    else if f.fn = 1 then do
      let d ← Dst.ofBits f.d
      let a ← Src.ofBits f.a
      zeroField f.b
      .ok (.ctz g d a)
    else if f.fn = 2 then do
      let d ← Dst.ofBits f.d
      let a ← Src.ofBits f.a
      zeroField f.b
      .ok (.popc g d a)
    else if f.fn = 3 then do
      let d ← Dst.ofBits f.d
      let a ← Src.ofBits f.a
      zeroField f.b
      .ok (.brev g d a)
    else if f.fn = 4 then do
      let d ← Dst.ofBits f.d
      let a ← Src.ofBits f.a
      zeroField f.b
      .ok (.bswap g d a)
    else if f.fn = 5 then do
      let d ← Dst.ofBits f.d
      let a ← Src.ofBits f.a
      let w ← ExtW.ofBits f.b
      .ok (.sext g d a w)
    else if f.fn = 6 then do
      let d ← Dst.ofBits f.d
      let a ← Src.ofBits f.a
      let w ← ExtW.ofBits f.b
      .ok (.zext g d a w)
    else if f.fn = 7 then do
      let d ← Dst.ofBits f.d
      let a ← Src.ofBits f.a
      zeroField f.b
      .ok (.mov g d a)
    else .error .reservedFn
  | 0x03 =>
    if f.fn = 0 then do
      let d ← Dst.ofBits f.d
      let a ← Src.ofBits f.a
      let b ← Src.ofBits f.b
      .ok (.mul g d a b)
    else if f.fn = 1 then do
      let d ← Dst.ofBits f.d
      let a ← Src.ofBits f.a
      let b ← Src.ofBits f.b
      .ok (.mulh g d a b)
    else if f.fn = 2 then do
      let d ← Dst.ofBits f.d
      let a ← Src.ofBits f.a
      let b ← Src.ofBits f.b
      .ok (.mulhu g d a b)
    else if f.fn = 4 then do
      let d ← Dst.ofBits f.d
      let a ← Src.ofBits f.a
      let b ← Src.ofBits f.b
      .ok (.div g d a b)
    else if f.fn = 5 then do
      let d ← Dst.ofBits f.d
      let a ← Src.ofBits f.a
      let b ← Src.ofBits f.b
      .ok (.divu g d a b)
    else if f.fn = 6 then do
      let d ← Dst.ofBits f.d
      let a ← Src.ofBits f.a
      let b ← Src.ofBits f.b
      .ok (.rem g d a b)
    else if f.fn = 7 then do
      let d ← Dst.ofBits f.d
      let a ← Src.ofBits f.a
      let b ← Src.ofBits f.b
      .ok (.remu g d a b)
    else .error .reservedFn
  | 0x04 =>
    if f.fn = 0 then do
      let d ← Dst.ofBits f.d
      let a ← Src.ofBits f.a
      let b ← Src.ofBits f.b
      .ok (.extr g d a b)
    else if f.fn = 1 then do
      let d ← regOfBits f.d
      let a ← Src.ofBits f.a
      let b ← Src.ofBits f.b
      .ok (.insr g d a b)
    else .error .reservedFn
  | 0x05 => do
      let d ← Dst.ofBits f.d
      let a ← Src.ofBits f.a
      let b ← Src.ofBits f.b
      let v := f.fn.getLsbD 3
      let k := f.fn.extractLsb' 0 3
      .ok (.sel g d a b v k)
  | 0x06 =>
    if f.fn = 0 then do
      let c ← ICond.ofBits (f.d.extractLsb' 3 3)
      let q := f.d.extractLsb' 0 3
      let a ← Src.ofBits f.a
      let b ← Src.ofBits f.b
      .ok (.cmp g c q a b)
    else .error .reservedFn
  | 0x07 =>
    if f.fn = 0 then do
      let d ← lowOfBits f.d
      let a ← lowOfBits f.a
      let b ← lowOfBits f.b
      .ok (.pand g d a b)
    else if f.fn = 1 then do
      let d ← lowOfBits f.d
      let a ← lowOfBits f.a
      let b ← lowOfBits f.b
      .ok (.por g d a b)
    else if f.fn = 2 then do
      let d ← lowOfBits f.d
      let a ← lowOfBits f.a
      zeroField f.b
      .ok (.pnot g d a)
    else .error .reservedFn
  | 0x08 => do
      let d ← Dst.ofBits f.d
      let a ← Src.ofBits f.a
      let i : BitVec 10 := f.b ++ f.fn
      .ok (.addi g d a i)
  | 0x09 => do
      let d ← Dst.ofBits f.d
      let a ← Src.ofBits f.a
      let i : BitVec 10 := f.b ++ f.fn
      .ok (.subi g d a i)
  | 0x0A => do
      let d ← Dst.ofBits f.d
      let a ← Src.ofBits f.a
      let i : BitVec 10 := f.b ++ f.fn
      .ok (.andi g d a i)
  | 0x0B => do
      let d ← Dst.ofBits f.d
      let a ← Src.ofBits f.a
      let i : BitVec 10 := f.b ++ f.fn
      .ok (.ori g d a i)
  | 0x0C => do
      let d ← Dst.ofBits f.d
      let a ← Src.ofBits f.a
      let i : BitVec 10 := f.b ++ f.fn
      .ok (.xori g d a i)
  | 0x0D => do
      let d ← Dst.ofBits f.d
      let a ← Src.ofBits f.a
      let i ← shiftOfBits f.b f.fn
      .ok (.shli g d a i)
  | 0x0E => do
      let d ← Dst.ofBits f.d
      let a ← Src.ofBits f.a
      let i ← shiftOfBits f.b f.fn
      .ok (.shri g d a i)
  | 0x0F => do
      let d ← Dst.ofBits f.d
      let a ← Src.ofBits f.a
      let i ← shiftOfBits f.b f.fn
      .ok (.sari g d a i)
  | 0x10 => do
      let c ← ICond.ofBits (f.d.extractLsb' 3 3)
      let q := f.d.extractLsb' 0 3
      let a ← Src.ofBits f.a
      let i : BitVec 10 := f.b ++ f.fn
      .ok (.cmpi g c q a i)
  | 0x11 => do
      let d ← Dst.ofBits f.d
      let i : BitVec 16 := f.a ++ f.b ++ f.fn
      .ok (.movi g d i)
  | 0x12 => do
      let d ← regOfBits f.d
      let i : BitVec 16 := f.a ++ f.b ++ f.fn
      .ok (.movh1 g d i)
  | 0x13 => do
      let d ← regOfBits f.d
      let i : BitVec 16 := f.a ++ f.b ++ f.fn
      .ok (.movh2 g d i)
  | 0x14 => do
      let d ← regOfBits f.d
      let i : BitVec 16 := f.a ++ f.b ++ f.fn
      .ok (.movh3 g d i)
  | 0x18 => do
      zeroField f.d
      let i : BitVec 16 := f.a ++ f.b ++ f.fn
      .ok (.br g i)
  | 0x19 =>
    if f.fn = 0 then do
      zeroField f.d
      let a ← Src.ofBits f.a
      zeroField f.b
      .ok (.jmp g a)
    else .error .reservedFn
  | 0x1A => do
      let d ← Dst.ofBits f.d
      let i : BitVec 16 := f.a ++ f.b ++ f.fn
      .ok (.call g d i)
  | 0x1B =>
    if f.fn = 0 then do
      let d ← Dst.ofBits f.d
      let a ← Src.ofBits f.a
      zeroField f.b
      .ok (.callr g d a)
    else .error .reservedFn
  | 0x1C =>
    if f.fn = 0 then do
      zeroField f.d
      let a ← Src.ofBits f.a
      zeroField f.b
      .ok (.ret g a)
    else .error .reservedFn
  | 0x1D => do
      let l : BitVec 12 := f.d ++ f.a
      let c : BitVec 10 := f.b ++ f.fn
      .ok (.loopi g l c)
  | 0x1E =>
    if f.fn = 0 then do
      let l : BitVec 12 := f.d ++ f.a
      let a ← Src.ofBits f.b
      .ok (.loop g l a)
    else .error .reservedFn
  | 0x20 => do
      zeroField f.d
      let a ← Src.ofBits f.a
      let r ← CReg.ofNumber (f.b ++ f.fn)
      .ok (.mtcr g a r)
  | 0x21 => do
      let d ← Dst.ofBits f.d
      zeroField f.a
      let r ← CReg.ofNumber (f.b ++ f.fn)
      .ok (.mfcr g d r)
  | 0x22 =>
    if f.a = 0 ∧ f.b = 0 then do
      zeroField f.d
      let k := f.fn
      .ok (.trap g k)
    else if f.a = 4 ∧ f.b = 0 ∧ f.fn = 0 then do
      zeroField f.d
      .ok (.tret g)
    else if f.a = 8 ∧ f.b = 0 ∧ f.fn = 0 then do
      zeroField f.d
      .ok (.ifence g)
    else .error .reservedFn
  | 0x23 =>
    if f.fn = 0 then do
      zeroField f.d
      let a ← Src.ofBits f.a
      let b ← Src.ofBits f.b
      .ok (.dchk g a b)
    else .error .reservedFn
  | 0x24 => do
      let d ← regOfBits f.d
      let a ← Src.ofBits f.a
      let k ← partOfBits f.b
      let e := RFile.ofCode (f.fn.extractLsb' 2 2)
      let s := RFile.ofCode (f.fn.extractLsb' 0 2)
      .ok (.xmov g d a k e s)
  | _ => .error .reservedOpcode

/-- The V slot's opcode map (Table 3.8). -/
def decodeV (g : Guard) (f : Fields) : Except Reject Instr :=
  match f.op.toNat with
  | 0x01 => do
      let d ← Dst.ofBits f.d
      let a ← Src.ofBits f.a
      let b ← Src.ofBits f.b
      let w := LaneW.ofCode (f.fn.extractLsb' 2 2)
      let s ← SatMode.ofCode (f.fn.extractLsb' 0 2)
      .ok (.vadd g d a b w s)
  | 0x02 => do
      let d ← Dst.ofBits f.d
      let a ← Src.ofBits f.a
      let b ← Src.ofBits f.b
      let w := LaneW.ofCode (f.fn.extractLsb' 2 2)
      let s ← SatMode.ofCode (f.fn.extractLsb' 0 2)
      .ok (.vsub g d a b w s)
  | 0x03 =>
    if f.fn.extractLsb' 0 2 = 0 then do
      let d ← Dst.ofBits f.d
      let a ← Src.ofBits f.a
      let b ← Src.ofBits f.b
      let w := LaneW.ofCode (f.fn.extractLsb' 2 2)
      .ok (.vmul g d a b w)
    else if f.fn.extractLsb' 0 2 = 1 then do
      let d ← Dst.ofBits f.d
      let a ← Src.ofBits f.a
      let b ← Src.ofBits f.b
      let w := LaneW.ofCode (f.fn.extractLsb' 2 2)
      .ok (.vmulh g d a b w)
    else if f.fn.extractLsb' 0 2 = 2 then do
      let d ← Dst.ofBits f.d
      let a ← Src.ofBits f.a
      let b ← Src.ofBits f.b
      let w := LaneW.ofCode (f.fn.extractLsb' 2 2)
      .ok (.vmulhU g d a b w)
    else .error .reservedFn
  | 0x04 =>
    if f.fn = 0 then do
      let d ← Dst.ofBits f.d
      let a ← Src.ofBits f.a
      let b ← Src.ofBits f.b
      .ok (.vand g d a b)
    else if f.fn = 1 then do
      let d ← Dst.ofBits f.d
      let a ← Src.ofBits f.a
      let b ← Src.ofBits f.b
      .ok (.vor g d a b)
    else if f.fn = 2 then do
      let d ← Dst.ofBits f.d
      let a ← Src.ofBits f.a
      let b ← Src.ofBits f.b
      .ok (.vxor g d a b)
    else .error .reservedFn
  | 0x05 =>
    if f.fn.extractLsb' 0 2 = 0 then do
      let d ← Dst.ofBits f.d
      let a ← Src.ofBits f.a
      let b ← Src.ofBits f.b
      let w := LaneW.ofCode (f.fn.extractLsb' 2 2)
      .ok (.vshl g d a b w)
    else if f.fn.extractLsb' 0 2 = 1 then do
      let d ← Dst.ofBits f.d
      let a ← Src.ofBits f.a
      let b ← Src.ofBits f.b
      let w := LaneW.ofCode (f.fn.extractLsb' 2 2)
      .ok (.vshr g d a b w)
    else if f.fn.extractLsb' 0 2 = 2 then do
      let d ← Dst.ofBits f.d
      let a ← Src.ofBits f.a
      let b ← Src.ofBits f.b
      let w := LaneW.ofCode (f.fn.extractLsb' 2 2)
      .ok (.vsar g d a b w)
    else .error .reservedFn
  | 0x06 =>
    if f.b.extractLsb' 2 2 = 0 then do
      let d ← Dst.ofBits f.d
      let a ← Src.ofBits f.a
      let w := LaneW.ofCode (f.b.extractLsb' 4 2)
      let c : BitVec 6 := f.b.extractLsb' 0 2 ++ f.fn
      .ok (.vshlImm g d a w c)
    else if f.b.extractLsb' 2 2 = 1 then do
      let d ← Dst.ofBits f.d
      let a ← Src.ofBits f.a
      let w := LaneW.ofCode (f.b.extractLsb' 4 2)
      let c : BitVec 6 := f.b.extractLsb' 0 2 ++ f.fn
      .ok (.vshrImm g d a w c)
    else if f.b.extractLsb' 2 2 = 2 then do
      let d ← Dst.ofBits f.d
      let a ← Src.ofBits f.a
      let w := LaneW.ofCode (f.b.extractLsb' 4 2)
      let c : BitVec 6 := f.b.extractLsb' 0 2 ++ f.fn
      .ok (.vsarImm g d a w c)
    else .error .reservedFn
  | 0x07 =>
    if f.fn.extractLsb' 0 2 = 0 then do
      let d ← Dst.ofBits f.d
      let a ← Src.ofBits f.a
      let b ← Src.ofBits f.b
      let w := LaneW.ofCode (f.fn.extractLsb' 2 2)
      .ok (.vmin g d a b w)
    else if f.fn.extractLsb' 0 2 = 1 then do
      let d ← Dst.ofBits f.d
      let a ← Src.ofBits f.a
      let b ← Src.ofBits f.b
      let w := LaneW.ofCode (f.fn.extractLsb' 2 2)
      .ok (.vmax g d a b w)
    else if f.fn.extractLsb' 0 2 = 2 then do
      let d ← Dst.ofBits f.d
      let a ← Src.ofBits f.a
      let b ← Src.ofBits f.b
      let w := LaneW.ofCode (f.fn.extractLsb' 2 2)
      .ok (.vminU g d a b w)
    else if f.fn.extractLsb' 0 2 = 3 then do
      let d ← Dst.ofBits f.d
      let a ← Src.ofBits f.a
      let b ← Src.ofBits f.b
      let w := LaneW.ofCode (f.fn.extractLsb' 2 2)
      .ok (.vmaxU g d a b w)
    else .error .reservedFn
  | 0x08 =>
    if f.fn.extractLsb' 0 2 = 0 then do
      let d ← Dst.ofBits f.d
      let a ← Src.ofBits f.a
      zeroField f.b
      let w := LaneW.ofCode (f.fn.extractLsb' 2 2)
      .ok (.vabs g d a w)
    else if f.fn.extractLsb' 0 2 = 1 then do
      let d ← Dst.ofBits f.d
      let a ← Src.ofBits f.a
      zeroField f.b
      let w := LaneW.ofCode (f.fn.extractLsb' 2 2)
      .ok (.vneg g d a w)
    else .error .reservedFn
  | 0x09 => do
      let c ← ICond.ofBits (f.d.extractLsb' 3 3)
      let q := f.d.extractLsb' 0 3
      let a ← Src.ofBits f.a
      let b ← Src.ofBits f.b
      let w := LaneW.ofCode (f.fn.extractLsb' 2 2)
      unsignedMatches c (f.fn.extractLsb' 0 2)
      .ok (.vcmp g c q a b w)
  | 0x0A =>
    if f.fn.getLsbD 3 = false then do
      let d ← Dst.ofBits f.d
      let a ← Src.ofBits f.a
      let b ← Src.ofBits f.b
      let k := f.fn.extractLsb' 0 3
      .ok (.vsel g d a b k)
    else .error .reservedFn
  | 0x0B => do
      let d ← Dst.ofBits f.d
      let w ← splatWidth f.a
      let i : BitVec 10 := f.b ++ f.fn
      .ok (.vsplatImm g d w i)
  | 0x0C => do
      let d ← Dst.ofBits f.d
      let a ← Src.ofBits f.a
      let l : BitVec 8 := f.fn.extractLsb' 0 2 ++ f.b
      let w := LaneW.ofCode (f.fn.extractLsb' 2 2)
      .ok (.vsplatLane g d a l w)
  | 0x0D =>
    if f.fn.extractLsb' 0 2 = 0 then do
      let d ← Dst.ofBits f.d
      let a ← Src.ofBits f.a
      let b ← Src.ofBits f.b
      let w := LaneW.ofCode (f.fn.extractLsb' 2 2)
      .ok (.vperm g d a b w)
    else .error .reservedFn
  | 0x0E => do
      let d ← Dst.ofBits f.d
      let a ← Src.ofBits f.a
      let w := LaneW.ofCode (f.b.extractLsb' 4 2)
      let c : BitVec 8 := f.b.extractLsb' 0 4 ++ f.fn
      .ok (.vrot g d a w c)
  | 0x0F => do
      let d ← Dst.ofBits f.d
      let a ← Src.ofBits f.a
      let w := LaneW.ofCode (f.b.extractLsb' 4 2)
      let x := f.b.getLsbD 3
      let c : BitVec 7 := f.b.extractLsb' 0 3 ++ f.fn
      .ok (.vslide g d a w x c)
  | 0x10 =>
    if f.fn.extractLsb' 0 2 = 0 then do
      let d ← Dst.ofBits f.d
      let a ← Src.ofBits f.a
      zeroField f.b
      let w := LaneW.ofCode (f.fn.extractLsb' 2 2)
      .ok (.vcompress g d a w)
    else .error .reservedFn
  | 0x11 =>
    if f.fn.extractLsb' 0 2 = 0 then do
      let d ← Dst.ofBits f.d
      let a ← Src.ofBits f.a
      zeroField f.b
      let w := LaneW.ofCode (f.fn.extractLsb' 2 2)
      .ok (.vexpand g d a w)
    else .error .reservedFn
  | 0x12 =>
    if f.fn.extractLsb' 0 2 = 0 then do
      let d ← Dst.ofBits f.d
      let a ← Src.ofBits f.a
      zeroField f.b
      let w := LaneW.ofCode (f.fn.extractLsb' 2 2)
      .ok (.vredsum g d a w)
    else if f.fn.extractLsb' 0 2 = 1 then do
      let d ← Dst.ofBits f.d
      let a ← Src.ofBits f.a
      zeroField f.b
      let w := LaneW.ofCode (f.fn.extractLsb' 2 2)
      .ok (.vredmax g d a w)
    else if f.fn.extractLsb' 0 2 = 2 then do
      let d ← Dst.ofBits f.d
      let a ← Src.ofBits f.a
      zeroField f.b
      let w := LaneW.ofCode (f.fn.extractLsb' 2 2)
      .ok (.vredmin g d a w)
    else .error .reservedFn
  | 0x13 =>
    if f.fn.extractLsb' 0 2 = 0 then do
      let d ← Dst.ofBits f.d
      let a ← Src.ofBits f.a
      zeroField f.b
      let t := FloatT.ofCode (f.fn.extractLsb' 2 2)
      .ok (.vredsumF g d a t)
    else if f.fn.extractLsb' 0 2 = 1 then do
      let d ← Dst.ofBits f.d
      let a ← Src.ofBits f.a
      zeroField f.b
      let t := FloatT.ofCode (f.fn.extractLsb' 2 2)
      .ok (.vredmaxF g d a t)
    else if f.fn.extractLsb' 0 2 = 2 then do
      let d ← Dst.ofBits f.d
      let a ← Src.ofBits f.a
      zeroField f.b
      let t := FloatT.ofCode (f.fn.extractLsb' 2 2)
      .ok (.vredminF g d a t)
    else .error .reservedFn
  | 0x14 =>
    if f.fn.extractLsb' 0 2 = 0 then do
      let d ← Dst.ofBits f.d
      let a ← Src.ofBits f.a
      zeroField f.b
      let t := FloatT.ofCode (f.fn.extractLsb' 2 2)
      .ok (.vscanF g d a t)
    else if f.fn.extractLsb' 0 2 = 1 then do
      let d ← Dst.ofBits f.d
      let a ← Src.ofBits f.a
      zeroField f.b
      let w := LaneW.ofCode (f.fn.extractLsb' 2 2)
      .ok (.vscanI g d a w)
    else .error .reservedFn
  | 0x18 =>
    if f.fn.extractLsb' 0 2 = 0 then do
      let d ← Dst.ofBits f.d
      let a ← Src.ofBits f.a
      let b ← Src.ofBits f.b
      let t := FloatT.ofCode (f.fn.extractLsb' 2 2)
      .ok (.vfadd g d a b t)
    else if f.fn.extractLsb' 0 2 = 1 then do
      let d ← Dst.ofBits f.d
      let a ← Src.ofBits f.a
      let b ← Src.ofBits f.b
      let t := FloatT.ofCode (f.fn.extractLsb' 2 2)
      .ok (.vfsub g d a b t)
    else if f.fn.extractLsb' 0 2 = 2 then do
      let d ← Dst.ofBits f.d
      let a ← Src.ofBits f.a
      let b ← Src.ofBits f.b
      let t := FloatT.ofCode (f.fn.extractLsb' 2 2)
      .ok (.vfmul g d a b t)
    else .error .reservedFn
  | 0x19 =>
    if f.fn.extractLsb' 0 2 = 0 then do
      let d ← regOfBits f.d
      let a ← Src.ofBits f.a
      let b ← Src.ofBits f.b
      let t := FloatT.ofCode (f.fn.extractLsb' 2 2)
      .ok (.vfma g d a b t)
    else if f.fn.extractLsb' 0 2 = 1 then do
      let d ← regOfBits f.d
      let a ← Src.ofBits f.a
      let b ← Src.ofBits f.b
      let t := FloatT.ofCode (f.fn.extractLsb' 2 2)
      .ok (.vfms g d a b t)
    else if f.fn.extractLsb' 0 2 = 2 then do
      let d ← regOfBits f.d
      let a ← Src.ofBits f.a
      let b ← Src.ofBits f.b
      let t := FloatT.ofCode (f.fn.extractLsb' 2 2)
      .ok (.vfnma g d a b t)
    else .error .reservedFn
  | 0x1A =>
    if f.fn.extractLsb' 0 2 = 0 then do
      let d ← Dst.ofBits f.d
      let a ← Src.ofBits f.a
      let b ← Src.ofBits f.b
      let t := FloatT.ofCode (f.fn.extractLsb' 2 2)
      .ok (.vfmax g d a b t)
    else if f.fn.extractLsb' 0 2 = 1 then do
      let d ← Dst.ofBits f.d
      let a ← Src.ofBits f.a
      let b ← Src.ofBits f.b
      let t := FloatT.ofCode (f.fn.extractLsb' 2 2)
      .ok (.vfmin g d a b t)
    else if f.fn.extractLsb' 0 2 = 2 then do
      let d ← Dst.ofBits f.d
      let a ← Src.ofBits f.a
      let b ← Src.ofBits f.b
      let t := FloatT.ofCode (f.fn.extractLsb' 2 2)
      .ok (.vfscale g d a b t)
    else .error .reservedFn
  | 0x1B =>
    if f.fn.extractLsb' 0 2 = 0 then do
      let d ← Dst.ofBits f.d
      let a ← Src.ofBits f.a
      zeroField f.b
      let t := FloatT.ofCode (f.fn.extractLsb' 2 2)
      .ok (.vfabs g d a t)
    else if f.fn.extractLsb' 0 2 = 1 then do
      let d ← Dst.ofBits f.d
      let a ← Src.ofBits f.a
      zeroField f.b
      let t := FloatT.ofCode (f.fn.extractLsb' 2 2)
      .ok (.vfneg g d a t)
    else if f.fn.extractLsb' 0 2 = 2 then do
      let d ← Dst.ofBits f.d
      let a ← Src.ofBits f.a
      zeroField f.b
      let t := FloatT.ofCode (f.fn.extractLsb' 2 2)
      .ok (.vfclass g d a t)
    else .error .reservedFn
  | 0x1C =>
    if f.fn.extractLsb' 0 2 = 0 then do
      let c ← FCond.ofBits (f.d.extractLsb' 3 3)
      let q := f.d.extractLsb' 0 3
      let a ← Src.ofBits f.a
      let b ← Src.ofBits f.b
      let t := FloatT.ofCode (f.fn.extractLsb' 2 2)
      .ok (.vfcmp g c q a b t)
    else .error .reservedFn
  | 0x1D =>
    if f.fn.extractLsb' 0 2 = 0 then do
      let d ← Dst.ofBits f.d
      let a ← Src.ofBits f.a
      zeroField f.b
      let t := FloatT.ofCode (f.fn.extractLsb' 2 2)
      .ok (.vfrcp g d a t)
    else if f.fn.extractLsb' 0 2 = 1 then do
      let d ← Dst.ofBits f.d
      let a ← Src.ofBits f.a
      zeroField f.b
      let t := FloatT.ofCode (f.fn.extractLsb' 2 2)
      .ok (.vfrsq g d a t)
    else if f.fn.extractLsb' 0 2 = 2 then do
      let d ← Dst.ofBits f.d
      let a ← Src.ofBits f.a
      zeroField f.b
      let t := FloatT.ofCode (f.fn.extractLsb' 2 2)
      .ok (.vfexp2 g d a t)
    else if f.fn.extractLsb' 0 2 = 3 then do
      let d ← Dst.ofBits f.d
      let a ← Src.ofBits f.a
      zeroField f.b
      let t := FloatT.ofCode (f.fn.extractLsb' 2 2)
      .ok (.vflog2 g d a t)
    else .error .reservedFn
  | 0x1E =>
    if f.fn = 0 then do
      let d ← Dst.ofBits f.d
      let a ← Src.ofBits f.a
      let b ← Src.ofBits f.b
      .ok (.vrope g d a b)
    else .error .reservedFn
  | 0x20 => do
      let d ← Dst.ofBits f.d
      let a ← Src.ofBits f.a
      let o := f.b.extractLsb' 1 5
      let m : BitVec 5 := f.b.extractLsb' 0 1 ++ f.fn
      .ok (.vcvt g d a o m)
  | 0x21 => do
      let d ← Dst.ofBits f.d
      let a ← Src.ofBits f.a
      let o := f.b.extractLsb' 1 5
      let m : BitVec 5 := f.b.extractLsb' 0 1 ++ f.fn
      .ok (.vqblk g d a o m)
  | 0x22 => do
      let d ← Dst.ofBits f.d
      let a ← Src.ofBits f.a
      let o := f.b.extractLsb' 1 5
      let m : BitVec 5 := f.b.extractLsb' 0 1 ++ f.fn
      .ok (.vdqblk g d a o m)
  | 0x23 => do
      let d ← Dst.ofBits f.d
      let a ← Src.ofBits f.a
      zeroField f.b
      let w := LaneW.ofCode (f.fn.extractLsb' 2 2)
      let k := f.fn.extractLsb' 0 2
      .ok (.vcbx g d a w k)
  | 0x24 => do
      let d ← Dst.ofBits f.d
      let a ← Src.ofBits f.a
      zeroField f.b
      let t := FloatT.ofCode (f.fn.extractLsb' 2 2)
      let k := f.fn.extractLsb' 0 2
      .ok (.vcbq g d a t k)
  | 0x25 => do
      let d ← Dst.ofBits f.d
      let a ← Src.ofBits f.a
      zeroField f.b
      let c := f.fn
      .ok (.vpack g d a c)
  | 0x26 => do
      let d ← Dst.ofBits f.d
      let a ← Src.ofBits f.a
      zeroField f.b
      let c := f.fn
      .ok (.vunpack g d a c)
  | 0x27 =>
    if f.fn = 0 then do
      let d ← Dst.ofBits f.d
      zeroField f.a
      zeroField f.b
      .ok (.vrand g d)
    else .error .reservedFn
  | 0x28 =>
    if f.fn = 0 then do
      let d ← lowOfBits f.d
      let a ← lowOfBits f.a
      let b ← lowOfBits f.b
      .ok (.kand g d a b)
    else if f.fn = 1 then do
      let d ← lowOfBits f.d
      let a ← lowOfBits f.a
      let b ← lowOfBits f.b
      .ok (.kor g d a b)
    else if f.fn = 2 then do
      let d ← lowOfBits f.d
      let a ← lowOfBits f.a
      zeroField f.b
      .ok (.knot g d a)
    else if f.fn = 3 then do
      let d ← lowOfBits f.d
      let a ← lowOfBits f.a
      zeroField f.b
      .ok (.kmov g d a)
    else .error .reservedFn
  | 0x29 =>
    if f.fn = 0 then do
      zeroField f.d
      let a ← Src.ofBits f.a
      let b ← Src.ofBits f.b
      .ok (.vdchk g a b)
    else .error .reservedFn
  | _ => .error .reservedOpcode

/-- The M slot's opcode map (Table 3.9). -/
def decodeM (g : Guard) (f : Fields) : Except Reject Instr :=
  match f.op.toNat with
  | 0x01 => do
      let l : BitVec 10 := f.d ++ f.a.extractLsb' 2 4
      let x := RFile.ofCode (f.a.extractLsb' 0 2)
      let d := f.b.extractLsb' 1 5
      let b : BitVec 5 := f.b.extractLsb' 0 1 ++ f.fn
      .ok (.ldB g l x d b)
  | 0x02 => do
      let l : BitVec 10 := f.d ++ f.a.extractLsb' 2 4
      let x := RFile.ofCode (f.a.extractLsb' 0 2)
      let d := f.b.extractLsb' 1 5
      let b : BitVec 5 := f.b.extractLsb' 0 1 ++ f.fn
      .ok (.ldH g l x d b)
  | 0x03 => do
      let l : BitVec 10 := f.d ++ f.a.extractLsb' 2 4
      let x := RFile.ofCode (f.a.extractLsb' 0 2)
      let d := f.b.extractLsb' 1 5
      let b : BitVec 5 := f.b.extractLsb' 0 1 ++ f.fn
      .ok (.ldW g l x d b)
  | 0x04 => do
      let l : BitVec 10 := f.d ++ f.a.extractLsb' 2 4
      let x := RFile.ofCode (f.a.extractLsb' 0 2)
      let d := f.b.extractLsb' 1 5
      let b : BitVec 5 := f.b.extractLsb' 0 1 ++ f.fn
      .ok (.ldD g l x d b)
  | 0x05 => do
      let l : BitVec 10 := f.d ++ f.a.extractLsb' 2 4
      let x := RFile.ofCode (f.a.extractLsb' 0 2)
      let d := f.b.extractLsb' 1 5
      let b : BitVec 5 := f.b.extractLsb' 0 1 ++ f.fn
      .ok (.ldBu g l x d b)
  | 0x06 => do
      let l : BitVec 10 := f.d ++ f.a.extractLsb' 2 4
      let x := RFile.ofCode (f.a.extractLsb' 0 2)
      let d := f.b.extractLsb' 1 5
      let b : BitVec 5 := f.b.extractLsb' 0 1 ++ f.fn
      .ok (.ldHu g l x d b)
  | 0x07 => do
      let l : BitVec 10 := f.d ++ f.a.extractLsb' 2 4
      let x := RFile.ofCode (f.a.extractLsb' 0 2)
      let d := f.b.extractLsb' 1 5
      let b : BitVec 5 := f.b.extractLsb' 0 1 ++ f.fn
      .ok (.ldWu g l x d b)
  | 0x08 =>
    if f.a.extractLsb' 0 2 = 1 then do
      let l : BitVec 10 := f.d ++ f.a.extractLsb' 2 4
      let d := f.b.extractLsb' 1 5
      let b : BitVec 5 := f.b.extractLsb' 0 1 ++ f.fn
      .ok (.ldv g l d b)
    else .error .reservedFn
  | 0x09 =>
    if f.a.extractLsb' 0 2 = 1 then do
      let l : BitVec 10 := f.d ++ f.a.extractLsb' 2 4
      let d := f.b.extractLsb' 1 5
      let b : BitVec 5 := f.b.extractLsb' 0 1 ++ f.fn
      .ok (.ldvs g l d b)
    else .error .reservedFn
  | 0x0A =>
    if f.a.extractLsb' 0 2 = 1 then do
      let l : BitVec 10 := f.d ++ f.a.extractLsb' 2 4
      let d := f.b.extractLsb' 1 5
      let b : BitVec 5 := f.b.extractLsb' 0 1 ++ f.fn
      .ok (.ldvg g l d b)
    else .error .reservedFn
  | 0x0C => do
      let l : BitVec 10 := f.d ++ f.a.extractLsb' 2 4
      let x := RFile.ofCode (f.a.extractLsb' 0 2)
      let d := f.b.extractLsb' 1 5
      let b : BitVec 5 := f.b.extractLsb' 0 1 ++ f.fn
      .ok (.atomW g l x d b)
  | 0x0D => do
      let l : BitVec 10 := f.d ++ f.a.extractLsb' 2 4
      let x := RFile.ofCode (f.a.extractLsb' 0 2)
      let d := f.b.extractLsb' 1 5
      let b : BitVec 5 := f.b.extractLsb' 0 1 ++ f.fn
      .ok (.atomD g l x d b)
  | 0x0E => do
      let l : BitVec 10 := f.d ++ f.a.extractLsb' 2 4
      let x := RFile.ofCode (f.a.extractLsb' 0 2)
      let d := f.b.extractLsb' 1 5
      let b : BitVec 5 := f.b.extractLsb' 0 1 ++ f.fn
      .ok (.atomCasW g l x d b)
  | 0x0F => do
      let l : BitVec 10 := f.d ++ f.a.extractLsb' 2 4
      let x := RFile.ofCode (f.a.extractLsb' 0 2)
      let d := f.b.extractLsb' 1 5
      let b : BitVec 5 := f.b.extractLsb' 0 1 ++ f.fn
      .ok (.atomCasD g l x d b)
  | 0x10 => do
      zeroField f.d
      zeroField f.a
      let b ← baseOnly f.b f.fn
      .ok (.redW g b)
  | 0x11 => do
      zeroField f.d
      zeroField f.a
      let b ← baseOnly f.b f.fn
      .ok (.redD g b)
  | 0x14 =>
    if f.a = 2 then do
      zeroField f.d
      let d := f.b.extractLsb' 1 5
      let b : BitVec 5 := f.b.extractLsb' 0 1 ++ f.fn
      .ok (.stB g d b)
    else .error .reservedFn
  | 0x15 =>
    if f.a = 2 then do
      zeroField f.d
      let d := f.b.extractLsb' 1 5
      let b : BitVec 5 := f.b.extractLsb' 0 1 ++ f.fn
      .ok (.stH g d b)
    else .error .reservedFn
  | 0x16 =>
    if f.a = 2 then do
      zeroField f.d
      let d := f.b.extractLsb' 1 5
      let b : BitVec 5 := f.b.extractLsb' 0 1 ++ f.fn
      .ok (.stW g d b)
    else .error .reservedFn
  | 0x17 =>
    if f.a = 2 then do
      zeroField f.d
      let d := f.b.extractLsb' 1 5
      let b : BitVec 5 := f.b.extractLsb' 0 1 ++ f.fn
      .ok (.stD g d b)
    else .error .reservedFn
  | 0x18 =>
    if f.a = 1 then do
      zeroField f.d
      let d := f.b.extractLsb' 1 5
      let b : BitVec 5 := f.b.extractLsb' 0 1 ++ f.fn
      .ok (.stv g d b)
    else .error .reservedFn
  | 0x19 =>
    if f.a = 1 then do
      zeroField f.d
      let d := f.b.extractLsb' 1 5
      let b : BitVec 5 := f.b.extractLsb' 0 1 ++ f.fn
      .ok (.stvs g d b)
    else .error .reservedFn
  | 0x1A =>
    if f.a = 1 then do
      zeroField f.d
      let d := f.b.extractLsb' 1 5
      let b : BitVec 5 := f.b.extractLsb' 0 1 ++ f.fn
      .ok (.stvx g d b)
    else .error .reservedFn
  | 0x1C => do
      let d ← Dst.ofBits f.d
      zeroField f.a
      let i : BitVec 10 := f.b ++ f.fn
      .ok (.ldsp g d i)
  | 0x1D => do
      zeroField f.d
      let a ← Src.ofBits f.a
      let i : BitVec 10 := f.b ++ f.fn
      .ok (.stsp g a i)
  | 0x20 =>
    if f.fn = 0 then do
      zeroField f.d
      zeroField f.a
      zeroField f.b
      .ok (.mark g)
    else .error .reservedFn
  | 0x21 => do
      zeroField f.d
      zeroField f.a
      zeroField f.b
      let s ← Scope.ofBits f.fn
      .ok (.fence g s)
  | 0x24 => do
      let l : BitVec 10 := f.d ++ f.a.extractLsb' 2 4
      let x := RFile.ofCode (f.a.extractLsb' 0 2)
      let d := f.b.extractLsb' 1 5
      let b : BitVec 5 := f.b.extractLsb' 0 1 ++ f.fn
      .ok (.shdr g l x d b)
  | 0x25 => do
      let l : BitVec 10 := f.d ++ f.a.extractLsb' 2 4
      let x := RFile.ofCode (f.a.extractLsb' 0 2)
      let d := f.b.extractLsb' 1 5
      let b : BitVec 5 := f.b.extractLsb' 0 1 ++ f.fn
      .ok (.srd g l x d b)
  | 0x28 =>
    if f.fn = 0 then do
      let s ← regOfBits f.d
      zeroField f.a
      zeroField f.b
      .ok (.swait g s)
    else if f.fn = 1 then do
      let s ← regOfBits f.d
      zeroField f.a
      zeroField f.b
      .ok (.sdone g s)
    else if f.fn = 2 then do
      let s ← regOfBits f.d
      zeroField f.a
      zeroField f.b
      .ok (.sopen g s)
    else if f.fn = 3 then do
      let s ← regOfBits f.d
      let a ← Src.ofBits f.a
      let b ← Src.ofBits f.b
      .ok (.swr g s a b)
    else if f.fn = 4 then do
      let s ← regOfBits f.d
      let a ← Src.ofBits f.a
      zeroField f.b
      .ok (.sclose g s a)
    else if f.fn = 5 then do
      let s ← regOfBits f.d
      zeroField f.a
      zeroField f.b
      .ok (.sfree g s)
    else if f.fn = 6 then do
      let s ← regOfBits f.d
      let a ← Src.ofBits f.a
      zeroField f.b
      .ok (.sbind g s a)
    else if f.fn = 7 then do
      let s ← regOfBits f.d
      let a ← Src.ofBits f.a
      let b ← Src.ofBits f.b
      .ok (.stag g s a b)
    else .error .reservedFn
  | 0x2C => do
      let l : BitVec 10 := f.d ++ f.a.extractLsb' 2 4
      let x := RFile.ofCode (f.a.extractLsb' 0 2)
      let d := f.b.extractLsb' 1 5
      let b : BitVec 5 := f.b.extractLsb' 0 1 ++ f.fn
      .ok (.fview g l x d b)
  | 0x2D => do
      let l : BitVec 10 := f.d ++ f.a.extractLsb' 2 4
      let x := RFile.ofCode (f.a.extractLsb' 0 2)
      let d := f.b.extractLsb' 1 5
      let b : BitVec 5 := f.b.extractLsb' 0 1 ++ f.fn
      .ok (.fseq g l x d b)
  | 0x2E => do
      let l : BitVec 10 := f.d ++ f.a.extractLsb' 2 4
      let x := RFile.ofCode (f.a.extractLsb' 0 2)
      let d := f.b.extractLsb' 1 5
      let b : BitVec 5 := f.b.extractLsb' 0 1 ++ f.fn
      .ok (.fprobe g l x d b)
  | 0x30 =>
    if f.fn = 0 then do
      let t ← partOfBits f.d
      let a ← Src.ofBits f.a
      let b ← Src.ofBits f.b
      .ok (.fldk g t a b)
    else if f.fn = 1 then do
      let t ← partOfBits f.d
      let a ← Src.ofBits f.a
      let b ← Src.ofBits f.b
      .ok (.fapp g t a b)
    else if f.fn = 2 then do
      zeroField f.d
      let a ← Src.ofBits f.a
      let b ← Src.ofBits f.b
      .ok (.ffork g a b)
    else if f.fn = 3 then do
      zeroField f.d
      let a ← Src.ofBits f.a
      let b ← Src.ofBits f.b
      .ok (.ftrunc g a b)
    else if f.fn = 4 then do
      zeroField f.d
      let a ← Src.ofBits f.a
      let b ← Src.ofBits f.b
      .ok (.ffree g a b)
    else if f.fn = 5 then do
      zeroField f.d
      let a ← Src.ofBits f.a
      let b ← Src.ofBits f.b
      .ok (.fhint g a b)
    else .error .reservedFn
  | _ => .error .reservedOpcode

/-- The E slot's opcode map (Table 3.10). -/
def decodeE (g : Guard) (f : Fields) : Except Reject Instr :=
  match f.op.toNat with
  | 0x01 => do
      zeroField f.d
      let a ← Src.ofBits f.a
      let r ← EReg.ofNumber (f.b ++ f.fn)
      .ok (.ewr g a r)
  | 0x02 => do
      let d ← Dst.ofBits f.d
      zeroField f.a
      let r ← EReg.ofNumber (f.b ++ f.fn)
      .ok (.erd g d r)
  | 0x03 =>
    if f.fn = 0 then do
      let d ← Dst.ofBits f.d
      zeroField f.a
      zeroField f.b
      .ok (.estat g d)
    else .error .reservedFn
  | 0x04 =>
    if f.fn = 0 then do
      zeroField f.d
      zeroField f.a
      zeroField f.b
      .ok (.ego g)
    else if f.fn = 1 then do
      zeroField f.d
      zeroField f.a
      zeroField f.b
      .ok (.eabort g)
    else if f.fn = 2 then do
      zeroField f.d
      zeroField f.a
      zeroField f.b
      .ok (.mloadw g)
    else if f.fn = 3 then do
      zeroField f.d
      zeroField f.a
      zeroField f.b
      .ok (.mmac g)
    else if f.fn = 4 then do
      zeroField f.d
      zeroField f.a
      zeroField f.b
      .ok (.mdrain g)
    else .error .reservedFn
  | 0x05 =>
    if f.fn = 0 then do
      zeroField f.d
      let q ← quadOfBits f.a
      zeroField f.b
      .ok (.cpy g q)
    else .error .reservedFn
  | 0x06 =>
    if f.fn = 0 then do
      let d ← Dst.ofBits f.d
      zeroField f.a
      zeroField f.b
      .ok (.cpyq g d)
    else .error .reservedFn
  | 0x08 => do
      zeroField f.d
      let a ← Src.ofBits f.a
      let k ← baseOnly f.b f.fn
      .ok (.binit g a k)
  | 0x09 => do
      zeroField f.d
      let a ← Src.ofBits f.a
      let k ← baseOnly f.b f.fn
      .ok (.barr g a k)
  | 0x0A => do
      zeroField f.d
      let a ← Src.ofBits f.a
      let k ← baseOnly f.b f.fn
      .ok (.badd g a k)
  | 0x0B => do
      zeroField f.d
      zeroField f.a
      let k ← baseOnly f.b f.fn
      .ok (.bwait g k)
  | 0x0C => do
      zeroField f.d
      zeroField f.a
      let h ← groupHeight f.b f.fn
      let w := f.fn.extractLsb' 0 3
      .ok (.gbar g h w)
  | 0x10 =>
    if f.fn = 0 then do
      let d ← Dst.ofBits f.d
      let q ← pairOfBits f.a
      let b ← Src.ofBits f.b
      .ok (.tfork g d q b)
    else if f.fn = 1 then do
      zeroField f.d
      zeroField f.a
      zeroField f.b
      .ok (.tjoin g)
    else if f.fn = 2 then do
      zeroField f.d
      let a ← Src.ofBits f.a
      zeroField f.b
      .ok (.tcancel g a)
    else if f.fn = 3 then do
      zeroField f.d
      zeroField f.a
      zeroField f.b
      .ok (.texit g)
    else if f.fn = 4 then do
      zeroField f.d
      zeroField f.a
      zeroField f.b
      .ok (.tyield g)
    else .error .reservedFn
  | 0x14 => do
      let l : BitVec 10 := f.d ++ f.a.extractLsb' 2 4
      let m ← LockMode.ofBits (f.a.extractLsb' 0 2 ++ f.b.extractLsb' 5 1)
      let d := f.b.extractLsb' 1 4
      let s ← Src.ofElBits (f.b.extractLsb' 0 1 ++ f.fn)
      .ok (.lktry g l m d s)
  | 0x15 => do
      let l : BitVec 10 := f.d ++ f.a.extractLsb' 2 4
      zeroMode (f.a.extractLsb' 0 2 ++ f.b.extractLsb' 5 1)
      let d := f.b.extractLsb' 1 4
      let s ← Src.ofElBits (f.b.extractLsb' 0 1 ++ f.fn)
      .ok (.lkqry g l d s)
  | 0x16 =>
    if f.fn = 0 then do
      let d ← Dst.ofBits f.d
      let a ← Src.ofBits f.a
      let m ← lockModeOfField f.b
      .ok (.lkacq g d a m)
    else if f.fn = 1 then do
      let d ← Dst.ofBits f.d
      let a ← Src.ofBits f.a
      let m ← lockModeOfField f.b
      .ok (.lkupg g d a m)
    else if f.fn = 2 then do
      zeroField f.d
      let a ← Src.ofBits f.a
      zeroField f.b
      .ok (.lkrel g a)
    else if f.fn = 3 then do
      zeroField f.d
      zeroField f.a
      zeroField f.b
      .ok (.lkrela g)
    else if f.fn = 4 then do
      zeroField f.d
      let a ← Src.ofBits f.a
      zeroField f.b
      .ok (.lkmat g a)
    else .error .reservedFn
  | 0x18 =>
    if f.fn = 0 then do
      let k ← bankOfBits f.d
      let a ← Src.ofBits f.a
      let b ← Src.ofBits f.b
      .ok (.cbwr g k a b)
    else if f.fn = 1 then do
      let k ← bankOfBits f.d
      let a ← Src.ofBits f.a
      let b ← Src.ofBits f.b
      .ok (.cbwrNw g k a b)
    else if f.fn = 2 then do
      let k ← bankOfBits f.d
      let a ← Src.ofBits f.a
      let b ← Src.ofBits f.b
      .ok (.cbld g k a b)
    else if f.fn = 3 then do
      let k ← bankOfBits f.d
      let a ← Src.ofBits f.a
      zeroField f.b
      .ok (.cbinv g k a)
    else .error .reservedFn
  | _ => .error .reservedOpcode

/-- The instruction a word holds in a slot, from its fields. OP = 0 is `NOP` only when every bit is zero (R90). -/
def decodeFields (sl : Slot) (f : Fields) : Except Reject Instr :=
  if f = ⟨0, false, 0, 0, 0, 0, 0⟩ then .ok .nop
  else
    let g : Guard := ⟨f.n, f.p⟩
    let r := match sl with
      | .a => decodeA g f
      | .v => decodeV g f
      | .m => decodeM g f
      | .e => decodeE g f
    match r with
    | .error e => .error e
    | .ok i => if i.wf then .ok i else .error .illFormed

/-- The instruction a 32-bit word holds in a slot (R102 within the word's own bits). -/
def decodeWord (sl : Slot) (w : BitVec 32) : Except Reject Instr := decodeFields sl (splitWord w)

/-- The slots a word is an instruction in, in slot order. The four opcode maps overlap: a word alone does not say its
slot (R88), so more than one may answer. -/
def slotsOf (w : BitVec 32) : List Slot :=
  [Slot.a, .v, .m, .e].filter fun sl => match decodeWord sl w with | .ok _ => true | .error _ => false

/-- The slot the host's word is taken to stand in: the lowest slot whose map has it (log entry 5). -/
def slotOfWord (w : BitVec 32) : Option Slot := (slotsOf w).head?

/-- The instruction the decoder reads from a table word: a slot word of 32 bits, in the lowest slot whose opcode map has
it. -/
def decodeTableWord (nbits w : Nat) : Option Instr :=
  if nbits = 32 ∧ w < 2 ^ 32 then
    let x := BitVec.ofNat 32 w
    match slotOfWord x with
    | none => none
    | some sl => match decodeWord sl x with
      | .ok i => some i
      | .error _ => none
  else none

/-- The fields of an instruction in its slot (Tables 3.7 to 3.10); a step has none. -/
def Instr.toFields : Instr → Option (Slot × Fields)
  | .nop => some (.a, ⟨0, false, 0, 0, 0, 0, 0⟩)
  | .add g d a b => some (.a, ⟨0x01, g.inv, g.p, d.bits, a.bits, b.bits, 0⟩)
  | .sub g d a b => some (.a, ⟨0x01, g.inv, g.p, d.bits, a.bits, b.bits, 1⟩)
  | .and g d a b => some (.a, ⟨0x01, g.inv, g.p, d.bits, a.bits, b.bits, 2⟩)
  | .or g d a b => some (.a, ⟨0x01, g.inv, g.p, d.bits, a.bits, b.bits, 3⟩)
  | .xor g d a b => some (.a, ⟨0x01, g.inv, g.p, d.bits, a.bits, b.bits, 4⟩)
  | .andn g d a b => some (.a, ⟨0x01, g.inv, g.p, d.bits, a.bits, b.bits, 5⟩)
  | .shl g d a b => some (.a, ⟨0x01, g.inv, g.p, d.bits, a.bits, b.bits, 6⟩)
  | .shr g d a b => some (.a, ⟨0x01, g.inv, g.p, d.bits, a.bits, b.bits, 7⟩)
  | .sar g d a b => some (.a, ⟨0x01, g.inv, g.p, d.bits, a.bits, b.bits, 8⟩)
  | .rol g d a b => some (.a, ⟨0x01, g.inv, g.p, d.bits, a.bits, b.bits, 9⟩)
  | .min g d a b => some (.a, ⟨0x01, g.inv, g.p, d.bits, a.bits, b.bits, 10⟩)
  | .max g d a b => some (.a, ⟨0x01, g.inv, g.p, d.bits, a.bits, b.bits, 11⟩)
  | .minu g d a b => some (.a, ⟨0x01, g.inv, g.p, d.bits, a.bits, b.bits, 12⟩)
  | .maxu g d a b => some (.a, ⟨0x01, g.inv, g.p, d.bits, a.bits, b.bits, 13⟩)
  | .addx g d a b => some (.a, ⟨0x01, g.inv, g.p, d.bits, a.bits, b.bits, 14⟩)
  | .clz g d a => some (.a, ⟨0x02, g.inv, g.p, d.bits, a.bits, 0, 0⟩)
  | .ctz g d a => some (.a, ⟨0x02, g.inv, g.p, d.bits, a.bits, 0, 1⟩)
  | .popc g d a => some (.a, ⟨0x02, g.inv, g.p, d.bits, a.bits, 0, 2⟩)
  | .brev g d a => some (.a, ⟨0x02, g.inv, g.p, d.bits, a.bits, 0, 3⟩)
  | .bswap g d a => some (.a, ⟨0x02, g.inv, g.p, d.bits, a.bits, 0, 4⟩)
  | .sext g d a w => some (.a, ⟨0x02, g.inv, g.p, d.bits, a.bits, w.bits, 5⟩)
  | .zext g d a w => some (.a, ⟨0x02, g.inv, g.p, d.bits, a.bits, w.bits, 6⟩)
  | .mov g d a => some (.a, ⟨0x02, g.inv, g.p, d.bits, a.bits, 0, 7⟩)
  | .mul g d a b => some (.a, ⟨0x03, g.inv, g.p, d.bits, a.bits, b.bits, 0⟩)
  | .mulh g d a b => some (.a, ⟨0x03, g.inv, g.p, d.bits, a.bits, b.bits, 1⟩)
  | .mulhu g d a b => some (.a, ⟨0x03, g.inv, g.p, d.bits, a.bits, b.bits, 2⟩)
  | .div g d a b => some (.a, ⟨0x03, g.inv, g.p, d.bits, a.bits, b.bits, 4⟩)
  | .divu g d a b => some (.a, ⟨0x03, g.inv, g.p, d.bits, a.bits, b.bits, 5⟩)
  | .rem g d a b => some (.a, ⟨0x03, g.inv, g.p, d.bits, a.bits, b.bits, 6⟩)
  | .remu g d a b => some (.a, ⟨0x03, g.inv, g.p, d.bits, a.bits, b.bits, 7⟩)
  | .extr g d a b => some (.a, ⟨0x04, g.inv, g.p, d.bits, a.bits, b.bits, 0⟩)
  | .insr g d a b => some (.a, ⟨0x04, g.inv, g.p, regBits d, a.bits, b.bits, 1⟩)
  | .sel g d a b v k => some (.a, ⟨0x05, g.inv, g.p, d.bits, a.bits, b.bits, BitVec.ofBool v ++ k⟩)
  | .cmp g c q a b => some (.a, ⟨0x06, g.inv, g.p, c.bits ++ q, a.bits, b.bits, 0⟩)
  | .pand g d a b => some (.a, ⟨0x07, g.inv, g.p, lowBits d, lowBits a, lowBits b, 0⟩)
  | .por g d a b => some (.a, ⟨0x07, g.inv, g.p, lowBits d, lowBits a, lowBits b, 1⟩)
  | .pnot g d a => some (.a, ⟨0x07, g.inv, g.p, lowBits d, lowBits a, 0, 2⟩)
  | .addi g d a i => some (.a, ⟨0x08, g.inv, g.p, d.bits, a.bits, i.extractLsb' 4 6, i.extractLsb' 0 4⟩)
  | .subi g d a i => some (.a, ⟨0x09, g.inv, g.p, d.bits, a.bits, i.extractLsb' 4 6, i.extractLsb' 0 4⟩)
  | .andi g d a i => some (.a, ⟨0x0A, g.inv, g.p, d.bits, a.bits, i.extractLsb' 4 6, i.extractLsb' 0 4⟩)
  | .ori g d a i => some (.a, ⟨0x0B, g.inv, g.p, d.bits, a.bits, i.extractLsb' 4 6, i.extractLsb' 0 4⟩)
  | .xori g d a i => some (.a, ⟨0x0C, g.inv, g.p, d.bits, a.bits, i.extractLsb' 4 6, i.extractLsb' 0 4⟩)
  | .shli g d a i => some (.a, ⟨0x0D, g.inv, g.p, d.bits, a.bits, (0 : BitVec 4) ++ i.extractLsb' 4 2, i.extractLsb' 0 4⟩)
  | .shri g d a i => some (.a, ⟨0x0E, g.inv, g.p, d.bits, a.bits, (0 : BitVec 4) ++ i.extractLsb' 4 2, i.extractLsb' 0 4⟩)
  | .sari g d a i => some (.a, ⟨0x0F, g.inv, g.p, d.bits, a.bits, (0 : BitVec 4) ++ i.extractLsb' 4 2, i.extractLsb' 0 4⟩)
  | .cmpi g c q a i => some (.a, ⟨0x10, g.inv, g.p, c.bits ++ q, a.bits, i.extractLsb' 4 6, i.extractLsb' 0 4⟩)
  | .movi g d i => some (.a, ⟨0x11, g.inv, g.p, d.bits, i.extractLsb' 10 6, i.extractLsb' 4 6, i.extractLsb' 0 4⟩)
  | .movh1 g d i => some (.a, ⟨0x12, g.inv, g.p, regBits d, i.extractLsb' 10 6, i.extractLsb' 4 6, i.extractLsb' 0 4⟩)
  | .movh2 g d i => some (.a, ⟨0x13, g.inv, g.p, regBits d, i.extractLsb' 10 6, i.extractLsb' 4 6, i.extractLsb' 0 4⟩)
  | .movh3 g d i => some (.a, ⟨0x14, g.inv, g.p, regBits d, i.extractLsb' 10 6, i.extractLsb' 4 6, i.extractLsb' 0 4⟩)
  | .br g i => some (.a, ⟨0x18, g.inv, g.p, 0, i.extractLsb' 10 6, i.extractLsb' 4 6, i.extractLsb' 0 4⟩)
  | .jmp g a => some (.a, ⟨0x19, g.inv, g.p, 0, a.bits, 0, 0⟩)
  | .call g d i => some (.a, ⟨0x1A, g.inv, g.p, d.bits, i.extractLsb' 10 6, i.extractLsb' 4 6, i.extractLsb' 0 4⟩)
  | .callr g d a => some (.a, ⟨0x1B, g.inv, g.p, d.bits, a.bits, 0, 0⟩)
  | .ret g a => some (.a, ⟨0x1C, g.inv, g.p, 0, a.bits, 0, 0⟩)
  | .loopi g l c => some (.a, ⟨0x1D, g.inv, g.p, l.extractLsb' 6 6, l.extractLsb' 0 6, c.extractLsb' 4 6, c.extractLsb' 0 4⟩)
  | .loop g l a => some (.a, ⟨0x1E, g.inv, g.p, l.extractLsb' 6 6, l.extractLsb' 0 6, a.bits, 0⟩)
  | .mtcr g a r => some (.a, ⟨0x20, g.inv, g.p, 0, a.bits, r.number.extractLsb' 4 6, r.number.extractLsb' 0 4⟩)
  | .mfcr g d r => some (.a, ⟨0x21, g.inv, g.p, d.bits, 0, r.number.extractLsb' 4 6, r.number.extractLsb' 0 4⟩)
  | .trap g k => some (.a, ⟨0x22, g.inv, g.p, 0, 0, 0, k⟩)
  | .tret g => some (.a, ⟨0x22, g.inv, g.p, 0, 4, 0, 0⟩)
  | .ifence g => some (.a, ⟨0x22, g.inv, g.p, 0, 8, 0, 0⟩)
  | .dchk g a b => some (.a, ⟨0x23, g.inv, g.p, 0, a.bits, b.bits, 0⟩)
  | .xmov g d a k e s => some (.a, ⟨0x24, g.inv, g.p, regBits d, a.bits, (0 : BitVec 2) ++ k, e.code ++ s.code⟩)
  | .vadd g d a b w s => some (.v, ⟨0x01, g.inv, g.p, d.bits, a.bits, b.bits, w.code ++ s.code⟩)
  | .vsub g d a b w s => some (.v, ⟨0x02, g.inv, g.p, d.bits, a.bits, b.bits, w.code ++ s.code⟩)
  | .vmul g d a b w => some (.v, ⟨0x03, g.inv, g.p, d.bits, a.bits, b.bits, w.code ++ (0 : BitVec 2)⟩)
  | .vmulh g d a b w => some (.v, ⟨0x03, g.inv, g.p, d.bits, a.bits, b.bits, w.code ++ (1 : BitVec 2)⟩)
  | .vmulhU g d a b w => some (.v, ⟨0x03, g.inv, g.p, d.bits, a.bits, b.bits, w.code ++ (2 : BitVec 2)⟩)
  | .vand g d a b => some (.v, ⟨0x04, g.inv, g.p, d.bits, a.bits, b.bits, 0⟩)
  | .vor g d a b => some (.v, ⟨0x04, g.inv, g.p, d.bits, a.bits, b.bits, 1⟩)
  | .vxor g d a b => some (.v, ⟨0x04, g.inv, g.p, d.bits, a.bits, b.bits, 2⟩)
  | .vshl g d a b w => some (.v, ⟨0x05, g.inv, g.p, d.bits, a.bits, b.bits, w.code ++ (0 : BitVec 2)⟩)
  | .vshr g d a b w => some (.v, ⟨0x05, g.inv, g.p, d.bits, a.bits, b.bits, w.code ++ (1 : BitVec 2)⟩)
  | .vsar g d a b w => some (.v, ⟨0x05, g.inv, g.p, d.bits, a.bits, b.bits, w.code ++ (2 : BitVec 2)⟩)
  | .vshlImm g d a w c => some (.v, ⟨0x06, g.inv, g.p, d.bits, a.bits, w.code ++ (0 : BitVec 2) ++ c.extractLsb' 4 2, c.extractLsb' 0 4⟩)
  | .vshrImm g d a w c => some (.v, ⟨0x06, g.inv, g.p, d.bits, a.bits, w.code ++ (1 : BitVec 2) ++ c.extractLsb' 4 2, c.extractLsb' 0 4⟩)
  | .vsarImm g d a w c => some (.v, ⟨0x06, g.inv, g.p, d.bits, a.bits, w.code ++ (2 : BitVec 2) ++ c.extractLsb' 4 2, c.extractLsb' 0 4⟩)
  | .vmin g d a b w => some (.v, ⟨0x07, g.inv, g.p, d.bits, a.bits, b.bits, w.code ++ (0 : BitVec 2)⟩)
  | .vmax g d a b w => some (.v, ⟨0x07, g.inv, g.p, d.bits, a.bits, b.bits, w.code ++ (1 : BitVec 2)⟩)
  | .vminU g d a b w => some (.v, ⟨0x07, g.inv, g.p, d.bits, a.bits, b.bits, w.code ++ (2 : BitVec 2)⟩)
  | .vmaxU g d a b w => some (.v, ⟨0x07, g.inv, g.p, d.bits, a.bits, b.bits, w.code ++ (3 : BitVec 2)⟩)
  | .vabs g d a w => some (.v, ⟨0x08, g.inv, g.p, d.bits, a.bits, 0, w.code ++ (0 : BitVec 2)⟩)
  | .vneg g d a w => some (.v, ⟨0x08, g.inv, g.p, d.bits, a.bits, 0, w.code ++ (1 : BitVec 2)⟩)
  | .vcmp g c q a b w => some (.v, ⟨0x09, g.inv, g.p, c.bits ++ q, a.bits, b.bits, w.code ++ c.unsignedCode⟩)
  | .vsel g d a b k => some (.v, ⟨0x0A, g.inv, g.p, d.bits, a.bits, b.bits, (0 : BitVec 1) ++ k⟩)
  | .vsplatImm g d w i => some (.v, ⟨0x0B, g.inv, g.p, d.bits, (0 : BitVec 4) ++ w.code, i.extractLsb' 4 6, i.extractLsb' 0 4⟩)
  | .vsplatLane g d a l w => some (.v, ⟨0x0C, g.inv, g.p, d.bits, a.bits, l.extractLsb' 0 6, w.code ++ l.extractLsb' 6 2⟩)
  | .vperm g d a b w => some (.v, ⟨0x0D, g.inv, g.p, d.bits, a.bits, b.bits, w.code ++ (0 : BitVec 2)⟩)
  | .vrot g d a w c => some (.v, ⟨0x0E, g.inv, g.p, d.bits, a.bits, w.code ++ c.extractLsb' 4 4, c.extractLsb' 0 4⟩)
  | .vslide g d a w x c => some (.v, ⟨0x0F, g.inv, g.p, d.bits, a.bits, w.code ++ BitVec.ofBool x ++ c.extractLsb' 4 3, c.extractLsb' 0 4⟩)
  | .vcompress g d a w => some (.v, ⟨0x10, g.inv, g.p, d.bits, a.bits, 0, w.code ++ (0 : BitVec 2)⟩)
  | .vexpand g d a w => some (.v, ⟨0x11, g.inv, g.p, d.bits, a.bits, 0, w.code ++ (0 : BitVec 2)⟩)
  | .vredsum g d a w => some (.v, ⟨0x12, g.inv, g.p, d.bits, a.bits, 0, w.code ++ (0 : BitVec 2)⟩)
  | .vredmax g d a w => some (.v, ⟨0x12, g.inv, g.p, d.bits, a.bits, 0, w.code ++ (1 : BitVec 2)⟩)
  | .vredmin g d a w => some (.v, ⟨0x12, g.inv, g.p, d.bits, a.bits, 0, w.code ++ (2 : BitVec 2)⟩)
  | .vredsumF g d a t => some (.v, ⟨0x13, g.inv, g.p, d.bits, a.bits, 0, t.code ++ (0 : BitVec 2)⟩)
  | .vredmaxF g d a t => some (.v, ⟨0x13, g.inv, g.p, d.bits, a.bits, 0, t.code ++ (1 : BitVec 2)⟩)
  | .vredminF g d a t => some (.v, ⟨0x13, g.inv, g.p, d.bits, a.bits, 0, t.code ++ (2 : BitVec 2)⟩)
  | .vscanF g d a t => some (.v, ⟨0x14, g.inv, g.p, d.bits, a.bits, 0, t.code ++ (0 : BitVec 2)⟩)
  | .vscanI g d a w => some (.v, ⟨0x14, g.inv, g.p, d.bits, a.bits, 0, w.code ++ (1 : BitVec 2)⟩)
  | .vfadd g d a b t => some (.v, ⟨0x18, g.inv, g.p, d.bits, a.bits, b.bits, t.code ++ (0 : BitVec 2)⟩)
  | .vfsub g d a b t => some (.v, ⟨0x18, g.inv, g.p, d.bits, a.bits, b.bits, t.code ++ (1 : BitVec 2)⟩)
  | .vfmul g d a b t => some (.v, ⟨0x18, g.inv, g.p, d.bits, a.bits, b.bits, t.code ++ (2 : BitVec 2)⟩)
  | .vfma g d a b t => some (.v, ⟨0x19, g.inv, g.p, regBits d, a.bits, b.bits, t.code ++ (0 : BitVec 2)⟩)
  | .vfms g d a b t => some (.v, ⟨0x19, g.inv, g.p, regBits d, a.bits, b.bits, t.code ++ (1 : BitVec 2)⟩)
  | .vfnma g d a b t => some (.v, ⟨0x19, g.inv, g.p, regBits d, a.bits, b.bits, t.code ++ (2 : BitVec 2)⟩)
  | .vfmax g d a b t => some (.v, ⟨0x1A, g.inv, g.p, d.bits, a.bits, b.bits, t.code ++ (0 : BitVec 2)⟩)
  | .vfmin g d a b t => some (.v, ⟨0x1A, g.inv, g.p, d.bits, a.bits, b.bits, t.code ++ (1 : BitVec 2)⟩)
  | .vfscale g d a b t => some (.v, ⟨0x1A, g.inv, g.p, d.bits, a.bits, b.bits, t.code ++ (2 : BitVec 2)⟩)
  | .vfabs g d a t => some (.v, ⟨0x1B, g.inv, g.p, d.bits, a.bits, 0, t.code ++ (0 : BitVec 2)⟩)
  | .vfneg g d a t => some (.v, ⟨0x1B, g.inv, g.p, d.bits, a.bits, 0, t.code ++ (1 : BitVec 2)⟩)
  | .vfclass g d a t => some (.v, ⟨0x1B, g.inv, g.p, d.bits, a.bits, 0, t.code ++ (2 : BitVec 2)⟩)
  | .vfcmp g c q a b t => some (.v, ⟨0x1C, g.inv, g.p, c.bits ++ q, a.bits, b.bits, t.code ++ (0 : BitVec 2)⟩)
  | .vfrcp g d a t => some (.v, ⟨0x1D, g.inv, g.p, d.bits, a.bits, 0, t.code ++ (0 : BitVec 2)⟩)
  | .vfrsq g d a t => some (.v, ⟨0x1D, g.inv, g.p, d.bits, a.bits, 0, t.code ++ (1 : BitVec 2)⟩)
  | .vfexp2 g d a t => some (.v, ⟨0x1D, g.inv, g.p, d.bits, a.bits, 0, t.code ++ (2 : BitVec 2)⟩)
  | .vflog2 g d a t => some (.v, ⟨0x1D, g.inv, g.p, d.bits, a.bits, 0, t.code ++ (3 : BitVec 2)⟩)
  | .vrope g d a b => some (.v, ⟨0x1E, g.inv, g.p, d.bits, a.bits, b.bits, 0⟩)
  | .vcvt g d a o m => some (.v, ⟨0x20, g.inv, g.p, d.bits, a.bits, o ++ m.extractLsb' 4 1, m.extractLsb' 0 4⟩)
  | .vqblk g d a o m => some (.v, ⟨0x21, g.inv, g.p, d.bits, a.bits, o ++ m.extractLsb' 4 1, m.extractLsb' 0 4⟩)
  | .vdqblk g d a o m => some (.v, ⟨0x22, g.inv, g.p, d.bits, a.bits, o ++ m.extractLsb' 4 1, m.extractLsb' 0 4⟩)
  | .vcbx g d a w k => some (.v, ⟨0x23, g.inv, g.p, d.bits, a.bits, 0, w.code ++ k⟩)
  | .vcbq g d a t k => some (.v, ⟨0x24, g.inv, g.p, d.bits, a.bits, 0, t.code ++ k⟩)
  | .vpack g d a c => some (.v, ⟨0x25, g.inv, g.p, d.bits, a.bits, 0, c⟩)
  | .vunpack g d a c => some (.v, ⟨0x26, g.inv, g.p, d.bits, a.bits, 0, c⟩)
  | .vrand g d => some (.v, ⟨0x27, g.inv, g.p, d.bits, 0, 0, 0⟩)
  | .kand g d a b => some (.v, ⟨0x28, g.inv, g.p, lowBits d, lowBits a, lowBits b, 0⟩)
  | .kor g d a b => some (.v, ⟨0x28, g.inv, g.p, lowBits d, lowBits a, lowBits b, 1⟩)
  | .knot g d a => some (.v, ⟨0x28, g.inv, g.p, lowBits d, lowBits a, 0, 2⟩)
  | .kmov g d a => some (.v, ⟨0x28, g.inv, g.p, lowBits d, lowBits a, 0, 3⟩)
  | .vdchk g a b => some (.v, ⟨0x29, g.inv, g.p, 0, a.bits, b.bits, 0⟩)
  | .ldB g l x d b => some (.m, ⟨0x01, g.inv, g.p, l.extractLsb' 4 6, l.extractLsb' 0 4 ++ x.code, d ++ b.extractLsb' 4 1, b.extractLsb' 0 4⟩)
  | .ldH g l x d b => some (.m, ⟨0x02, g.inv, g.p, l.extractLsb' 4 6, l.extractLsb' 0 4 ++ x.code, d ++ b.extractLsb' 4 1, b.extractLsb' 0 4⟩)
  | .ldW g l x d b => some (.m, ⟨0x03, g.inv, g.p, l.extractLsb' 4 6, l.extractLsb' 0 4 ++ x.code, d ++ b.extractLsb' 4 1, b.extractLsb' 0 4⟩)
  | .ldD g l x d b => some (.m, ⟨0x04, g.inv, g.p, l.extractLsb' 4 6, l.extractLsb' 0 4 ++ x.code, d ++ b.extractLsb' 4 1, b.extractLsb' 0 4⟩)
  | .ldBu g l x d b => some (.m, ⟨0x05, g.inv, g.p, l.extractLsb' 4 6, l.extractLsb' 0 4 ++ x.code, d ++ b.extractLsb' 4 1, b.extractLsb' 0 4⟩)
  | .ldHu g l x d b => some (.m, ⟨0x06, g.inv, g.p, l.extractLsb' 4 6, l.extractLsb' 0 4 ++ x.code, d ++ b.extractLsb' 4 1, b.extractLsb' 0 4⟩)
  | .ldWu g l x d b => some (.m, ⟨0x07, g.inv, g.p, l.extractLsb' 4 6, l.extractLsb' 0 4 ++ x.code, d ++ b.extractLsb' 4 1, b.extractLsb' 0 4⟩)
  | .ldv g l d b => some (.m, ⟨0x08, g.inv, g.p, l.extractLsb' 4 6, l.extractLsb' 0 4 ++ (1 : BitVec 2), d ++ b.extractLsb' 4 1, b.extractLsb' 0 4⟩)
  | .ldvs g l d b => some (.m, ⟨0x09, g.inv, g.p, l.extractLsb' 4 6, l.extractLsb' 0 4 ++ (1 : BitVec 2), d ++ b.extractLsb' 4 1, b.extractLsb' 0 4⟩)
  | .ldvg g l d b => some (.m, ⟨0x0A, g.inv, g.p, l.extractLsb' 4 6, l.extractLsb' 0 4 ++ (1 : BitVec 2), d ++ b.extractLsb' 4 1, b.extractLsb' 0 4⟩)
  | .atomW g l x d b => some (.m, ⟨0x0C, g.inv, g.p, l.extractLsb' 4 6, l.extractLsb' 0 4 ++ x.code, d ++ b.extractLsb' 4 1, b.extractLsb' 0 4⟩)
  | .atomD g l x d b => some (.m, ⟨0x0D, g.inv, g.p, l.extractLsb' 4 6, l.extractLsb' 0 4 ++ x.code, d ++ b.extractLsb' 4 1, b.extractLsb' 0 4⟩)
  | .atomCasW g l x d b => some (.m, ⟨0x0E, g.inv, g.p, l.extractLsb' 4 6, l.extractLsb' 0 4 ++ x.code, d ++ b.extractLsb' 4 1, b.extractLsb' 0 4⟩)
  | .atomCasD g l x d b => some (.m, ⟨0x0F, g.inv, g.p, l.extractLsb' 4 6, l.extractLsb' 0 4 ++ x.code, d ++ b.extractLsb' 4 1, b.extractLsb' 0 4⟩)
  | .redW g b => some (.m, ⟨0x10, g.inv, g.p, 0, 0, (0 : BitVec 5) ++ b.extractLsb' 4 1, b.extractLsb' 0 4⟩)
  | .redD g b => some (.m, ⟨0x11, g.inv, g.p, 0, 0, (0 : BitVec 5) ++ b.extractLsb' 4 1, b.extractLsb' 0 4⟩)
  | .stB g d b => some (.m, ⟨0x14, g.inv, g.p, 0, 2, d ++ b.extractLsb' 4 1, b.extractLsb' 0 4⟩)
  | .stH g d b => some (.m, ⟨0x15, g.inv, g.p, 0, 2, d ++ b.extractLsb' 4 1, b.extractLsb' 0 4⟩)
  | .stW g d b => some (.m, ⟨0x16, g.inv, g.p, 0, 2, d ++ b.extractLsb' 4 1, b.extractLsb' 0 4⟩)
  | .stD g d b => some (.m, ⟨0x17, g.inv, g.p, 0, 2, d ++ b.extractLsb' 4 1, b.extractLsb' 0 4⟩)
  | .stv g d b => some (.m, ⟨0x18, g.inv, g.p, 0, 1, d ++ b.extractLsb' 4 1, b.extractLsb' 0 4⟩)
  | .stvs g d b => some (.m, ⟨0x19, g.inv, g.p, 0, 1, d ++ b.extractLsb' 4 1, b.extractLsb' 0 4⟩)
  | .stvx g d b => some (.m, ⟨0x1A, g.inv, g.p, 0, 1, d ++ b.extractLsb' 4 1, b.extractLsb' 0 4⟩)
  | .ldsp g d i => some (.m, ⟨0x1C, g.inv, g.p, d.bits, 0, i.extractLsb' 4 6, i.extractLsb' 0 4⟩)
  | .stsp g a i => some (.m, ⟨0x1D, g.inv, g.p, 0, a.bits, i.extractLsb' 4 6, i.extractLsb' 0 4⟩)
  | .mark g => some (.m, ⟨0x20, g.inv, g.p, 0, 0, 0, 0⟩)
  | .fence g s => some (.m, ⟨0x21, g.inv, g.p, 0, 0, 0, s.bits⟩)
  | .shdr g l x d b => some (.m, ⟨0x24, g.inv, g.p, l.extractLsb' 4 6, l.extractLsb' 0 4 ++ x.code, d ++ b.extractLsb' 4 1, b.extractLsb' 0 4⟩)
  | .srd g l x d b => some (.m, ⟨0x25, g.inv, g.p, l.extractLsb' 4 6, l.extractLsb' 0 4 ++ x.code, d ++ b.extractLsb' 4 1, b.extractLsb' 0 4⟩)
  | .swait g s => some (.m, ⟨0x28, g.inv, g.p, regBits s, 0, 0, 0⟩)
  | .sdone g s => some (.m, ⟨0x28, g.inv, g.p, regBits s, 0, 0, 1⟩)
  | .sopen g s => some (.m, ⟨0x28, g.inv, g.p, regBits s, 0, 0, 2⟩)
  | .swr g s a b => some (.m, ⟨0x28, g.inv, g.p, regBits s, a.bits, b.bits, 3⟩)
  | .sclose g s a => some (.m, ⟨0x28, g.inv, g.p, regBits s, a.bits, 0, 4⟩)
  | .sfree g s => some (.m, ⟨0x28, g.inv, g.p, regBits s, 0, 0, 5⟩)
  | .sbind g s a => some (.m, ⟨0x28, g.inv, g.p, regBits s, a.bits, 0, 6⟩)
  | .stag g s a b => some (.m, ⟨0x28, g.inv, g.p, regBits s, a.bits, b.bits, 7⟩)
  | .fview g l x d b => some (.m, ⟨0x2C, g.inv, g.p, l.extractLsb' 4 6, l.extractLsb' 0 4 ++ x.code, d ++ b.extractLsb' 4 1, b.extractLsb' 0 4⟩)
  | .fseq g l x d b => some (.m, ⟨0x2D, g.inv, g.p, l.extractLsb' 4 6, l.extractLsb' 0 4 ++ x.code, d ++ b.extractLsb' 4 1, b.extractLsb' 0 4⟩)
  | .fprobe g l x d b => some (.m, ⟨0x2E, g.inv, g.p, l.extractLsb' 4 6, l.extractLsb' 0 4 ++ x.code, d ++ b.extractLsb' 4 1, b.extractLsb' 0 4⟩)
  | .fldk g t a b => some (.m, ⟨0x30, g.inv, g.p, (0 : BitVec 2) ++ t, a.bits, b.bits, 0⟩)
  | .fapp g t a b => some (.m, ⟨0x30, g.inv, g.p, (0 : BitVec 2) ++ t, a.bits, b.bits, 1⟩)
  | .ffork g a b => some (.m, ⟨0x30, g.inv, g.p, 0, a.bits, b.bits, 2⟩)
  | .ftrunc g a b => some (.m, ⟨0x30, g.inv, g.p, 0, a.bits, b.bits, 3⟩)
  | .ffree g a b => some (.m, ⟨0x30, g.inv, g.p, 0, a.bits, b.bits, 4⟩)
  | .fhint g a b => some (.m, ⟨0x30, g.inv, g.p, 0, a.bits, b.bits, 5⟩)
  | .ewr g a r => some (.e, ⟨0x01, g.inv, g.p, 0, a.bits, r.number.extractLsb' 4 6, r.number.extractLsb' 0 4⟩)
  | .erd g d r => some (.e, ⟨0x02, g.inv, g.p, d.bits, 0, r.number.extractLsb' 4 6, r.number.extractLsb' 0 4⟩)
  | .estat g d => some (.e, ⟨0x03, g.inv, g.p, d.bits, 0, 0, 0⟩)
  | .ego g => some (.e, ⟨0x04, g.inv, g.p, 0, 0, 0, 0⟩)
  | .eabort g => some (.e, ⟨0x04, g.inv, g.p, 0, 0, 0, 1⟩)
  | .mloadw g => some (.e, ⟨0x04, g.inv, g.p, 0, 0, 0, 2⟩)
  | .mmac g => some (.e, ⟨0x04, g.inv, g.p, 0, 0, 0, 3⟩)
  | .mdrain g => some (.e, ⟨0x04, g.inv, g.p, 0, 0, 0, 4⟩)
  | .cpy g q => some (.e, ⟨0x05, g.inv, g.p, 0, (0 : BitVec 2) ++ q ++ (0 : BitVec 2), 0, 0⟩)
  | .cpyq g d => some (.e, ⟨0x06, g.inv, g.p, d.bits, 0, 0, 0⟩)
  | .binit g a k => some (.e, ⟨0x08, g.inv, g.p, 0, a.bits, (0 : BitVec 5) ++ k.extractLsb' 4 1, k.extractLsb' 0 4⟩)
  | .barr g a k => some (.e, ⟨0x09, g.inv, g.p, 0, a.bits, (0 : BitVec 5) ++ k.extractLsb' 4 1, k.extractLsb' 0 4⟩)
  | .badd g a k => some (.e, ⟨0x0A, g.inv, g.p, 0, a.bits, (0 : BitVec 5) ++ k.extractLsb' 4 1, k.extractLsb' 0 4⟩)
  | .bwait g k => some (.e, ⟨0x0B, g.inv, g.p, 0, 0, (0 : BitVec 5) ++ k.extractLsb' 4 1, k.extractLsb' 0 4⟩)
  | .gbar g h w => some (.e, ⟨0x0C, g.inv, g.p, 0, 0, (0 : BitVec 4) ++ h.extractLsb' 1 2, h.extractLsb' 0 1 ++ w⟩)
  | .tfork g d q b => some (.e, ⟨0x10, g.inv, g.p, d.bits, (0 : BitVec 2) ++ q ++ (0 : BitVec 1), b.bits, 0⟩)
  | .tjoin g => some (.e, ⟨0x10, g.inv, g.p, 0, 0, 0, 1⟩)
  | .tcancel g a => some (.e, ⟨0x10, g.inv, g.p, 0, a.bits, 0, 2⟩)
  | .texit g => some (.e, ⟨0x10, g.inv, g.p, 0, 0, 0, 3⟩)
  | .tyield g => some (.e, ⟨0x10, g.inv, g.p, 0, 0, 0, 4⟩)
  | .lktry g l m d s => some (.e, ⟨0x14, g.inv, g.p, l.extractLsb' 4 6, l.extractLsb' 0 4 ++ m.bits.extractLsb' 1 2, m.bits.extractLsb' 0 1 ++ d ++ (s.elBits).extractLsb' 4 1, (s.elBits).extractLsb' 0 4⟩)
  | .lkqry g l d s => some (.e, ⟨0x15, g.inv, g.p, l.extractLsb' 4 6, l.extractLsb' 0 4 ++ (0 : BitVec 2), (0 : BitVec 1) ++ d ++ (s.elBits).extractLsb' 4 1, (s.elBits).extractLsb' 0 4⟩)
  | .lkacq g d a m => some (.e, ⟨0x16, g.inv, g.p, d.bits, a.bits, (0 : BitVec 3) ++ m.bits, 0⟩)
  | .lkupg g d a m => some (.e, ⟨0x16, g.inv, g.p, d.bits, a.bits, (0 : BitVec 3) ++ m.bits, 1⟩)
  | .lkrel g a => some (.e, ⟨0x16, g.inv, g.p, 0, a.bits, 0, 2⟩)
  | .lkrela g => some (.e, ⟨0x16, g.inv, g.p, 0, 0, 0, 3⟩)
  | .lkmat g a => some (.e, ⟨0x16, g.inv, g.p, 0, a.bits, 0, 4⟩)
  | .cbwr g k a b => some (.e, ⟨0x18, g.inv, g.p, (0 : BitVec 4) ++ k, a.bits, b.bits, 0⟩)
  | .cbwrNw g k a b => some (.e, ⟨0x18, g.inv, g.p, (0 : BitVec 4) ++ k, a.bits, b.bits, 1⟩)
  | .cbld g k a b => some (.e, ⟨0x18, g.inv, g.p, (0 : BitVec 4) ++ k, a.bits, b.bits, 2⟩)
  | .cbinv g k a => some (.e, ⟨0x18, g.inv, g.p, (0 : BitVec 4) ++ k, a.bits, 0, 3⟩)
  | .bundleIssue _ => none
  | .resultCompletion _ => none
  | .landingArrival _ _ => none
  | .landingWrite _ => none
  | .landingTimeout _ => none
  | .blockSwitch _ => none
  | .waitReady _ => none
  | .interruptPending _ _ => none
  | .trapEntry _ => none
  | .handlerEntry _ => none
  | .lateFault _ _ => none
  | .lostLanding _ _ => none
  | .returnBundleIssue _ => none
  | .packetFirstFlit _ _ => none
  | .packetReceived _ _ _ => none
  | .nextWrite _ _ _ => none
  | .creditArrival _ _ _ => none
  | .packetLaunch _ => none
  | .taskAdmission _ => none
  | .stealRound _ => none
  | .joinMessage _ _ => none
  | .queueIssue _ _ => none
  | .bankAccept _ => none
  | .barrApply _ => none
  | .cpyDispatch _ => none
  | .copyRow _ _ => none
  | .shadowSwapIn _ => none
  | .engineComplete _ => none
  | .foldDispatch _ => none
  | .foldRow _ _ => none
  | .foldWalk _ _ _ => none
  | .foldTransferComplete _ _ => none
  | .foldRecordOp _ _ => none
  | .pagePromotion _ _ => none
  | .pageMoveComplete _ _ => none
  | .woundDelivery _ _ => none
  | .woundReleaseTimeout _ => none
  | .crookUe _ _ => none
  | .pastureTick _ => none
  | .psctlSave _ _ => none
  | .psctlResumeInPlace _ _ => none
  | .psctlResumeFromTile _ _ => none
  | .preemptHalt _ => none
  | .saveComplete _ => none
  | .treeCancel _ _ => none
  | .droveLoad _ _ => none
  | .droveRemoval _ _ => none
  | .droveWithdrawal _ _ => none
  | .dgcmdLoad _ _ _ => none
  | .dgcmdSwitch _ _ => none
  | .dgcmdAbort _ _ => none
  | .dgcmdInvalid _ _ _ => none
  | .generationVerified _ _ => none
  | .generationDrained _ _ => none
  | .tcmdCancel _ _ => none
  | .swint _ _ => none
  | .mbin7Write _ _ => none
  | .mailboxAccess _ _ => none
  | .mailboxComplete _ => none
  | .qtailWrite _ _ _ => none
  | .qcfgWrite _ _ _ => none
  | .ingressRecord _ _ => none
  | .egressPacket _ _ => none
  | .cresync _ _ => none
  | .linkFlitReceive _ _ _ => none
  | .creditFlit _ _ => none
  | .remoteLoad _ => none
  | .remoteStore _ => none
  | .remoteAtom _ => none
  | .remoteAtomCas _ => none
  | .remoteRed _ => none
  | .remoteUnknownOperation _ => none
  | .remoteResponse _ => none
  | .crookAcquireMsg _ => none
  | .crookTryMsg _ => none
  | .crookUpgradeMsg _ => none
  | .crookReleaseMsg _ => none
  | .crookWithdrawMsg _ => none
  | .crookQueryMsg _ => none
  | .crookStatusMsg _ => none
  | .crookWoundMsg _ => none
  | .crookQueryResultMsg _ => none
  | .foldReleaseMsg _ => none
  | .foldFetchMsg _ => none
  | .foldOfferMsg _ => none
  | .foldAcceptMsg _ => none
  | .foldRefuseMsg _ => none
  | .foldPageDataMsg _ => none
  | .foldMoveCompleteMsg _ => none
  | .tickExchangeMsg _ _ => none
  | .holdMsg _ _ _ => none
  | .holdAnswerMsg _ _ _ _ => none
  | .holdEndMsg _ _ _ _ => none
  | .musterSegmentMsg _ _ _ => none
  | .membershipUpdateMsg _ _ _ => none
  | .movePointMsg _ _ => none
  | .correctedError _ _ _ => none
  | .uncorrectedError _ _ _ => none
  | .suspectReversion _ _ => none
  | .counterHourBucket _ => none
  | .backgroundScrub _ => none
  | .bankRetirement _ _ => none
  | .tileCoreRetirement _ => none
  | .laneRetirement _ _ => none
  | .bundleDown _ _ => none
  | .rascfgLock _ _ => none
  | .laneSilence _ => none
  | .transhumance _ _ => none
  | .boot _ _ => none
  | .recoveryImage _ _ => none
  | .attestationRequest _ _ => none
  | .attestationComplete _ => none
  | .throttleStep _ _ => none
  | .pwrcapWrite _ _ => none
  | .thermalTrip _ => none
  | .powerLoss _ => none
  | .reset _ => none
  | .registerWrite _ _ _ => none
  | .nestedLandingLost _ _ => none
  | .flitSlot _ _ => none
  | .requestCreditReturn _ _ => none
  | .laneRetrained _ _ => none

/-- The slot and word of an instruction; a step has none. -/
def Instr.encode (i : Instr) : Option (Slot × BitVec 32) := i.toFields.map fun sf => (sf.1, joinWord sf.2)

/-- The mnemonic-free test that an instruction is a slot operation. -/
def Instr.isSlotOp (i : Instr) : Bool := i.toFields.isSome

end Sys2Proof
end

