-- ==== Sys2Proof/Config.lean ====
section
/-! DEFINITION. What an implementation fixes, and the free values: constants without a body, so that no proof can see
what they are (log entries 6 to 12). -/

namespace Sys2Proof.Config

/-- The bundle index after the last one, 4,095, when straight-line code runs off the end of instruction memory. The spec
gives none (log entry 6). -/
opaque pcAfterLast : BitVec 12

/-- A choice among the members of a list the spec leaves open (R7), fresh for each value of the state's counter
(log entry 7). -/
opaque choice : Nat → Nat

/-- A word the spec leaves open, fresh for each value of the state's counter (log entry 7). -/
opaque freeWord : Nat → BitVec 64

/-- The element substituted for a NaN of a format that has none (R78, log entry 11). -/
opaque cbNaNLess : Nat → Nat

/-- What a source lane outside those R173 expands holds when its entry is invalid under the trapping policy (log
entry 11). -/
opaque cbUnread : Nat

/-- Verification of an ML-DSA-44 signature: public key, message, signature. The spec names the algorithm and does not
give it (log entry 8). -/
opaque mldsaVerify : List Byte → List Byte → List Byte → Bool

/-- An ML-DSA-44 signature by the key a seed derives: seed and message (R434, log entry 8). -/
opaque mldsaSign : List Byte → List Byte → List Byte

/-- The public key of the key pair a 32-byte seed derives (R434, log entry 8). -/
opaque mldsaPublic : List Byte → List Byte

/-- The seed fused into a module at manufacture (R434). -/
opaque fusedSeed : Nat → List Byte

/-- The key hash fused into a module at manufacture (R434). -/
opaque fusedKeyHash : Nat → List Byte

/-- The rollback counter fused into a module (R434). -/
opaque fusedRollback : Nat → Nat

/-- Lumua's certificate of a module's public key (R434). -/
opaque certificate : Nat → List Byte

/-- The firmware image that dwords written to the recovery image window bring, offset and value, the newest first (R434, log entry 134). -/
opaque imageWritten : List (Nat × BitVec 64) → FirmwareImage

/-- The tile state that the bytes of a kind 3 segment carry, whose layout the spec does not give (R358, R362, log entry 3). -/
opaque tileState : List (BitVec 8) → TileInit

/-- Whether an attempt to write a segment and read it back meets a mismatch or an uncorrectable error, fresh for each value of
the state's counter (R363, log entry 92). -/
opaque loadError : Nat → Bool

/-- Whether a read of a payload from host memory ends in a PCIe error, fresh for each value of the state's counter (R413, log
entry 89). -/
opaque hostError : Nat → Bool

/-- The firmware's default node-supervisor code: bundles placed at 4,096 less their number (R359). -/
opaque defaultSupervisor : List (BitVec 128)

end Sys2Proof.Config
end

