-- ==== Sys2Proof/Machine/Event.lean ====
section
/-! DEFINITION. The steps the machine takes of itself and the messages in flight: one constructor per row of the opcode
table that is a step, with the operands of the like-named constructor of `Instr` (log entry 2). -/

namespace Sys2Proof.Machine

/-- A step of the machine beside its bundles, or a message on its way. -/
inductive Event where
  | bundleIssue (t : TileRef)
  | resultCompletion (t : TileRef)
  | landingArrival (c : CtxRef) (k : Nat)
  | landingWrite (c : CtxRef)
  | landingTimeout (t : TileRef)
  | blockSwitch (t : TileRef)
  | waitReady (c : CtxRef)
  | interruptPending (t : TileRef) (l : BitVec 4)
  | trapEntry (t : TileRef)
  | handlerEntry (t : TileRef)
  | lateFault (c : CtxRef) (k : Nat)
  | lostLanding (c : CtxRef) (k : Nat)
  | returnBundleIssue (t : TileRef)
  | packetFirstFlit (t : TileRef) (k : Nat)
  | packetReceived (t : TileRef) (st : BitVec 5) (k : Nat)
  | nextWrite (t : TileRef) (st : BitVec 5) (v : BitVec 32)
  | creditArrival (t : TileRef) (st : BitVec 5) (k : Nat)
  | packetLaunch (c : CtxRef)
  | taskAdmission (t : TileRef)
  | stealRound (t : TileRef)
  | joinMessage (c : CtxRef) (k : Nat)
  | queueIssue (c : CtxRef) (q : QueueSel)
  | bankAccept (k : Nat)
  | barrApply (c : CtxRef)
  | cpyDispatch (c : CtxRef)
  | copyRow (t : TileRef) (k : Nat)
  | shadowSwapIn (t : TileRef)
  | engineComplete (t : TileRef)
  | foldDispatch (c : CtxRef)
  | foldRow (t : TileRef) (k : Nat)
  | foldWalk (t : TileRef) (v : BitVec 5) (k : Nat)
  | foldTransferComplete (t : TileRef) (k : Nat)
  | foldRecordOp (t : TileRef) (k : Nat)
  | pagePromotion (n : Nat) (k : Nat)
  | pageMoveComplete (n : Nat) (k : Nat)
  | woundDelivery (c : CtxRef) (w : Word)
  | woundReleaseTimeout (c : CtxRef)
  | crookUe (n : Nat) (w : Word)
  | pastureTick (n : Nat)
  | psctlSave (t : TileRef) (w : Word)
  | psctlResumeInPlace (t : TileRef) (w : Word)
  | psctlResumeFromTile (t : TileRef) (w : Word)
  | preemptHalt (t : TileRef)
  | saveComplete (t : TileRef)
  | treeCancel (n : Nat) (k : BitVec 32)
  | droveLoad (n : Nat) (im : DroveImage)
  | droveRemoval (n : Nat) (k : Nat)
  | droveWithdrawal (n : Nat) (k : Nat)
  | dgcmdLoad (n : Nat) (k : Nat) (g : BitVec 4)
  | dgcmdSwitch (n : Nat) (k : Nat)
  | dgcmdAbort (n : Nat) (k : Nat)
  | dgcmdInvalid (n : Nat) (k : Nat) (w : Word)
  | generationVerified (n : Nat) (k : Nat)
  | generationDrained (n : Nat) (k : Nat)
  | tcmdCancel (n : Nat) (k : BitVec 32)
  | swint (n : Nat) (w : Word)
  | mbin7Write (n : Nat) (w : Word)
  | mailboxAccess (t : TileRef) (w : Word)
  | mailboxComplete (t : TileRef)
  | qtailWrite (n : Nat) (k : Nat) (w : Word)
  | qcfgWrite (n : Nat) (k : Nat) (w : Word)
  | ingressRecord (n : Nat) (k : Nat)
  | egressPacket (n : Nat) (k : Nat)
  | cresync (n : Nat) (w : Word)
  | linkFlitReceive (n : Nat) (b : Nat) (fl : Flit)
  | creditFlit (n : Nat) (ws : List Word)
  | remoteLoad (r : RemoteReq)
  | remoteStore (r : RemoteReq)
  | remoteAtom (r : RemoteReq)
  | remoteAtomCas (r : RemoteReq)
  | remoteRed (r : RemoteReq)
  | remoteUnknownOperation (r : RemoteReq)
  | remoteResponse (r : RemoteResp)
  | crookAcquireMsg (m : CrookMsg)
  | crookTryMsg (m : CrookMsg)
  | crookUpgradeMsg (m : CrookMsg)
  | crookReleaseMsg (m : CrookMsg)
  | crookWithdrawMsg (m : CrookMsg)
  | crookQueryMsg (m : CrookMsg)
  | crookStatusMsg (m : CrookMsg)
  | crookWoundMsg (m : CrookMsg)
  | crookQueryResultMsg (m : CrookMsg)
  | foldReleaseMsg (m : FoldMsg)
  | foldFetchMsg (m : FoldMsg)
  | foldOfferMsg (m : FoldMsg)
  | foldAcceptMsg (m : FoldMsg)
  | foldRefuseMsg (m : FoldMsg)
  | foldPageDataMsg (m : FoldMsg)
  | foldMoveCompleteMsg (m : FoldMsg)
  | tickExchangeMsg (n : Nat) (k : BitVec 56)
  | holdMsg (n : Nat) (src : Nat) (w : Word)
  | holdAnswerMsg (n : Nat) (src : Nat) (w v : Word)
  | holdEndMsg (n : Nat) (src : Nat) (w v : Word)
  | musterSegmentMsg (n : Nat) (k : Nat) (bs : List Byte)
  | membershipUpdateMsg (n : Nat) (k : BitVec 6) (w : Word)
  | movePointMsg (n : Nat) (w : Word)
  | correctedError (n : Nat) (u : RasUnit) (k : Nat)
  | uncorrectedError (n : Nat) (u : RasUnit) (k : Nat)
  | suspectReversion (n : Nat) (u : RasUnit)
  | counterHourBucket (n : Nat)
  | backgroundScrub (n : Nat)
  | bankRetirement (t : TileRef) (k : Nat)
  | tileCoreRetirement (t : TileRef)
  | laneRetirement (n : Nat) (k : Nat)
  | bundleDown (n : Nat) (k : Nat)
  | rascfgLock (n : Nat) (w : Word)
  | laneSilence (n : Nat)
  | transhumance (n : Nat) (k : Nat)
  | boot (n : Nat) (im : FirmwareImage)
  | recoveryImage (n : Nat) (im : FirmwareImage)
  | attestationRequest (n : Nat) (bs : List Byte)
  | attestationComplete (n : Nat)
  | throttleStep (n : Nat) (x : Bool)
  | pwrcapWrite (n : Nat) (w : Word)
  | thermalTrip (n : Nat)
  | powerLoss (n : Nat)
  | reset (n : Nat)
  | registerWrite (n : Nat) (k : BitVec 26) (w : Word)
  | nestedLandingLost (c : CtxRef) (k : Nat)
  | flitSlot (n : Nat) (b : Nat)
  | requestCreditReturn (n : Nat) (b : Nat)
  | laneRetrained (n : Nat) (k : Nat)
  deriving DecidableEq, Repr, Inhabited

end Sys2Proof.Machine
end

