-- ==== Sys2Proof/Machine/State.lean ====
section
/-! DEFINITION. The state of a pasture of N1 nodes as plain data: every context slot, tile, node, the byte memories, the
messages in flight and the steps still to come; the reasons a step can stop; and the state after reset. -/

namespace Sys2Proof.Machine

/-- Sparse data by number: keys strictly rising; an absent key reads as the default its reader names. -/
abbrev Sparse (α : Type) := List (Nat × α)

/-- Why a step stops with a fault. -/
inductive Fault where
  /-- Raised by `step` for an entry of the agenda whose operands name nothing of a pasture (a node above 4,095, a tile
  above 255 and so on). Safe: no hardware event corresponds to it. -/
  | illFormedStep
  deriving DecidableEq, Repr

/-- Why a step gives no meaning. -/
inductive Refusal where
  /-- Raised by `exec` for a constructor that has no meaning yet, by its mnemonic. Safe: the machine stops. -/
  | notModelled (mnemonic : String)
  deriving DecidableEq, Repr

/-- The states of a context slot (Table 7.8); `ending` is the slot of an ended task whose queued writes are not yet
performed (R244). -/
inductive CtxState where
  | free | ready | running | waiting | saved | ending
  deriving DecidableEq, Repr, Inhabited

/-- What a waiting context waits for (Table 7.7), with the object of the wait (Table 14.4 WAIT and WOBJ). `told` is a lock wait whose
status has come while the task was in a trap handler: its destination takes it when the handler has returned (R339). -/
inductive Wait where
  | none
  | stream (s : Nat)
  | output (s : Nat)
  | barrier (b : Nat)
  | group (code : Nat) (episode : Nat)
  | lock (name : Word) (d : Dst)
  | join
  | shadow
  | codebook
  | told (d : Dst) (v : Word)
  deriving DecidableEq, Repr, Inhabited

/-- Trap causes (Table 6.1a). -/
inductive Cause where
  | illegal | priv | uninit
  | window | windowCross | bound | align | stack
  | foldMiss | foldPos | foldPerm | foldNomem
  | cbInvalid | cbHazard | dupchk
  | lockProto | wound
  | landingTimeout | ue | preempt
  | interrupt (l : BitVec 4)
  | trap (k : BitVec 4)
  deriving DecidableEq, Repr, Inhabited

/-- What an operation writes when it completes (R20, R145, Table 6.4 kinds 0x1 and 0x7). `sup` is a `_` destination;
`en` marks the bits a partial write replaces. -/
inductive Effect where
  | word (f : RFile) (n : BitVec 5) (sup : Bool) (v : Word)
  | vec (n : BitVec 5) (sup : Bool) (v : VReg) (en : VReg)
  | pred (n : BitVec 3) (v : Bool)
  | mask (n : BitVec 3) (v : MaskReg) (en : MaskReg)
  | creg (r : CReg) (v : Word)
  deriving DecidableEq, Repr, Inhabited

/-- A result in flight (R20 to R24). `due` counts core cycles, or wall cycles once the block has ended (`wallClock`,
R47); `late` puts it with the landings in the order of R22; `pushes` is cleared by a block switch (R26); `lock` names the lock
object of an `LKTRY` whose status it is (R340). -/
structure Result where
  due : Nat
  wallClock : Bool
  late : Bool
  seq : Nat
  slot : Slot
  effect : Effect
  flags : BitVec 7
  pushes : Bool
  lock : Option Word
  deriving DecidableEq, Repr, Inhabited

/-- What the core keeps of a record beside its stored fields: its class in the order of R22, whether it pushes no latch entry
(R197), the flags of a state record (R73, Table 6.4 stores none) and the lock object of an `LKTRY` (R340). -/
structure Mark where
  late : Bool
  silent : Bool
  flags : BitVec 7
  lock : Option Word
  deriving DecidableEq, Repr, Inhabited

/-- A record of a trap capture (R188, Table 6.4): `due` is the core cycle of its completion, or its REM once read back by
`TRET`; `mark` and `seq` are what the core keeps beside it, the order of R22 among them; `pay` is its vector payload with its
byte enables. -/
structure Record where
  kind : BitVec 4
  file : BitVec 2
  reg : BitVec 5
  sup : Bool
  due : Nat
  aux : Byte
  word : BitVec 32
  value : Word
  pay : Option (VReg × MaskReg)
  mark : Mark
  seq : Nat
  deriving DecidableEq, Repr, Inhabited

/-- A class 3 fault that has been detected for a context (R182, R186): its cause, the bundle it is reported against, its
slot, `XADDR`, `XPROG`, the order its bundle issued in, the landing or queue entry it belongs to, whether its response
has arrived, the record of a stopped transfer or store (kinds 0x5 and 0x6), and whether that record already stands in a
capture. -/
structure LateFault where
  cause : Cause
  fpc : Option Nat
  slot : Slot
  xaddr : Word
  xprog : Word
  seq : Nat
  access : Option Nat
  arrived : Bool
  record : Option Record
  stored : Bool
  deriving DecidableEq, Repr, Inhabited

/-- How a landing's bytes become its value (R257, R260, R261, R315 to R317, R338, R341). -/
inductive LandKind where
  | load (size : Nat) (signed : Bool)
  | vector
  | atom (size : Nat)
  | header | payload
  | foldView | foldSeq | foldProbe
  | lockTry (name : Word)
  | lockQuery
  deriving DecidableEq, Repr, Inhabited

/-- A landing entry (R30 to R37). `got` holds the bytes taken so far; `value` the value once whole; `arrive` the wall
cycle it reached the landing buffer; `opb` the operand of a fold query; `earliest` the first wall cycle it may arrive in (Table 1.4). `rel` marks one placed by
`TRET` whose named cycle still counts from the return bundle (R196); `waited` one the trap entry waits for (R189); `lost` a
lost record (R189); `past` one whose offset named a cycle already reached (R34). -/
structure Landing where
  id : Nat
  kind : LandKind
  word : BitVec 32
  xm : Byte
  fpc : Option Nat
  seq : Nat
  file : RFile
  reg : BitVec 5
  named : Nat
  pushes : Bool
  addr : Word
  opb : Word
  size : Nat
  issueWall : Nat
  earliest : Nat
  base : Nat
  got : List (Nat × Byte)
  value : Option VReg
  arrive : Option Nat
  faulted : Bool
  idem : Bool
  lost : Bool
  rel : Bool
  waited : Bool
  past : Bool
  deriving DecidableEq, Repr, Inhabited

/-- The sub-operations of the near-port ALU (R100, R260). -/
inductive AtomOp where
  | add | min | max | and | or | xor | swap | fadd
  | cas (expected : Word)
  deriving DecidableEq, Repr, Inhabited

/-- One access to one naturally aligned 8-byte unit, or part of it (R242): the generic pointer of its first byte, its size,
the bytes it writes (none for a load), where its bytes stand in the landing, whether a load of it may be issued again after
a trap (Table 6.2), and the remote request that carries it once sent (R402). -/
structure UnitAcc where
  ptr : Word
  size : Nat
  bytes : List Byte
  pos : Nat
  idem : Bool
  sent : Option Nat
  deriving DecidableEq, Repr, Inhabited

/-- A copy descriptor being moved (Table 9.13), with the rows done (R384) and the level it was issued at. -/
structure CopyDesc where
  src : Word
  dst : Word
  strides : Word
  ctl : Word
  rowsDone : Nat
  lvl : Nat
  deriving DecidableEq, Repr, Inhabited

/-- A fold transfer or record operation (Table 10.5): FN, tile register, operands as read at issue, and rows done. -/
structure FoldReq where
  fn : Nat
  treg : Nat
  opa : Word
  opb : Word
  word : BitVec 32
  rowsDone : Nat
  shape : Option Word
  tree : BitVec 32
  deriving DecidableEq, Repr, Inhabited

/-- What a queue entry does at the head of its queue (R244). The entry of a load bears the number of its landing; `seg` is the
size of one access of a store. -/
inductive QOp where
  | load (units : List UnitAcc)
  | store (units : List UnitAcc) (seg : Nat)
  | atom (returns : Bool) (op : AtomOp) (u : UnitAcc) (operand : Word)
  | mark
  | fence (s : Scope)
  | copy (d : CopyDesc)
  | barr (b : Nat) (count : Nat)
  | swr (stream buf : Nat) (src : Word) (off len : Nat)
  | sclose (stream buf : Nat)
  | fold (r : FoldReq)
  | release (names : List Word)
  deriving DecidableEq, Repr, Inhabited

/-- An entry of a context's queues, kept from issue until it has been performed (R244 to R248). `inLoad` and `inStore` name
the queues it entered; `issued` is set when it leaves them. -/
structure QEntry where
  id : Nat
  fpc : Option Nat
  seq : Nat
  inLoad : Bool
  inStore : Bool
  issued : Bool
  op : QOp
  level : Nat
  deriving DecidableEq, Repr, Inhabited

/-- A register, latch, predicate or mask of a context (Table 17.1). -/
inductive Cell where
  | reg (f : RFile) (n : BitVec 5)
  | latch (f : RFile) (k : BitVec 2)
  | pred (n : BitVec 3)
  | mask (n : BitVec 3)
  deriving DecidableEq, Repr, Inhabited

/-- An entry of a context's lock set (R324). -/
structure LockEntry where
  name : Word
  mode : LockMode
  pending : Bool
  deriving DecidableEq, Repr, Inhabited

/-- One context slot of a tile (Tables 1.1, 7.8, 14.4). -/
structure Ctx where
  /-- Table 7.8. -/
  st : CtxState
  /-- The register files (Table 1.1). -/
  a : Vector Word 32
  m : Vector Word 32
  e : Vector Word 16
  v : Vector VReg 32
  /-- Predicates p0 to p7 and masks k0 to k7; p0 and k0 are never read from here (R15). -/
  p : BitVec 8
  k : Vector MaskReg 8
  /-- Written bits (R51). -/
  wa : BitVec 32
  wm : BitVec 32
  we : BitVec 16
  wv : BitVec 32
  wp : BitVec 8
  wk : BitVec 8
  /-- Result latches, latch 0 first (R23); `none` holds no entry. -/
  qa : Vector (Option Word) 4
  qm : Vector (Option Word) 4
  qe : Vector (Option Word) 4
  qv : Vector (Option VReg) 4
  /-- The registers, latches, predicates and masks whose parity is bad (R424). -/
  bad : List Cell
  /-- The queue entries whose contents have an uncorrected error (R422). -/
  badQueue : List Nat
  /-- `LC0` to `LC3` (Table 1.5). -/
  lc : Vector Word 4
  /-- Context control registers (Table 4.7). -/
  sbase : Word
  slim : Word
  fflags : Word
  /-- Engine flags that have come since the context's completions were last settled (R73). -/
  eflags : BitVec 7
  tshape : Vector Word 16
  xstat : Word
  xcause : Word
  xpc : Word
  xprog : Word
  xaddr : Word
  xvec : Word
  xctl : Word
  /-- The next bundle to issue. -/
  pc : BitVec 12
  /-- Results in flight, landings and queued accesses. -/
  results : List Result
  landings : List Landing
  queue : List QEntry
  /-- A fold transfer has stopped; those behind it wait for its restart (R309). -/
  foldStop : Bool
  /-- The `FAPP`s that a fault or a save has stopped and no restart has taken up: they count for PEND (R302). -/
  foldHeld : List FoldReq
  /-- Messages to home crooks that wait for a release ahead of them to the same home (R321). -/
  asks : List Event
  /-- What the last save wrote of the fields of the record that other agents change (R391). -/
  asSaved : List Word
  /-- Tree membership and ages (R224, R330). -/
  tree : BitVec 32
  tick : Nat
  pri : BitVec 2
  /-- The header a new packet of the task takes fields of (R264), the generation tag it counts under (R372), and the stream its
  packet came on, for the reservations of R365. -/
  hdr0 : Word
  hdr1 : Word
  gen : BitVec 4
  origin : Option Nat
  /-- Fork bookkeeping (R225, R229): the parent, whether it counts this task, this slot's serial, its join count. -/
  parent : Option CtxRef
  parentSeq : Nat
  joining : Bool
  serial : Nat
  jcnt : Nat
  /-- Current packets per input stream and open packets per output stream (Table 14.4). -/
  cur : Sparse Nat
  opn : Sparse Nat
  /-- Waiting (Table 7.7), the number of the lock request waited for, and readiness (R367, R368). -/
  wait : Wait
  waitSeq : Nat
  readySince : Nat
  /-- The wait of the block that a trap with WAITEND = 1 has interrupted, with its number (R198). -/
  outer : Option (Wait × Nat)
  /-- The lock set (R324), and the objects of it whose `LKTRY` has been granted and not yet landed (R340). -/
  locks : List LockEntry
  granted : List Word
  /-- `MSTAT`.DONE and ERR of the context (Table 9.12). -/
  done : BitVec 16
  err : BitVec 4
  /-- Pending trap items (R185): `WOUND`, `PREEMPT`, class 3 faults, the class 4 request. -/
  wound : Option Word
  woundSince : Nat
  preempt : Bool
  late : List LateFault
  request : Option (Cause × Nat × Nat)
  /-- The items in the frame's deferred record and further list (R186): the order of issue of each, and whether it is kept in
  the list once another item holds the record. -/
  deferSeq : List (Nat × Bool)
  /-- What the core keeps of the live frame's records, in their order (R22, R73, R197, R340). -/
  marks : List Mark
  /-- The next bundle issues no earlier than core cycle `issueAt` (R48, R190) and wall cycle `holdUntil` (R139). -/
  issueAt : Nat
  holdUntil : Nat
  /-- A trap entry in progress: the core and the wall cycle of its boundary (R188 to R190), with the records captured so far
  (also those of a return still to be placed, R196), and the bundle count at the entry. -/
  entering : Option (Nat × Nat)
  capture : List Record
  trapSeq : Nat
  /-- A return in progress: the core cycle of the `TRET` and the wall cycle its restore ends (R196), and the re-issue records
  that have not entered their queues. -/
  returning : Option (Nat × Nat)
  reissue : List Record
  /-- A save's copy records, to be entered with the frame's restore at the first selection (R391). -/
  resume : Option (List CopyDesc)
  /-- The queue entries that this return has put at the head of the store queue, in order. -/
  again : List Nat
  /-- The wait bundle has retired and a trap is to be taken at the boundary that ends its block (R198). -/
  closing : Bool
  /-- `TRET` with WAITEND = 1 ends the block instead of issuing the return bundle (R198). -/
  waitEnd : Bool
  /-- A double trap (R192) or the default node-supervisor code (R359) has stopped the context. -/
  stuck : Bool
  /-- `IFENCE` draining (R139). -/
  fencing : Bool
  /-- Barriers the context has touched (Table 14.4 BUSE). -/
  buse : BitVec 32
  /-- Save bookkeeping (R381, R391): a nested halt, and a lost nested landing. -/
  nest : Bool
  hlost : Bool
  /-- The task has issued a bundle, and its next bundle is the first of a block (R198). -/
  began : Bool
  blockStart : Bool
  deriving DecidableEq, Repr, Inhabited

/-- A context slot after reset (R10, R50): everything zero but `XCTL` (Table 6.10). -/
def Ctx.reset : Ctx where
  st := .free
  a := Vector.replicate 32 0
  m := Vector.replicate 32 0
  e := Vector.replicate 16 0
  v := Vector.replicate 32 0
  p := 0
  k := Vector.replicate 8 0
  wa := 0
  wm := 0
  we := 0
  wv := 0
  wp := 0
  wk := 0
  qa := Vector.replicate 4 none
  qm := Vector.replicate 4 none
  qe := Vector.replicate 4 none
  qv := Vector.replicate 4 none
  bad := []
  badQueue := []
  lc := Vector.replicate 4 0
  sbase := 0
  slim := 0
  fflags := 0
  eflags := 0
  tshape := Vector.replicate 16 0
  xstat := 0
  xcause := 0
  xpc := 0
  xprog := 0
  xaddr := 0
  xvec := 0
  xctl := 0x00000000FFFF0002
  pc := 0
  results := []
  landings := []
  queue := []
  foldStop := false
  foldHeld := []
  asks := []
  asSaved := []
  tree := 0
  tick := 0
  pri := 0
  hdr0 := 0
  hdr1 := 0
  gen := 0
  origin := none
  parent := none
  parentSeq := 0
  joining := false
  serial := 0
  jcnt := 0
  cur := []
  opn := []
  wait := .none
  waitSeq := 0
  readySince := 0
  outer := none
  locks := []
  granted := []
  done := 0
  err := 0
  wound := none
  woundSince := 0
  preempt := false
  late := []
  request := none
  deferSeq := []
  marks := []
  issueAt := 0
  holdUntil := 0
  entering := none
  capture := []
  trapSeq := 0
  returning := none
  reissue := []
  resume := none
  again := []
  closing := false
  waitEnd := false
  stuck := false
  fencing := false
  buse := 0
  nest := false
  hlost := false
  began := false
  blockStart := false

/-- The states of a receive buffer (Table 7.6). -/
inductive BufState where
  | free | receiving | held | ready | current
  deriving DecidableEq, Repr, Inhabited

/-- A receive buffer of an input stream (Table 7.6), with what the port keeps of its packet beside the bytes in port
memory: its sender, stamp (R213), tag, its order (of the first flit while Receiving, of delivery afterwards) and that of its whole
reception, wire bytes received, whether R220 holds it, the wall cycle it became Ready, its poisoned units, whether its entry's need
exceeded the share when it was stamped (R361), and whether an abort has rejected it, which goes with its pair (R371). -/
structure Buf where
  st : BufState
  pkt : Nat
  stamp : Option (BitVec 12)
  sender : CtxRef
  tag : BitVec 32
  order : Nat
  got : Nat
  wire : Nat
  tagHeld : Bool
  since : Nat
  poison : List Nat
  beyond : Bool
  doomed : Bool
  deriving DecidableEq, Repr, Inhabited

/-- An input stream: descriptor dwords 0 and 2 as Table 7.3 lays them out (dword 1 is computed), the place of its buffers
in port memory, its buffers, its reservation (R365), and dword 0 before a rebind with the wall cycle of that rebind
(R213). -/
structure InStream where
  d0 : Word
  next : BitVec 32
  skip : BitVec 16
  stale : BitVec 16
  base : Nat
  bufs : List Buf
  reserve : Nat
  before : Option (Nat × Word)
  deriving DecidableEq, Repr, Inhabited

/-- An output stream: descriptor dword 0 (Table 7.4), FREE, the staging buffers in use with whether each packet is closed, the
place of its two staging buffers, the poisoned payload units of each, and the hold of R430. -/
structure OutStream where
  d0 : Word
  free : Nat
  opened : List (Nat × Bool)
  base : Nat
  poison : List (Nat × Nat)
  hold : Bool
  deriving DecidableEq, Repr, Inhabited

/-- A barrier (Table 9.14). -/
structure Barrier where
  count : BitVec 32
  ovf : Bool
  cfg : Word
  deriving DecidableEq, Repr, Inhabited

/-- A deque descriptor (Table 7.9), with the tick of its tree, the wall cycle it became a candidate (R367), the generation tag
the child counts under (R372), and the number its parent's accesses ahead of the fork stand below (R250). -/
structure DequeEntry where
  d0 : Word
  d1 : Word
  d2 : Word
  d3 : Word
  tick : Nat
  since : Nat
  gen : BitVec 4
  gate : Nat
  deriving DecidableEq, Repr, Inhabited

/-- A view table entry (R292, R302, R308). -/
structure View where
  opened : Bool
  tag : BitVec 19
  seqId : BitVec 22
  layer : BitVec 8
  head : BitVec 8
  wr : Bool
  tree : BitVec 32
  ef : Nat
  pend : Nat
  cut : Bool
  deriving DecidableEq, Repr, Inhabited

/-- A fold TLB entry (R300): view entry and page to page descriptor. -/
structure TlbEntry where
  view : Nat
  page : Nat
  pd : Nat
  deriving DecidableEq, Repr, Inhabited

/-- A transfer in the tile's fold unit (R305): its entry's number, whether a trap handler issued it (R310), whether its queue entry was in
error (R422), and the pages that a hint has set moving (R314). -/
structure FoldJob where
  id : Nat
  own : Bool
  slot : Nat
  serial : Nat
  fpc : Option Nat
  seq : Nat
  req : FoldReq
  finished : Bool
  spoilt : Bool
  pages : List Nat
  deriving DecidableEq, Repr, Inhabited

/-- A dispatched copy (R279), by its queue entry's number: the source bytes of its current row that have come, the poisoned ones
among them (R423), the row's index for a gather, its stage (0 between rows, 1 fetching, 2 writing), whether a remote request of it
is outstanding, the destination bytes that wait for the rest of their unit (R251) by their pointer, with their poison, whether
a fault has stopped it, and whether its queue entry was in error (R422). -/
structure CopyJob where
  id : Nat
  slot : Nat
  serial : Nat
  fpc : Option Nat
  seq : Nat
  desc : CopyDesc
  fetched : List (Nat × Byte)
  bad : List Nat
  index : Nat
  stage : Nat
  waits : Bool
  held : List (Nat × Byte × Bool)
  stopped : Bool
  spoilt : Bool
  deriving DecidableEq, Repr, Inhabited

/-- The states of the shadow set (Table 9.10); a Ready one keeps the order of its go-form and its owner's serial (R275). -/
inductive ShadowState where
  | free
  | filling (slot : Nat)
  | ready (slot seq serial : Nat)
  deriving DecidableEq, Repr, Inhabited

/-- A write of the engine's shadow set (R273, R274). -/
inductive EngineWrite where
  | reg (r : NestReg) (v : Word)
  | go (kind : Option (BitVec 3))
  deriving DecidableEq, Repr, Inhabited

/-- The active engine operation (R271, R272, R386): owner, swap-in cycle, passes done, flags gathered, error, and the wall
cycle of its completion; `halted` while its tile is saved. The format registers are those of the swap-in (R62); `seq` is the order
of its go-form (R252). -/
structure ActiveOp where
  slot : Nat
  serial : Nat
  seq : Nat
  kind : BitVec 3
  start : Nat
  finish : Nat
  passes : Nat
  err : BitVec 4
  flags : BitVec 7
  orphan : Bool
  halted : Bool
  fmt : BitVec 5
  fmts : Vector Word 16
  cbctl : Word
  shapes : Vector Word 16
  deriving DecidableEq, Repr, Inhabited

/-- A change of a codebook bank (R287). -/
inductive CbAct where
  | write (bank : Nat) (entry : BitVec 8) (v : Word)
  | load (bank : Nat) (entry : BitVec 8) (vs : List Word)
  | invalidate (bank : Nat) (entry : BitVec 8) (count : Nat)
  deriving DecidableEq, Repr, Inhabited

/-- A write outside the context that has issued and not yet taken effect (R188, R268, R273, R282, R287, R337). -/
inductive ExtWrite where
  | engine (w : EngineWrite)
  | bcfg (b : Nat) (v : Word)
  | binit (b : Nat) (v : BitVec 32)
  | badd (b : Nat) (v : BitVec 32)
  | codebook (c : CbAct)
  | matrix (v : Word)
  | bind (stream : Nat) (v : Word)
  deriving DecidableEq, Repr, Inhabited

/-- Such a write with its slot, its order of issue, the core and the wall cycle of its effect, and `held` while a busy
engine write or codebook write waits (R273, R288). -/
structure Pending where
  slot : Nat
  serial : Nat
  seq : Nat
  core : Nat
  wall : Nat
  held : Bool
  act : ExtWrite
  deriving DecidableEq, Repr, Inhabited

/-- A group barrier on a tile (R232): its code, and the arrivals made on this tile so far, one per episode, each with its slot
and the number its accesses ahead stand below (R250). -/
structure Episode where
  code : Nat
  arrivals : List (Nat × Nat)
  deriving DecidableEq, Repr, Inhabited

/-- A save or resume in progress (R377 to R396): the command word, the slots still to halt, the acceptance cycle. -/
structure SaveOp where
  word : Word
  toHalt : BitVec 8
  accepted : Nat
  halted : Option Nat
  deriving DecidableEq, Repr, Inhabited

/-- One tile (Table 1.1 to Table 1.3, Tables 4.7, 7.3 to 7.9, 8.3, 9.5 to 9.14, 13.3, 13.4, 14.1, 14.2). -/
structure Tile where
  /-- The stage on the tile: drove id, stage number, rectangle, and the slot count (1, 2, 4 or 8; 0: none placed). -/
  drove : BitVec 32
  stage : Nat
  origin : Nat
  width : Nat
  height : Nat
  slots : Nat
  xvec : Word
  gentab : Option Nat
  /-- The firmware's default node-supervisor code stands on the tile (R359). -/
  firmware : Bool
  ctxs : Vector Ctx 8
  /-- The running slot (R223), the slot selected last (R368), a block switch in progress (R47). -/
  running : Option Nat
  lastSlot : Nat
  switchUntil : Option Nat
  /-- Core and wall cycles (R19), the cycle a freeze began (R33), the order of issue. -/
  core : Nat
  wall : Nat
  freeze : Option Nat
  issued : Nat
  /-- The banks that have accepted an access in a wall cycle, as often as they have, and that cycle (R38, R240). -/
  bankWall : Nat
  bankUse : List Nat
  /-- Tile control registers (Table 4.7). -/
  fmt : Vector Word 16
  ftab : Vector Word 16
  ftctl : Word
  cbctl : Vector Word 4
  /-- The random-bit state s0 to s3 (R74). -/
  rng : Vector Word 4
  /-- Codebook entries, key 256·bank + entry, and their valid bits (R77). -/
  cbEntry : Sparse Word
  cbValid : List Nat
  /-- Writes outside a context not yet in effect. -/
  pending : List Pending
  /-- The matrix engine: shadow and active sets (17 registers in the order of Table 9.5), states, array, accumulators. -/
  shadow : Vector Word 17
  active : Vector Word 17
  shadowSt : ShadowState
  op : Option ActiveOp
  wval : Bool
  wtag : BitVec 5
  weights : Sparse (BitVec 16)
  acc : Sparse Word
  accFloat : BitVec 2
  accVoid : BitVec 2
  /-- The copy engine's dispatched copies (R279). -/
  copies : List CopyJob
  /-- Barriers (R281). -/
  barriers : Vector Barrier 32
  /-- Tasks: deque (head first), last tree number, allocation serial, candidate rotation, and the wall cycle after the last
  admission (R224 to R228, R366). -/
  deque : List DequeEntry
  lastTree : BitVec 12
  serial : Nat
  rotation : Nat
  admitted : Nat
  /-- Fold: views, openings, TLB (most recently used first), transfers (R292, R300, R305). -/
  views : Vector View 32
  openings : Nat
  tlb : List TlbEntry
  fold : List FoldJob
  /-- Streams and port status (R206). -/
  ins : Vector InStream 32
  outs : Vector OutStream 32
  port : Vector Word 2
  orders : Nat
  /-- Window descriptors, four dwords each (Table 8.3). -/
  windows : Vector (Vector Word 4) 16
  /-- Interrupt lines pending (R187). -/
  irq : BitVec 16
  /-- Scheduler block (Tables 13.3, 13.4, 14.1, 14.2). -/
  need : Vector Word 16
  schstat : Word
  psstat : Word
  save : Option SaveOp
  /-- What the last save wrote of the parts of the tile record that other agents change (R391). -/
  asSaved : List Word
  /-- Group barriers (R232). -/
  groups : List Episode
  /-- Loader writes to instruction memory accepted and not completed (R139). -/
  imemBusy : Nat
  /-- The mailbox (Table 15.5). -/
  mbreq : Word
  mbdata : Word
  mbstat : Word
  /-- Corrected-error bookkeeping kept with the tile: banks and columns retired (R425 to R428). -/
  banksRetired : List Nat
  columnsRetired : Nat
  deriving DecidableEq, Repr, Inhabited

/-- A tile after reset (R10): every register at the value its map gives. -/
def Tile.reset : Tile where
  drove := 0
  stage := 0
  origin := 0
  width := 0
  height := 0
  slots := 0
  xvec := 0
  gentab := none
  firmware := false
  ctxs := Vector.replicate 8 Ctx.reset
  running := none
  lastSlot := 0
  switchUntil := none
  core := 0
  wall := 0
  freeze := none
  issued := 0
  bankWall := 0
  bankUse := []
  fmt := Vector.replicate 16 0
  ftab := Vector.replicate 16 0x0C
  ftctl := 0
  cbctl := Vector.replicate 4 0
  rng := #v[0xE220A8397B1DCDAF, 0x6E789E6AA1B965F4, 0x06C45D188009454F, 0xF88BB8A8724C81EC]
  cbEntry := []
  cbValid := []
  pending := []
  shadow := #v[0, 0x0C0202, 0, 0, 0, 0, 0, 0, 0, 0, 0, 0x10000, 0x10000, 0x10000, 0x10000, 0x10000, 0x10000]
  active := #v[0, 0x0C0202, 0, 0, 0, 0, 0, 0, 0, 0, 0, 0x10000, 0x10000, 0x10000, 0x10000, 0x10000, 0x10000]
  shadowSt := .free
  op := none
  wval := false
  wtag := 0
  weights := []
  acc := []
  accFloat := 0
  accVoid := 0
  copies := []
  barriers := Vector.replicate 32 ⟨0, false, 0⟩
  deque := []
  lastTree := 0xFFF
  serial := 0
  rotation := 32
  admitted := 0
  views := Vector.replicate 32 ⟨false, 0, 0, 0, 0, false, 0, 0, 0, false⟩
  openings := 0
  tlb := []
  fold := []
  ins := Vector.replicate 32 ⟨0x3000000000000000, 0, 0, 0, 0, [], 0, none⟩
  outs := Vector.replicate 32 ⟨0, 0, [], 0, [], false⟩
  port := Vector.replicate 2 0
  orders := 0
  windows := Vector.replicate 16 (Vector.replicate 4 0)
  irq := 0
  need := Vector.replicate 16 0
  schstat := 0
  psstat := 0
  save := none
  asSaved := []
  groups := []
  imemBusy := 0
  mbreq := 0
  mbdata := 0
  mbstat := 0
  banksRetired := []
  columnsRetired := 0

/-- A holder or a queued request of a lock object (R327): the task, its age (R330), the mode, the order of arrival, and for a
queued request whether it is an upgrade. -/
structure Claim where
  ctx : CtxRef
  tick : Nat
  mode : LockMode
  order : Nat
  upgrade : Bool
  id : Nat
  deriving DecidableEq, Repr, Inhabited

/-- A lock object with a holder or a waiter (R327, R336). -/
structure LockObj where
  name : Word
  holders : List Claim
  queue : List Claim
  deriving DecidableEq, Repr, Inhabited

/-- A stream packet on its way (R203 to R205): where it goes, its header, the wire bytes that have come, who sent it (node, tile
and output stream; an ingress queue is sender 256 + queue of its node), its poisoned payload units, whether it still
travels as flits, and whether its last byte has come. -/
structure NetPacket where
  id : Nat
  dest : TileRef
  hdr0 : Word
  hdr1 : Word
  wire : List Byte
  sender : CtxRef
  poison : List Nat
  transit : Bool
  whole : Bool
  deriving DecidableEq, Repr, Inhabited

/-- One direction of a bundle (R401 to R406): the sender's class queues (Link and Credit, Response, Stream, Request), its
replay buffer and counters, the receiver's expectation, and the request credits held and owed. -/
structure Link where
  credit : List Flit
  response : List Flit
  stream : List Flit
  request : List Flit
  turn : Nat
  replay : List Flit
  resend : Nat
  txSeq : Nat
  rxSeq : Nat
  ackOut : Option Nat
  nakOut : Bool
  reqCredits : Nat
  owed : Nat
  replaying : Bool
  down : Bool
  deriving DecidableEq, Repr, Inhabited

def Link.reset : Link := ⟨[], [], [], [], 0, [], 0, 0, 0, none, false, 16, 0, false, false⟩

/-- The generation states (Table 13.7). -/
inductive GenState where
  | one | loading | verified | switched | failed
  deriving DecidableEq, Repr, Inhabited

/-- The states of a drove on a node (R364). -/
inductive DroveState where
  | absent | loading | resident | removing
  deriving DecidableEq, Repr, Inhabited

/-- An entry of the drove table (R409) with what the node keeps of the drove (R358, R364, R370): the segments written, the tiles'
state, and the segments of standby generations. -/
structure DroveEntry where
  valid : Bool
  drove : BitVec 32
  st : DroveState
  act : BitVec 4
  stb : BitVec 4
  gst : GenState
  cmderr : Bool
  manifestHash : List Byte
  segs : List Segment
  tiles : List TileInit
  standby : List Segment
  deriving DecidableEq, Repr, Inhabited

/-- A host work queue (Tables 15.6 to 15.8) with its binding. -/
structure HostQueue where
  base : Word
  cfg : Word
  pbase : Word
  tail : BitVec 16
  head : BitVec 16
  stat : Word
  binding : Option QueueBinding
  credits : Nat
  lastGen : Option (BitVec 4)
  /-- The hold of R430. -/
  hold : Bool
  deriving DecidableEq, Repr, Inhabited

def HostQueue.reset : HostQueue := ⟨0, 0, 0, 0, 0, 0, none, 0, none, false⟩

/-- The corrected-error record of a unit (R425): its state, its hourly buckets (newest first) and the tick of its first
crossing. A `retired` unit has crossed twice; it serves until the occasion of Table 17.2 comes, where its spare takes its number
and a record of its own begins. -/
inductive UnitState where
  | good | suspect | retired
  deriving DecidableEq, Repr, Inhabited

structure UnitRec where
  unit : RasUnit
  st : UnitState
  buckets : List Nat
  crossed : Nat
  deriving DecidableEq, Repr, Inhabited

/-- A repair of a stream's credits in progress (R430). -/
structure Resync where
  tile : Nat
  stream : Nat
  answers : List CtxRef
  senders : List CtxRef
  deriving DecidableEq, Repr, Inhabited

/-- A window of a drove that names a node, as the node's own record of the drove's windows holds it (R239): dwords 0 to 2 of its
descriptor (Table 8.3). -/
structure Export where
  drove : BitVec 32
  d0 : Word
  d1 : Word
  d2 : Word
  deriving DecidableEq, Repr, Inhabited

/-- An entry of the drove key table (R434): V, and the entry's bytes from byte 8 on, of which the first 1,312 are the public key. -/
structure DroveKey where
  valid : Bool
  key : List Byte
  deriving DecidableEq, Repr, Inhabited

/-- A page of which a truncation has cut positions that accesses issued before it may still read (R308, Table 10.7): accesses
numbered below `upto`, positions from `pos` on. -/
structure Retained where
  seqId : Nat
  layer : Nat
  head : Nat
  page : Nat
  pd : Nat
  upto : Nat
  pos : Nat
  deriving DecidableEq, Repr, Inhabited

/-- One node (Tables 10.1 to 10.4, 11.2, 13.7, 15.3, 15.4, 17.2 to 17.5). -/
structure Node where
  tiles : Sparse Tile
  /-- The node block (Table 15.4). -/
  ldstat : Word
  mbin : Vector Word 8
  members : Option (BitVec 4096)
  cresync : Word
  resync : Option Resync
  /-- The pasture tick (R330). -/
  tick : BitVec 56
  /-- What the tick had reached when the node was last reset, until it stands there again: the ticks of its service (R425). -/
  tickBase : Nat
  /-- The crook (R322, R327, R336). -/
  matrix : BitVec 36
  locks : List LockObj
  arrivals : Nat
  /-- The fold region and layout (R290, R294) and the drove whose it is; frames in use and those cut into directory blocks; page descriptors in use;
  images in run-length form (R297); pages held for earlier accesses; and moves in progress, each its descriptor, the
  descriptor allocated for it, and its phase (R297, R402). -/
  fold : Option FoldRegion
  foldOwner : BitVec 32
  framesUsed : List Nat
  framesCut : List Nat
  descUsed : List Nat
  runImages : List Nat
  retained : List Retained
  movers : List (Nat × Nat × Nat)
  /-- Droves and their windows (R239, R364). -/
  droves : List DroveEntry
  exports : List Export
  muster : Sparse (List Byte)
  /-- The parity shares the node keeps, by drove (R432); they outlast the drove (Table 0.2). -/
  shares : List (BitVec 32 × List Byte)
  /-- Host queues: ingress q at q, egress q at 8,192 + q (R409). -/
  queues : Sparse HostQueue
  msix : List Nat
  msixPend : List Nat
  msixTable : Sparse Word
  lastQueue : Nat
  /-- Lanes (R399 to R406). -/
  links : Sparse Link
  partials : List (Nat × Nat × List Flit)
  /-- Remote requests waiting for their response (R402), key the request id. -/
  requests : Sparse (CtxRef × Nat)
  /-- Integrity (R425, R426). -/
  rascfg : Word
  nlog : BitVec 16
  fbank : BitVec 16
  ftile : BitVec 16
  flane : BitVec 16
  log : Sparse (Word × Word × Word × Word)
  units : List UnitRec
  /-- The numbers whose units have gone to a spare, one entry for each spare used (R425). -/
  replaced : List RasUnit
  fallowRows : List Nat
  laneFails : List Nat
  silent : Bool
  failed : Bool
  /-- Trust (R434). -/
  recovery : Bool
  booted : Bool
  /-- The dwords written to the recovery image window, newest first. -/
  imageWindow : List (Nat × Word)
  fwHash : List Byte
  fwVersion : BitVec 32
  keys : Vector DroveKey 8
  nonce : List Byte
  attReq : Bool
  report : List Byte
  /-- Power (R435). -/
  pwrstat : BitVec 4
  pwrcap : BitVec 16
  deriving DecidableEq, Repr, Inhabited

/-- A node after reset (R10). -/
def Node.reset : Node where
  tiles := []
  ldstat := 0
  mbin := Vector.replicate 8 0
  members := none
  cresync := 0
  resync := none
  tick := 0
  tickBase := 0
  matrix := 0x1304_54DF
  locks := []
  arrivals := 0
  fold := none
  foldOwner := 0
  framesUsed := []
  framesCut := []
  descUsed := []
  runImages := []
  retained := []
  movers := []
  droves := []
  exports := []
  muster := []
  shares := []
  queues := []
  msix := []
  msixPend := []
  msixTable := []
  lastQueue := 0
  links := []
  partials := []
  requests := []
  rascfg := 0x0000_0000_0718_0004
  nlog := 0
  fbank := 0x0800
  ftile := 0xFFFF
  flane := 0xFFFF
  log := []
  units := []
  replaced := []
  fallowRows := []
  laneFails := []
  silent := false
  failed := false
  recovery := false
  booted := false
  imageWindow := []
  fwHash := []
  fwVersion := 0
  keys := Vector.replicate 8 ⟨false, []⟩
  nonce := []
  attReq := false
  report := []
  pwrstat := 8
  pwrcap := 1200

/-- What an issue-time check found (R184): the step at which the operation failed, its slot, cause and `XADDR`. -/
structure Failure where
  step : Nat
  slot : Slot
  cause : Cause
  xaddr : Word
  deriving DecidableEq, Repr, Inhabited

/-- How an operation is being run: on its own, as the check of its bundle, or as the execution of a checked bundle. -/
inductive Mode where
  | direct | probe | commit
  deriving DecidableEq, Repr, Inhabited

/-- Where control goes when the issuing bundle retires (R41, R125, R129, R137, R46). -/
inductive Retire where
  | next
  | jump (t : BitVec 12) (leaves : Bool)
  | skip (last : Nat)
  deriving DecidableEq, Repr, Inhabited

/-- The bundle that is issuing (R88 to R92): its words, header bytes and operations still to run, the failures its checks
found, and what its retirement does. -/
structure Issue where
  mode : Mode
  words : Vector (BitVec 32) 4
  xv : Byte
  xm : Byte
  xe : Byte
  cbb : BitVec 2
  cbp : BitVec 2
  ops : List (Slot × Instr)
  fails : List Failure
  taken : Nat
  retire : Retire
  bubbles : Nat
  loop : Option (BitVec 2 × Word)
  endBlock : Option Wait
  stay : Bool
  quit : Bool
  trap : Option (BitVec 4)
  tret : Bool
  deriving DecidableEq, Repr, Inhabited

def Issue.idle : Issue where
  mode := .direct
  words := Vector.replicate 4 0
  xv := 0
  xm := 0
  xe := 0
  cbb := 0
  cbp := 0
  ops := []
  fails := []
  taken := 0
  retire := .next
  bubbles := 0
  loop := none
  endBlock := none
  stay := false
  quit := false
  trap := none
  tret := false

/-- The machine: the nodes of a pasture, the byte memories of all its tiles (keys by `Mem.key`), the poisoned units, the units
whose value reached a context poisoned though the unit itself is whole (R423), host memory, the messages and packets in flight, the steps chosen from outside, the tile whose bundle issues, the issuing
bundle, and the model's own counter of free values. -/
structure State where
  nodes : Sparse Node
  mem : List Host.Cell
  poison : List Nat
  tainted : List (Nat × CtxRef)
  hostMem : List Host.Cell
  net : List Event
  packets : List NetPacket
  agenda : List Instr
  focus : TileRef
  issue : Issue
  ids : Nat
  free : Nat
  deriving DecidableEq, Repr, Inhabited

/-- The machine right after reset: no node has been changed from its reset state, no memory has been written, nothing is in
flight. -/
def State.reset : State where
  nodes := []
  mem := []
  poison := []
  tainted := []
  hostMem := []
  net := []
  packets := []
  agenda := []
  focus := ⟨0, 0⟩
  issue := Issue.idle
  ids := 0
  free := 0

end Sys2Proof.Machine
end

