-- ==== Sys2Proof/Machine/Memory.lean ====
section
/-! DEFINITION. Sparse data and the byte memories: reading, writing, the canonical form, and where each byte of a tile lies
in the one list of cells (spec/08 R233, R240; log entries 9 and 10). -/

namespace Sys2Proof.Machine

/-- The value at a key of sparse data, or the default. -/
def spGet {α : Type} (d : α) : Sparse α → Nat → α
  | [], _ => d
  | (j, v) :: r, k => if j = k then v else spGet d r k

/-- Sparse data with a value placed at a key. -/
def spPut {α : Type} : Sparse α → Nat → α → Sparse α
  | [], k, v => [(k, v)]
  | (j, w) :: r, k, v => if k < j then (k, v) :: (j, w) :: r else if k = j then (k, v) :: r else (j, w) :: spPut r k v

/-- Sparse data without a key. -/
def spDel {α : Type} (m : Sparse α) (k : Nat) : Sparse α := m.filter (fun e => e.1 != k)

/-- Whether a key is listed. -/
def spHas {α : Type} (m : Sparse α) (k : Nat) : Bool := m.any (fun e => e.1 == k)

/-- The byte memories a tile has, by the number their keys carry: SRAM, instruction memory, spill memory, tile registers and
port memory. -/
inductive MemSpace where
  | sram | imem | spill | treg | port
  deriving DecidableEq, Repr, Inhabited

/-- The number of a memory in a key. -/
def MemSpace.code : MemSpace → Nat
  | .sram => 0
  | .imem => 1
  | .spill => 2
  | .treg => 3
  | .port => 4

/-- The key of the byte at an offset of a tile's memory. -/
def memKey (sp : MemSpace) (t : TileRef) (off : Nat) : Nat :=
  ((sp.code * 4096 + t.node) * 256 + t.tile) * 2 ^ 24 + off

/-- What a byte that nothing has written reads as: ones in instruction memory (R104), zero elsewhere (R50 for spill; log
entry 9 for the rest). -/
def memDefault (k : Nat) : Byte := if k / 2 ^ 44 = 1 then 0xFF else 0

/-- One byte of the cells. -/
def Memory.get : List Host.Cell → Nat → Byte
  | [], k => memDefault k
  | (j, v) :: r, k => if k < j then memDefault k else if j = k then v else Memory.get r k

/-- The cells with one byte written, in canonical form. -/
def Memory.put : List Host.Cell → Nat → Byte → List Host.Cell
  | [], k, v => if v = memDefault k then [] else [(k, v)]
  | (j, w) :: r, k, v =>
    if k < j then (if v = memDefault k then (j, w) :: r else (k, v) :: (j, w) :: r)
    else if k = j then (if v = memDefault k then r else (k, v) :: r)
    else (j, w) :: Memory.put r k v

/-- The canonical form above a bound: addresses strictly rising and no entry that an unlisted address reads as. -/
def Memory.wfFrom : Nat → List Host.Cell → Bool
  | _, [] => true
  | lo, (j, v) :: r => decide (lo ≤ j) && decide (v ≠ memDefault j) && Memory.wfFrom (j + 1) r

/-- The canonical form of the cells. -/
def Memory.wf (m : List Host.Cell) : Bool := Memory.wfFrom 0 m

/-- The bytes of `n` consecutive cells. -/
def Memory.read (m : List Host.Cell) : Nat → Nat → List Byte
  | _, 0 => []
  | k, n + 1 => Memory.get m k :: Memory.read m (k + 1) n

/-- The cells with consecutive bytes written. -/
def Memory.write (m : List Host.Cell) : Nat → List Byte → List Host.Cell
  | _, [] => m
  | k, b :: bs => Memory.write (Memory.put m k b) (k + 1) bs

/-- The cells with `n` consecutive bytes as if nothing had written them. -/
def Memory.zero (m : List Host.Cell) (k n : Nat) : List Host.Cell :=
  m.filter (fun c => decide (c.1 < k) || decide (k + n ≤ c.1))

/-- The cells of consecutive bytes, those that read as unwritten left out. -/
def Memory.cells : Nat → List Byte → List Host.Cell
  | _, [] => []
  | k, b :: bs => if b = memDefault k then Memory.cells (k + 1) bs else (k, b) :: Memory.cells (k + 1) bs

/-- The cells below a key, and those from a key on. -/
def Memory.below (m : List Host.Cell) (k : Nat) : List Host.Cell := m.filter (fun c => decide (c.1 < k))
def Memory.from (m : List Host.Cell) (k : Nat) : List Host.Cell := m.filter (fun c => decide (k ≤ c.1))

/-- The cells with a long run of bytes written. -/
def Memory.place (m : List Host.Cell) (k : Nat) (bs : List Byte) : List Host.Cell :=
  Memory.below m k ++ Memory.cells k bs ++ Memory.from m (k + bs.length)

/-- The cells with `n` bytes from key `dst` on as those from key `src` on are: for memories whose unwritten bytes read alike. -/
def Memory.move (m : List Host.Cell) (src dst n : Nat) : List Host.Cell :=
  Memory.below m dst
    ++ ((Memory.below (Memory.from m src) (src + n)).map (fun c => (c.1 - src + dst, c.2))).filter (fun c => c.2 != memDefault c.1)
    ++ Memory.from m (dst + n)

/-- Bytes from a list of cells whose keys rise, from key `k` on. -/
def Memory.dense : List Host.Cell → Nat → Nat → List Byte
  | _, _, 0 => []
  | [], k, n + 1 => memDefault k :: Memory.dense [] (k + 1) n
  | (j, v) :: r, k, n + 1 =>
    if j = k then v :: Memory.dense r (k + 1) n else memDefault k :: Memory.dense ((j, v) :: r) (k + 1) n

/-- A long run of bytes read. -/
def Memory.slice (m : List Host.Cell) (k n : Nat) : List Byte := Memory.dense (Memory.from m k) k n

/-- The number little-endian bytes stand for (R88, R240). -/
def bytesToNat : List Byte → Nat
  | [] => 0
  | b :: bs => b.toNat + 256 * bytesToNat bs

/-- The `n` low bytes of a number, the least significant first. -/
def natToBytes : Nat → Nat → List Byte
  | 0, _ => []
  | n + 1, v => BitVec.ofNat 8 v :: natToBytes n (v / 256)

/-- The 8 bytes of a word. -/
def wordBytes (w : Word) : List Byte := natToBytes 8 w.toNat

/-- The word of up to 8 bytes. -/
def bytesWord (bs : List Byte) : Word := BitVec.ofNat 64 (bytesToNat bs)

/-- The vector of up to 128 bytes. -/
def bytesVec (bs : List Byte) : VReg := BitVec.ofNat 1024 (bytesToNat bs)

/-- The 128 bytes of a vector. -/
def vecBytes (v : VReg) : List Byte := natToBytes 128 v.toNat

/-- Bytes of one of a tile's memories. -/
def State.readBytes (s : State) (sp : MemSpace) (t : TileRef) (off n : Nat) : List Byte :=
  Memory.read s.mem (memKey sp t off) n

/-- A dword of one of a tile's memories. -/
def State.readWord (s : State) (sp : MemSpace) (t : TileRef) (off : Nat) : Word :=
  bytesWord (s.readBytes sp t off 8)

/-- One byte of one of a tile's memories. -/
def State.readByte (s : State) (sp : MemSpace) (t : TileRef) (off : Nat) : Byte :=
  Memory.get s.mem (memKey sp t off)

/-- Bytes written to one of a tile's memories. -/
def State.writeBytes (s : State) (sp : MemSpace) (t : TileRef) (off : Nat) (bs : List Byte) : State :=
  { s with mem := Memory.write s.mem (memKey sp t off) bs }

/-- A dword written to one of a tile's memories. -/
def State.writeWord (s : State) (sp : MemSpace) (t : TileRef) (off : Nat) (w : Word) : State :=
  s.writeBytes sp t off (wordBytes w)

/-- A long run of bytes of one of a tile's memories, read and written. -/
def State.slice (s : State) (sp : MemSpace) (t : TileRef) (off n : Nat) : List Byte := Memory.slice s.mem (memKey sp t off) n
def State.placeBytes (s : State) (sp : MemSpace) (t : TileRef) (off : Nat) (bs : List Byte) : State :=
  { s with mem := Memory.place s.mem (memKey sp t off) bs }

/-- The values of `n` bytes from a key on have been replaced: none of their units taints a context any more (R423). -/
def untaint (ts : List (Nat × CtxRef)) (k n : Nat) : List (Nat × CtxRef) :=
  ts.filter (fun x => !(decide (k ≤ x.1) && decide (x.1 + 8 ≤ k + n)))

/-- `n` bytes from one place to another, their poison with them. -/
def State.moveBytes (s : State) (src dst n : Nat) : State :=
  { s with
    mem := Memory.move s.mem src dst n
    tainted := untaint s.tainted dst n
    poison := s.poison.filter (fun u => !(decide (dst ≤ u) && decide (u < dst + n)))
      ++ (s.poison.filter (fun u => decide (src ≤ u) && decide (u < src + n))).map (fun u => u - src + dst) }

/-- The poison of the units a write fills whole is cleared (R423). -/
def State.healWhole (s : State) (sp : MemSpace) (r : TileRef) (off n : Nat) : State :=
  let k := memKey sp r off
  { s with
    poison := s.poison.filter (fun u => !(decide (k ≤ u) && decide (u + 8 ≤ k + n)))
    tainted := untaint s.tainted k n }

/-- The units that a range of one of a tile's memories touches are poisoned (R422, R423). -/
def State.spoilRange (s : State) (sp : MemSpace) (r : TileRef) (off n : Nat) : State :=
  let us := (List.range ((off + n + 7) / 8 - off / 8)).map (fun i => memKey sp r (8 * (off / 8 + i)))
  { s with poison := us ++ s.poison.filter (fun u => !us.contains u) }

/-- The pieces of a range that lie each in one unit: offset in the range, and length. -/
def unitPieces (off : Nat) : Nat → Nat → Nat → List (Nat × Nat)
  | 0, _, _ => []
  | fuel + 1, pos, n =>
    if n = 0 then []
    else
      let k := min n (8 - (off + pos) % 8)
      (pos, k) :: unitPieces off fuel (pos + k) (n - k)

/-- Whether some unit of a range of one of a tile's memories is poisoned (R423). -/
def State.poisonIn (s : State) (sp : MemSpace) (r : TileRef) (off n : Nat) : Bool :=
  let k := memKey sp r off
  s.poison.any (fun u => decide (u < k + n) && decide (k < u + 8))

/-- `n` bytes of one of a tile's memories made as if nothing had written them, as whole units are written (R423): zero, or ones in
instruction memory (R104). -/
def State.zeroBytes (s : State) (sp : MemSpace) (t : TileRef) (off n : Nat) : State :=
  ({ s with mem := Memory.zero s.mem (memKey sp t off) n }).healWhole sp t off n

end Sys2Proof.Machine
end

