-- ==== Sys2Proof/Machine/Flags.lean ====
section
/-! DEFINITION. The flags of `FFLAGS` (spec/02 R73, Table 2.10): one group of seven bits, held twice, for the V slot and for the matrix
engine. -/

namespace Sys2Proof.Machine

/-- The flags of a group, bit by bit (Table 2.10). -/
def flagNX : BitVec 7 := 1
def flagUF : BitVec 7 := 2
def flagOF : BitVec 7 := 4
def flagDZ : BitVec 7 := 8
def flagNV : BitVec 7 := 16
def flagSA : BitVec 7 := 32
def flagCV : BitVec 7 := 64

end Sys2Proof.Machine
end

