-- ==== Sys2Proof/Machine/Formats.lean ====
section
/-! DEFINITION. Numbers, bit by bit (spec/02): bit fields, the binary formats with their decoding, rounding and flags,
exact arithmetic on decoded values, integer ranges, and the random-bit generator. -/

namespace Sys2Proof.Machine

/-- The field of `len` bits from bit `lo` of a number (R5). -/
def fld (x lo len : Nat) : Nat := (x >>> lo) % 2 ^ len

/-- The field of `len` bits from bit `lo` of a word. -/
def wfld (w : Word) (lo len : Nat) : Nat := fld w.toNat lo len

/-- A word with a field replaced. -/
def setFld (w : Word) (lo len v : Nat) : Word :=
  let m : Word := BitVec.ofNat 64 ((2 ^ len - 1) <<< lo)
  (w &&& ~~~m) ||| (BitVec.ofNat 64 ((v % 2 ^ len) <<< lo))

/-- The signed value of the low `len` bits of a number. -/
def sfld (x lo len : Nat) : Int :=
  let v := fld x lo len
  if v < 2 ^ (len - 1) then (v : Int) else (v : Int) - 2 ^ len

/-- A signed number modulo 2 to the `n` (R55). -/
def wrapInt (n : Nat) (x : Int) : Nat := (x % (2 ^ n : Nat)).toNat

/-- The number of bits a number needs: floor of its logarithm plus one, 0 for 0. -/
def bitLen (x : Nat) : Nat := if x = 0 then 0 else Nat.log2 x + 1

/-- A binary floating format: sign, exponent and mantissa widths, bias and special-value policy (Tables 2.3 to 2.5; policy
0 IEEE, 1 NaN-only, 2 saturating). -/
structure FloatSpec where
  sgn : Bool
  exp : Nat
  man : Nat
  bias : Nat
  pol : Nat
  deriving DecidableEq, Repr, Inhabited

/-- BF16, FP16, FP32 and binary64 (Table 2.3). -/
def specBf16 : FloatSpec := ⟨true, 8, 7, 127, 0⟩
def specFp16 : FloatSpec := ⟨true, 5, 10, 15, 0⟩
def specFp32 : FloatSpec := ⟨true, 8, 23, 127, 0⟩
def specFp64 : FloatSpec := ⟨true, 11, 52, 1023, 0⟩

/-- A float lane type's format (R95). -/
def floatSpec : FloatT → FloatSpec
  | .fp32 => specFp32
  | .bf16 => specBf16
  | .fp16 => specFp16
  | .fp64 => specFp64

/-- A float lane type's width. -/
def floatBits : FloatT → Nat
  | .fp32 => 32
  | .bf16 => 16
  | .fp16 => 16
  | .fp64 => 64

/-- A decoded value: NaN or infinity with its sign, or the finite number (−1)^neg · m · 2^e. -/
inductive FVal where
  | nan (neg : Bool)
  | inf (neg : Bool)
  | fin (neg : Bool) (m : Nat) (e : Int)
  deriving DecidableEq, Repr, Inhabited

/-- The width of a format's code. -/
def FloatSpec.width (f : FloatSpec) : Nat := (if f.sgn then 1 else 0) + f.exp + f.man

/-- The largest magnitude code that is finite (Table 2.5). -/
def FloatSpec.maxMag (f : FloatSpec) : Nat :=
  if f.pol = 0 then (2 ^ f.exp - 1) * 2 ^ f.man - 1
  else if f.pol = 1 then 2 ^ (f.exp + f.man) - 2
  else 2 ^ (f.exp + f.man) - 1

/-- A code with its sign bit. -/
def FloatSpec.withSign (f : FloatSpec) (neg : Bool) (mag : Nat) : Nat :=
  if f.sgn && neg then mag + 2 ^ (f.exp + f.man) else mag

/-- The finite value of a magnitude code (R56). -/
def FloatSpec.magValue (f : FloatSpec) (mag : Nat) : Nat × Int :=
  let e := mag / 2 ^ f.man
  let m := mag % 2 ^ f.man
  if e = 0 then (m, 1 - (f.bias : Int) - f.man) else (2 ^ f.man + m, (e : Int) - f.bias - f.man)

/-- The value of a code (R56, R60); bits above the format's width are ignored (R54). -/
def FloatSpec.decode (f : FloatSpec) (c : Nat) : FVal :=
  let mag := c % 2 ^ (f.exp + f.man)
  let neg := f.sgn && (c >>> (f.exp + f.man)) % 2 == 1
  let e := mag / 2 ^ f.man
  if f.pol = 0 && e == 2 ^ f.exp - 1 then (if mag % 2 ^ f.man = 0 then .inf neg else .nan neg)
  else if f.pol = 1 && mag == 2 ^ (f.exp + f.man) - 1 then .nan neg
  else let v := f.magValue mag; .fin neg v.1 v.2

/-- The canonical NaN of a format that has one (Table 2.5, R70). -/
def FloatSpec.canonNaN (f : FloatSpec) : Option Nat :=
  if f.pol = 0 then some ((2 ^ f.exp - 1) * 2 ^ f.man + 2 ^ (f.man - 1))
  else if f.pol = 1 then some (2 ^ (f.exp + f.man) - 1)
  else none

/-- The infinity of a format that has one. -/
def FloatSpec.infMag (f : FloatSpec) : Option Nat :=
  if f.pol = 0 then some ((2 ^ f.exp - 1) * 2 ^ f.man) else none

/-- How an operation rounds: the mode of Table 2.8 and the lane's 16 random bits for stochastic rounding. -/
structure Rounding where
  mode : Nat
  rand : Nat
  deriving DecidableEq, Repr, Inhabited

/-- Round to nearest, ties to even. -/
def rne : Rounding := ⟨0, 0⟩

/-- Whether a magnitude is rounded away from zero: `n` is its integer part, `rem` of 2^sh its remainder, `more` that a
nonzero part lies below the remainder (R66, R67). -/
def roundsUp (r : Rounding) (neg : Bool) (n rem sh : Nat) (more : Bool) : Bool :=
  let inexact := rem != 0 || more
  match r.mode with
  | 0 =>
    if sh = 0 then false
    else decide (2 ^ (sh - 1) < rem) || (rem == 2 ^ (sh - 1) && (more || n % 2 == 1))
  | 2 => inexact && !neg
  | 3 => inexact && neg
  | 4 => inexact && decide (2 ^ 16 ≤ (rem * 2 ^ 16) / 2 ^ sh + r.rand)
  | _ => false

/-- What an overflow gives in a format (Table 2.9). -/
def FloatSpec.overflow (f : FloatSpec) (r : Rounding) (neg : Bool) : Nat :=
  match f.infMag with
  | none => f.withSign neg f.maxMag
  | some i =>
    let toInf := match r.mode with
      | 1 => false
      | 2 => !neg
      | 3 => neg
      | _ => true
    f.withSign neg (if toInf then i else f.maxMag)

/-- A magnitude m · 2^e above the largest finite one rounded stochastically: `lo` is the largest finite magnitude and `hi` the
next power of two beyond it (R67); `none` where the magnitude is not above it, or `lo` is zero. -/
def FloatSpec.roundOver (f : FloatSpec) (r : Rounding) (m : Nat) (e : Int) (more : Bool) : Option Bool :=
  let t := f.magValue f.maxMag
  let top := (bitLen t.1 : Int) + t.2
  if t.1 = 0 ∨ r.mode ≠ 4 then none
  else if top < e + (bitLen m : Int) then some true
  else
    let base := min e t.2
    let x := m <<< (e - base).toNat
    let lo := t.1 <<< (t.2 - base).toNat
    if x < lo ∨ (x = lo ∧ more = false) then none
    else some (decide (2 ^ 16 ≤ ((x - lo) * 2 ^ 16) / (2 ^ (top - base).toNat - lo) + r.rand))

/-- The code nearest to m · 2^e in the mode, and its flags (R63, R66 to R69). `more` says that the exact magnitude lies
strictly between m and m + 1 at that scale; its caller then keeps at least 20 bits below the last place of the result. -/
def FloatSpec.round (f : FloatSpec) (r : Rounding) (neg : Bool) (m : Nat) (e : Int) (more : Bool) : Nat × BitVec 7 :=
  if neg && !f.sgn then (0, if m = 0 && !more then 0 else flagNV)
  else if m = 0 then (f.withSign neg 0, 0)
  else
    match f.roundOver r m e more with
    | some true => (f.overflow r neg, flagOF ||| flagNX)
    | some false => (f.withSign neg f.maxMag, flagNX)
    | none =>
    let k := e + (bitLen m : Int) - 1
    let emin : Int := 1 - (f.bias : Int)
    let u := max k emin - f.man
    let sh := (u - e).toNat
    let n := if u ≤ e then m <<< (e - u).toNat else m >>> sh
    let rem := if u ≤ e then 0 else m % 2 ^ sh
    let inexact := rem != 0 || more
    let n' := if roundsUp r neg n rem sh more then n + 1 else n
    let mag := if k < emin then n' else ((u - (emin - f.man) + 1).toNat) * 2 ^ f.man + n' - 2 ^ f.man
    if f.maxMag < mag then (f.overflow r neg, flagOF ||| flagNX)
    else (f.withSign neg mag,
      (if inexact then flagNX else 0) ||| (if inexact && decide (mag < 2 ^ f.man) then flagUF else 0))

/-- A NaN delivered in a format: the canonical NaN, or the largest magnitude with the NaN's sign and NV where the format has
none (R70, R71). -/
def FloatSpec.nanCode (f : FloatSpec) (neg : Bool) : Nat × BitVec 7 :=
  match f.canonNaN with
  | some c => (c, 0)
  | none => (f.withSign neg f.maxMag, flagNV)

/-- A value delivered in a format in the mode. An infinity in a format without one gives the largest magnitude with OF and NX
(Table 2.9); a negative infinity in an unsigned format is a negative value (R63). -/
def FloatSpec.deliver (f : FloatSpec) (r : Rounding) : FVal → Nat × BitVec 7
  | .nan neg => f.nanCode neg
  | .inf neg =>
    if neg && !f.sgn then (0, flagNV)
    else match f.infMag with
      | some i => (f.withSign neg i, 0)
      | none => (f.withSign neg f.maxMag, flagOF ||| flagNX)
  | .fin neg m e => f.round r neg m e false

/-- The sign of an exact zero sum of two values that are not zeros of one sign: negative only when rounding down. -/
def zeroSumNeg (r : Rounding) (a b : Bool) : Bool := if a = b then a else r.mode == 3

/-- The exact sum of two values, and whether it is the invalid ∞ − ∞ (R71). -/
def FVal.add (r : Rounding) : FVal → FVal → FVal × Bool
  | .nan a, _ => (.nan a, false)
  | _, .nan b => (.nan b, false)
  | .inf a, .inf b => if a = b then (.inf a, false) else (.nan false, true)
  | .inf a, .fin _ _ _ => (.inf a, false)
  | .fin _ _ _, .inf b => (.inf b, false)
  | .fin a m e, .fin b n g =>
    let lo := min e g
    let x : Int := (m <<< (e - lo).toNat : Nat)
    let y : Int := (n <<< (g - lo).toNat : Nat)
    let z := (if a then -x else x) + (if b then -y else y)
    if z = 0 then (.fin (zeroSumNeg r a b) 0 lo, false) else (.fin (decide (z < 0)) z.natAbs lo, false)

/-- The value with its sign changed. -/
def FVal.neg : FVal → FVal
  | .nan a => .nan (!a)
  | .inf a => .inf (!a)
  | .fin a m e => .fin (!a) m e

/-- The exact product of two values, and whether it is the invalid 0 × ∞ (R71). -/
def FVal.mul : FVal → FVal → FVal × Bool
  | .nan a, _ => (.nan a, false)
  | _, .nan b => (.nan b, false)
  | .inf a, .inf b => (.inf (xor a b), false)
  | .inf a, .fin b n _ => if n = 0 then (.nan false, true) else (.inf (xor a b), false)
  | .fin a m _, .inf b => if m = 0 then (.nan false, true) else (.inf (xor a b), false)
  | .fin a m e, .fin b n g => (.fin (xor a b) (m * n) (e + g), false)

/-- A result with NV alone where the operation was invalid (R69, R71). -/
def FloatSpec.finish (f : FloatSpec) (r : Rounding) (v : FVal × Bool) : Nat × BitVec 7 :=
  if v.2 then ((f.nanCode false).1, flagNV) else f.deliver r v.1

/-- Whether two values are unordered. -/
def FVal.unordered : FVal → FVal → Bool
  | .nan _, _ => true
  | _, .nan _ => true
  | _, _ => false

/-- Less than, for ordered values; the zeros are equal. -/
def FVal.lt : FVal → FVal → Bool
  | .nan _, _ => false
  | _, .nan _ => false
  | .inf a, .inf b => a && !b
  | .inf a, .fin _ _ _ => a
  | .fin _ _ _, .inf b => !b
  | .fin a m e, .fin b n g =>
    let lo := min e g
    let x : Int := (m <<< (e - lo).toNat : Nat)
    let y : Int := (n <<< (g - lo).toNat : Nat)
    decide ((if a then -x else x) < (if b then -y else y))

/-- Equal, for ordered values; the zeros are equal. -/
def FVal.eq (x y : FVal) : Bool := !x.unordered y && !x.lt y && !y.lt x

/-- An element format that an instruction can name (Table 2.1): integers, floats with their width in memory, and E8M0. -/
inductive ElemFmt where
  | int (signed : Bool) (bits : Nat)
  | flt (f : FloatSpec) (bits : Nat)
  | e8m0
  deriving DecidableEq, Repr, Inhabited

/-- The narrow format a format register holds (Table 2.4), if it is valid (R61). -/
def narrowFmt (w : Word) : Option FloatSpec :=
  let f : FloatSpec := ⟨w.getLsbD 6, wfld w 3 3, wfld w 0 3, wfld w 16 8, wfld w 8 2⟩
  if f.exp = 0 ∨ 8 < f.width ∨ f.pol = 3 ∨ (f.pol = 0 ∧ f.man = 0) then none else some f

/-- The format a code names, with the format registers read; none for `f.lp` and for an invalid narrow format (R53, R61). -/
def elemFmt (fmt : Vector Word 16) (code : BitVec 5) : Option ElemFmt :=
  match code.toNat with
  | 0x00 => some (.int true 4)
  | 0x01 => some (.int false 4)
  | 0x02 => some (.int true 8)
  | 0x03 => some (.int false 8)
  | 0x04 => some (.int true 16)
  | 0x05 => some (.int false 16)
  | 0x06 => some (.int true 32)
  | 0x07 => some (.int false 32)
  | 0x08 => some (.int true 64)
  | 0x09 => some (.int false 64)
  | 0x0A => some (.flt specBf16 16)
  | 0x0B => some (.flt specFp16 16)
  | 0x0C => some (.flt specFp32 32)
  | 0x0D => some (.flt specFp64 64)
  | 0x0E => some .e8m0
  | 0x0F => none
  | n => (narrowFmt ((fmt[n - 16]?).getD 0)).map (fun f => .flt f 8)

/-- The code `f.lp` resolves to (R65); none where it resolves to itself. -/
def resolveLp (ftab : Vector Word 16) (ftctl : Word) (lc : Vector Word 4) : Option (BitVec 5) :=
  let l := wfld ftctl 8 5
  let len := if l = 0 ∨ 16 < l then 16 else l
  let iter := wfld ((lc[wfld ftctl 0 2]?).getD 0) 16 16
  let code := wfld ((ftab[(iter + wfld ftctl 4 4) % len]?).getD 0) 0 5
  if code = 0x0F then none else some (BitVec.ofNat 5 code)

/-- The width of an element in a vector lane or in memory (Table 2.1, R54). -/
def ElemFmt.bits : ElemFmt → Nat
  | .int _ b => b
  | .flt _ b => b
  | .e8m0 => 8

/-- The value of an element's code; an integer has no sign of zero. -/
def ElemFmt.decode : ElemFmt → Nat → FVal
  | .int sg b, c =>
    let v := if sg then sfld c 0 b else (fld c 0 b : Int)
    .fin (decide (v < 0)) v.natAbs 0
  | .flt f _, c => f.decode c
  | .e8m0, c => if c % 256 = 255 then .nan false else .fin false 1 ((c % 256 : Nat) - 127)

/-- The range of an integer format (Table 2.2). -/
def intMin (sg : Bool) (b : Nat) : Int := if sg then -(2 ^ (b - 1) : Nat) else 0
def intMax (sg : Bool) (b : Nat) : Int := if sg then (2 ^ (b - 1) : Nat) - 1 else (2 ^ b : Nat) - 1

/-- The output mixer of R74. -/
def rngMix (z0 : Word) : Word :=
  let z1 := (z0 ^^^ (z0 >>> 30)) * 0xBF58476D1CE4E5B9
  let z2 := (z1 ^^^ (z1 >>> 27)) * 0x94D049BB133111EB
  z2 ^^^ (z2 >>> 31)

/-- The increment G of R74. -/
def rngG : Word := 0x9E3779B97F4A7C15

/-- The state a seed gives (R74). -/
def rngSeed (seed : Word) : Vector Word 4 :=
  let s0 := rngMix (seed + rngG)
  let s1 := rngMix (seed + rngG + rngG)
  let s2 := rngMix (seed + rngG + rngG + rngG)
  let s3 := rngMix (seed + rngG + rngG + rngG + rngG)
  if s0 = 0 ∧ s1 = 0 ∧ s2 = 0 ∧ s3 = 0 then #v[1, 0, 0, 0] else #v[s0, s1, s2, s3]

/-- One pop: the word and the next state (R74). -/
def rngPop (st : Vector Word 4) : Word × Vector Word 4 :=
  let s0 := st[0]
  let s1 := st[1]
  let r := ((s1 * 5).rotateLeft 7) * 9
  let t := s1 <<< 17
  let s2 := st[2] ^^^ s0
  let s3 := st[3] ^^^ s1
  let s1' := s1 ^^^ s2
  let s0' := s0 ^^^ s3
  (r, #v[s0', s1', s2 ^^^ t, s3.rotateLeft 45])

/-- Element i's 16 random bits from a popped word (R75). -/
def rngBits (w : Word) (i : Nat) : Nat := wfld (rngMix (w + BitVec.ofNat 64 (i + 1) * rngG)) 0 16

end Sys2Proof.Machine
end

