-- ==== Sys2Proof/Machine/Access.lean ====
section
/-! DEFINITION. Where things stand in the state: nodes, tiles and context slots, the shares of a context (Tables 1.2, 14.3),
its levels and register files, and the control registers (Table 4.7). -/

namespace Sys2Proof.Machine

/-- What an instruction answers. -/
abbrev Out := Host.Outcome State Fault Refusal

/-- A node, as reset where nothing has changed it. -/
def State.node (s : State) (n : Nat) : Node := spGet Node.reset s.nodes n

/-- The state with a node replaced. -/
def State.setNode (s : State) (n : Nat) (x : Node) : State := { s with nodes := spPut s.nodes n x }

/-- The state with a node changed. -/
def State.modNode (s : State) (n : Nat) (f : Node → Node) : State := s.setNode n (f (s.node n))

/-- A tile, as reset where nothing has changed it. -/
def State.tile (s : State) (r : TileRef) : Tile := spGet Tile.reset (s.node r.node).tiles r.tile

/-- The state with a tile replaced. -/
def State.setTile (s : State) (r : TileRef) (t : Tile) : State :=
  s.modNode r.node (fun n => { n with tiles := spPut n.tiles r.tile t })

/-- The state with a tile changed. -/
def State.modTile (s : State) (r : TileRef) (f : Tile → Tile) : State := s.setTile r (f (s.tile r))

/-- A context slot of a tile. -/
def Tile.ctx (t : Tile) (k : Nat) : Ctx := (t.ctxs[k]?).getD Ctx.reset

/-- The tile with a context slot replaced. -/
def Tile.setCtx (t : Tile) (k : Nat) (c : Ctx) : Tile := { t with ctxs := t.ctxs.setIfInBounds k c }

/-- The tile with a context slot changed. -/
def Tile.modCtx (t : Tile) (k : Nat) (f : Ctx → Ctx) : Tile := t.setCtx k (f (t.ctx k))

/-- The tile a context slot is on. -/
def tileOf (c : CtxRef) : TileRef := ⟨c.node, c.tile⟩

/-- A context slot of the pasture. -/
def State.ctx (s : State) (c : CtxRef) : Ctx := (s.tile (tileOf c)).ctx c.slot

/-- The state with a context slot replaced. -/
def State.setCtx (s : State) (c : CtxRef) (x : Ctx) : State := s.modTile (tileOf c) (fun t => t.setCtx c.slot x)

/-- The state with a context slot changed. -/
def State.modCtx (s : State) (c : CtxRef) (f : Ctx → Ctx) : State := s.setCtx c (f (s.ctx c))

/-- The tile whose bundle is issuing. -/
def State.here (s : State) : Tile := s.tile s.focus

/-- The slot that is running on it; slot 0 where none is. -/
def State.slot (s : State) : Nat := s.here.running.getD 0

/-- The context that is issuing. -/
def State.me (s : State) : CtxRef := ⟨s.focus.node, s.focus.tile, s.slot⟩

/-- Its state. -/
def State.cur (s : State) : Ctx := s.here.ctx s.slot

/-- The state with the issuing context changed. -/
def State.modCur (s : State) (f : Ctx → Ctx) : State := s.modTile s.focus (fun t => t.modCtx s.slot f)

/-- The state with the issuing tile changed. -/
def State.modHere (s : State) (f : Tile → Tile) : State := s.modTile s.focus f

/-- A message put on its way. -/
def State.send (s : State) (i : Event) : State := { s with net := s.net ++ [i] }

/-- Messages put on their way. -/
def State.sendAll (s : State) (is : List Event) : State := { s with net := s.net ++ is }

/-- A free value of the model's counter (log entry 7). -/
def State.fresh (s : State) : Word × State := (Config.freeWord s.free, { s with free := s.free + 1 })

/-- A member of a list the spec leaves open (R7, log entry 7). -/
def State.choose (s : State) (n : Nat) : Nat × State := (Config.choice s.free % n, { s with free := s.free + 1 })

/-- A new identifier of an access, a packet or a message. -/
def State.newId (s : State) : Nat × State := (s.ids, { s with ids := s.ids + 1 })

/-- A message of an interrupt line on its way to its tile, sent by the line's source (R187, R415). -/
def State.raiseLine (s : State) (r : TileRef) (l : Nat) : State := s.send (.interruptPending r (BitVec.ofNat 4 l))

/-- A node that answers in its management region: one in recovery answers only in two registers (R434). -/
def Node.answers (x : Node) : Bool := !x.recovery && !x.failed

/-- The place of a drove in the drove table when the drove is gone. -/
def DroveEntry.gone (e : DroveEntry) : DroveEntry := { e with valid := false, st := .absent, segs := [], tiles := [], standby := [] }

/-- A parity share kept with the others of its node (R432). -/
def Node.keepShare (x : Node) (n : Nat) (d : BitVec 32) (segs : List Segment) : Node :=
  match segs.find? (fun g => g.kind == 6 && g.node == n) with
  | some g => { x with shares := (d, g.bytes) :: x.shares.filter (fun e => e.1 != d) }
  | none => x

/-- A unit's spare takes its number: it has a record of its own (R425). -/
def Node.takeOver (x : Node) (u : RasUnit) : Node :=
  { x with units := x.units.filter (fun r => r.unit != u), replaced := u :: x.replaced }

/-- The slot count of a tile; one where no stage is placed. -/
def Tile.nsl (t : Tile) : Nat := if t.slots = 0 then 1 else t.slots

/-- The shares of a context (Table 1.2): spill bytes, tile registers and landing entries. -/
def Tile.spillShare (t : Tile) : Nat := 32768 / t.nsl
def Tile.tregShare (t : Tile) : Nat := 16 / t.nsl
def Tile.landingShare (t : Tile) : Nat := 32 / t.nsl

/-- The reserved save region (R387), and the places of its parts (Table 14.3). -/
def saveBase : Nat := 0xAF0000
def ckptBase : Nat := 0xAF8000
def ctxRecBase (slot : Nat) : Nat := 0xB00000 + 0x2000 * slot
def extBase (slot : Nat) : Nat := 0xB10000 + 0x4000 * slot
def spillImage (slot share : Nat) : Nat := 0xB30000 + slot * share
def weightImage : Nat := 0xB38000
def tregImage (slot n nsl : Nat) : Nat := 0xB40000 + 0x4000 * (slot * 16 / nsl + n)
def accImage : Nat := 0xB80000
def portImage : Nat := 0xBC0000

/-- The byte of a context's spill share in the tile's spill memory, and the base of its trap frame (R193). -/
def Tile.spillOff (t : Tile) (slot off : Nat) : Nat := slot * t.spillShare + off
def Tile.frameOff (t : Tile) (slot off : Nat) : Nat := slot * t.spillShare + t.spillShare - 512 + off

/-- The byte of a context's tile register in the tile-register memory: 16 KiB each (R17, Table 14.3). -/
def Tile.tregOff (t : Tile) (slot n off : Nat) : Nat := (slot * t.tregShare + n) * 0x4000 + off

/-- The position of a slot in slot order (R12). -/
def slotIdx : Slot → Nat
  | .a => 0
  | .v => 1
  | .m => 2
  | .e => 3

/-- The privilege level of a context: 0 task, 1 stage supervisor, 2 node supervisor (Table 6.6). -/
def Ctx.level (c : Ctx) : Nat := wfld c.xstat 0 2

/-- `XSTAT`.TF: a frame is live. -/
def Ctx.tf (c : Ctx) : Bool := c.xstat.getLsbD 7

/-- `XCTL.POISONRD` (Table 6.10). -/
def Ctx.poisonRd (c : Ctx) : Bool := c.xctl.getLsbD 0

/-- General registers by number. -/
def Ctx.regA (c : Ctx) (n : Nat) : Word := (c.a[n]?).getD 0
def Ctx.regM (c : Ctx) (n : Nat) : Word := (c.m[n]?).getD 0
def Ctx.regE (c : Ctx) (n : Nat) : Word := (c.e[n]?).getD 0
def Ctx.regV (c : Ctx) (n : Nat) : VReg := (c.v[n]?).getD 0

/-- A predicate; p0 is true (R15). -/
def Ctx.pred (c : Ctx) (n : Nat) : Bool := n == 0 || c.p.getLsbD n

/-- A mask; k0 is all ones (R15). -/
def Ctx.mask (c : Ctx) (n : Nat) : MaskReg := if n = 0 then BitVec.allOnes 128 else (c.k[n]?).getD 0

/-- The entry of a name in a context's lock set. -/
def Ctx.lockEntry (c : Ctx) (w : Word) : Option LockEntry := c.locks.find? (fun e => e.name == w)

/-- A context's entry of a name replaced, or removed. -/
def Ctx.setLock (c : Ctx) (w : Word) (e : Option LockEntry) : Ctx :=
  let rest := c.locks.filter (fun x => x.name != w)
  { c with locks := match e with
      | some x => rest ++ [x]
      | none => rest }

/-- The status of an `LKTRY` lands: its entry becomes held or goes (R324, R340). -/
def Ctx.landLock (c : Ctx) (w v : Word) : Ctx :=
  let c1 := { c with granted := c.granted.filter (fun x => x != w) }
  match c.lockEntry w with
  | some e =>
    if !e.pending then c1
    else if wfld v 60 4 = 0 then c1.setLock w (some { e with pending := false })
    else c1.setLock w none
  | none => c1

/-- `SELF` of a context slot (Table 4.9). -/
def Tile.self (t : Tile) (r : TileRef) (slot : Nat) : Word :=
  let nslCode := match t.nsl with
    | 1 => 0
    | 2 => 1
    | 4 => 2
    | _ => 3
  BitVec.ofNat 64 (r.node * 2 ^ 32 + r.tile * 2 ^ 16 + slot * 2 ^ 8 + nslCode)

/-- What a control register reads as (Table 4.7); `RBQ` reads as zero. -/
def readCReg (r : TileRef) (t : Tile) (slot : Nat) : CReg → Word
  | .fmt n => (t.fmt[n.toNat]?).getD 0
  | .ftab n => (t.ftab[n.toNat]?).getD 0
  | .ftctl => t.ftctl
  | .cbctl n => (t.cbctl[n.toNat]?).getD 0
  | .lc n => ((t.ctx slot).lc[n.toNat]?).getD 0
  | .sbase => (t.ctx slot).sbase
  | .slim => (t.ctx slot).slim
  | .fflags => (t.ctx slot).fflags
  | .rbq => 0
  | .tshape n => ((t.ctx slot).tshape[n.toNat]?).getD 0
  | .xstat => (t.ctx slot).xstat
  | .xcause => (t.ctx slot).xcause
  | .xpc => (t.ctx slot).xpc
  | .xprog => (t.ctx slot).xprog
  | .xaddr => (t.ctx slot).xaddr
  | .xvec => (t.ctx slot).xvec
  | .xctl => (t.ctx slot).xctl
  | .self => t.self r slot

/-- The writable bits of a control register (R8, R9, and the register's map). -/
def cregMask : CReg → Word
  | .fmt _ => 0xFF037F
  | .ftab _ => 0x1F
  | .ftctl => 0x1FF3
  | .cbctl _ => 0xFF0733
  | .lc _ => 0x80FFFFFFFFFFFFFF
  | .sbase => 0xFFFFFFFFFFFFFFFF
  | .slim => 0xFFFFFFFFFFFFFFFF
  | .fflags => 0x7F7F
  | .rbq => 0xFFFFFFFFFFFFFFFF
  | .tshape _ => 0x7F7F1F
  | .xstat => 0xB0
  | .xcause => 0x37FF
  | .xpc => 0x0FFF0FFF
  | .xprog => 0xFFFFFFFFFFFFFFFF
  | .xaddr => 0xFFFFFFFFFFFFFFFF
  | .xvec => 0xFFFF00000FFF0FFF
  | .xctl => 0xFFFF0003
  | .self => 0

/-- Whether a control register is one of the tile's (Table 4.7). -/
def cregIsTile : CReg → Bool
  | .fmt _ | .ftab _ | .ftctl | .cbctl _ | .rbq => true
  | _ => false

/-- The lowest level that may read a control register, and the lowest that may write it (Table 4.7). -/
def cregReadLevel : CReg → Nat
  | .xstat | .xcause | .xpc | .xprog | .xaddr => 1
  | .xvec => 2
  | _ => 0
def cregWriteLevel : CReg → Nat
  | .rbq | .xctl => 1
  | .xstat | .xcause | .xpc | .xprog | .xaddr | .xvec => 2
  | _ => 0

/-- The value a write leaves: writable bits from the new value, the others kept. -/
def mergeBits (m old new : Word) : Word := (new &&& m) ||| (old &&& ~~~m)

/-- A write of a control register of the context takes effect (R133). A `PLVL` of 0b11 is discarded (Table 6.6). -/
def Ctx.writeCReg (c : Ctx) (r : CReg) (v : Word) : Ctx :=
  match r with
  | .lc n => { c with lc := c.lc.setIfInBounds n.toNat (v &&& cregMask r) }
  | .sbase => { c with sbase := v }
  | .slim => { c with slim := v }
  | .fflags => { c with fflags := v &&& cregMask r }
  | .tshape n => { c with tshape := c.tshape.setIfInBounds n.toNat (v &&& cregMask r) }
  | .xstat =>
    let m : Word := if wfld v 4 2 = 3 then 0x80 else cregMask r
    { c with xstat := mergeBits m c.xstat v }
  | .xcause => { c with xcause := v &&& cregMask r }
  | .xpc => { c with xpc := v &&& cregMask r }
  | .xprog => { c with xprog := v }
  | .xaddr => { c with xaddr := v }
  | .xvec => { c with xvec := v &&& cregMask r }
  | .xctl => { c with xctl := v &&& cregMask r }
  | _ => c

/-- A write of a control register takes effect on its tile (R133, R76). -/
def Tile.writeCReg (t : Tile) (slot : Nat) (r : CReg) (v : Word) : Tile :=
  match r with
  | .fmt n => { t with fmt := t.fmt.setIfInBounds n.toNat (v &&& cregMask r) }
  | .ftab n => { t with ftab := t.ftab.setIfInBounds n.toNat (v &&& cregMask r) }
  | .ftctl => { t with ftctl := v &&& cregMask r }
  | .cbctl n => { t with cbctl := t.cbctl.setIfInBounds n.toNat (v &&& cregMask r) }
  | .rbq => { t with rng := rngSeed v }
  | _ => t.modCtx slot (fun c => c.writeCReg r v)

end Sys2Proof.Machine
end

