-- ==== Sys2Proof/Machine/Ops.lean ====
section
/-! DEFINITION. The shared operations of the core: results and latches (R20 to R26), the completion of what is due (R22), an
operation's issue-time checks and its run (R16, R45, R184), taking a trap (R182 to R195) and returning from one (R196 to
R198). -/

namespace Sys2Proof.Machine

/-! Results and latches -/

/-- A latch file with an entry pushed (R23). -/
def pushLatch {α : Type} (q : Vector (Option α) 4) (x : α) : Vector (Option α) 4 := #v[some x, q[0], q[1], q[2]]

/-- A write of a general register of 64 bits, with its written bit and, where `push`, its latch entry (R24, R51). -/
def Ctx.writeWord (c : Ctx) (f : RFile) (n : Nat) (sup push : Bool) (v : Word) : Ctx :=
  match f with
  | .a =>
    { c with a := if sup then c.a else c.a.setIfInBounds n v
             wa := if sup then c.wa else c.wa ||| (1#32 <<< n)
             qa := if push then pushLatch c.qa v else c.qa }
  | .m =>
    { c with m := if sup then c.m else c.m.setIfInBounds n v
             wm := if sup then c.wm else c.wm ||| (1#32 <<< n)
             qm := if push then pushLatch c.qm v else c.qm }
  | .e =>
    { c with e := if sup then c.e else c.e.setIfInBounds n v
             we := if sup then c.we else c.we ||| (1#16 <<< n)
             qe := if push then pushLatch c.qe v else c.qe }
  | .v => c

/-- A write of a vector register in the bits `en`; the latch entry is the whole register as it stands after the write, or the
result itself for a suppressed destination (R24, R51, R141, R147). -/
def Ctx.writeVec (c : Ctx) (n : Nat) (sup push : Bool) (v en : VReg) : Ctx :=
  let x := if sup then v &&& en else (v &&& en) ||| (c.regV n &&& ~~~en)
  { c with v := if sup then c.v else c.v.setIfInBounds n x
           wv := if sup then c.wv else c.wv ||| (1#32 <<< n)
           qv := if push then pushLatch c.qv x else c.qv }

/-- A write of a predicate; p0 discards it (R15). -/
def Ctx.writePred (c : Ctx) (n : Nat) (v : Bool) : Ctx :=
  if n = 0 then c
  else { c with p := if v then c.p ||| (1#8 <<< n) else c.p &&& ~~~(1#8 <<< n), wp := c.wp ||| (1#8 <<< n) }

/-- A write of a mask in the bits `en`; k0 discards it (R15). -/
def Ctx.writeMask (c : Ctx) (n : Nat) (v en : MaskReg) : Ctx :=
  if n = 0 then c
  else { c with k := c.k.setIfInBounds n ((v &&& en) ||| (c.mask n &&& ~~~en)), wk := c.wk ||| (1#8 <<< n) }

/-- The V group of `FFLAGS` with flags ORed in (R73). -/
def Ctx.orFlags (c : Ctx) (f : BitVec 7) : Ctx := { c with fflags := c.fflags ||| f.setWidth 64 }

/-- Cells of bad parity after a latch entry of a file has been pushed: those of its latches move up with their entries (R23). -/
def shiftBad (f : RFile) (cs : List Cell) : List Cell :=
  cs.filterMap (fun x => match x with
    | .latch g k => if g = f then (if k = 3 then none else some (.latch g (k + 1))) else some x
    | x => some x)

/-- A context after a cell has been written whole, and a latch entry of its file perhaps pushed: a write puts its parity right (R424). -/
def Ctx.rewrote (c : Ctx) (x : Option Cell) (push : Option RFile) : Ctx :=
  let kept := c.bad.filter (fun y => some y != x)
  { c with bad := match push with
      | some f => shiftBad f kept
      | none => kept }

/-- An effect takes place on its context and tile (R20, R24, R133). A write of a part of a register leaves the parity of the rest. -/
def Tile.applyEffect (t : Tile) (slot : Nat) (push : Bool) : Effect → Tile
  | .word f n sup v => t.modCtx slot (fun c =>
      (c.writeWord f n.toNat sup push v).rewrote (if sup then none else some (.reg f n)) (if push then some f else none))
  | .vec n sup v en => t.modCtx slot (fun c =>
      (c.writeVec n.toNat sup push v en).rewrote (if sup ∨ en ≠ BitVec.allOnes 1024 then none else some (.reg .v n))
        (if push then some .v else none))
  | .pred n v => t.modCtx slot (fun c => (c.writePred n.toNat v).rewrote (some (.pred n)) none)
  | .mask n v en => t.modCtx slot (fun c =>
      (c.writeMask n.toNat v en).rewrote (if en ≠ BitVec.allOnes 128 then none else some (.mask n)) none)
  | .creg r v => t.writeCReg slot r v

/-- The engine flags that have come ORed into `FFLAGS`, after the control-register write of their cycle (R73). -/
def Ctx.orEngine (c : Ctx) : Ctx := { c with fflags := c.fflags ||| (c.eflags.setWidth 64 <<< 8), eflags := 0 }

/-- What completes with a result beside its effect: its flags (R73) and the lock entry of an `LKTRY` (R340). -/
def Ctx.finishResult (c : Ctx) (r : Result) : Ctx :=
  match r.lock, r.effect with
  | some w, .word _ _ _ v => (c.orFlags r.flags).landLock w v
  | _, _ => c.orFlags r.flags

/-- A result completes (R20, R73, R340). -/
def Tile.complete (t : Tile) (slot : Nat) (r : Result) : Tile :=
  (t.applyEffect slot r.pushes r.effect).modCtx slot (fun c => c.finishResult r)

/-- The place of a result among those of one cycle (R22): control registers, own results, landings and `XMOV`s. -/
def Result.order (r : Result) : Nat :=
  match r.effect with
  | .creg _ _ => 0
  | _ => if r.late then 2 else 1

/-- Whether one result takes effect before another (R22). -/
def Result.before (x y : Result) : Bool :=
  if x.due = y.due then (if x.order = y.order then decide (x.seq ≤ y.seq) else decide (x.order < y.order))
  else decide (x.due < y.due)

/-- A result placed among ordered ones. -/
def insertResult (r : Result) : List Result → List Result
  | [] => [r]
  | x :: xs => if r.before x then r :: x :: xs else x :: insertResult r xs

/-- Results in the order they take effect (R22). -/
def sortResults : List Result → List Result
  | [] => []
  | x :: xs => insertResult x (sortResults xs)

/-- What a landing writes (R257, R261). -/
def Landing.effect (l : Landing) : Effect :=
  let v := l.value.getD 0
  match l.file with
  | .v => .vec l.reg false v (BitVec.allOnes 1024)
  | f => .word f l.reg false (v.setWidth 64)

/-- The lock object of an `LKTRY`'s landing. -/
def LandKind.lock : LandKind → Option Word
  | .lockTry w => some w
  | _ => none

/-- A landing as the result it completes as, at a cycle. -/
def Landing.resultAt (l : Landing) (due : Nat) : Result := ⟨due, false, true, l.seq, .m, l.effect, 0, l.pushes, l.kind.lock⟩

/-- A landing as the result it completes as at its named cycle. -/
def Landing.result (l : Landing) : Result := l.resultAt l.named

/-- A value that has reached the landing buffer in an earlier wall cycle (R32). -/
def Landing.held (l : Landing) (wall : Nat) : Bool :=
  l.value.isSome && (match l.arrive with
    | some a => decide (a < wall)
    | none => false)

/-- A landing to be written now: at its named cycle in the running context, on arrival in another (R30, R33, R37). -/
def Landing.writable (l : Landing) (running : Bool) (core wall : Nat) : Bool :=
  l.held wall && !l.rel && !l.lost && !l.waited && !l.faulted && (!running || decide (l.named ≤ core))

/-- A result whose cycle has come, by core time or, after its block, by wall time (R19, R47). -/
def Result.isDue (r : Result) (core wall : Nat) : Bool := if r.wallClock then decide (r.due ≤ wall) else decide (r.due ≤ core)

/-- A write of a control register of the tile (Table 4.7). -/
def Result.onTile (r : Result) : Bool :=
  match r.effect with
  | .creg q _ => cregIsTile q
  | _ => false

/-- What is due in one context completes, and the engine flags that have come follow (R20, R22, R30, R37, R73). A landing takes
effect in the cycle it is written in, which in a context that is not running is that of its arrival (R37). A context whose
trap entry is in progress completes nothing (R188). -/
def Tile.settleSlot (t : Tile) (slot : Nat) : Tile :=
  let c := t.ctx slot
  if c.entering.isSome || c.st == .saved then t
  else
    let run := t.running == some slot
    let due := c.results.filter (fun r => r.isDue t.core t.wall)
    let lands := c.landings.filter (fun l => l.writable run t.core t.wall)
    if due.isEmpty && lands.isEmpty && c.eflags == 0 then t
    else
      let t1 := t.modCtx slot (fun c =>
        { c with results := c.results.filter (fun r => !r.isDue t.core t.wall)
                 landings := c.landings.filter (fun l => !l.writable run t.core t.wall) })
      let now := if run then t.core else t.wall
      ((sortResults (due ++ lands.map (fun l => { l.resultAt now with pushes := l.pushes && run }))).foldl
        (fun t r => t.complete slot r) t1).modCtx slot Ctx.orEngine

/-- A result of the issuing bundle, completing `lat` core cycles after its issue (R20, R28). `late` orders it with the
landings (R22, R141). -/
def State.result (s : State) (sl : Slot) (lat : Nat) (late : Bool) (e : Effect) (flags : BitVec 7) : State :=
  let t := s.here
  let r : Result := ⟨t.core + lat, false, late, t.issued * 256 + (slotIdx sl), sl, e, flags, true, none⟩
  s.modCur (fun c => { c with results := c.results ++ [r] })

/-- A result into a destination of a slot's own scalar file (R24, R25). -/
def State.resultWord (s : State) (sl : Slot) (f : RFile) (lat : Nat) (d : Dst) (v : Word) : State :=
  match d with
  | .reg n => s.result sl lat false (.word f n false v) 0
  | .drop => s.result sl lat false (.word f 0 true v) 0

/-! Reading operands -/

/-- The value of a source of a scalar slot (R23, R27, Table 3.4). -/
def Ctx.srcA (c : Ctx) : Src → Word
  | .reg n => c.regA n.toNat
  | .latch k => ((c.qa[k.toNat]?).getD none).getD 0
def Ctx.srcM (c : Ctx) : Src → Word
  | .reg n => c.regM n.toNat
  | .latch k => ((c.qm[k.toNat]?).getD none).getD 0
def Ctx.srcE (c : Ctx) : Src → Word
  | .reg n => c.regE n.toNat
  | .latch k => ((c.qe[k.toNat]?).getD none).getD 0
def Ctx.srcV (c : Ctx) : Src → VReg
  | .reg n => c.regV n.toNat
  | .latch k => ((c.qv[k.toNat]?).getD none).getD 0

/-- Whether a source has no value: a register with its written bit clear, a latch without an entry (R27, R52). -/
def Ctx.unsetA (c : Ctx) : Src → Bool
  | .reg n => !c.wa.getLsbD n.toNat
  | .latch k => ((c.qa[k.toNat]?).getD none).isNone
def Ctx.unsetM (c : Ctx) : Src → Bool
  | .reg n => !c.wm.getLsbD n.toNat
  | .latch k => ((c.qm[k.toNat]?).getD none).isNone
def Ctx.unsetE (c : Ctx) : Src → Bool
  | .reg n => !c.we.getLsbD n.toNat
  | .latch k => ((c.qe[k.toNat]?).getD none).isNone
def Ctx.unsetV (c : Ctx) : Src → Bool
  | .reg n => !c.wv.getLsbD n.toNat
  | .latch k => ((c.qv[k.toNat]?).getD none).isNone
def Ctx.unsetP (c : Ctx) (n : BitVec 3) : Bool := n != 0 && !c.wp.getLsbD n.toNat
def Ctx.unsetK (c : Ctx) (n : BitVec 3) : Bool := n != 0 && !c.wk.getLsbD n.toNat

/-- What a guard reads (R16, R89). -/
def Ctx.guard (c : Ctx) (g : Guard) : Bool := xor (c.pred g.p.toNat) g.inv

/-! Checks -/

/-- What an operation checks at issue, in the order of R142, R181 and R289: a state-dependent `ILLEGAL` (R103), whether some
source or selecting predicate is unset, `PRIV` with its `XADDR`, `CB_INVALID` with its `XADDR`, its own check, and whether
it takes a landing entry (R31). -/
structure Checks where
  illegal : Bool
  unset : Bool
  priv : Option Word
  cb : Option Word
  own : Option (Cause × Word)
  timed : Bool
  deriving DecidableEq, Repr, Inhabited

/-- No check beyond the sources. -/
def Checks.reads (unset : Bool) : Checks := ⟨false, unset, none, none, none, false⟩

/-- The checks with an own check added. -/
def Checks.withOwn (k : Checks) (o : Option (Cause × Word)) : Checks := { k with own := o }

/-- The checks with a right to the instruction added. -/
def Checks.withPriv (k : Checks) (p : Option Word) : Checks := { k with priv := p }

/-- `XADDR` of an `ILLEGAL`: the word and its slot (R102, R103). -/
def illegalAddr (w : BitVec 32) (slot : Nat) : Word := BitVec.ofNat 64 (w.toNat * 2 ^ 32 + slot)

/-- The word of a slot of the issuing bundle. -/
def State.slotWord (s : State) (sl : Slot) : BitVec 32 := (s.issue.words[slotIdx sl]?).getD 0

/-- What the checks of an operation in a slot find: its first failure (R142, R181, R289). An operation whose guard reads false
is squashed and fails nothing; the guard of another counts among its reads, and one that is unset under `POISONRD` fails ahead of
what R103 checks (R16, R52). -/
def opFailure (sl : Slot) (g : Guard) (k : State → Checks) (s : State) : Option Failure :=
  let c := s.cur
  if !c.guard g then none
  else if c.poisonRd && c.unsetP g.p then some ⟨1, sl, .uninit, 0⟩
  else
    let k := k s
    if k.illegal then some ⟨0, sl, .illegal, illegalAddr (s.slotWord sl) (slotIdx sl)⟩
    else if k.unset && c.poisonRd then some ⟨1, sl, .uninit, 0⟩
    else match k.priv with
      | some x => some ⟨2, sl, .priv, x⟩
      | none => match k.cb with
        | some x => some ⟨3, sl, .cbInvalid, x⟩
        | none => match k.own with
          | some o => some ⟨4, sl, o.1, o.2⟩
          | none =>
            if k.timed && decide (s.here.landingShare ≤ c.landings.length + s.issue.taken) then
              some ⟨4, sl, .landingTimeout, 0⟩
            else none

/-! Traps -/

/-- The code of a cause (Table 6.1a). -/
def Cause.code : Cause → Nat
  | .illegal => 0x01
  | .priv => 0x02
  | .uninit => 0x03
  | .window => 0x10
  | .windowCross => 0x11
  | .bound => 0x12
  | .align => 0x13
  | .stack => 0x14
  | .foldMiss => 0x20
  | .foldPos => 0x21
  | .foldPerm => 0x22
  | .foldNomem => 0x23
  | .cbInvalid => 0x30
  | .cbHazard => 0x31
  | .dupchk => 0x38
  | .lockProto => 0x40
  | .wound => 0x41
  | .landingTimeout => 0x50
  | .ue => 0x60
  | .preempt => 0x70
  | .interrupt l => 0x80 + l.toNat
  | .trap k => 0xF0 + k.toNat

/-- A trap to be taken at a boundary: cause, class, slot reported, bundle reported against, `XADDR` and `XPROG` (R182 to
R184). -/
structure TrapReq where
  cause : Cause
  cls : Nat
  slot : Nat
  fpc : Nat
  xaddr : Word
  xprog : Word
  deriving DecidableEq, Repr, Inhabited

/-- The bytes a bit enable covers (Table 6.5). -/
def byteEnable (en : VReg) : MaskReg :=
  BitVec.ofNat 128 ((List.range 128).foldl
    (fun acc i => if fld en.toNat (8 * i) 8 = 0 then acc else acc + 2 ^ i) 0)

/-- The bit enable of a byte enable. -/
def bitEnable (be : MaskReg) : VReg :=
  BitVec.ofNat 1024 ((List.range 128).foldl
    (fun acc i => if be.getLsbD i then acc + 255 * 2 ^ (8 * i) else acc) 0)

/-- The DF code of a file (R96). -/
def fileCode : RFile → BitVec 2
  | .a => 0
  | .v => 1
  | .m => 2
  | .e => 3

/-- The marks of a result's record; one of a general register has its flags in the record itself. -/
def Result.mark (r : Result) : Mark :=
  ⟨r.late, !r.pushes, match r.effect with
    | .pred _ _ => r.flags
    | .mask _ _ _ => r.flags
    | _ => 0, r.lock⟩

/-- A vector result as its payload holds it: a byte it writes in part holds beside it what the register holds there (Table 6.5
enables whole bytes). -/
def vecPayload (old v en : VReg) : VReg × MaskReg :=
  let be := byteEnable en
  let whole := bitEnable be
  ((v &&& (en ||| ~~~whole)) ||| (old &&& ~~~en &&& whole), be)

/-- The record of a result in flight with a remaining count (R188, Table 6.4), in a context as it stands when the result takes
effect. A mask is recorded as it will then stand, and the kept bits that share a byte with a written field as they
stand at the capture: DESIGN CHOICE (log entry 141). -/
def Result.record (c : Ctx) (r : Result) (rem : Nat) : Record :=
  match r.effect with
  | .word f n sup v => ⟨1, fileCode f, n, sup, rem, r.flags.setWidth 8, 0, v, none, r.mark, r.seq⟩
  | .vec n sup v en =>
    ⟨1, 1, n, sup, rem, r.flags.setWidth 8, 0, 0, some (vecPayload (if sup then 0 else c.regV n.toNat) v en), r.mark, r.seq⟩
  | .pred n v => ⟨7, 0, n.setWidth 5, false, rem, 0, 0, if v then 1 else 0, none, r.mark, r.seq⟩
  | .mask n v en =>
    ⟨7, 1, n.setWidth 5, false, rem, 0, 0, 0,
      some (((v &&& en) ||| (c.mask n.toNat &&& ~~~en)).setWidth 1024, 0xFFFF), r.mark, r.seq⟩
  | .creg q v => ⟨7, 2, 0, false, rem, 0, q.number.setWidth 32, v, none, r.mark, r.seq⟩

/-- A vector or mask result in a context, for the records of the results that follow it. -/
def Ctx.after (c : Ctx) : Effect → Ctx
  | .vec n sup v en => c.writeVec n.toNat sup false v en
  | .mask n v en => c.writeMask n.toNat v en
  | _ => c

/-- The records of results in the order they take effect (R188), each with its remaining count; a landing whose value is known
takes its place among them without one. -/
def recordResults (rem : Result → Nat) : Ctx → List (Result × Bool) → List Record
  | _, [] => []
  | c, (r, own) :: rs =>
    (if own then [r.record c (rem r)] else []) ++ recordResults rem (c.after r.effect) rs

/-- The marks of a landing's record. -/
def Landing.mark (l : Landing) : Mark := ⟨true, !l.pushes, 0, l.kind.lock⟩

/-- The held-value record of a landing (Table 6.2). -/
def Landing.heldRecord (l : Landing) (rem : Nat) : Record :=
  let v := l.value.getD 0
  match l.file with
  | .v => ⟨2, 1, l.reg, false, rem, 0, 0, 0, some (v, BitVec.allOnes 128), l.mark, l.seq⟩
  | f => ⟨2, fileCode f, l.reg, false, rem, 0, 0, v.setWidth 64, none, l.mark, l.seq⟩

/-- The re-issue and the lost record of a landing (Table 6.2). -/
def Landing.reissueRecord (l : Landing) (rem : Nat) : Record :=
  ⟨3, fileCode l.file, l.reg, false, rem, l.xm, l.word, l.addr, none, l.mark, l.seq⟩
def Landing.lostRecord (l : Landing) (rem : Nat) : Record :=
  ⟨4, fileCode l.file, l.reg, false, rem, 0, 0, l.addr, none, l.mark, l.seq⟩

/-- Whether a landing that has not arrived is issued again from its record, and not waited for (Table 6.2). -/
def Landing.reissues (l : Landing) : Bool := l.faulted || l.idem

/-- The place of a record among those of one cycle (R22, R193). -/
def Record.order (r : Record) : Nat := if r.kind = 7 ∧ r.file = 2 then 0 else if r.mark.late then 2 else 1

/-- Whether one record is stored before another (R193). -/
def Record.before (x y : Record) : Bool :=
  if x.due = y.due then (if x.order = y.order then decide (x.seq ≤ y.seq) else decide (x.order < y.order))
  else decide (x.due < y.due)

/-- A record placed among ordered ones, and records in the order of R193. -/
def insertRecord (r : Record) : List Record → List Record
  | [] => [r]
  | x :: xs => if r.before x then r :: x :: xs else x :: insertRecord r xs
def sortRecords : List Record → List Record
  | [] => []
  | x :: xs => insertRecord x (sortRecords xs)

/-- Whether what a landing still waits for may be issued again (Table 6.2): every segment not yet arrived. -/
def Ctx.landingIdem (c : Ctx) (l : Landing) : Bool :=
  match c.queue.find? (fun e => e.id == l.id) with
  | some ⟨_, _, _, _, _, _, .load us, _⟩ => us.all (fun u => u.idem)
  | _ => l.idem

/-- The capture of R188 and R189 at a boundary: results become records, landings become records or are waited for. `core` and
`wall` are the times of the boundary; `zero` records with REM 0 (R378, R379). -/
def Ctx.captured (c : Ctx) (core wall : Nat) (zero : Bool) : Ctx :=
  let c : Ctx := { c with landings := c.landings.map (fun (l : Landing) => { l with idem := c.landingIdem l }) }
  let rem := fun (d : Nat) => if zero then 0 else min (d - core) 1023
  let has := c.landings.filter (fun l => l.arrive.isSome && !l.lost && !l.faulted)
  let order := sortResults (c.results ++ has.map Landing.result)
  let rs := recordResults (fun r => if r.wallClock then (if zero then 0 else min (r.due - wall) 1023) else rem r.due) c
    (order.map (fun r => (r, c.results.contains r)))
  let known := c.landings.filter (fun l => l.arrive.isSome || l.lost || l.reissues)
  let ls := known.map (fun l =>
    if l.lost then l.lostRecord (rem l.named)
    else if l.arrive.isSome && !l.faulted then l.heldRecord (rem l.named)
    else l.reissueRecord (rem l.named))
  let waits := c.landings.filter (fun l => !(l.arrive.isSome || l.lost || l.reissues))
  { c.orEngine with
           results := []
           landings := waits.map (fun l => { l with waited := true, named := rem l.named })
           capture := c.capture ++ rs ++ ls
           entering := some (core, wall) }

/-- The records of the landings a trap entry waited for, once each has arrived, failed or been lost (R189). -/
def Ctx.waitedRecords (c : Ctx) : List Record :=
  c.landings.map (fun l =>
    if l.lost then l.lostRecord l.named
    else if l.faulted then l.reissueRecord l.named
    else l.heldRecord l.named)

/-- Whether a landing a trap entry waits for is settled. -/
def Landing.settled (l : Landing) : Bool := l.arrive.isSome || l.lost || l.faulted

/-- The LATV field of the latches (Table 6.3). -/
def Ctx.latv (c : Ctx) : Nat :=
  let bit := fun (b : Bool) (i : Nat) => if b then 2 ^ i else 0
  (List.range 4).foldl (fun acc k =>
    acc + bit ((c.qa[k]?).getD none).isSome k + bit ((c.qv[k]?).getD none).isSome (4 + k)
      + bit ((c.qm[k]?).getD none).isSome (8 + k) + bit ((c.qe[k]?).getD none).isSome (12 + k)) 0

/-- Whether a cell is a latch. -/
def Cell.isLatch : Cell → Bool
  | .latch _ _ => true
  | _ => false

/-- Latches without entries (R26). -/
def Ctx.emptyLatches (c : Ctx) : Ctx :=
  { c with bad := c.bad.filter (fun x => !x.isLatch), qa := Vector.replicate 4 none, qm := Vector.replicate 4 none
           qe := Vector.replicate 4 none, qv := Vector.replicate 4 none }

/-- The two dwords of a record (Table 6.4); `pix` is its payload index. -/
def Record.dwords (r : Record) (pix : Nat) : Word × Word :=
  let w0 := r.kind.toNat * 2 ^ 60 + r.file.toNat * 2 ^ 58 + r.reg.toNat * 2 ^ 53 + (if r.sup then 2 ^ 52 else 0)
    + r.due % 1024 * 2 ^ 42 + r.aux.toNat * 2 ^ 32
    + (if r.pay.isSome then pix else r.word.toNat)
  (BitVec.ofNat 64 w0, r.value)

/-- Where record `i` of a context is stored: the space and the offset (Tables 6.3, 6.5). -/
def recordPlace (t : Tile) (slot i : Nat) : MemSpace × Nat :=
  if i < 20 then (.spill, t.frameOff slot (0xC0 + 16 * i)) else (.sram, extBase slot + 0x200 + 16 * (i - 20))

/-- Where payload `p` is stored (Table 6.5). -/
def payloadOff (slot p : Nat) : Nat := extBase slot + 0x1000 + 256 * p

/-- The frame's records written from index `i` and payload `p` on: the state, and the counts reached (R193 to R195). Records
past 212 and payloads past 48 are not written (R436). -/
def writeRecords (s : State) (r : CtxRef) : List Record → Nat → Nat → State × Nat × Nat
  | [], i, p => (s, i, p)
  | x :: xs, i, p =>
    let t := s.tile (tileOf r)
    let full := decide (212 ≤ i) || (x.pay.isSome && decide (48 ≤ p))
    if full then (s, i + 1 + xs.length, p)
    else
      let d := x.dwords p
      let at' := recordPlace t r.slot i
      let s1 := ((s.writeWord at'.1 (tileOf r) at'.2 d.1).writeWord at'.1 (tileOf r) (at'.2 + 8) d.2).healWhole at'.1 (tileOf r) at'.2 16
      match x.pay with
      | none => writeRecords s1 r xs (i + 1) p
      | some (v, be) =>
        let o := payloadOff r.slot p
        let s2 := (s1.writeBytes .sram (tileOf r) o
          (vecBytes v ++ natToBytes 16 be.toNat ++ List.replicate 112 0)).healWhole .sram (tileOf r) o 256
        writeRecords s2 r xs (i + 1) (p + 1)

/-- A dword of a context's trap frame, read and written. -/
def State.frameWord (s : State) (r : CtxRef) (off : Nat) : Word :=
  s.readWord .spill (tileOf r) ((s.tile (tileOf r)).frameOff r.slot off)
def State.setFrameWord (s : State) (r : CtxRef) (off : Nat) (w : Word) : State :=
  s.writeWord .spill (tileOf r) ((s.tile (tileOf r)).frameOff r.slot off) w

/-- A notice of R398 for a context's tree: written to the notice ring of its stage's origin tile, with interrupt line 13. A
full ring drops it. -/
def State.notice (s : State) (tree : BitVec 32) (reason : Nat) (r : CtxRef) : State :=
  let o : TileRef := ⟨r.node, (s.tile (tileOf r)).origin⟩
  let head := s.readWord .sram o (saveBase + 0x1C00)
  let tail := s.readWord .sram o (saveBase + 0x1C08)
  let used := (wfld tail 0 32 + 2 ^ 32 - wfld head 0 32) % 2 ^ 32
  let s1 :=
    if used = 64 then s.writeWord .sram o (saveBase + 0x1C08) (tail ||| 0x8000000000000000)
    else
      let at' := saveBase + 0x1800 + 16 * (wfld tail 0 32 % 64)
      let d1 := BitVec.ofNat 64 (reason * 2 ^ 56 + r.tile * 2 ^ 16 + r.slot * 2 ^ 8)
      ((s.writeWord .sram o at' (tree.setWidth 64)).writeWord .sram o (at' + 8) d1).writeWord .sram o
        (saveBase + 0x1C08) (setFld tail 0 32 (wfld tail 0 32 + 1))
  s1.raiseLine o 13

/-- A double trap (R192): the context stops issuing, its frame and `X` registers stay, its tree is cancelled and a notice made
(reason 2). -/
def State.doubleTrap (s : State) (r : CtxRef) : State :=
  let c := s.ctx r
  ((s.modCtx r (fun c => { c with stuck := true, late := [], request := none, wound := none })).notice c.tree 2 r).send
    (.treeCancel r.node c.tree)

/-- The entry bundle and the level of a trap's handler (R191): `lvl` is the level it was raised at. -/
def handlerOf (xvec : Word) (cause : Cause) (lvl : Nat) : BitVec 12 × Nat :=
  let g := cause.code / 16
  let deleg := lvl = 0 ∧ g ≠ 6 ∧ g ≠ 7 ∧ g ≠ 8 ∧ xvec.getLsbD (48 + g) = true
  if deleg then (BitVec.ofNat 12 (wfld xvec 16 12), 1) else (BitVec.ofNat 12 (wfld xvec 0 12), 2)

/-- `XCAUSE` and `XPC` of a trap (Tables 6.7, 6.8). -/
def TrapReq.xcause (q : TrapReq) : Word := BitVec.ofNat 64 (q.slot * 2 ^ 12 + q.cls * 2 ^ 8 + q.cause.code)
def TrapReq.xpc (q : TrapReq) (rpc : Nat) : Word := BitVec.ofNat 64 (q.fpc % 4096 * 2 ^ 16 + rpc % 4096)

/-- The records that pending late items bring to a capture (R186). -/
def Ctx.storeLate (c : Ctx) : Ctx :=
  { c with
    capture := c.capture ++ (c.late.filter (fun f => f.arrived && !f.stored)).filterMap (fun f => f.record)
    late := c.late.map (fun (f : LateFault) => if f.arrived then { f with stored := true } else f) }

/-- TAKING A TRAP (R188): at the boundary before bundle `rpc`, in the core cycle of the tile. The schedule is captured, the
`X` registers are written, the level becomes the handler's, and the handler's entry bundle is the next (R191). The frame is
written when every value the entry waits for has come (`State.enterHandler`). Under a live frame it is a double trap (R192). -/
def State.takeTrap (s : State) (r : CtxRef) (q : TrapReq) (rpc : Nat) (waitEnd : Bool) : State :=
  let t := s.tile (tileOf r)
  let c := t.ctx r.slot
  if c.tf then s.doubleTrap r
  else
    let lvl := c.level
    let h := handlerOf c.xvec q.cause lvl
    let c0 := c.storeLate
    let c1 := { c0.captured t.core t.wall false with
      xstat := BitVec.ofNat 64 (0x80 + lvl * 16 + h.2)
      xcause := q.xcause
      xpc := q.xpc rpc
      xaddr := q.xaddr
      xprog := q.xprog
      pc := h.1
      waitEnd := waitEnd
      blockStart := false
      trapSeq := t.issued
      issueAt := 0
      holdUntil := 0
      fencing := false }
    s.setTile (tileOf r) { t.setCtx r.slot c1 with freeze := none }

/-- Where a trap frame holds a latch (Tables 6.3, 6.5): the memory, the offset and the bytes. -/
def latchPlace (t : Tile) (slot : Nat) (f : RFile) (k : Nat) : MemSpace × Nat × Nat :=
  match f with
  | .a => (.spill, t.frameOff slot (0x60 + 8 * k), 8)
  | .m => (.spill, t.frameOff slot (0x80 + 8 * k), 8)
  | .e => (.spill, t.frameOff slot (0xA0 + 8 * k), 8)
  | .v => (.sram, extBase slot + 128 * k, 128)

/-- The latches of bad parity of a context, as its frame holds them: their error goes with them (R188, R424). -/
def State.spoilLatches (s : State) (r : CtxRef) (cs : List Cell) : State :=
  cs.foldl (fun s x => match x with
    | .latch f k =>
      let p := latchPlace (s.tile (tileOf r)) r.slot f k.toNat
      { s with poison := s.poison ++ (List.range (p.2.2 / 8)).map (fun i => memKey p.1 (tileOf r) (p.2.1 + 8 * i)) }
    | _ => s) s

/-- The latches of a frame that are in error, where it holds an entry of them. -/
def State.spoiltLatches (s : State) (r : CtxRef) : List Cell :=
  let h := s.frameWord r 0
  [(RFile.a, 16), (.v, 20), (.m, 24), (.e, 28)].flatMap (fun f =>
    ((List.range 4).filter (fun k =>
      let p := latchPlace (s.tile (tileOf r)) r.slot f.1 k
      h.getLsbD (f.2 + k) && s.poisonIn p.1 (tileOf r) p.2.1 p.2.2)).map (fun k => Cell.latch f.1 (BitVec.ofNat 2 k)))

/-- The header of a trap frame (Table 6.3). -/
def frameHeader (xcause : Word) (waitEnd : Bool) (nrec npay latv : Nat) : Word :=
  BitVec.ofNat 64 (wfld xcause 0 8 * 2 ^ 56 + wfld xcause 8 3 * 2 ^ 53 + (if waitEnd then 2 ^ 51 else 0)
    + (if 20 < nrec then 2 ^ 50 else 0) + wfld xcause 12 2 * 2 ^ 48 + nrec % 256 * 2 ^ 40 + npay % 256 * 2 ^ 32
    + latv * 2 ^ 16)

/-- The frame of a capture written (R193, R195): header with the cause of `xcause`, copies of the registers given, loop
registers, latches and records. Answers the counts of records and payloads. -/
def State.writeFrame (s : State) (r : CtxRef) (xcause xpc : Word) (waitEnd : Bool) : State × Nat × Nat :=
  let c := s.ctx r
  let recs := sortRecords (c.capture ++ c.waitedRecords)
  let w := writeRecords s r recs 0 0
  let s1 := w.1
  let latch := fun (q : Vector (Option Word) 4) (k : Nat) => ((q[k]?).getD none).getD 0
  let s2 := (s1.setFrameWord r 0 (frameHeader xcause waitEnd recs.length w.2.2 c.latv)).setFrameWord r 8 xpc
  let s3 := ((s2.setFrameWord r 0x10 c.xaddr).setFrameWord r 0x18 c.xprog).writeBytes .spill (tileOf r)
    ((s2.tile (tileOf r)).frameOff r.slot 0x20) (List.replicate 32 0)
  let s4 := (List.range 4).foldl (fun s k =>
    (((s.setFrameWord r (0x40 + 8 * k) ((c.lc[k]?).getD 0)).setFrameWord r (0x60 + 8 * k) (latch c.qa k)).setFrameWord r
      (0x80 + 8 * k) (latch c.qm k)).setFrameWord r (0xA0 + 8 * k) (latch c.qe k)) s3
  let s5 := (List.range 4).foldl (fun s k =>
    s.writeBytes .sram (tileOf r) (extBase r.slot + 128 * k) (vecBytes (((c.qv[k]?).getD none).getD 0))) s4
  let s6 := (s5.healWhole .spill (tileOf r) ((s5.tile (tileOf r)).frameOff r.slot 0) 0xC0).healWhole .sram (tileOf r) (extBase r.slot) 512
  ((s6.spoilLatches r c.bad).modCtx r (fun c => { c with marks := recs.map Record.mark }), recs.length, w.2.2)

/-- Whether a late item that does not hold the frame's deferred record goes to the further list (R186): a faulted access, a fold
transfer and a fold-view store leave a record of their own instead. A parity `UE` is never pending after its boundary
(R424). -/
def LateFault.listed (f : LateFault) : Bool := f.access.isNone && f.record.isNone

/-- The class of a late item: a `TRAP` request is class 4, every other class 3. -/
def LateFault.cls (f : LateFault) : Nat :=
  match f.cause with
  | .trap _ => 4
  | _ => 3

/-- Dword 0 of a deferred item, with the bundle it is reported against. -/
def LateFault.dword (f : LateFault) (here : Nat) : Word :=
  BitVec.ofNat 64 (f.cause.code * 2 ^ 56 + f.cls * 2 ^ 53 + (if f.cls = 4 then 0 else (slotIdx f.slot)) * 2 ^ 48
    + f.fpc.getD here % 4096)

/-- The further deferred list with an item inserted at a position (R186, Table 6.5). -/
def State.insertFurther (s : State) (r : CtxRef) (n at' : Nat) (d x : Word) : State :=
  let base := extBase r.slot + 0xE00
  let moved := s.readBytes .sram (tileOf r) (base + 16 * at') (16 * (n - at'))
  ((s.writeBytes .sram (tileOf r) (base + 16 * (at' + 1)) moved).writeWord .sram (tileOf r) (base + 16 * at') d).writeWord
    .sram (tileOf r) (base + 16 * at' + 8) x

/-- An item kept in the frame's further list in the order of its bundle; a 33rd is a double trap (R186). -/
def State.keepFurther (s : State) (r : CtxRef) (seq : Nat) (d x : Word) : State :=
  let h := s.frameWord r 0
  let n := wfld h 8 8
  if 32 ≤ n then s.doubleTrap r
  else
    let seqs := (s.ctx r).deferSeq
    let tailSeqs := seqs.drop 1
    let at' := (tailSeqs.filter (fun q => decide (q.1 / 256 ≤ seq / 256))).length
    let s1 := (s.insertFurther r n at' d x).setFrameWord r 0 (setFld h 8 8 (n + 1))
    s1.modCtx r (fun c => { c with deferSeq := seqs.take 1 ++ tailSeqs.take at' ++ [(seq, true)] ++ tailSeqs.drop at' })

/-- A record added to a frame that is already written (R186, R318), after the records it has (log entry 105). One that the frame
and the extension area cannot hold is a double trap (R436). -/
def State.appendRecord (s : State) (r : CtxRef) (x : Record) : State :=
  let h := s.frameWord r 0
  let n := wfld h 40 8
  if 212 ≤ n ∨ (x.pay.isSome = true ∧ 48 ≤ wfld h 32 8) then s.doubleTrap r
  else
    let w := writeRecords s r [x] n (wfld h 32 8)
    let h1 := setFld (setFld h 40 8 w.2.1) 32 8 w.2.2
    (w.1.setFrameWord r 0 (if 20 < w.2.1 then setFld h1 50 1 1 else h1)).modCtx r (fun c => { c with marks := c.marks ++ [x.mark] })

/-- An item takes the frame's deferred record (R186); `here` is the bundle before which its trap is taken. -/
def State.holdDeferred (s : State) (r : CtxRef) (here : Nat) (f : LateFault) : State :=
  let d := f.dword here
  (((s.setFrameWord r 0x20 d).setFrameWord r 0x28 f.xaddr).setFrameWord r 0x30 f.xprog).modCtx r (fun c =>
    { c with deferSeq := (f.seq, f.listed) :: c.deferSeq.drop 1 })

/-- An item goes to the frame's deferred record, which keeps the one whose bundle issued earliest (R186). The frame of a context that a double
trap has stopped stays as it stands (R192). -/
def State.deferItem (s0 : State) (r : CtxRef) (here : Nat) (f : LateFault) : State :=
  let s := match f.record, f.stored with
    | some x, false => if (s0.ctx r).stuck then s0 else s0.appendRecord r x
    | _, _ => s0
  let h := s.frameWord r 0
  let old := (s.ctx r).deferSeq.headD (0, false)
  if (s.ctx r).stuck then s
  else if !h.getLsbD 52 then (s.holdDeferred r here f).setFrameWord r 0 (setFld h 52 1 1)
  else if f.seq / 256 < old.1 / 256 then
    let od := s.frameWord r 0x20
    let ox := s.frameWord r 0x28
    let s1 := s.holdDeferred r here f
    if old.2 then s1.keepFurther r old.1 od ox else s1
  else if f.listed then s.keepFurther r f.seq (f.dword here) f.xaddr
  else s

/-- The frame is complete and the handler's entry is due (R188, R190): the frame is written, pending late items are deferred
(R186), latches and loop registers are emptied, and the entry bundle issues `w` cycles after the boundary. -/
def State.enterHandler (s : State) (r : CtxRef) : State :=
  let c := s.ctx r
  match c.entering with
  | none => s
  | some (core, wall) =>
    if !c.landings.all Landing.settled then s
    else
      let all := c.capture ++ c.waitedRecords
      let rmax := (c.capture.filter (fun x => x.kind == 1 || x.kind == 7)).foldl (fun m x => max m x.due) 0
      let q := c.landings.foldl (fun m l => max m (if l.lost then 16384 else l.arrive.getD wall - wall)) 0
      let pays := (all.filter (fun x => x.pay.isSome)).length
      let w := s.writeFrame r c.xcause c.xpc c.waitEnd
      let items := c.late.filter (fun f => f.arrived) ++ (match c.request with
        | some (k, fpc, seq) => [⟨k, some fpc, .a, 0, 0, seq, none, true, none, false⟩]
        | none => [])
      let s1 := w.1.modCtx r (fun c =>
        { c.emptyLatches with lc := Vector.replicate 4 0, landings := [], capture := [], entering := none
                              late := c.late.filter (fun f => !f.arrived), request := none, deferSeq := []
                              issueAt := core + max 10 (rmax + 2) + all.length + 4 * pays + q })
      let s2 := items.foldl (fun s f => s.deferItem r (wfld c.xpc 0 12) f) s1
      if 212 < all.length ∨ 48 < pays then s2.doubleTrap r else s2

/-! Returning -/

/-- The marks of record `i` of a frame: those the core keeps, and of one it keeps none for (a frame another tile's core made, R391)
what its kind tells. -/
def Ctx.markOf (c : Ctx) (i : Nat) (kind : BitVec 4) : Mark :=
  (c.marks[i]?).getD ⟨kind == 2 || kind == 3 || kind == 4, false, 0, none⟩

/-- Record `i` of a frame read back (R194); `due` is its REM. -/
def State.readRecord (s : State) (r : CtxRef) (i : Nat) : Record :=
  let at' := recordPlace (s.tile (tileOf r)) r.slot i
  let w0 := s.readWord at'.1 (tileOf r) at'.2
  let w1 := s.readWord at'.1 (tileOf r) (at'.2 + 8)
  let kind := BitVec.ofNat 4 (wfld w0 60 4)
  let file := BitVec.ofNat 2 (wfld w0 58 2)
  let pays := (kind = 1 ∨ kind = 2) ∧ file = 1 ∨ kind = 6 ∨ kind = 7 ∧ file = 1
  let o := payloadOff r.slot (wfld w0 0 6)
  let pay := if pays then
      some (bytesVec (s.readBytes .sram (tileOf r) o 128),
        BitVec.ofNat 128 (bytesToNat (s.readBytes .sram (tileOf r) (o + 128) 16)))
    else none
  ⟨kind, file, BitVec.ofNat 5 (wfld w0 53 5), w0.getLsbD 52, wfld w0 42 10, BitVec.ofNat 8 (wfld w0 32 8),
    BitVec.ofNat 32 (wfld w0 0 32), w1, pay, (s.ctx r).markOf i kind, i⟩

/-- Records of one cycle stand in the order of R22 (R193), so what follows a landing of its cycle is a landing or an `XMOV`. -/
def orderedAgain : List Nat → List Record → List Record
  | _, [] => []
  | lates, x :: xs =>
    if x.mark.late then x :: orderedAgain (x.due :: lates) xs
    else { x with mark := { x.mark with late := lates.contains x.due } } :: orderedAgain lates xs

/-- A record read back as the result it completes as at core cycle `due` (R196). One of an unused kind completes as a kind 0x1 one
(log entry 54). -/
def Record.toResult (x : Record) (due seq : Nat) : Result :=
  let eff : Effect :=
    if x.kind = 7 then
      (if x.file = 0 then .pred (x.reg.setWidth 3) (x.value.getLsbD 0)
       else if x.file = 1 then .mask (x.reg.setWidth 3) ((x.pay.getD (0, 0)).1.setWidth 128) (BitVec.allOnes 128)
       else match CReg.ofNumber (x.word.setWidth 10) with
        | .ok q => .creg q x.value
        | .error _ => .creg .self x.value)
    else match x.pay with
      | some (v, be) => .vec x.reg x.sup v (bitEnable be)
      | none => .word (RFile.ofCode x.file) x.reg x.sup x.value
  ⟨due, false, x.mark.late, seq, .a, eff, x.aux.setWidth 7 ||| x.mark.flags, !x.mark.silent, x.mark.lock⟩

/-- The latches a frame holds (R196). -/
def State.frameLatches (s : State) (r : CtxRef) (c : Ctx) : Ctx :=
  let h := s.frameWord r 0
  let get := fun (base bit k : Nat) =>
    if h.getLsbD (16 + bit + k) then some (s.frameWord r (base + 8 * k)) else none
  let getV := fun (k : Nat) =>
    if h.getLsbD (20 + k) then some (bytesVec (s.readBytes .sram (tileOf r) (extBase r.slot + 128 * k) 128)) else none
  { c.emptyLatches with
           bad := c.emptyLatches.bad ++ s.spoiltLatches r
           qa := #v[get 0x60 0 0, get 0x60 0 1, get 0x60 0 2, get 0x60 0 3]
           qm := #v[get 0x80 8 0, get 0x80 8 1, get 0x80 8 2, get 0x80 8 3]
           qe := #v[get 0xA0 12 0, get 0xA0 12 1, get 0xA0 12 2, get 0xA0 12 3]
           qv := #v[getV 0, getV 1, getV 2, getV 3] }

/-- Results of a context that from now on push no latch entry (R26, R197). -/
def Ctx.silence (c : Ctx) : Ctx :=
  { c with results := c.results.map (fun r => { r with pushes := false })
           landings := c.landings.map (fun l => { l with pushes := false }) }

/-- The restore of a frame begins (R196): loop registers, latches, records; a re-issue keeps the second M register as it stands
now. The return bundle follows by `Ctx.placeReturn`. -/
def State.restoreFrame (s : State) (r : CtxRef) (rpc : BitVec 12) : State :=
  let t := s.tile (tileOf r)
  let h := s.frameWord r 0
  let n := wfld h 40 8
  let p := wfld h 32 8
  let recs := orderedAgain [] ((List.range n).map (s.readRecord r))
  let again := fun (x : Record) => x.kind == 3 || x.kind == 5 || x.kind == 6
  s.modCtx r (fun c =>
    let second := fun (x : Record) =>
      let m := fld x.aux.toNat 0 5
      if x.kind = 3 then { x with pay := some (BitVec.ofNat 1024 ((c.regM m).toNat + (c.regM (m + 1)).toNat * 2 ^ 64), 0) } else x
    let c1 := s.frameLatches r c.silence
    { c1 with lc := #v[s.frameWord r 0x40, s.frameWord r 0x48, s.frameWord r 0x50, s.frameWord r 0x58]
              results := c1.results.filter (fun x => match x.effect with
                | .creg (.lc _) _ => false
                | _ => true)
              capture := recs.filter (fun x => !again x)
              reissue := (recs.filter again).map second
              again := []
              marks := []
              returning := some (t.core, t.wall + 8 + n + 4 * p)
              waitEnd := h.getLsbD 51
              pc := rpc })

/-- A deferred item moves up from the further list (R186). -/
def State.nextDeferred (s : State) (r : CtxRef) : State :=
  let h := s.frameWord r 0
  let n := wfld h 8 8
  let seqs := (s.ctx r).deferSeq.drop 1
  let s0 := s.modCtx r (fun c => { c with deferSeq := seqs })
  if n = 0 then s0.setFrameWord r 0 (setFld h 52 1 0)
  else
    let base := extBase r.slot + 0xE00
    let d := s.readWord .sram (tileOf r) base
    let x := s.readWord .sram (tileOf r) (base + 8)
    let rest := s.readBytes .sram (tileOf r) (base + 16) (16 * (n - 1))
    (((s0.setFrameWord r 0x20 d).setFrameWord r 0x28 x).setFrameWord r 0x30 0).setFrameWord r 0 (setFld h 8 8 (n - 1))
      |>.writeBytes .sram (tileOf r) base rest

/-- The cause of a code (Table 6.1a). -/
def Cause.ofCode (n : Nat) : Cause :=
  match n with
  | 0x01 => .illegal
  | 0x02 => .priv
  | 0x03 => .uninit
  | 0x10 => .window
  | 0x11 => .windowCross
  | 0x12 => .bound
  | 0x13 => .align
  | 0x14 => .stack
  | 0x20 => .foldMiss
  | 0x21 => .foldPos
  | 0x22 => .foldPerm
  | 0x23 => .foldNomem
  | 0x30 => .cbInvalid
  | 0x31 => .cbHazard
  | 0x38 => .dupchk
  | 0x40 => .lockProto
  | 0x41 => .wound
  | 0x50 => .landingTimeout
  | 0x60 => .ue
  | 0x70 => .preempt
  | _ => if 0xF0 ≤ n then .trap (BitVec.ofNat 4 n) else .interrupt (BitVec.ofNat 4 n)

/-- `TRET` with DEFER = 1 takes the deferred trap at the return bundle (R186): the frame stays, the handler is chosen for the
interrupted level, and the entry follows the handler's own completions. DESIGN CHOICE (log entry 106): the handler's latches are
emptied and `LC0` to `LC3` stay as it left them; the header's CAUSE, CLASS and SLOT and the frame's copies of `XPC`, `XADDR` and
`XPROG` stay those of the first trap. -/
def State.takeDeferred (s : State) (r : CtxRef) : State :=
  let t := s.tile (tileOf r)
  let c := t.ctx r.slot
  let d := s.frameWord r 0x20
  let cause := Cause.ofCode (wfld d 56 8)
  let plvl := wfld c.xstat 4 2
  let h := handlerOf c.xvec cause plvl
  let last := (c.results.map (fun x => x.due)).foldl max 0
  let last' := c.landings.foldl (fun m l => max m l.named) last
  let s1 := s.modCtx r (fun c =>
    { c.silence with
      xcause := BitVec.ofNat 64 (wfld d 48 2 * 2 ^ 12 + wfld d 53 3 * 2 ^ 8 + wfld d 56 8)
      xpc := setFld c.xpc 16 12 (wfld d 0 12)
      xaddr := s.frameWord r 0x28
      xprog := s.frameWord r 0x30
      xstat := setFld c.xstat 0 2 h.2
      pc := h.1
      issueAt := max (t.core + 2) (last' + 1) })
  (s1.modCtx r (fun c => c.emptyLatches)).nextDeferred r

/-- RETURNING FROM A TRAP: `TRET` at its issue (R196, R186). -/
def State.trapReturn (s : State) (r : CtxRef) : State :=
  let c := s.ctx r
  if (s.frameWord r 0).getLsbD 52 then s.takeDeferred r
  else
    (s.restoreFrame r (BitVec.ofNat 12 (wfld c.xpc 0 12))).modCtx r (fun c =>
      { c with xstat := BitVec.ofNat 64 (wfld c.xstat 4 2 * 17) })

/-- Whether a return's bundle may issue (R196, R197): the restore has ended, every re-issue has entered its queue, and every
landing of the handler has been written, or a fault (R36) or a pre-emption (R379) ends the wait for it. -/
def Ctx.returnReady (c : Ctx) (core wall : Nat) (halts : Bool) : Bool :=
  match c.returning with
  | none => false
  | some (u, w) => decide (u + 2 ≤ core) && decide (w ≤ wall) && c.reissue.isEmpty
      && (c.landings.all (fun l => l.rel) || c.late.any (fun f => f.arrived) || halts)

/-- The place in the order of issue of what a return brings back: record `i` of a frame stands behind the `TRET` and ahead of the return bundle,
whose number is `issued` (R22, R138, R193). -/
def restoredSeq (issued i : Nat) : Nat := (issued - 1) * 256 + 4 + i
def Tile.restored (t : Tile) (i : Nat) : Nat := restoredSeq t.issued i

/-- The records of a return placed for core cycle T' (R196): results and held values in their pipelines, landings named for
T' + REM, lost records due then. -/
def Ctx.placeReturn (c : Ctx) (core issued : Nat) : Ctx :=
  let live := c.capture.filter (fun x => x.kind != 4)
  let lost := c.capture.filter (fun x => x.kind == 4)
  let rs := live.map (fun x => x.toResult (core + x.due) (restoredSeq issued x.seq))
  let ls := lost.map (fun x => ({ (default : Landing) with
    id := 0, file := RFile.ofCode x.file, reg := x.reg, named := core + x.due, addr := x.value, lost := true
    seq := restoredSeq issued x.seq } : Landing))
  { c with results := c.results ++ rs
           landings := c.landings.map (fun l => if l.rel then { l with rel := false, named := core + l.named } else l) ++ ls
           capture := []
           returning := none }

/-! Running an operation -/

/-- A class 5 trap of the issuing bundle (R182, R184): the bundle does not execute and is the return bundle. -/
def State.issueTrap (s : State) (f : Failure) : State :=
  let c := s.cur
  s.takeTrap s.me ⟨f.cause, 5, (slotIdx f.slot), c.pc.toNat, f.xaddr, 0⟩ c.pc.toNat false

/-- AN OPERATION OF A SLOT. In the check of its bundle it notes its failure; in the execution of a checked bundle it has its
effect if its guard reads true (R16, R45); run on its own it does both, a failure being the class 5 trap. -/
def runOp (sl : Slot) (g : Guard) (k : State → Checks) (eff : State → State) (s : State) : Out :=
  match s.issue.mode with
  | .commit => .next (if s.cur.guard g then eff s else s)
  | .probe =>
    match opFailure sl g k s with
    | some f => .next { s with issue := { s.issue with fails := s.issue.fails ++ [f] } }
    | none =>
      let n := if s.cur.guard g && (k s).timed then s.issue.taken + 1 else s.issue.taken
      .next { s with issue := { s.issue with taken := n } }
  | .direct =>
    match opFailure sl g k s with
    | some f => .next (s.issueTrap f)
    | none => .next (if s.cur.guard g then eff s else s)

end Sys2Proof.Machine
end

