-- ==== Sys2Proof/Machine/Operands.lean ====
section
/-! DEFINITION. The operand forms of memory: generic pointers and windows (R233), the checks of an access at issue (R234 to R239,
R303), where a pointer leads, home scopes (Table 8.5), the 8-byte units of an access (R242), and its entry into landings and
queues (R31, R244). -/

namespace Sys2Proof.Machine

/-! Pointers -/

/-- The window code of a generic pointer (Table 8.1). -/
def winOf (p : Word) : Nat := wfld p 60 4

/-- The width of the offset field of a window (Table 8.1). -/
def winOffBits : Nat → Nat
  | 1 => 15
  | 4 => 12
  | 5 => 19
  | _ => 24

/-- The offset field of a pointer. -/
def ptrOff (p : Word) : Nat := wfld p 0 (winOffBits (winOf p))

/-- The bits a window's pointers must leave zero (Table 8.1). -/
def winZero : Nat → Word
  | 0 => 0x0FFFFFFFFF000000
  | 1 => 0x0FFFFFFFFFFF8000
  | 2 => 0x0FFFFF00FF000000
  | 3 => 0x0FF00000FF000000
  | 5 => 0x0FFFFFFFFFF80000
  | _ => 0

/-- The last legal offset of a window, given the spill share and the vector bytes of the fold layout (Table 8.1). -/
def winLast (share vec : Nat) : Nat → Nat
  | 1 => share - 1
  | 4 => vec - 1
  | 5 => 0x40DFF
  | _ => 0xBFFFFF

/-- The hole of the port window (Table 8.1). -/
def inHole (w off : Nat) : Bool := w == 5 && decide (0x40810 ≤ off) && decide (off ≤ 0x40BFF)

/-- The tile a local, node or pasture pointer names, for a context (R233). -/
def targetTile (r : CtxRef) (p : Word) : TileRef :=
  match winOf p with
  | 2 => ⟨r.node, wfld p 32 8⟩
  | 3 => ⟨wfld p 40 12, wfld p 32 8⟩
  | _ => tileOf r

/-- The fields of a fold-view pointer (Table 8.1, R292). -/
def ptrHandle (p : Word) : Nat := wfld p 36 24
def ptrPos (p : Word) : Nat := wfld p 12 24
def ptrByte (p : Word) : Nat := wfld p 0 12

/-- A fold-view pointer with another position. -/
def setPos (p : Word) (pos : Nat) : Word := setFld p 12 24 pos

/-! Regions and rights -/

/-- Whether a range of offsets of a tile meets its node's fold region (R294). -/
def inFold (f : FoldRegion) (tile first last : Nat) : Bool :=
  let x := tile % 16
  let y := tile / 16
  let inside := decide (f.x ≤ x) && decide (x < f.x + f.w) && decide (f.y ≤ y) && decide (y < f.y + f.h)
  let i := (y - f.y) * f.w + (x - f.x)
  let n := f.w * f.h
  let count := if i < f.frames then (f.frames - i + n - 1) / n else 0
  let top := if i = 0 then 0x1F0000 else 0xAF0000
  inside && ((i == 0 && decide (first ≤ 0xAEFFFF) && decide (0x1F0000 ≤ last))
    || (decide (first < top) && decide (top ≤ last + 0x8000 * count)))

/-- Whether a range of offsets of a tile meets the reserved save region or the fold region (R387, R294). -/
def inReserved (n : Node) (tile first last : Nat) : Bool :=
  (decide (first ≤ 0xBFFFFF) && decide (saveBase ≤ last)) || (match n.fold with
    | some f => inFold f tile first last
    | none => false)

/-- Whether a window descriptor matches a range of a tile of a node (R238, R239). -/
def windowMatches (d : Vector Word 4) (node tile first last : Nat) : Bool :=
  let w := d[0]
  let lw := wfld w 29 3
  let lh := wfld w 26 3
  let ox := wfld w 32 4
  let oy := wfld w 36 4
  let base := wfld d[1] 0 24
  let lst := wfld d[2] 0 24
  w.getLsbD 63 && decide (lw ≤ 4) && decide (lh ≤ 4) && ox % 2 ^ lw == 0 && oy % 2 ^ lh == 0 && decide (base ≤ lst)
    && wfld w 40 12 == node && tile % 16 / 2 ^ lw == ox / 2 ^ lw && tile / 16 / 2 ^ lh == oy / 2 ^ lh
    && decide (base ≤ first) && decide (last ≤ lst)

/-- Whether some descriptor of a tile grants an access (R239). -/
def Tile.grants (t : Tile) (node tile first last : Nat) (wr : Bool) : Bool :=
  t.windows.toList.any (fun d => windowMatches d node tile first last && (!wr || d[0].getLsbD 62))

/-- Whether some descriptor of a tile marks a load idempotent (Table 8.3). -/
def Tile.idempotent (t : Tile) (node tile first last : Nat) : Bool :=
  t.windows.toList.any (fun d => windowMatches d node tile first last && d[0].getLsbD 61)

/-- What the level of an access is refused (Table 8.2, R206, R239, R294). -/
def rightsFault (s : State) (r : CtxRef) (lvl : Nat) (first last : Word) (wr : Bool) : Option Cause :=
  let off := ptrOff first
  let lst := ptrOff last
  let g := targetTile r first
  match winOf first with
  | 0 => if lvl < 2 ∧ inReserved (s.node r.node) r.tile off lst = true then some .window else none
  | 2 | 3 =>
    if lvl = 0 then
      (if (s.tile (tileOf r)).grants g.node g.tile off lst wr = true
          ∧ (s.node g.node).fold.all (fun f => !inFold f g.tile off lst) = true then none
        else some .window)
    else if lvl = 1 ∧ inReserved (s.node g.node) g.tile off lst = true then some .window
    else none
  | 5 =>
    if lst < 0x40000 then (if lvl = 0 then some .priv else none)
    else if wr then (if lvl < (if 0x40C00 ≤ off then 2 else 1) then some .priv else none)
    else none
  | _ => none

/-! Checks at issue -/

/-- Whether an access violates its alignment (R235). -/
def misaligned (first : Word) (size align : Nat) : Bool :=
  first.toNat % align != 0 ||
    (winOf first == 5 && decide (0x40000 < ptrOff first + size) && decide (ptrOff first ≤ 0x40DFF)
      && (size != 8 || ptrOff first % 8 != 0))

/-- The fold layout a drove has on a node: the node's region, where it is that drove's (R233, R290). -/
def Node.foldFor (n : Node) (d : BitVec 32) : Option FoldRegion := if n.foldOwner = d then n.fold else none

/-- The vector bytes of a node's fold region; 0 without one (R290). -/
def Node.vecbytes (n : Node) : Nat :=
  match n.fold with
  | some f => f.vecbytes
  | none => 0

/-- The checks of R234 for one access: its trap and `XADDR`. `refuse` says which windows the instruction refuses. -/
def accessFault (s : State) (r : CtxRef) (lvl : Nat) (first : Word) (size align : Nat) (wr : Bool) (refuse : Nat → Bool) :
    Option (Cause × Word) :=
  let w := winOf first
  let n := s.node r.node
  let t := s.tile (tileOf r)
  let last := first + BitVec.ofNat 64 (size - 1)
  let limit := winLast t.spillShare n.vecbytes w
  if 6 ≤ w then some (.window, first)
  else if first &&& winZero w ≠ 0 then some (.window, first)
  else if refuse w = true ∨ (w = 4 ∧ (n.foldFor t.drove).isNone = true) then some (.window, first)
  else if misaligned first size align = true then some (.align, first)
  else if first.toNat >>> winOffBits w ≠ last.toNat >>> winOffBits w then some (.windowCross, first)
  else if limit < ptrOff last ∨ inHole w (ptrOff first) = true ∨ inHole w (ptrOff last) = true then some (.bound, first)
  else (rightsFault s r lvl first last wr).map (fun c => (c, first))

/-- The view a fold-view pointer's handle names on a tile, if it is open (R292, R303). -/
def Tile.viewAt (t : Tile) (p : Word) : Option View :=
  match t.views[ptrHandle p % 32]? with
  | some v => if v.opened && v.tag.toNat == ptrHandle p / 32 then some v else none
  | none => none

/-- The readable limit of a view at issue (R303). -/
def View.limit (v : View) : Nat := max v.ef v.pend

/-- The fold checks of an access: handle, WR, position (R303). -/
def foldFault (t : Tile) (p : Word) (wr : Bool) : Option (Cause × Word) :=
  if winOf p ≠ 4 then none
  else match t.viewAt p with
    | none => some (.window, p)
    | some v =>
      if wr && !v.wr then some (.window, p)
      else if v.limit ≤ ptrPos p then some (.foldPos, p)
      else none

/-- Every check of one load or store access at issue. -/
def memFault (s : State) (r : CtxRef) (lvl : Nat) (first : Word) (size align : Nat) (wr : Bool) (refuse : Nat → Bool) :
    Option (Cause × Word) :=
  (accessFault s r lvl first size align wr refuse).or (foldFault (s.tile (tileOf r)) first wr)

/-- The first failure among segments, in ascending order (R234). -/
def segFault (s : State) (r : CtxRef) (lvl : Nat) (segs : List Word) (size align : Nat) (wr : Bool) : Option (Cause × Word) :=
  segs.findSome? (fun p => memFault s r lvl p size align wr (fun _ => false))

/-! Where a pointer leads -/

/-- The memory, the tile and the offset a pointer leads to, for the windows that name bytes directly (R233). -/
def State.place (s : State) (r : CtxRef) (p : Word) : MemSpace × TileRef × Nat :=
  match winOf p with
  | 1 => (.spill, tileOf r, (s.tile (tileOf r)).spillOff r.slot (ptrOff p))
  | 5 => (.port, tileOf r, ptrOff p)
  | _ => (.sram, targetTile r p, ptrOff p)

/-- The home scope of an access (Table 8.5). -/
def homeScope (r : CtxRef) (p : Word) : Scope :=
  match winOf p with
  | 2 | 3 =>
    let g := targetTile r p
    if g.node ≠ r.node then .p else if g.tile = r.tile then .t else .n
  | 4 => .p
  | _ => .t

/-- Whether a scope lies within another (R248). -/
def Scope.within : Scope → Scope → Bool
  | .t, _ => true
  | .n, .t => false
  | .n, _ => true
  | .p, .p => true
  | .p, _ => false

/-- The home scopes of the accesses a queue entry still has to perform (Table 8.5): copies, fold transfers and the releases
themselves are none (R250, R251, R253). -/
def QEntry.scopes (e : QEntry) (r : CtxRef) : List Scope :=
  match e.op with
  | .load us => us.map (fun u => homeScope r u.ptr)
  | .store us _ => us.map (fun u => homeScope r u.ptr)
  | .atom _ _ u _ => [homeScope r u.ptr]
  | .swr _ _ _ _ _ => [.t]
  | _ => []

/-- Whether the accesses of a context numbered below `gate` and homed within a scope have been performed (R248, R250). -/
def State.aheadDone (s : State) (r : CtxRef) (gate : Nat) (sc : Scope) : Bool :=
  (s.ctx r).queue.all (fun e => decide (gate ≤ e.id) || (e.scopes r).all (fun h => !Scope.within h sc))

/-- Whether an entry reads as a load does, and whether it writes (R245). -/
def QOp.reads : QOp → Bool
  | .load _ => true
  | .atom returns _ _ _ => returns
  | _ => false
def QOp.writes : QOp → Bool
  | .store _ _ => true
  | .atom _ _ _ _ => true
  | _ => false

/-- The units an entry has still to perform. -/
def QOp.units : QOp → List UnitAcc
  | .load us => us
  | .store us _ => us
  | .atom _ _ u _ => [u]
  | _ => []

/-- Whether an ordering has nothing ahead left to order (R247, R248). -/
def QEntry.orderDone (e : QEntry) (r : CtxRef) (ahead : List QEntry) : Bool :=
  match e.op with
  | .mark => ahead.all (fun f => !f.op.writes || f.op.units.all (fun u => homeScope r u.ptr != .t))
  | .fence sc => ahead.all (fun f => (f.scopes r).all (fun h => !Scope.within h sc))
  | _ => false

/-- Entries without the orderings that have left their queues and are satisfied. -/
def dropDone (r : CtxRef) : List QEntry → List QEntry → List QEntry
  | _, [] => []
  | ahead, e :: rest =>
    if e.issued && e.orderDone r ahead then dropDone r ahead rest else e :: dropDone r (ahead ++ [e]) rest

/-- Satisfied orderings leave. -/
def State.settleOrderings (s : State) (r : CtxRef) : State := s.modCtx r (fun c => { c with queue := dropDone r [] c.queue })

/-! Tile-register shapes -/

/-- Whether a tile-register shape is invalid (R135). -/
def shapeBad (w : Word) : Bool :=
  let rb := wfld w 8 7 + 1
  match wfld w 0 5 with
  | 0x0F => true
  | 0x04 | 0x05 | 0x0A | 0x0B => rb % 2 != 0
  | 0x06 | 0x07 | 0x0C => rb % 4 != 0
  | 0x08 | 0x09 | 0x0D => rb % 8 != 0
  | _ => false
def shapeRows (w : Word) : Nat := wfld w 16 7 + 1
def shapeBytes (w : Word) : Nat := wfld w 8 7 + 1

/-- The shape register of a tile register. -/
def Ctx.shape (c : Ctx) (n : Nat) : Word := (c.tshape[n]?).getD 0

/-- The end of a transfer's rows where it is an `FAPP` through view entry `i` with a tag; 0 otherwise. -/
def FoldReq.endIn (q : FoldReq) (i tag : Nat) (shape : Word) : Nat :=
  if q.fn = 1 ∧ ptrHandle q.opa % 32 = i ∧ ptrHandle q.opa / 32 = tag then ptrPos q.opa + shapeRows (q.shape.getD shape) else 0

/-- PEND of a view: the highest end of an `FAPP` through it that has not completed, a stopped one among them (R302). -/
def Tile.pendOf (t : Tile) (i : Nat) : Nat :=
  let tag := ((t.views[i]?).getD default).tag.toNat
  let waiting := t.ctxs.toList.foldl (fun m c =>
    c.foldHeld.foldl (fun m q => max m (q.endIn i tag (c.shape q.treg))) (c.queue.foldl (fun m e => match e.op with
      | .fold q => max m (q.endIn i tag (c.shape q.treg))
      | _ => m) m)) 0
  t.fold.foldl (fun m j => if j.finished then m else max m (j.req.endIn i tag ((t.ctx j.slot).shape j.req.treg))) waiting

/-- PEND of every open view of a tile as its outstanding `FAPP`s leave it (R302). -/
def Tile.settlePend (t : Tile) : Tile :=
  { t with views := Vector.ofFn (fun (i : Fin 32) => { t.views[i] with pend := t.pendOf i }) }

/-! Units -/

/-- Whether a load's unit may be issued again after a trap (Table 6.2, which has no row for a stream-port window: log entry 34). -/
def loadIdem (s : State) (r : CtxRef) (p : Word) (size : Nat) : Bool :=
  let g := targetTile r p
  winOf p != 3 || g.node == r.node || (s.tile (tileOf r)).idempotent g.node g.tile (ptrOff p) (ptrOff p + size - 1)

/-- The naturally aligned units of one access of `size` bytes, the first of them at byte `pos` of the value (R242). -/
def accUnits (p : Word) (size pos : Nat) (data : List Byte) (idem : Bool) : List UnitAcc :=
  if size ≤ 8 then [⟨p, size, data, pos, idem, none⟩]
  else (List.range (size / 8)).map (fun i =>
    ⟨p + BitVec.ofNat 64 (8 * i), 8, (data.drop (8 * i)).take 8, pos + 8 * i, idem, none⟩)

/-- The earliest landing of an access of another node: the unloaded bounds of Table 1.4 over one lane and over two; no landing offset
reaches it (log entry 18). -/
def earliestFar (n m : Nat) : Nat := if n / 64 = m / 64 ∨ n % 64 = m % 64 then 563 else 975

/-- The earliest landing of a load (Table 1.4). -/
def earliestLoad (r : CtxRef) (p : Word) (size : Nat) (atom : Bool) : Nat :=
  match winOf p with
  | 1 => 2
  | 4 => 12
  | 5 => 4
  | _ =>
    let g := targetTile r p
    if g = tileOf r then (if atom then 8 else if size ≤ 8 then 6 else 9)
    else if g.node = r.node then 40
    else earliestFar r.node g.node

/-! Landings and queues -/

/-- The named cycle of a timed operation that issues at core cycle `core` (R30, R34). -/
def namedCycle (core : Nat) (l : BitVec 10) : Nat := max (core + 1) ((core : Int) + l.toInt).toNat

/-- The number a slot's operation has in the order of issue. -/
def Tile.seqOf (t : Tile) (sl : Slot) : Nat := t.issued * 256 + (slotIdx sl)

/-- A queue entry appended for a context. -/
def State.enqueue (s : State) (r : CtxRef) (e : QEntry) : State :=
  s.modCtx r (fun c => { c with queue := c.queue ++ [e] })

/-- A new entry of the issuing context's queues: its number and the state. -/
def State.queueOp (s : State) (sl : Slot) (inLoad inStore : Bool) (op : QOp) : State :=
  let i := s.newId
  i.2.enqueue s.me ⟨i.1, some s.cur.pc.toNat, s.here.seqOf sl, inLoad, inStore, false, op, s.cur.level⟩

/-- A timed operation of the issuing bundle takes a landing entry (R31): its number, and the state. -/
def State.takeLanding (s : State) (sl : Slot) (kind : LandKind) (l : BitVec 10) (file : RFile) (reg : BitVec 5) (addr : Word)
    (size earliest : Nat) (idem : Bool) : Nat × State :=
  let i := s.newId
  let t := s.here
  (i.1, i.2.modCur (fun c => { c with landings := c.landings ++ [
    { (default : Landing) with
      id := i.1, kind := kind, word := s.slotWord sl, xm := s.issue.xm, fpc := some c.pc.toNat, seq := t.seqOf sl
      file := file, reg := reg, named := namedCycle t.core l, pushes := true, addr := addr, size := size
      issueWall := t.wall, earliest := earliest, base := earliest, idem := idem, past := decide (l.toInt ≤ 0) }] }))

/-- A landing of a context changed. -/
def Ctx.modLanding (c : Ctx) (id : Nat) (f : Landing → Landing) : Ctx :=
  { c with landings := c.landings.map (fun l => if l.id = id then f l else l) }

/-- The number bytes taken in any order stand for. -/
def gotNat (got : List (Nat × Byte)) : Nat := got.foldl (fun acc b => acc + b.2.toNat * 2 ^ (8 * b.1)) 0

/-- The value a landing's bytes become (Table 9.1, R260, R261). -/
def LandKind.value (k : LandKind) (n : Nat) : VReg :=
  match k with
  | .load size true => ((BitVec.ofInt 64 (sfld n 0 (8 * size))).setWidth 1024)
  | .atom size => ((BitVec.ofInt 64 (sfld n 0 (8 * size))).setWidth 1024)
  | _ => BitVec.ofNat 1024 n

/-- Bytes of a value reach a landing; when none is outstanding its value is whole. -/
def Landing.take (l : Landing) (pos : Nat) (bs : List Byte) (last : Bool) : Landing :=
  let got := l.got ++ (List.range bs.length).map (fun i => (pos + i, bs.getD i 0))
  { l with got := got, value := if last then some (l.kind.value (gotNat got)) else l.value }

/-- A landing given its whole value. -/
def Landing.deliver (l : Landing) (v : Word) : Landing := { l with value := some (v.setWidth 1024) }

end Sys2Proof.Machine
end

