-- ==== Sys2Proof/Machine/LoadStore.lean ====
section
/-! DEFINITION. The M slot's loads, stores, atomics, reductions, spill accesses and orderings (spec/09 R257 to R260, spec/08
R237, R244, R247, R248). -/

namespace Sys2Proof.Machine

/-! Addresses -/

/-- The address of a scalar or whole-vector access (Tables 9.1, 9.2). -/
def dispAddr (c : Ctx) (b : BitVec 5) (xm : Byte) (size : Nat) : Word :=
  c.regM b.toNat + BitVec.ofInt 64 (xm.toInt * (size : Int))

/-- The second M register an extension byte names (Table 3.3). -/
def xmReg (xm : Byte) : Nat := fld xm.toNat 0 5

/-- The addresses of a strided access from its base (Tables 9.1, 9.2). -/
def strideAddrs (base stride : Word) : List Word := (List.range 4).map (fun j => base + BitVec.ofNat 64 j * stride)

/-- The addresses of a gathered or scattered access from its base (Tables 9.1, 9.2). -/
def gatherAddrs (base idx : Word) : List Word :=
  (List.range 4).map (fun j => base + BitVec.ofNat 64 (32 * wfld idx (16 * j) 16))

/-- The segment addresses of the issuing context. -/
def Ctx.strided (c : Ctx) (b : BitVec 5) (xm : Byte) : List Word := strideAddrs (c.regM b.toNat) (c.regM (xmReg xm))
def Ctx.gathered (c : Ctx) (b : BitVec 5) (xm : Byte) : List Word := gatherAddrs (c.regM b.toNat) (c.regM (xmReg xm))

/-- Whether an M register is unset. -/
def Ctx.unsetReg (c : Ctx) (n : Nat) : Bool := !c.wm.getLsbD n

/-! Loads -/

/-- The bytes a spill segment reads (R237). -/
def State.spillBytes (s : State) (r : CtxRef) (p : Word) (size : Nat) : List Byte :=
  s.readBytes .spill (tileOf r) ((s.tile (tileOf r)).spillOff r.slot (ptrOff p)) size

/-- Segment `j` of a load with its place in the value. -/
def numbered (segs : List Word) (size : Nat) : List (Word × Nat) :=
  (List.range segs.length).zip segs |>.map (fun x => (x.2, x.1 * size))

/-- The units a load queues, and the bytes its spill segments give at once (R237, R244). -/
def State.loadParts (s : State) (r : CtxRef) (segs : List Word) (size : Nat) : List UnitAcc × List (Nat × Byte) :=
  (numbered segs size).foldl (fun acc x =>
    if winOf x.1 = 1 then
      (acc.1, acc.2 ++ ((s.spillBytes r x.1 size).zipIdx).map (fun b => (x.2 + b.2, b.1)))
    else (acc.1 ++ accUnits x.1 size x.2 [] (loadIdem s r x.1 size), acc.2)) ([], [])

/-- The first poisoned byte of a range of a tile's spill memory (R397, R423). -/
def spillBadIn (bad : List Nat) (r : TileRef) (off n : Nat) : Option Nat :=
  let k := memKey .spill r off
  (bad.filter (fun u => decide (u < k + n) && decide (k < u + 8))).foldl (fun m u =>
    let j := max u k - k
    match m with
    | none => some j
    | some i => some (min i j)) none
def State.spillBad (s : State) (r : TileRef) (off n : Nat) : Option Nat := spillBadIn s.poison r off n

/-- The first byte in error that the spill segments of an access reach, as a pointer: a poisoned one, or one whose value has reached the
context poisoned (R423). -/
def State.segBad (s : State) (r : CtxRef) (segs : List Word) (size : Nat) : Option Word :=
  let bad := s.poison ++ (s.tainted.filter (fun x => x.2 == r)).map (fun x => x.1)
  if bad.isEmpty then none
  else segs.findSome? (fun p =>
    if winOf p = 1 then
      (spillBadIn bad (tileOf r) ((s.tile (tileOf r)).spillOff r.slot (ptrOff p)) size).map (fun j => p + BitVec.ofNat 64 j)
    else none)

/-- A spill access of the issuing bundle meets a poisoned unit (R397, R423): a class 3 `UE` with the first poisoned byte. -/
def State.spillUe (s : State) (x : Word) (access : Option Nat) : State :=
  s.modCur (fun c => { c with
    late := c.late ++ [⟨.ue, some c.pc.toNat, .m, x, 0, s.here.seqOf .m, access, true, none, false⟩]
    landings := c.landings.map (fun (l : Landing) => if access = some l.id then { l with faulted := true } else l) })

/-- A load at its issue (R257): its landing entry, its spill bytes, and its place in the load queue. A load of spill bytes
alone has its value the cycle after (R237). -/
def State.issueLoad (s : State) (kind : LandKind) (l : BitVec 10) (file : RFile) (reg : BitVec 5) (addr : Word)
    (segs : List Word) (size : Nat) : State :=
  let r := s.me
  let wall := s.here.wall
  let parts := s.loadParts r segs size
  let early := segs.foldl (fun m p => max m (earliestLoad r p (size * segs.length) false)) 0
  let a := s.takeLanding .m kind l file reg addr (size * segs.length) early (parts.1.all (fun u => u.idem))
  let s1 := a.2.modCur (fun c => c.modLanding a.1 (fun x =>
    if parts.1.isEmpty then
      { x with got := parts.2, value := some (kind.value (gotNat parts.2)), arrive := some (wall + 1) }
    else { x with got := parts.2 }))
  match s.segBad r segs size with
  | some x => a.2.spillUe x (some a.1)
  | none =>
  if parts.1.isEmpty then s1
  else s1.enqueue r ⟨a.1, some s.cur.pc.toNat, s.here.seqOf .m, true, false, false, .load parts.1, s.cur.level⟩

/-- The checks of a load. -/
def loadChecks (s : State) (unset : Bool) (segs : List Word) (size align : Nat) : Checks :=
  { Checks.reads unset with own := segFault s s.me s.cur.level segs size align false, timed := true }

/-- A scalar load (R257). -/
def runLoad (size : Nat) (signed : Bool) (g : Guard) (l : BitVec 10) (x : RFile) (d b : BitVec 5) (s : State) : Out :=
  runOp .m g (fun s => loadChecks s (s.cur.unsetReg b.toNat) [dispAddr s.cur b s.issue.xm size] size size)
    (fun s =>
      let p := dispAddr s.cur b s.issue.xm size
      s.issueLoad (.load size signed) l x d p [p] size) s

/-- `LD.B` (R257). -/
def execLdB (g : Guard) (l : BitVec 10) (x : RFile) (d b : BitVec 5) (s : State) : Out := runLoad 1 true g l x d b s

/-- `LD.H` (R257). -/
def execLdH (g : Guard) (l : BitVec 10) (x : RFile) (d b : BitVec 5) (s : State) : Out := runLoad 2 true g l x d b s

/-- `LD.W` (R257). -/
def execLdW (g : Guard) (l : BitVec 10) (x : RFile) (d b : BitVec 5) (s : State) : Out := runLoad 4 true g l x d b s

/-- `LD.D` (R257). -/
def execLdD (g : Guard) (l : BitVec 10) (x : RFile) (d b : BitVec 5) (s : State) : Out := runLoad 8 true g l x d b s

/-- `LD.BU` (R257). -/
def execLdBu (g : Guard) (l : BitVec 10) (x : RFile) (d b : BitVec 5) (s : State) : Out := runLoad 1 false g l x d b s

/-- `LD.HU` (R257). -/
def execLdHu (g : Guard) (l : BitVec 10) (x : RFile) (d b : BitVec 5) (s : State) : Out := runLoad 2 false g l x d b s

/-- `LD.WU` (R257). -/
def execLdWu (g : Guard) (l : BitVec 10) (x : RFile) (d b : BitVec 5) (s : State) : Out := runLoad 4 false g l x d b s

/-- `LDV` (R257): 128 bytes, 32-byte aligned (R235). -/
def execLdv (g : Guard) (l : BitVec 10) (d b : BitVec 5) (s : State) : Out :=
  runOp .m g (fun s => loadChecks s (s.cur.unsetReg b.toNat) [dispAddr s.cur b s.issue.xm 128] 128 32)
    (fun s =>
      let p := dispAddr s.cur b s.issue.xm 128
      s.issueLoad .vector l .v d p [p] 128) s

/-- A load of four segments (R257). -/
def runSegLoad (segs : Ctx → Byte → List Word) (g : Guard) (l : BitVec 10) (d b : BitVec 5) (s : State) : Out :=
  runOp .m g (fun s => loadChecks s (s.cur.unsetReg b.toNat || s.cur.unsetReg (xmReg s.issue.xm)) (segs s.cur s.issue.xm) 32 32)
    (fun s => s.issueLoad .vector l .v d (s.cur.regM b.toNat) (segs s.cur s.issue.xm) 32) s

/-- `LDVS` (R257). -/
def execLdvs (g : Guard) (l : BitVec 10) (d b : BitVec 5) (s : State) : Out :=
  runSegLoad (fun c xm => c.strided b xm) g l d b s

/-- `LDVG` (R257). -/
def execLdvg (g : Guard) (l : BitVec 10) (d b : BitVec 5) (s : State) : Out :=
  runSegLoad (fun c xm => c.gathered b xm) g l d b s

/-! Stores -/

/-- Bytes written to a context's spill share: whole units lose their poison, and a poisoned one written in part keeps it, discards
the write and raises `UE` (R423). -/
def State.storeSpill (s : State) (r : CtxRef) (p : Word) (bs : List Byte) : State :=
  let t := tileOf r
  let off := (s.tile t).spillOff r.slot (ptrOff p)
  if s.poison.isEmpty && s.tainted.isEmpty then s.writeBytes .spill t off bs
  else
    let k := memKey .spill t off
    let bad := s.poison.filter (fun u => decide (u < k + bs.length) && decide (k < u + 8))
    let part := bad.filter (fun u => !(decide (k ≤ u) && decide (u + 8 ≤ k + bs.length)))
    let s1 := bs.zipIdx.foldl (fun s b =>
      if part.any (fun u => decide (u ≤ k + b.2) && decide (k + b.2 < u + 8)) then s
      else s.writeBytes .spill t (off + b.2) [b.1]) s
    let s2 := { s1 with
      poison := s1.poison.filter (fun u => part.contains u || !bad.contains u)
      tainted := untaint s1.tainted k bs.length }
    match part with
    | [] => s2
    | u :: _ => s2.spillUe (p + BitVec.ofNat 64 (max u k - k)) none

/-- A store at its issue (R258): spill segments are written at once (R237), the others enter the store queue. -/
def State.issueStore (s : State) (segs : List Word) (size : Nat) (data : List Byte) : State :=
  let r := s.me
  let xs := numbered segs size
  let s1 := xs.foldl (fun s x =>
    if winOf x.1 = 1 then
      s.storeSpill r x.1 ((data.drop x.2).take size)
    else s) s
  let us := xs.foldl (fun acc x =>
    if winOf x.1 = 1 then acc else acc ++ accUnits x.1 size x.2 ((data.drop x.2).take size) false) []
  if us.isEmpty then s1 else s1.queueOp .m false true (.store us size)

/-- The checks of a store. -/
def storeChecks (s : State) (unset : Bool) (segs : List Word) (size align : Nat) : Checks :=
  (Checks.reads unset).withOwn (segFault s s.me s.cur.level segs size align true)

/-- A scalar store (R258). -/
def runStore (size : Nat) (g : Guard) (d b : BitVec 5) (s : State) : Out :=
  runOp .m g (fun s => storeChecks s (s.cur.unsetReg b.toNat || s.cur.unsetReg d.toNat)
      [dispAddr s.cur b s.issue.xm size] size size)
    (fun s => s.issueStore [dispAddr s.cur b s.issue.xm size] size (natToBytes size (s.cur.regM d.toNat).toNat)) s

/-- `ST.B` (R258). -/
def execStB (g : Guard) (d b : BitVec 5) (s : State) : Out := runStore 1 g d b s

/-- `ST.H` (R258). -/
def execStH (g : Guard) (d b : BitVec 5) (s : State) : Out := runStore 2 g d b s

/-- `ST.W` (R258). -/
def execStW (g : Guard) (d b : BitVec 5) (s : State) : Out := runStore 4 g d b s

/-- `ST.D` (R258). -/
def execStD (g : Guard) (d b : BitVec 5) (s : State) : Out := runStore 8 g d b s

/-- A store of a vector register in segments (R258). -/
def runVecStore (segs : Ctx → Byte → List Word) (second : Bool) (size : Nat) (g : Guard) (d b : BitVec 5) (s : State) : Out :=
  runOp .m g (fun s => storeChecks s (s.cur.unsetReg b.toNat || (second && s.cur.unsetReg (xmReg s.issue.xm))
        || !s.cur.wv.getLsbD d.toNat) (segs s.cur s.issue.xm) size 32)
    (fun s => s.issueStore (segs s.cur s.issue.xm) size (vecBytes (s.cur.regV d.toNat))) s

/-- `STV` (R258). -/
def execStv (g : Guard) (d b : BitVec 5) (s : State) : Out :=
  runVecStore (fun c xm => [dispAddr c b xm 128]) false 128 g d b s

/-- `STVS` (R258). -/
def execStvs (g : Guard) (d b : BitVec 5) (s : State) : Out := runVecStore (fun c xm => c.strided b xm) true 32 g d b s

/-- `STVX` (R258). -/
def execStvx (g : Guard) (d b : BitVec 5) (s : State) : Out := runVecStore (fun c xm => c.gathered b xm) true 32 g d b s

/-! Spill -/

/-- The dword index of `LDSP` and `STSP` (R259). -/
def spillIndex (xm : Byte) (i : BitVec 10) : Nat := xm.toNat * 1024 + i.toNat

/-- The place of a spill dword: the share, or at supervisor level under a live frame the extension area (R195, R259). -/
def spillPlace (t : Tile) (slot : Nat) (c : Ctx) (d : Nat) : Option (MemSpace × Nat) :=
  if d < t.spillShare / 8 then some (.spill, t.spillOff slot (8 * d))
  else if 0x1000 ≤ d ∧ d ≤ 0x17FF ∧ c.level ≠ 0 ∧ c.tf = true then some (.sram, extBase slot + 8 * (d - 0x1000))
  else none

/-- The check of a spill dword (R259). -/
def spillFault (s : State) (d : Nat) : Option (Cause × Word) :=
  if (spillPlace s.here s.slot s.cur d).isNone then some (.bound, BitVec.ofNat 64 d) else none

/-- `LDSP` (R259). -/
def execLdsp (g : Guard) (d : Dst) (i : BitVec 10) (s : State) : Out :=
  runOp .m g (fun s => (Checks.reads false).withOwn (spillFault s (spillIndex s.issue.xm i)))
    (fun s => match spillPlace s.here s.slot s.cur (spillIndex s.issue.xm i) with
      | some p =>
        if p.1 = .spill ∧ (s.spillBad s.focus p.2 8).isSome = true then
          s.spillUe (BitVec.ofNat 64 (2 ^ 60 + 8 * spillIndex s.issue.xm i)) none
        else s.resultWord .m .m 2 d (s.readWord p.1 s.focus p.2)
      | none => s) s

/-- `STSP` (R259). -/
def execStsp (g : Guard) (a : Src) (i : BitVec 10) (s : State) : Out :=
  runOp .m g (fun s => (Checks.reads (s.cur.unsetM a)).withOwn (spillFault s (spillIndex s.issue.xm i)))
    (fun s => match spillPlace s.here s.slot s.cur (spillIndex s.issue.xm i) with
      | some p =>
        { s.writeWord p.1 s.focus p.2 (s.cur.srcM a) with poison := s.poison.filter (fun u => u != memKey p.1 s.focus p.2) }
      | none => s) s

/-! Atomics and reductions -/

/-- The sub-operation an extension byte names (R100). -/
def atomOp (xm : Byte) : AtomOp :=
  match fld xm.toNat 5 3 with
  | 0 => .add
  | 1 => .min
  | 2 => .max
  | 3 => .and
  | 4 => .or
  | 5 => .xor
  | 6 => .swap
  | _ => .fadd

/-- What a bank writes for an atomic: `size` bytes, the old and the operand value (R260, R243). -/
def atomNew (op : AtomOp) (size old opb : Nat) : Nat :=
  let b := 8 * size
  match op with
  | .add => (old + opb) % 2 ^ b
  | .min => if sfld old 0 b ≤ sfld opb 0 b then old else opb
  | .max => if sfld old 0 b < sfld opb 0 b then opb else old
  | .and => old &&& opb
  | .or => old ||| opb
  | .xor => old ^^^ opb
  | .swap => opb
  | .fadd =>
    let f := if size = 4 then specFp32 else specFp64
    (f.finish rne (FVal.add rne (f.decode old) (f.decode opb))).1
  | .cas e => if old = e.toNat % 2 ^ b then opb else old

/-- The windows an atomic accepts (R260). -/
def atomRefuses (w : Nat) : Bool := w == 1 || w == 4 || w == 5

/-- The check of an atomic's address. -/
def atomFault (s : State) (b : BitVec 5) (size : Nat) : Option (Cause × Word) :=
  memFault s s.me s.cur.level (s.cur.regM b.toNat) size size true atomRefuses

/-- The low bytes of a register as an operand. -/
def lowPart (w : Word) (size : Nat) : Word := BitVec.ofNat 64 (wfld w 0 (8 * size))

/-- The unit of an atomic. -/
def atomUnit (p : Word) (size : Nat) : UnitAcc := ⟨p, size, [], 0, false, none⟩

/-- An atomic that returns a value (R260): it enters both queues as one access (R244). -/
def runAtom (size : Nat) (cas : Bool) (g : Guard) (l : BitVec 10) (x : RFile) (d b : BitVec 5) (s : State) : Out :=
  runOp .m g (fun s =>
      let m := xmReg s.issue.xm
      { Checks.reads (s.cur.unsetReg b.toNat || s.cur.unsetReg m || (cas && s.cur.unsetReg (m + 1))) with
        own := atomFault s b size, timed := true })
    (fun s =>
      let c := s.cur
      let m := xmReg s.issue.xm
      let p := c.regM b.toNat
      let op := if cas then AtomOp.cas (lowPart (c.regM m) size) else atomOp s.issue.xm
      let v := lowPart (c.regM (if cas then m + 1 else m)) size
      let a := s.takeLanding .m (.atom size) l x d p size (earliestLoad s.me p size true) false
      a.2.enqueue s.me ⟨a.1, some c.pc.toNat, s.here.seqOf .m, true, true, false, .atom true op (atomUnit p size) v, c.level⟩) s

/-- `ATOM.W` (R260). -/
def execAtomW (g : Guard) (l : BitVec 10) (x : RFile) (d b : BitVec 5) (s : State) : Out := runAtom 4 false g l x d b s

/-- `ATOM.D` (R260). -/
def execAtomD (g : Guard) (l : BitVec 10) (x : RFile) (d b : BitVec 5) (s : State) : Out := runAtom 8 false g l x d b s

/-- `ATOM.CAS.W` (R260). -/
def execAtomCasW (g : Guard) (l : BitVec 10) (x : RFile) (d b : BitVec 5) (s : State) : Out := runAtom 4 true g l x d b s

/-- `ATOM.CAS.D` (R260). -/
def execAtomCasD (g : Guard) (l : BitVec 10) (x : RFile) (d b : BitVec 5) (s : State) : Out := runAtom 8 true g l x d b s

/-- A reduction (R260): it enters the store queue and returns nothing. -/
def runRed (size : Nat) (g : Guard) (b : BitVec 5) (s : State) : Out :=
  runOp .m g (fun s => (Checks.reads (s.cur.unsetReg b.toNat || s.cur.unsetReg (xmReg s.issue.xm))).withOwn (atomFault s b size))
    (fun s => s.queueOp .m false true
      (.atom false (atomOp s.issue.xm) (atomUnit (s.cur.regM b.toNat) size) (lowPart (s.cur.regM (xmReg s.issue.xm)) size))) s

/-- `RED.W` (R260). -/
def execRedW (g : Guard) (b : BitVec 5) (s : State) : Out := runRed 4 g b s

/-- `RED.D` (R260). -/
def execRedD (g : Guard) (b : BitVec 5) (s : State) : Out := runRed 8 g b s

/-! Orderings -/

/-- `MARK` (R247): it enters both queues. -/
def execMark (g : Guard) (s : State) : Out :=
  runOp .m g (fun _ => Checks.reads false) (fun s => s.queueOp .m true true .mark) s

/-- `FENCE` (R248): it enters both queues. -/
def execFence (g : Guard) (sc : Scope) (s : State) : Out :=
  runOp .m g (fun _ => Checks.reads false) (fun s => s.queueOp .m true true (.fence sc)) s

end Sys2Proof.Machine
end

