-- ==== Sys2Proof/Machine/Net.lean ====
section
/-! DEFINITION. Messages between tiles and nodes: checks (R203, R401), bundles and routes (R399, R404, R407), the flits of a
message (R401, R402), and posting a message (R405). -/

namespace Sys2Proof.Machine

/-! Checks -/

/-- One byte of the CRC-16 of packet headers (R203). -/
def crc16Byte (c : BitVec 16) (b : Byte) : BitVec 16 :=
  (List.range 8).foldl (fun c _ => if c.getLsbD 15 then (c <<< 1) ^^^ 0x1021 else c <<< 1) (c ^^^ (b.setWidth 16 <<< 8))

/-- HCRC of header bytes 0 to 13 (R203). -/
def headerCrc (bs : List Byte) : BitVec 16 := bs.foldl crc16Byte 0xFFFF

/-- One byte of CRC-32C, reflected (R401). -/
def crc32Byte (c : BitVec 32) (b : Byte) : BitVec 32 :=
  (List.range 8).foldl (fun c _ => if c.getLsbD 0 then (c >>> 1) ^^^ 0x82F63B78 else c >>> 1) (c ^^^ b.setWidth 32)

/-- The CRC of flit bytes 0 to 71 (R401). -/
def flitCrc (bs : List Byte) : BitVec 32 := ~~~(bs.foldl crc32Byte 0xFFFFFFFF)

/-! Bundles and routes -/

/-- The neighbour at the end of a bundle (R399). -/
def neighbour (n b : Nat) : Nat :=
  let r := n / 64
  let c := n % 64
  if b < 63 then r * 64 + (if b < c then b else b + 1)
  else
    let i := b - 63
    (if i < r then i else i + 1) * 64 + c

/-- The bundle of a node that joins it to a neighbour of its row or column (R399). -/
def bundleTo (n m : Nat) : Option Nat :=
  let r := n / 64
  let c := n % 64
  if n = m then none
  else if m / 64 = r then some (if m % 64 < c then m % 64 else m % 64 - 1)
  else if m % 64 = c then some (63 + (if m / 64 < r then m / 64 else m / 64 - 1))
  else none

/-- Whether a node is a member of the pasture as another knows it (Table 15.4). -/
def isMember (s : State) (n m : Nat) : Bool :=
  match (s.node n).members with
  | some v => v.getLsbD m
  | none => n == m

/-- The bundle towards a neighbour, or where it is down the one to the lowest-numbered member of the same row or column (R429). -/
def linkTo (s : State) (n m : Nat) : Option Nat :=
  match bundleTo n m with
  | none => none
  | some b =>
    if !(spGet Link.reset (s.node n).links b).down then some b
    else
      let line := (List.range 64).map (fun i => if b < 63 then n / 64 * 64 + i else i * 64 + n % 64)
      (line.find? (fun x => x != n && x != m && isMember s n x)).bind (fun x => bundleTo n x)

/-- The bundle on which traffic from one node to another leaves (R404, R429); none where R407 refuses it. -/
def routeBundle (s : State) (n m : Nat) : Option Nat :=
  if !isMember s n m then none
  else if n / 64 = m / 64 ∨ n % 64 = m % 64 then linkTo s n m
  else
    let v1 := n / 64 * 64 + m % 64
    let v2 := m / 64 * 64 + n % 64
    if isMember s n v1 then linkTo s n v1 else if isMember s n v2 then linkTo s n v2 else none

/-- Whether a node can reach another (R407). -/
def canReach (s : State) (n m : Nat) : Bool := n == m || (routeBundle s n m).isSome

/-! Flits -/

/-- The class queues of a bundle direction (R405). -/
inductive FlitClass where
  | credit | response | stream | request
  deriving DecidableEq, Repr, Inhabited

/-- The dwords of up to 64 bytes, padded with zeros. -/
def payloadDwords (bs : List Byte) : List Word :=
  (List.range 8).map (fun i => bytesWord ((bs.drop (8 * i)).take 8))

/-- A flit before it is sent: its link fields are still zero (R401). -/
def mkFlit (ty dnode dtile id : Nat) (first last : Bool) (bs : List Byte) : Flit :=
  ⟨BitVec.ofNat 64 (ty % 16 * 2 ^ 60 + dnode % 4096 * 2 ^ 48 + dtile % 256 * 2 ^ 40 + id % 65536 * 2 ^ 24
      + min bs.length 64 * 2 ^ 5 + (if first then 16 else 0) + (if last then 8 else 0)),
    payloadDwords bs, 0⟩

/-- Continuation flits of 64 bytes each (R402): at most `fuel` of them. -/
def restFlits (ty dnode dtile id : Nat) : Nat → List Byte → List Flit
  | 0, _ => []
  | fuel + 1, bs =>
    if bs.isEmpty then []
    else mkFlit ty dnode dtile id false (decide (bs.length ≤ 64)) (bs.take 64)
      :: restFlits ty dnode dtile id fuel (bs.drop 64)

/-- The flits of a message: its head of up to 64 bytes and its further data (R402). -/
def messageFlits (ty dnode dtile id : Nat) (head rest : List Byte) : List Flit :=
  mkFlit ty dnode dtile id true rest.isEmpty head :: restFlits ty dnode dtile id (rest.length + 1) rest

/-- The dword of a remote request's operation fields (Table 15.2a). -/
def reqDword (op : Nat) (r : RemoteReq) : Word :=
  BitVec.ofNat 64 (op * 2 ^ 56 + r.size % 256 * 2 ^ 48 + r.srcNode % 4096 * 2 ^ 36 + r.srcTile % 256 * 2 ^ 28
    + r.sub.toNat * 2 ^ 25 + r.pmask.toNat * 2 ^ 8)

/-- The bytes of words. -/
def wordsBytes (ws : List Word) : List Byte := ws.flatMap wordBytes

/-- The flits of a remote request. -/
def reqFlits (op : Nat) (r : RemoteReq) : FlitClass × Nat × List Flit :=
  let head := wordsBytes [BitVec.ofNat 64 (r.tile % 256 * 2 ^ 32 + r.offset % 2 ^ 24), reqDword op r] ++ r.data.take 48
  (.request, r.home, messageFlits 3 r.home r.tile r.id head (r.data.drop 48))

/-- The flits of a crook message (Table 15.2c). -/
def crookFlits (kind : Nat) (m : CrookMsg) : FlitClass × Nat × List Flit :=
  let mode := if kind ≤ 2 ∨ kind = 8 then (match m.mode with
    | .is => 0
    | .ix => 1
    | .s => 2
    | .six => 3
    | .inc => 4
    | .x => 5) else 0
  let d0 := BitVec.ofNat 64 (kind * 2 ^ 60 + mode * 2 ^ 57 + m.ctx.node % 4096 * 2 ^ 45 + m.ctx.tile % 256 * 2 ^ 37
    + m.ctx.slot % 8 * 2 ^ 34)
  (if kind < 8 then .request else .response, m.dest,
    messageFlits 5 m.dest 0 0 (wordsBytes [d0, m.name, BitVec.ofNat 64 (m.tick % 2 ^ 56), m.result]) [])

/-- The flits of a fold message (Table 15.2d). -/
def foldFlits (kind : Nat) (m : FoldMsg) : FlitClass × Nat × List Flit :=
  let d0 := BitVec.ofNat 64 (kind * 2 ^ 60 + m.src % 4096 * 2 ^ 48 + m.rpd % 2 ^ 18)
  (if kind ≤ 2 then .request else .response, m.dest,
    messageFlits 6 m.dest 0 0 (wordsBytes [d0, BitVec.ofNat 64 (m.lpd % 2 ^ 18)]) m.data)

/-- The flits of a management message to a tile of a node (Table 15.2e). -/
def mgmtFlits (kind n tile : Nat) (ws : List Word) (rest : List Byte) : FlitClass × Nat × List Flit :=
  (.credit, n, messageFlits 7 n tile 0 (wordsBytes (BitVec.ofNat 64 (kind * 2 ^ 56) :: ws)) rest)

/-- The class, the destination node and the flits of a message that goes to another node (R402). -/
def eventFlits : Event → Option (FlitClass × Nat × List Flit)
  | .creditArrival t st k =>
    some (.credit, t.node, messageFlits 2 t.node t.tile 0
      (wordBytes (BitVec.ofNat 64 (t.node % 4096 * 2 ^ 52 + t.tile % 256 * 2 ^ 44 + st.toNat * 2 ^ 39 + k % 128 * 2 ^ 32))) [])
  | .remoteLoad r => some (reqFlits 1 r)
  | .remoteStore r => some (reqFlits 2 r)
  | .remoteAtom r => some (reqFlits 3 r)
  | .remoteAtomCas r => some (reqFlits 4 r)
  | .remoteRed r => some (reqFlits 5 r)
  | .remoteResponse r =>
    some (.response, r.node, messageFlits 4 r.node r.tile r.id
      (wordBytes (BitVec.ofNat 64 (r.status.toNat * 2 ^ 56 + r.data.length % 256 * 2 ^ 48 + r.pmask.toNat * 2 ^ 32))
        ++ r.data.take 56) (r.data.drop 56))
  | .crookAcquireMsg m => some (crookFlits 0 m)
  | .crookTryMsg m => some (crookFlits 1 m)
  | .crookUpgradeMsg m => some (crookFlits 2 m)
  | .crookReleaseMsg m => some (crookFlits 3 m)
  | .crookWithdrawMsg m => some (crookFlits 4 m)
  | .crookQueryMsg m => some (crookFlits 5 m)
  | .crookStatusMsg m => some (crookFlits 8 m)
  | .crookWoundMsg m => some (crookFlits 9 m)
  | .crookQueryResultMsg m => some (crookFlits 10 m)
  | .foldReleaseMsg m => some (foldFlits 0 m)
  | .foldFetchMsg m => some (foldFlits 1 m)
  | .foldOfferMsg m => some (foldFlits 2 m)
  | .foldAcceptMsg m => some (foldFlits 3 m)
  | .foldRefuseMsg m => some (foldFlits 4 m)
  | .foldPageDataMsg m => some (foldFlits 5 m)
  | .foldMoveCompleteMsg m => some (foldFlits 6 m)
  | .tickExchangeMsg n k => some (mgmtFlits 1 n 0 [k.setWidth 64] [])
  | .holdMsg n _ w => some (mgmtFlits 2 n 0 [w] [])
  | .holdAnswerMsg n _ w v => some (mgmtFlits 3 n 0 [w, v] [])
  | .holdEndMsg n _ w v => some (mgmtFlits 4 n (wfld v 8 8) [w, v &&& 0x7F] [])
  | .musterSegmentMsg n k bs => some (mgmtFlits 5 n 0 [BitVec.ofNat 64 k, BitVec.ofNat 64 bs.length] bs)
  | .membershipUpdateMsg n k w => some (mgmtFlits 6 n 0 [k.setWidth 64, w] [])
  | .movePointMsg n w => some (mgmtFlits 7 n 0 [w] [])
  | _ => none

/-! Decoding a message -/

/-- A dword of a payload. -/
def payWord (bs : List Byte) (i : Nat) : Word := bytesWord ((bs.drop (8 * i)).take 8)

/-- The lock mode of a code (R97). -/
def modeOfCode (n : Nat) : LockMode :=
  match n with
  | 0 => .is
  | 1 => .ix
  | 2 => .s
  | 3 => .six
  | 4 => .inc
  | _ => .x

/-- The source of a hold that came over a link, which names none (Table 15.2e, log entry 13). -/
def unnamedNode : Nat := 4096

/-- The messages a whole message's flits stand for at the node they reach (R402): head bytes, further bytes and ID. -/
def decodeMessage (n ty dtile id : Nat) (head rest : List Byte) : List Event :=
  let w := payWord head
  match ty with
  | 2 => [.creditFlit n ((List.range (head.length / 8)).map w)]
  | 3 =>
    let size := wfld (w 1) 48 8
    let r : RemoteReq := ⟨n, dtile, wfld (w 0) 0 24, size, wfld (w 1) 36 12, wfld (w 1) 28 8, BitVec.ofNat 3 (wfld (w 1) 25 3),
      BitVec.ofNat 16 (wfld (w 1) 8 16), head.drop 16 ++ rest, id⟩
    [match wfld (w 1) 56 8 with
     | 1 => .remoteLoad r
     | 2 => .remoteStore r
     | 3 => .remoteAtom r
     | 4 => .remoteAtomCas r
     | 5 => .remoteRed r
     | _ => .remoteUnknownOperation r]
  | 4 => [.remoteResponse ⟨n, dtile, BitVec.ofNat 8 (wfld (w 0) 56 8), BitVec.ofNat 16 (wfld (w 0) 32 16), head.drop 8 ++ rest, id⟩]
  | 5 =>
    let m : CrookMsg := ⟨n, modeOfCode (wfld (w 0) 57 3), ⟨wfld (w 0) 45 12, wfld (w 0) 37 8, wfld (w 0) 34 3⟩, w 1,
      wfld (w 2) 0 56, w 3, id⟩
    match wfld (w 0) 60 4 with
    | 0 => [.crookAcquireMsg m]
    | 1 => [.crookTryMsg m]
    | 2 => [.crookUpgradeMsg m]
    | 3 => [.crookReleaseMsg m]
    | 4 => [.crookWithdrawMsg m]
    | 5 => [.crookQueryMsg m]
    | 8 => [.crookStatusMsg m]
    | 9 => [.crookWoundMsg m]
    | 10 => [.crookQueryResultMsg m]
    | _ => []
  | 6 =>
    let m : FoldMsg := ⟨n, wfld (w 0) 48 12, wfld (w 0) 0 18, wfld (w 1) 0 18, rest⟩
    match wfld (w 0) 60 4 with
    | 0 => [.foldReleaseMsg m]
    | 1 => [.foldFetchMsg m]
    | 2 => [.foldOfferMsg m]
    | 3 => [.foldAcceptMsg m]
    | 4 => [.foldRefuseMsg m]
    | 5 => [.foldPageDataMsg m]
    | 6 => [.foldMoveCompleteMsg m]
    | _ => []
  | 7 =>
    match wfld (w 0) 56 8 with
    | 1 => [.tickExchangeMsg n ((w 1).setWidth 56)]
    | 2 => [.holdMsg n unnamedNode (w 1)]
    | 3 => [.holdAnswerMsg n unnamedNode (w 1) (w 2)]
    | 4 => [.holdEndMsg n unnamedNode (w 1) (BitVec.ofNat 64 (dtile * 256 + wfld (w 2) 0 7))]
    | 5 => [.musterSegmentMsg n (w 1).toNat (rest.take (w 2).toNat)]
    | 6 => [.membershipUpdateMsg n ((w 1).setWidth 6) (w 2)]
    | 7 => [.movePointMsg n (w 1)]
    | _ => []
  | _ => []

/-! Posting -/

/-- The link of a node's bundle. -/
def Node.link (n : Node) (b : Nat) : Link := spGet Link.reset n.links b
def Node.setLink (n : Node) (b : Nat) (l : Link) : Node := { n with links := spPut n.links b l }
def State.modLink (s : State) (n b : Nat) (f : Link → Link) : State := s.modNode n (fun x => x.setLink b (f (x.link b)))

/-- Flits appended to a class queue (R405). -/
def Link.push (l : Link) (c : FlitClass) (fs : List Flit) : Link :=
  match c with
  | .credit => { l with credit := l.credit ++ fs }
  | .response => { l with response := l.response ++ fs }
  | .stream => { l with stream := l.stream ++ fs }
  | .request => { l with request := l.request ++ fs }

/-- What tells the messages of one bundle apart while they are in parts: TYPE, DNODE, DTILE and ID (R402). -/
def flitPart (f : Flit) : Nat := wfld f.ctl 24 40

/-- Flits of messages that are not whole, kept with their bundle; `p` is the part's key. -/
def Node.part (n : Node) (b p : Nat) : List Flit := ((n.partials.find? (fun e => e.1 == b && e.2.1 == p)).map (fun e => e.2.2)).getD []
def Node.setPart (n : Node) (b p : Nat) (fs : List Flit) : Node :=
  let rest := n.partials.filter (fun e => !(e.1 == b && e.2.1 == p))
  { n with partials := if fs.isEmpty then rest else (b, p, fs) :: rest }

/-- Beside the bundles of a node: where a relay notes the bundle whose packet of a stream it is passing on, and where the node's own
flits of that stream wait for it. -/
def relayKey : Nat := 126
def ownKey : Nat := 127

/-- The bundle whose packet of a stream a relay is passing on. -/
def Node.relaying (x : Node) (p : Nat) : Option Nat := (x.part relayKey p).head?.map (fun f => f.ctl.toNat)

/-- A node's own stream packet put in a bundle's queue, behind the packet of its stream that the node is relaying (R405; log entry 71). -/
def State.sendStream (s : State) (n b : Nat) (fs : List Flit) : State :=
  let p := (fs.head?.map flitPart).getD 0
  if ((s.node n).relaying p).isSome then s.modNode n (fun x => x.setPart ownKey p (x.part ownKey p ++ fs))
  else s.modLink n b (fun l => l.push .stream fs)

/-- A message of a node sent on its way: within the node directly (R404), to another node as flits. One that no route carries
is not sent (R407). -/
def State.post (s : State) (src : Nat) (e : Event) : State :=
  match eventFlits e with
  | none => s.send e
  | some (c, dest, fs) =>
    if dest = src then s.send e
    else match routeBundle s src dest with
      | some b => s.modLink src b (fun l => l.push c fs)
      | none => s

/-- A credit returned to a sender (R207, R208): a tile's output stream, or an ingress queue of the same node. -/
def State.returnCredit (s : State) (src : Nat) (dst : CtxRef) (k : Nat) : State :=
  if dst.tile < 256 then s.post src (.creditArrival (tileOf dst) (BitVec.ofNat 5 dst.slot) k)
  else s.modNode dst.node (fun n =>
    let q := spGet HostQueue.reset n.queues (dst.tile - 256)
    { n with queues := spPut n.queues (dst.tile - 256) { q with credits := q.credits + k } })

end Sys2Proof.Machine
end

