-- ==== Sys2Proof/Machine/Streams.lean ====
section
/-! DEFINITION. Stream descriptors, buffers and packets of a port (spec/07 R200 to R220), and the M slot's packet and stream
instructions (spec/09 R261 to R268). -/

namespace Sys2Proof.Machine

/-! Descriptors -/

/-- The fields of an input descriptor's dword 0 (Table 7.3). -/
def inValid (d : Word) : Bool := d.getLsbD 63
def inTord (d : Word) : Bool := d.getLsbD 62
def inMode (d : Word) : Nat := wfld d 60 2
def inPair (d : Word) : Nat := wfld d 55 5
def inEntry (d : Word) : BitVec 12 := BitVec.ofNat 12 (wfld d 43 12)
def inPort (d : Word) : Nat := wfld d 42 1
def inNbuf (d : Word) : Nat := wfld d 35 7
def inBsize (d : Word) : Nat := wfld d 22 13
def inSid (d : Word) : Nat := wfld d 6 16

/-- The fields of an output descriptor's dword 0 (Table 7.4). -/
def outNode (d : Word) : Nat := wfld d 52 12
def outTile (d : Word) : Nat := wfld d 44 8
def outSid (d : Word) : Nat := wfld d 28 16
def outCap (d : Word) : Nat := wfld d 21 7
def outBsize (d : Word) : Nat := wfld d 7 13

/-- The fields of a packet header (Table 7.1). -/
def hdrStream (h0 : Word) : Nat := wfld h0 48 16
def hdrTag (h0 : Word) : BitVec 32 := BitVec.ofNat 32 (wfld h0 16 32)
def hdrBatch (h0 : Word) : Nat := wfld h0 0 16
def hdrGen (h1 : Word) : BitVec 4 := BitVec.ofNat 4 (wfld h1 44 4)
def hdrPri (h1 : Word) : BitVec 2 := BitVec.ofNat 2 (wfld h1 30 2)
def hdrEnc (h1 : Word) : Nat := wfld h1 28 2
def hdrElen (h1 : Word) : Nat := wfld h1 14 13
def hdrWlen (h1 : Word) : Nat := wfld h1 0 14

/-- The bytes of one buffer (R201). -/
def bufBytes (bsize : Nat) : Nat := (16 + bsize + 63) / 64 * 64

/-- The streams of a tile. -/
def Tile.inS (t : Tile) (st : Nat) : InStream := (t.ins[st]?).getD ⟨0x3000000000000000, 0, 0, 0, 0, [], 0, none⟩
def Tile.outS (t : Tile) (st : Nat) : OutStream := (t.outs[st]?).getD ⟨0, 0, [], 0, [], false⟩
def Tile.setIn (t : Tile) (st : Nat) (x : InStream) : Tile := { t with ins := t.ins.setIfInBounds st x }
def Tile.setOut (t : Tile) (st : Nat) (x : OutStream) : Tile := { t with outs := t.outs.setIfInBounds st x }
def Tile.modIn (t : Tile) (st : Nat) (f : InStream → InStream) : Tile := t.setIn st (f (t.inS st))
def Tile.modOut (t : Tile) (st : Nat) (f : OutStream → OutStream) : Tile := t.setOut st (f (t.outS st))

/-- A receive buffer. -/
def InStream.buf (x : InStream) (i : Nat) : Buf := x.bufs.getD i default
def InStream.setBuf (x : InStream) (i : Nat) (b : Buf) : InStream := { x with bufs := x.bufs.set i b }
def InStream.modBuf (x : InStream) (i : Nat) (f : Buf → Buf) : InStream := x.setBuf i (f (x.buf i))

/-- Where a buffer's bytes lie in port memory: 16 of header, then the payload. -/
def InStream.place (x : InStream) (i : Nat) : Nat := x.base + i * bufBytes (inBsize x.d0)
def OutStream.place (x : OutStream) (i : Nat) : Nat := x.base + i * bufBytes (outBsize x.d0)

/-- The buffers of a stream in a state. -/
def InStream.count (x : InStream) (p : Buf → Bool) : Nat := (x.bufs.filter p).length

/-- Dword 1 of an input descriptor (Table 7.3, R215). -/
def InStream.dword1 (x : InStream) : Word :=
  let n := fun (q : BufState) => x.count (fun b => b.st == q)
  let old := x.count (fun b => (b.st == .held || b.st == .ready || b.st == .current) && (match b.stamp with
    | some e => e != inEntry x.d0
    | none => false))
  let recv := x.bufs.filter (fun b => b.st == .receiving)
  let part := match recv.foldl (fun (m : Option Buf) b => match m with
      | none => some b
      | some c => if b.order < c.order then some b else some c) none with
    | some b => b.wire
    | none => 0
  BitVec.ofNat 64 (n .free * 2 ^ 57 + n .ready * 2 ^ 50 + n .held * 2 ^ 43 + old * 2 ^ 36 + part % 2 ^ 14 * 2 ^ 22)

/-- Dword 2 of an input descriptor. -/
def InStream.dword2 (x : InStream) : Word :=
  BitVec.ofNat 64 (x.next.toNat * 2 ^ 32 + x.skip.toNat * 2 ^ 16 + x.stale.toNat)

/-- Dword 1 of an output descriptor (Table 7.4). -/
def OutStream.dword1 (x : OutStream) : Word := BitVec.ofNat 64 (x.free % 128 * 2 ^ 57 + x.opened.length % 4 * 2 ^ 55)

/-- A dword of the port window's descriptors, port status and window descriptor table (R206, R238). -/
def Tile.portDword (t : Tile) (off : Nat) : Word :=
  if off < 0x40400 then
    let x := t.inS ((off - 0x40000) / 32)
    match (off - 0x40000) / 8 % 4 with
    | 0 => x.d0
    | 1 => x.dword1
    | 2 => x.dword2
    | _ => 0
  else if off < 0x40800 then
    let x := t.outS ((off - 0x40400) / 32)
    match (off - 0x40400) / 8 % 4 with
    | 0 => x.d0
    | 1 => x.dword1
    | _ => 0
  else if off < 0x40810 then (t.port[(off - 0x40800) / 8]?).getD 0
  else if 0x40C00 ≤ off ∧ off < 0x40E00 then
    ((t.windows[(off - 0x40C00) / 32]?).bind (fun d => d[(off - 0x40C00) / 8 % 4]?)).getD 0
  else 0

/-! Buffers, credits and bindings -/

/-- A buffer of an input stream becomes Free, and its credit goes back to its sender (R207, R211). -/
def State.freeBuffer (s : State) (r : TileRef) (st i : Nat) : State :=
  let b := ((s.tile r).inS st).buf i
  (s.modTile r (fun t => t.modIn st (fun x => x.modBuf i (fun b => { b with st := .free })))).returnCredit r.node b.sender 1

/-- A task's current packet on a stream is done (R211, R263). -/
def State.donePacket (s : State) (r : CtxRef) (st : Nat) : State :=
  match (s.ctx r).cur.find? (fun e => e.1 == st) with
  | none => s
  | some e => (s.freeBuffer (tileOf r) st e.2).modCtx r (fun c => { c with cur := spDel c.cur st })

/-- A task's open packet on a stream is discarded: its credit returns to the tile's own FREE (R219). -/
def State.discardOpen (s : State) (r : CtxRef) (st : Nat) : State :=
  match (s.ctx r).opn.find? (fun e => e.1 == st) with
  | none => s
  | some e =>
    (s.modTile (tileOf r) (fun t => t.modOut st (fun x =>
      { x with free := x.free + 1, opened := x.opened.filter (fun o => o.1 != e.2)
               poison := x.poison.filter (fun o => o.1 != e.2) }))).modCtx r (fun c =>
      { c with opn := spDel c.opn st
               queue := c.queue.filter (fun q => match q.op with
                 | .swr s' b _ _ _ => !(s' == st && b == e.2)
                 | _ => true) })

/-- The packets of a task at its end (R219). -/
def State.endPackets (s : State) (r : CtxRef) : State :=
  let c := s.ctx r
  let s1 := c.cur.foldl (fun s e => s.donePacket r e.1) s
  c.opn.foldl (fun s e => s.discardOpen r e.1) s1

/-- A rebind takes effect on one entry (R213, R268). -/
def InStream.rebind (x : InStream) (v : Word) (wall : Nat) : InStream :=
  { x with d0 := setFld (setFld x.d0 43 12 (wfld v 0 12)) 63 1 (wfld v 12 1), before := some (wall, x.d0) }

/-- A rebind takes effect on a stream and, for a join, on its partner (R268). -/
def Tile.rebind (t : Tile) (st : Nat) (v : Word) : Tile :=
  let d := (t.inS st).d0
  let t1 := t.modIn st (fun x => x.rebind v t.wall)
  if inMode d = 2 then t1.modIn (inPair d) (fun x => x.rebind v t.wall) else t1

/-- The binding in force for a packet wholly received now: the former one in the cycle of a rebind (R213). -/
def InStream.binding (x : InStream) (wall : Nat) : Word :=
  match x.before with
  | some (w, d) => if w = wall then d else x.d0
  | none => x.d0

/-! Reading packets -/

/-- The stream and the byte a packet pointer names (Table 9.3). -/
def pktStream (p : Word) : Nat := wfld p 48 5
def pktOfs (p : Word) : Nat := wfld p 0 13

/-- Whether a packet pointer has its fixed fields (Table 9.3). -/
def pktBad (p : Word) : Bool := wfld p 60 4 != 5 || wfld p 53 7 != 0 || wfld p 13 35 != 0

/-- The buffer of a task's current packet on a stream. -/
def Ctx.curBuf (c : Ctx) (st : Nat) : Option Nat := (c.cur.find? (fun e => e.1 == st)).map (fun e => e.2)

/-- The size of a packet read by destination file. -/
def pktSize (x : RFile) : Nat := if x = .v then 128 else 8

/-- The checks of `SHDR` and `SRD` at issue (R261). -/
def pktFault (c : Ctx) (hdr : Bool) (x : RFile) (p : Word) : Option (Cause × Word) :=
  let o := pktOfs p
  let n := pktSize x
  if pktBad p then some (.window, p)
  else if (c.curBuf (pktStream p)).isNone then some (.bound, p)
  else if hdr then (if o ≠ 0 ∧ (x = .v ∨ o ≠ 8) then some (.bound, p) else none)
  else if o % n ≠ 0 then some (.align, p)
  else if 4096 < o + n then some (.bound, p)
  else none

/-- What a packet read returns (R261). -/
def State.pktRead (s : State) (r : CtxRef) (hdr : Bool) (x : RFile) (p : Word) : VReg :=
  let q := (s.tile (tileOf r)).inS (pktStream p)
  let at' := q.place (((s.ctx r).curBuf (pktStream p)).getD 0)
  let o := pktOfs p
  if hdr then bytesVec (s.readBytes .port (tileOf r) (at' + o) (if x = .v then 16 else 8))
  else
    let elen := hdrElen (s.readWord .port (tileOf r) (at' + 8))
    bytesVec (s.readBytes .port (tileOf r) (at' + 16 + o) (min (pktSize x) (elen - o)))

/-! Poison in port memory (R423): a buffer's units are numbered, those of the payload from 0 and those of the header from 1,024 -/

/-- The place of a buffer's unit in the buffer, and the number of the unit at a place. -/
def unitPlace (u : Nat) : Nat := if u < 1024 then 16 + 8 * u else 8 * (u - 1024)
def unitNumber (o : Nat) : Nat := if o < 16 then 1024 + o / 8 else (o - 16) / 8

/-- Whether the unit of port memory at an offset is poisoned. -/
def Tile.portBad (t : Tile) (o : Nat) : Bool :=
  t.ins.toList.any (fun x => x.bufs.zipIdx.any (fun b => b.1.poison.any (fun u => x.place b.2 + unitPlace u == o / 8 * 8)))
    || t.outs.toList.any (fun x => x.poison.any (fun p => x.place p.1 + unitPlace p.2 == o / 8 * 8))

/-- The poison of the unit of port memory at an offset cleared, as a write of it whole does. -/
def Tile.portHeal (t : Tile) (o : Nat) : Tile :=
  { t with
    ins := t.ins.map (fun x => { x with bufs := x.bufs.zipIdx.map (fun b =>
      { b.1 with poison := b.1.poison.filter (fun u => x.place b.2 + unitPlace u != o / 8 * 8) }) })
    outs := t.outs.map (fun x => { x with poison := x.poison.filter (fun p => x.place p.1 + unitPlace p.2 != o / 8 * 8) }) }

/-- The unit of port memory at an offset poisoned, where it lies in a buffer. -/
def Tile.portSpoil (t : Tile) (o : Nat) : Tile :=
  { t with
    ins := t.ins.map (fun x => { x with bufs := x.bufs.zipIdx.map (fun b =>
      if x.place b.2 ≤ o ∧ o < x.place b.2 + bufBytes (inBsize x.d0) then
        { b.1 with poison := unitNumber (o - x.place b.2) :: b.1.poison.filter (fun u => u != unitNumber (o - x.place b.2)) }
      else b.1) })
    outs := t.outs.map (fun x => (List.range 2).foldl (fun (x : OutStream) i =>
      if x.place i ≤ o ∧ o < x.place i + bufBytes (outBsize x.d0) then
        { x with poison := (i, unitNumber (o - x.place i)) :: x.poison.filter (fun p => p != (i, unitNumber (o - x.place i))) }
      else x) x) }

/-- The place in port memory of a byte of a task's current packet. -/
def State.pktPlace (s : State) (r : CtxRef) (hdr : Bool) (p : Word) : Nat :=
  ((s.tile (tileOf r)).inS (pktStream p)).place (((s.ctx r).curBuf (pktStream p)).getD 0) + (if hdr then 0 else 16) + pktOfs p

/-- Whether a unit's value has reached a context poisoned, though the unit is whole (R423). -/
def State.taints (s : State) (r : CtxRef) (key : Nat) : Bool := s.tainted.contains (key / 8 * 8, r)

/-- The first poisoned unit a packet read meets, as a packet pointer (R423). -/
def State.pktPoison (s : State) (r : CtxRef) (hdr : Bool) (x : RFile) (p : Word) : Option Word :=
  let t := s.tile (tileOf r)
  let o := s.pktPlace r hdr p
  let n := if hdr && x == .v then 16 else pktSize x
  ((List.range (n / 8)).find? (fun i => t.portBad (o + 8 * i) || s.taints r (memKey .port (tileOf r) (o + 8 * i)))).map (fun i =>
    setFld p 0 13 (pktOfs p / 8 * 8 + 8 * i))

/-- A class 3 fault of an access is detected: its response is on its way, and its landing counts as faulted (R182, Table 6.2). -/
def State.detect (s : State) (r : CtxRef) (f : LateFault) : State :=
  s.modCtx r (fun c =>
    let c1 := { c with late := c.late ++ [f] }
    match f.access with
    | some id => c1.modLanding id (fun l => { l with faulted := true })
    | none => c1)

/-- A packet read at its issue (R261): its landing holds the value until it arrives. -/
def State.issuePkt (s : State) (hdr : Bool) (l : BitVec 10) (x : RFile) (d b : BitVec 5) : State :=
  let p := s.cur.regM b.toNat
  let v := s.pktRead s.me hdr x p
  let bad := s.pktPoison s.me hdr x p
  let a := s.takeLanding .m (if hdr then .header else .payload) l x d p (pktSize x) 4 true
  match bad with
  | none => a.2.modCur (fun c => c.modLanding a.1 (fun e => { e with value := some v }))
  | some w => a.2.detect s.me ⟨.ue, some s.cur.pc.toNat, .m, w, 0, s.here.seqOf .m, some a.1, false, none, false⟩

/-- A packet read (R261). -/
def runPkt (hdr : Bool) (g : Guard) (l : BitVec 10) (x : RFile) (d b : BitVec 5) (s : State) : Out :=
  runOp .m g (fun s =>
      { Checks.reads (s.cur.unsetReg b.toNat) with own := pktFault s.cur hdr x (s.cur.regM b.toNat), timed := true })
    (fun s => s.issuePkt hdr l x d b) s

/-- `SHDR` (R261). -/
def execShdr (g : Guard) (l : BitVec 10) (x : RFile) (d b : BitVec 5) (s : State) : Out := runPkt true g l x d b s

/-- `SRD` (R261). -/
def execSrd (g : Guard) (l : BitVec 10) (x : RFile) (d b : BitVec 5) (s : State) : Out := runPkt false g l x d b s

/-! Stream instructions -/

/-- The `BOUND` of a stream of the wrong kind (R262). -/
def streamBound (st : BitVec 5) : Option (Cause × Word) := some (.bound, st.setWidth 64)
def inputFault (t : Tile) (st : BitVec 5) (waits : Bool) : Option (Cause × Word) :=
  let m := inMode (t.inS st.toNat).d0
  if m = 3 ∨ (waits = true ∧ m = 2) then streamBound st else none
def outputFault (t : Tile) (st : BitVec 5) : Option (Cause × Word) :=
  if outCap (t.outS st.toNat).d0 = 0 then streamBound st else none

/-- The staging buffer of a task's open packet on a stream. -/
def Ctx.openBuf (c : Ctx) (st : Nat) : Option Nat := (c.opn.find? (fun e => e.1 == st)).map (fun e => e.2)

/-- `SWAIT` (R263): the current packet is done, and the block ends in the wait. -/
def execSwait (g : Guard) (st : BitVec 5) (s : State) : Out :=
  runOp .m g (fun s => (Checks.reads false).withOwn (inputFault s.here st true))
    (fun s =>
      let s1 := s.donePacket s.me st.toNat
      { s1 with issue := { s1.issue with endBlock := some (.stream st.toNat) } }) s

/-- `SDONE` (R263). -/
def execSdone (g : Guard) (st : BitVec 5) (s : State) : Out :=
  runOp .m g (fun s => (Checks.reads false).withOwn (inputFault s.here st false))
    (fun s => s.donePacket s.me st.toNat) s

/-- The check of `SOPEN` (R262, R264). -/
def sopenFault (s : State) (st : BitVec 5) : Option (Cause × Word) :=
  (outputFault s.here st).or (if (s.cur.openBuf st.toNat).isSome then streamBound st else none)

/-- Whether `SOPEN` finds no credit or no staging buffer (R222), or its stream held (R430). -/
def OutStream.blocked (x : OutStream) : Bool := x.free == 0 || decide (2 ≤ x.opened.length) || x.hold

/-- A packet is opened (R264). -/
def State.openPacket (s : State) (st : Nat) : State :=
  let c := s.cur
  let x := s.here.outS st
  let i := if x.opened.any (fun o => o.1 == 0) then 1 else 0
  let h0 := BitVec.ofNat 64 (outSid x.d0 * 2 ^ 48 + wfld c.hdr0 0 48)
  let h1 := c.hdr1 &&& 0x0000FFFFC8000000
  let s1 := s.modHere (fun t => t.modOut st (fun x => { x with free := x.free - 1, opened := x.opened ++ [(i, false)] }))
  let s2 := s1.modCur (fun c => { c with opn := spPut c.opn st i })
  ((s2.zeroBytes .port s.focus (x.place i + 16) (outBsize x.d0)).writeWord .port s.focus (x.place i) h0).writeWord
    .port s.focus (x.place i + 8) h1

/-- The bundle of a blocked `SOPEN` does not issue; its block ends before it (R222). -/
def State.awaitCredit (s : State) (st : Nat) : State :=
  { s with issue := { s.issue with stay := true, endBlock := some (.output st) } }

/-- `SOPEN` (R222, R264). -/
def execSopen (g : Guard) (st : BitVec 5) (s : State) : Out :=
  let checks := fun s => (Checks.reads false).withOwn (sopenFault s st)
  match s.issue.mode with
  | .probe =>
    if (opFailure .m g checks s).isNone && s.cur.guard g && (s.here.outS st.toNat).blocked then
      .next (s.awaitCredit st.toNat)
    else runOp .m g checks id s
  | _ => runOp .m g checks (fun s =>
      if (s.here.outS st.toNat).blocked then s.awaitCredit st.toNat else s.openPacket st.toNat) s

/-- `STAG` (R265). -/
def execStag (g : Guard) (st : BitVec 5) (a b : Src) (s : State) : Out :=
  runOp .m g (fun s =>
      (Checks.reads (s.cur.unsetM a || s.cur.unsetM b)).withOwn ((outputFault s.here st).or
        (if (s.cur.openBuf st.toNat).isNone ∨ hdrEnc (s.cur.srcM b) = 3 then streamBound st else none)))
    (fun s => match s.cur.openBuf st.toNat with
      | none => s
      | some i =>
        let o := (s.here.outS st.toNat).place i
        let h0 := mergeBits 0x0000FFFFFFFFFFFF (s.readWord .port s.focus o) (s.cur.srcM a)
        let h1 := mergeBits 0x0000FFFFF8000000 (s.readWord .port s.focus (o + 8)) (s.cur.srcM b)
        (s.writeWord .port s.focus o h0).writeWord .port s.focus (o + 8) h1) s

/-- The checks of `SWR` (R266): `BOUND` first, then its source as an access of its length in window 0x0. -/
def swrFault (s : State) (st : BitVec 5) (a b : Word) : Option (Cause × Word) :=
  let len := wfld b 0 13
  let off := wfld b 16 13
  if (s.cur.openBuf st.toNat).isNone ∨ len = 0 ∨ outBsize (s.here.outS st.toNat).d0 < off + len then some (.bound, b)
  else accessFault s s.me s.cur.level a len 1 false (fun w => w != 0)

/-- `SWR` (R266): it enters the store queue. -/
def execSwr (g : Guard) (st : BitVec 5) (a b : Src) (s : State) : Out :=
  runOp .m g (fun s => (Checks.reads (s.cur.unsetM a || s.cur.unsetM b)).withOwn
      ((outputFault s.here st).or (swrFault s st (s.cur.srcM a) (s.cur.srcM b))))
    (fun s => match s.cur.openBuf st.toNat with
      | none => s
      | some i =>
        let b := s.cur.srcM b
        s.queueOp .m false true (.swr st.toNat i (s.cur.srcM a) (wfld b 16 13) (wfld b 0 13))) s

/-- The checks of `SCLOSE` (R267). -/
def scloseFault (s : State) (st : BitVec 5) (a : Word) : Option (Cause × Word) :=
  match s.cur.openBuf st.toNat with
  | none => streamBound st
  | some i =>
    let x := s.here.outS st.toNat
    let enc := hdrEnc (s.readWord .port s.focus (x.place i + 8))
    let elen := wfld a 0 13
    if outBsize x.d0 < elen ∨ ((enc = 1 ∨ enc = 2) ∧ elen % 4 ≠ 0) then some (.bound, a) else none

/-- `SCLOSE` (R267): the packet is closed and enters the store queue. Closed packets stand in the order of their closing (R210). -/
def execSclose (g : Guard) (st : BitVec 5) (a : Src) (s : State) : Out :=
  runOp .m g (fun s => (Checks.reads (s.cur.unsetM a)).withOwn
      ((outputFault s.here st).or (scloseFault s st (s.cur.srcM a))))
    (fun s => match s.cur.openBuf st.toNat with
      | none => s
      | some i =>
        let o := (s.here.outS st.toNat).place i
        let h1 := setFld (s.readWord .port s.focus (o + 8)) 14 13 (wfld (s.cur.srcM a) 0 13)
        let s1 := s.writeWord .port s.focus (o + 8) h1
        let s2 := s1.modHere (fun t => t.modOut st.toNat (fun x =>
          { x with opened := x.opened.filter (fun p => p.1 != i) ++ [(i, true)] }))
        (s2.queueOp .m false true (.sclose st.toNat i)).modCur (fun c => { c with opn := spDel c.opn st.toNat })) s

/-- `SFREE` (R267). -/
def execSfree (g : Guard) (st : BitVec 5) (s : State) : Out :=
  runOp .m g (fun s => (Checks.reads false).withOwn (outputFault s.here st))
    (fun s => s.discardOpen s.me st.toNat) s

/-- A write outside the context, to take effect in `lat` core cycles or, once its block has ended, wall cycles (R47, R188). -/
def State.pend (s : State) (sl : Slot) (lat : Nat) (held : Bool) (a : ExtWrite) : State :=
  let c := s.cur
  s.modHere (fun t => { t with pending := t.pending ++
    [⟨s.slot, c.serial, t.seqOf sl, t.core + lat, t.wall + lat, held, a⟩] })

/-- `SBIND` (R268): the rebind point is the next wall cycle. -/
def execSbind (g : Guard) (st : BitVec 5) (a : Src) (s : State) : Out :=
  runOp .m g (fun s =>
      { Checks.reads (s.cur.unsetM a) with
        priv := if s.cur.level = 0 then some 0 else none
        own := inputFault s.here st false })
    (fun s => s.pend .m 1 false (.bind st.toNat (s.cur.srcM a))) s

end Sys2Proof.Machine
end

