-- ==== Sys2Proof/Machine/Barriers.lean ====
section
/-! DEFINITION. Byte barriers and group barriers: their counts (R281), and the E slot's barrier instructions (R282, R231,
R232). -/

namespace Sys2Proof.Machine

/-- A barrier of a tile. -/
def Tile.barrier (t : Tile) (b : Nat) : Barrier := (t.barriers[b]?).getD ⟨0, false, 0⟩
def Tile.setBarrier (t : Tile) (b : Nat) (x : Barrier) : Tile := { t with barriers := t.barriers.setIfInBounds b x }

/-- A barrier's count reduced, never below zero (R281). -/
def Barrier.dec (x : Barrier) (n : Nat) : Barrier :=
  if n ≤ x.count.toNat then { x with count := x.count - BitVec.ofNat 32 n } else { x with count := 0, ovf := true }

/-- A barrier's count raised, never above 2³² − 1 (Table 9.15). -/
def Barrier.add (x : Barrier) (v : BitVec 32) : Barrier :=
  if x.count.toNat + v.toNat < 2 ^ 32 then { x with count := x.count + v } else { x with count := 0xFFFFFFFF, ovf := true }

/-- A barrier started (Table 9.15). -/
def Barrier.init (x : Barrier) (v : BitVec 32) : Barrier := { x with count := v, ovf := false }

/-- The writes of a tile's barriers that are due, `BINIT` before `BADD` (R282). -/
def Tile.settleBarriers (t : Tile) : Tile :=
  let due := fun (p : Pending) => !p.held && (if t.running = some p.slot then decide (p.core ≤ t.core) else decide (p.wall ≤ t.wall))
  let t1 := t.pending.foldl (fun t p => match p.act with
    | .binit b v => if due p then t.setBarrier b ((t.barrier b).init v) else t
    | _ => t) t
  let t2 := t.pending.foldl (fun t p => match p.act with
    | .badd b v => if due p then t.setBarrier b ((t.barrier b).add v) else t
    | .bcfg b v => if due p then t.setBarrier b { t.barrier b with cfg := v &&& 0x8000FFFFFFFFFFFF } else t
    | _ => t) t1
  { t2 with pending := t.pending.filter (fun p => match p.act with
      | .binit _ _ => !due p
      | .badd _ _ => !due p
      | .bcfg _ _ => !due p
      | _ => true) }

/-- Bytes or operations counted on a barrier (R281, R306), after the writes of their cycle. -/
def Tile.countOn (t : Tile) (b n : Nat) : Tile :=
  let t1 := t.settleBarriers
  if n = 0 then t1 else t1.setBarrier b ((t1.barrier b).dec n)

/-- Bytes that a write from another tile puts at a range of offsets, counted on each watching barrier (R281). -/
def Tile.watchWrite (t : Tile) (first n : Nat) : Tile :=
  (List.range 32).foldl (fun t b =>
    let c := (t.barrier b).cfg
    let lo := max first (wfld c 0 24)
    let hi := min (first + n) (wfld c 24 24 + 1)
    if c.getLsbD 63 && decide (lo < hi) then t.countOn b (hi - lo) else t) t

/-- A context has touched a barrier (Table 14.4 BUSE). -/
def State.usesBarrier (s : State) (r : CtxRef) (b : Nat) : State :=
  s.modCtx r (fun c => { c with buse := c.buse ||| (1#32 <<< b) })

/-- A source of 32 bits. -/
def Ctx.srcE32 (c : Ctx) (a : Src) : BitVec 32 := (c.srcE a).setWidth 32

/-- `BINIT` (R282). -/
def execBinit (g : Guard) (a : Src) (k : BitVec 5) (s : State) : Out :=
  runOp .e g (fun s => Checks.reads (s.cur.unsetE a))
    (fun s => (s.pend .e 1 false (.binit k.toNat (s.cur.srcE32 a))).usesBarrier s.me k.toNat) s

/-- `BADD` (R282). -/
def execBadd (g : Guard) (a : Src) (k : BitVec 5) (s : State) : Out :=
  runOp .e g (fun s => Checks.reads (s.cur.unsetE a))
    (fun s => (s.pend .e 1 false (.badd k.toNat (s.cur.srcE32 a))).usesBarrier s.me k.toNat) s

/-- `BARR` (R282): it enters the store queue. -/
def execBarr (g : Guard) (a : Src) (k : BitVec 5) (s : State) : Out :=
  runOp .e g (fun s => Checks.reads (s.cur.unsetE a))
    (fun s => (s.queueOp .e false true (.barr k.toNat (s.cur.srcE32 a).toNat)).usesBarrier s.me k.toNat) s

/-- `BWAIT` (R282): the block ends. -/
def execBwait (g : Guard) (k : BitVec 5) (s : State) : Out :=
  runOp .e g (fun _ => Checks.reads false)
    (fun s =>
      let s1 := s.usesBarrier s.me k.toNat
      { s1 with issue := { s1.issue with endBlock := some (.barrier k.toNat) } }) s

/-! Group barriers -/

/-- The tiles of a group: the aligned 2^w × 2^h rectangle of the stage that holds a tile (R231). -/
def Tile.groupTiles (t : Tile) (tile code : Nat) : List Nat :=
  let w := 2 ^ (code % 8)
  let h := 2 ^ (code / 8 % 8)
  let ox := t.origin % 16
  let oy := t.origin / 16
  let x0 := ox + (tile % 16 - ox) / w * w
  let y0 := oy + (tile / 16 - oy) / h * h
  (List.range h).flatMap (fun j => (List.range w).map (fun i => (y0 + j) * 16 + (x0 + i)))

/-- The arrivals a tile has made in a group, in order: slot and gate. -/
def Tile.arrivals (t : Tile) (code : Nat) : List (Nat × Nat) :=
  match t.groups.find? (fun e => e.code == code) with
  | some e => e.arrivals
  | none => []

/-- One more arrival of a tile in a group. -/
def Tile.arrive (t : Tile) (code slot gate : Nat) : Tile :=
  { t with groups := ⟨code, t.arrivals code ++ [(slot, gate)]⟩ :: t.groups.filter (fun e => e.code != code) }

/-- Whether a tile has arrived in an episode, with the accesses its arrival releases performed (R232, R250). -/
def State.arrivedIn (s : State) (r : TileRef) (code ep : Nat) : Bool :=
  match ((s.tile r).arrivals code)[ep]? with
  | some a => s.aheadDone ⟨r.node, r.tile, a.1⟩ a.2 .n
  | none => false

/-- Whether an episode of a group has completed: every tile of the group has arrived in it (R232). -/
def State.episodeDone (s : State) (r : TileRef) (code ep : Nat) : Bool :=
  ((s.tile r).groupTiles r.tile code).all (fun k => s.arrivedIn ⟨r.node, k⟩ code ep)

/-- `GBAR` (R231, R232): the tile's arrival in the current episode, and the wait. -/
def execGbar (g : Guard) (h w : BitVec 3) (s : State) : Out :=
  let code := h.toNat * 8 + w.toNat
  runOp .e g (fun s => (Checks.reads false).withOwn
      (if max 1 s.here.width < 2 ^ w.toNat ∨ max 1 s.here.height < 2 ^ h.toNat then some (.bound, BitVec.ofNat 64 code) else none))
    (fun s =>
      let ep := (s.here.arrivals code).length
      let s1 := s.modHere (fun t => t.arrive code s.slot s.ids)
      { s1 with issue := { s1.issue with endBlock := some (.group code ep) } }) s

end Sys2Proof.Machine
end

