-- ==== Sys2Proof/Machine/FoldWalk.lean ====
section
/-! DEFINITION. The fold walker's records and their changes (spec/10 R290 to R302, R311 to R313): records in SRAM (Tables 10.1a
to 10.3), the walk, allocation, copy-on-write, reference counts, and readable limits. -/

namespace Sys2Proof.Machine

/-! The region -/

/-- The fold region of a node; an empty one where there is none. -/
def State.region (s : State) (n : Nat) : FoldRegion := (s.node n).fold.getD ⟨0, 0, 1, 1, 0, 64, 0, 0⟩

/-- The origin tile of the region (R294). -/
def State.foldOrigin (s : State) (n : Nat) : TileRef := ⟨n, (s.region n).y * 16 + (s.region n).x⟩

/-- Positions in a page (R290). -/
def pppOf (f : FoldRegion) : Nat := 32768 / f.vecbytes

/-- The tile and the offset of frame `j` of the pool (R294). -/
def frameOf (f : FoldRegion) (j : Nat) : Nat × Nat :=
  let n := f.w * f.h
  let i := j % n
  ((f.y + i / f.w) * 16 + (f.x + i % f.w), (if i = 0 then 0x1F0000 else 0xAF0000) - 0x8000 * (j / n + 1))

/-- The frame at an offset of a tile, with the offset inside it. -/
def frameAt (f : FoldRegion) (tile off : Nat) : Nat :=
  let i := (tile / 16 - f.y) * f.w + (tile % 16 - f.x)
  let top := if i = 0 then 0x1F0000 else 0xAF0000
  (top - 1 - off) / 0x8000 * (f.w * f.h) + i

/-! Records -/

/-- A dword of the record area, read and written. -/
def State.foldRec (s : State) (n off : Nat) : Word := s.readWord .sram (s.foldOrigin n) off
def State.setFoldRec (s : State) (n off : Nat) (w : Word) : State := s.writeWord .sram (s.foldOrigin n) off w

/-- Whether a unit of SRAM is poisoned (R423). -/
def State.poisoned (s : State) (t : TileRef) (off : Nat) : Bool := s.poison.contains (memKey .sram t (off / 8 * 8))

/-- Whether a unit of a range of a tile's SRAM is poisoned. -/
def State.rangePoisoned (s : State) (t : TileRef) (off n : Nat) : Bool :=
  !s.poison.isEmpty && (List.range (n / 8)).any (fun i => s.poisoned t (off + 8 * i))

/-- The place of the sequence record of a sequence (R293). -/
def seqBucket (seq : Nat) : Nat := 0x1F0000 + 128 * (seq % 8192)
def State.findSeq (s : State) (n seq : Nat) : Option Nat :=
  ((List.range 8).map (fun i => seqBucket seq + 16 * i)).find? (fun o =>
    let w := s.foldRec n o
    w.getLsbD 63 && wfld w 39 22 == seq)
def State.freeSeqPlace (s : State) (n seq : Nat) : Option Nat :=
  ((List.range 8).map (fun i => seqBucket seq + 16 * i)).find? (fun o => !(s.foldRec n o).getLsbD 63)

/-- A sequence record (Table 10.2). -/
def seqRecord (ro tied : Bool) (seq len : Nat) : Word :=
  BitVec.ofNat 64 (2 ^ 63 + (if ro then 2 ^ 62 else 0) + (if tied then 2 ^ 61 else 0) + seq % 2 ^ 22 * 2 ^ 39 + len % 2 ^ 25)
def recLen (w : Word) : Nat := wfld w 0 25
def recRo (w : Word) : Bool := w.getLsbD 62
def recTied (w : Word) : Bool := w.getLsbD 61

/-- The length of a sequence; 0 if absent. -/
def State.seqLen (s : State) (n seq : Nat) : Nat :=
  match s.findSeq n seq with
  | some o => recLen (s.foldRec n o)
  | none => 0

/-- The place of a root entry (R293). -/
def rootBucket (seq layer : Nat) : Nat := 0x2F0000 + 256 * ((seq ^^^ (layer <<< 14)) % 8192)
def State.findRoot (s : State) (n seq layer head : Nat) : Option Nat :=
  ((List.range 8).map (fun i => rootBucket seq layer + 32 * i)).find? (fun o =>
    let w := s.foldRec n o
    w.getLsbD 63 && wfld w 41 22 == seq && wfld w 33 8 == layer && wfld w 25 8 == head)
def State.freeRootPlace (s : State) (n seq layer : Nat) : Option Nat :=
  ((List.range 8).map (fun i => rootBucket seq layer + 32 * i)).find? (fun o => !(s.foldRec n o).getLsbD 63)

/-- Dword 0 of a root entry (Table 10.2). -/
def rootRecord (seq layer head fill : Nat) : Word :=
  BitVec.ofNat 64 (2 ^ 63 + seq % 2 ^ 22 * 2 ^ 41 + layer % 256 * 2 ^ 33 + head % 256 * 2 ^ 25 + fill % 2 ^ 25)

/-- The root entries of a sequence on a node, by place. -/
def State.rootsOf (s : State) (n seq : Nat) : List Nat :=
  ((List.range (max 1 (s.region n).layers)).flatMap (fun l =>
    ((List.range 8).map (fun i => rootBucket seq l + 32 * i)).filter (fun o =>
      let w := s.foldRec n o
      w.getLsbD 63 && wfld w 41 22 == seq && wfld w 33 8 == l)))

/-- The effective fill of a root entry (R302). -/
def State.efw (s : State) (n : Nat) (root : Option Nat) : Nat :=
  match root with
  | none => 0
  | some o =>
    let w := s.foldRec n o
    min (recLen w) (s.seqLen n (wfld w 41 22))

/-! Directory blocks -/

/-- A locator (R295): valid, tile, block. -/
def locValid (l : Nat) : Bool := (l >>> 31) % 2 == 1
def locTile (l : Nat) : Nat := fld l 23 8
def locBlock (l : Nat) : Nat := fld l 11 12
def mkLoc (tile block : Nat) : Nat := 2 ^ 31 + tile % 256 * 2 ^ 23 + block % 4096 * 2 ^ 11

/-- An entry of a directory block. -/
def State.dirEntry (s : State) (n loc i : Nat) : Word := s.readWord .sram ⟨n, locTile loc⟩ (locBlock loc * 4096 + 8 * i)
def State.setDirEntry (s : State) (n loc i : Nat) (w : Word) : State :=
  s.writeWord .sram ⟨n, locTile loc⟩ (locBlock loc * 4096 + 8 * i) w

/-- The reference count of a directory block (Table 10.1a). -/
def countPlace (loc : Nat) : Nat := 0x8F0000 + 2 * (locTile loc * 4096 + locBlock loc)
def State.blockCount (s : State) (n loc : Nat) : Nat := bytesToNat (s.readBytes .sram (s.foldOrigin n) (countPlace loc) 2)
def State.setBlockCount (s : State) (n loc v : Nat) : State :=
  s.writeBytes .sram (s.foldOrigin n) (countPlace loc) (natToBytes 2 v)

/-- The level-1 locator of a root entry for the half of the pages a page lies in (R299). -/
def State.rootLoc (s : State) (n root page : Nat) : Nat :=
  let w := s.foldRec n (root + 8)
  if page / 2 ^ 18 % 2 = 0 then wfld w 0 32 else wfld w 32 32
def State.setRootLoc (s : State) (n root page loc : Nat) : State :=
  let w := s.foldRec n (root + 8)
  s.setFoldRec n (root + 8) (if page / 2 ^ 18 % 2 = 0 then setFld w 0 32 loc else setFld w 32 32 loc)

/-! Page descriptors -/

/-- A page descriptor's dwords and fields (Table 10.3). -/
def pdPlace (d : Nat) : Nat := 0x4F0000 + 16 * d
def State.pd0 (s : State) (n d : Nat) : Word := s.foldRec n (pdPlace d)
def State.pd1 (s : State) (n d : Nat) : Word := s.foldRec n (pdPlace d + 8)
def State.pdState (s : State) (n d : Nat) : Nat := wfld (s.pd0 n d) 61 3
def State.pdRef (s : State) (n d : Nat) : Nat := wfld (s.pd0 n d) 45 16
def State.pdTile (s : State) (n d : Nat) : Nat := wfld (s.pd0 n d) 24 8
def State.pdOff (s : State) (n d : Nat) : Nat := wfld (s.pd0 n d) 0 24
def State.pdNode (s : State) (n d : Nat) : Nat := wfld (s.pd1 n d) 52 12
def State.pdRpd (s : State) (n d : Nat) : Nat := wfld (s.pd1 n d) 34 18
def State.pdClen (s : State) (n d : Nat) : Nat := wfld (s.pd1 n d) 25 9
def State.pdRelp (s : State) (n d : Nat) : Bool := (s.pd0 n d).getLsbD 44
def State.setPd (s : State) (n d : Nat) (w0 w1 : Word) : State := (s.setFoldRec n (pdPlace d) w0).setFoldRec n (pdPlace d + 8) w1
def State.setPdState (s : State) (n d st : Nat) : State := s.setFoldRec n (pdPlace d) (setFld (s.pd0 n d) 61 3 st)
def mkPd0 (st ref tile off : Nat) : Word :=
  BitVec.ofNat 64 (st % 8 * 2 ^ 61 + ref % 65536 * 2 ^ 45 + tile % 256 * 2 ^ 24 + off % 2 ^ 24)
def mkPd1 (node rpd clen : Nat) : Word :=
  BitVec.ofNat 64 (node % 4096 * 2 ^ 52 + rpd % 2 ^ 18 * 2 ^ 34 + clen % 512 * 2 ^ 25)

/-- The page states (Table 10.4). -/
def stInvalid : Nat := 0
def stResident : Nat := 1
def stShared : Nat := 2
def stCompressed : Nat := 3
def stRemote : Nat := 4
def stMoving : Nat := 5

/-- The state a resident page has for a count: shared-COW above 1 (R297). -/
def State.settlePd (s : State) (n d : Nat) : State :=
  let st := s.pdState n d
  if st = stResident ∧ 1 < s.pdRef n d then s.setPdState n d stShared
  else if st = stShared ∧ s.pdRef n d ≤ 1 then s.setPdState n d stResident
  else s

/-- A descriptor's reference count raised (R296, R301). -/
def State.pdInc (s : State) (n d : Nat) : State :=
  (s.setFoldRec n (pdPlace d) (setFld (s.pd0 n d) 45 16 (s.pdRef n d + 1))).settlePd n d

/-! The TLB -/

/-- Fold TLB entries that name a page leave every tile of its node (R297). -/
def State.flushPage (s : State) (n d : Nat) : State :=
  s.modNode n (fun x => { x with tiles := x.tiles.map (fun (k, t) => (k, { t with tlb := t.tlb.filter (fun e => e.pd != d) })) })

/-! Allocation -/

/-- The lowest number below a bound that a list does not hold. -/
def lowestFree (used : List Nat) (bound : Nat) : Option Nat :=
  if used.length < bound then (List.range (used.length + 1)).find? (fun k => decide (k < bound) && !used.contains k)
  else (List.range bound).find? (fun k => !used.contains k)

/-- A frame taken from the pool (R294). -/
def State.takeFrame (s : State) (n : Nat) : Option (Nat × State) :=
  (lowestFree (s.node n).framesUsed (s.region n).frames).map (fun j =>
    (j, s.modNode n (fun x => { x with framesUsed := j :: x.framesUsed })))

/-- A frame returned to the pool. -/
def State.giveFrame (s : State) (n j : Nat) : State :=
  s.modNode n (fun x => { x with framesUsed := x.framesUsed.filter (fun k => k != j)
                                 framesCut := x.framesCut.filter (fun k => k != j) })

/-- A page descriptor taken (R293). -/
def State.takeDesc (s : State) (n : Nat) : Option (Nat × State) :=
  (lowestFree (s.node n).descUsed 262144).map (fun d => (d, s.modNode n (fun x => { x with descUsed := d :: x.descUsed })))

/-- A page descriptor freed. -/
def State.giveDesc (s : State) (n d : Nat) : State :=
  (s.setPd n d 0 0).modNode n (fun x => { x with descUsed := x.descUsed.filter (fun k => k != d)
                                                 runImages := x.runImages.filter (fun k => k != d) })

/-- The directory blocks of a cut frame, by locator. -/
def blocksOf (f : FoldRegion) (j : Nat) : List Nat :=
  (List.range 8).map (fun i => mkLoc (frameOf f j).1 ((frameOf f j).2 / 4096 + i))

/-- A directory block taken: the free block of a cut frame with the lowest tile and block, else one of a frame newly cut
(R294). It is zeroed, with count 1. -/
def State.takeBlock (s : State) (n : Nat) : Option (Nat × State) :=
  let f := s.region n
  let free := ((s.node n).framesCut.flatMap (blocksOf f)).filter (fun l => s.blockCount n l == 0)
  let fresh := fun (s : State) (l : Nat) =>
    (l, (s.zeroBytes .sram ⟨n, locTile l⟩ (locBlock l * 4096) 4096).setBlockCount n l 1)
  match free with
  | l :: ls => some (fresh s (ls.foldl (fun m x => if x < m then x else m) l))
  | [] => (s.takeFrame n).map (fun a =>
      fresh (a.2.modNode n (fun x => { x with framesCut := a.1 :: x.framesCut })) (mkLoc (frameOf f a.1).1 ((frameOf f a.1).2 / 4096)))

/-- A cut frame whose blocks are all free returns to the pool (R294). -/
def State.settleCut (s : State) (n loc : Nat) : State :=
  let f := s.region n
  let j := frameAt f (locTile loc) (locBlock loc * 4096)
  if (s.node n).framesCut.contains j && (blocksOf f j).all (fun l => s.blockCount n l == 0) then s.giveFrame n j else s

/-! Freeing -/

/-- The descriptors whose compressed image lies in a frame. -/
def State.imagesIn (s : State) (n j : Nat) : List Nat :=
  (s.node n).descUsed.filter (fun d => s.pdState n d == stCompressed && frameAt (s.region n) (s.pdTile n d) (s.pdOff n d) == j)

/-- The place of a page freed: its frame, or its image's granules with the frame once none is left in it (R298). -/
def State.givePlace (s : State) (n d : Nat) : State :=
  let j := frameAt (s.region n) (s.pdTile n d) (s.pdOff n d)
  let st := s.pdState n d
  if st = stResident ∨ st = stShared then s.giveFrame n j
  else if st = stCompressed then (if s.imagesIn n j = [d] then s.giveFrame n j else s)
  else s

/-- A page whose count has reached 0 is freed by its state (R298). -/
def State.freePage (s : State) (n d : Nat) : State :=
  let st := s.pdState n d
  if st = stMoving then s.setFoldRec n (pdPlace d) (setFld (s.pd0 n d) 44 1 1)
  else if st = stRemote then (s.post n (.foldReleaseMsg ⟨s.pdNode n d, n, s.pdRpd n d, d, []⟩)).giveDesc n d
  else ((s.flushPage n d).givePlace n d).giveDesc n d

/-- Whether accesses issued before a truncation may still read a page (R308). -/
def State.pdKept (s : State) (n d : Nat) : Bool := (s.node n).retained.any (fun k => k.pd == d)

/-- A reference of a page dropped (R298); a page that a truncation keeps for its readers is freed after them (R308). -/
def State.pdDec (s : State) (n d : Nat) : State :=
  let k := s.pdRef n d - 1
  let s1 := s.setFoldRec n (pdPlace d) (setFld (s.pd0 n d) 45 16 k)
  if k = 0 ∧ s.pdKept n d = false then s1.freePage n d else s1.settlePd n d

/-- A level-2 block loses a reference; at 0 its entries drop theirs (R298). -/
def State.dropL2 (s : State) (n loc : Nat) : State :=
  let k := s.blockCount n loc - 1
  let s1 := s.setBlockCount n loc k
  if k ≠ 0 then s1
  else ((List.range 512).foldl (fun s i =>
    let e := s1.dirEntry n loc i
    if e.getLsbD 63 then s.pdDec n (wfld e 0 18) else s) s1).settleCut n loc

/-- A level-1 block loses a reference; at 0 its entries drop theirs (R298). -/
def State.dropL1 (s : State) (n loc : Nat) : State :=
  let k := s.blockCount n loc - 1
  let s1 := s.setBlockCount n loc k
  if k ≠ 0 then s1
  else ((List.range 512).foldl (fun s i =>
    let l := wfld (s1.dirEntry n loc i) 0 32
    if locValid l then s.dropL2 n l else s) s1).settleCut n loc

/-! The walk -/

/-- What a walk finds (R299): the root entry, the page's descriptor, and whether a record on the way is in error (R293). -/
structure Walk where
  root : Option Nat
  pd : Option Nat
  ue : Bool
  deriving DecidableEq, Repr, Inhabited

/-- Whether a record of the bucket searched for a root entry is in error (R293). -/
def State.rootsBad (s : State) (n seq layer : Nat) : Bool := s.rangePoisoned (s.foldOrigin n) (rootBucket seq layer) 256

/-- The walk of a page (R299). -/
def State.walk (s : State) (n seq layer head page : Nat) : Walk :=
  let o := s.foldOrigin n
  let bad := s.rootsBad n seq layer
  match s.findRoot n seq layer head with
  | none => ⟨none, none, bad⟩
  | some r =>
    let l1 := s.rootLoc n r page
    if !locValid l1 then ⟨some r, none, bad⟩
    else
      let bad1 := bad || s.poisoned ⟨n, locTile l1⟩ (locBlock l1 * 4096 + 8 * (page / 512 % 512))
      let l2 := wfld (s.dirEntry n l1 (page / 512 % 512)) 0 32
      if !locValid l2 then ⟨some r, none, bad1⟩
      else
        let bad2 := bad1 || s.poisoned ⟨n, locTile l2⟩ (locBlock l2 * 4096 + 8 * (page % 512))
        let e := s.dirEntry n l2 (page % 512)
        if !e.getLsbD 63 then ⟨some r, none, bad2⟩
        else
          let d := wfld e 0 18
          ⟨some r, some d, bad2 || s.poisoned o (pdPlace d) || s.poisoned o (pdPlace d + 8)⟩

/-- Whether a record of the bucket searched for a sequence is in error (R293). -/
def State.seqBad (s : State) (n seq : Nat) : Bool := s.rangePoisoned (s.foldOrigin n) (seqBucket seq) 128

/-- Whether the count of a directory block is in error (R293). -/
def State.countBad (s : State) (n loc : Nat) : Bool := s.poisoned (s.foldOrigin n) (countPlace loc)

/-- Whether a directory block, or its count, is in error (R293). -/
def State.blockBad (s : State) (n loc : Nat) : Bool :=
  s.countBad n loc || s.rangePoisoned ⟨n, locTile loc⟩ (locBlock loc * 4096) 4096

/-- Whether some count that a level-1 block names is in error, or some descriptor that a level-2 block names (R293). -/
def State.countsBad (s : State) (n loc : Nat) : Bool :=
  (List.range 512).any (fun i => let l := wfld (s.dirEntry n loc i) 0 32; locValid l && s.countBad n l)
def State.descsBad (s : State) (n loc : Nat) : Bool :=
  (List.range 512).any (fun i =>
    let e := s.dirEntry n loc i
    e.getLsbD 63 && s.rangePoisoned (s.foldOrigin n) (pdPlace (wfld e 0 18)) 16)

/-- Whether the directory blocks of a page's path are its root entry's alone (R301). -/
def State.pathPrivate (s : State) (n root page : Nat) : Bool :=
  let l1 := s.rootLoc n root page
  let l2 := wfld (s.dirEntry n l1 (page / 512 % 512)) 0 32
  locValid l1 && decide (s.blockCount n l1 ≤ 1) && locValid l2 && decide (s.blockCount n l2 ≤ 1)

/-- Whether a record that a change below a page's path reads, beside what the walk reads, is in error (R293): the counts on the path, and of
a shared block, which is copied, every entry and every count that it names (R301). -/
def State.pathBad (s : State) (n root page : Nat) : Bool :=
  let l1 := s.rootLoc n root page
  let l2 := wfld (s.dirEntry n l1 (page / 512 % 512)) 0 32
  let copied := decide (1 < s.blockCount n l1)
  !s.poison.isEmpty && locValid l1 && (s.countBad n l1 || (copied && (s.blockBad n l1 || s.countsBad n l1))
    || (locValid l2 && (s.countBad n l2 || ((copied || decide (1 < s.blockCount n l2)) && (s.blockBad n l2 || s.descsBad n l2)))))

/-- The state a page is found in: invalid where the walk ends early (R299). -/
def State.walkState (s : State) (n : Nat) (w : Walk) : Nat :=
  match w.pd with
  | some d => s.pdState n d
  | none => stInvalid

/-! Copy-on-write -/

/-- A level-1 block of its own for a root entry (R301): made, or copied where it is shared. -/
def State.ownL1 (s : State) (n root page : Nat) : Option (Nat × State) :=
  let l := s.rootLoc n root page
  if !locValid l then (s.takeBlock n).map (fun a => (a.1, a.2.setRootLoc n root page a.1))
  else if s.blockCount n l ≤ 1 then some (l, s)
  else (s.takeBlock n).map (fun a =>
    let bytes := s.readBytes .sram ⟨n, locTile l⟩ (locBlock l * 4096) 4096
    let s1 := a.2.writeBytes .sram ⟨n, locTile a.1⟩ (locBlock a.1 * 4096) bytes
    let s2 := (List.range 512).foldl (fun s2 i =>
      let e := wfld (s.dirEntry n l i) 0 32
      if locValid e then s2.setBlockCount n e (s2.blockCount n e + 1) else s2) s1
    (a.1, (s2.setBlockCount n l (s2.blockCount n l - 1)).setRootLoc n root page a.1))

/-- A level-2 block of its own for a page (R301). -/
def State.ownL2 (s : State) (n root page : Nat) : Option (Nat × State) :=
  match s.ownL1 n root page with
  | none => none
  | some (l1, s1) =>
    let i := page / 512 % 512
    let l := wfld (s1.dirEntry n l1 i) 0 32
    let point := fun (s : State) (x : Nat) => s.setDirEntry n l1 i (BitVec.ofNat 64 x)
    if !locValid l then (s1.takeBlock n).map (fun a => (a.1, point a.2 a.1))
    else if s1.blockCount n l ≤ 1 then some (l, s1)
    else (s1.takeBlock n).map (fun a =>
      let bytes := s1.readBytes .sram ⟨n, locTile l⟩ (locBlock l * 4096) 4096
      let s2 := a.2.writeBytes .sram ⟨n, locTile a.1⟩ (locBlock a.1 * 4096) bytes
      let s3 := (List.range 512).foldl (fun s3 k =>
        let e := s1.dirEntry n l k
        if e.getLsbD 63 then s3.pdInc n (wfld e 0 18) else s3) s2
      (a.1, point (s3.setBlockCount n l (s3.blockCount n l - 1)) a.1))

/-- A level-2 entry naming a descriptor (R295). -/
def dirNames (d : Nat) : Word := BitVec.ofNat 64 (2 ^ 63 + d)

/-- A page of its own for a write to a page that exists (R301): its descriptor, the path and the page copied where shared, or where
accesses issued before a truncation still read it (R308). -/
def State.ownPage (s : State) (n root page : Nat) : Option (Nat × State) :=
  match s.ownL2 n root page with
  | none => none
  | some (l2, s1) =>
    let d := wfld (s1.dirEntry n l2 (page % 512)) 0 18
    if s1.pdRef n d ≤ 1 ∧ s1.pdKept n d = false then some (d, s1)
    else
      match s1.takeFrame n with
      | none => none
      | some (j, s2) =>
        match s2.takeDesc n with
        | none => none
        | some (e, s3) =>
          let p := frameOf (s3.region n) j
          let s4 := (s3.moveBytes (memKey .sram ⟨n, s3.pdTile n d⟩ (s3.pdOff n d)) (memKey .sram ⟨n, p.1⟩ p.2) 32768).setPd n e
            (mkPd0 stResident 1 p.1 p.2) 0
          some (e, (s4.setDirEntry n l2 (page % 512) (dirNames e)).flushPage n d |>.pdDec n d)

/-- A zeroed page allocated where none was (R297). -/
def State.newPage (s : State) (n root page : Nat) : Option (Nat × State) :=
  match s.ownL2 n root page with
  | none => none
  | some (l2, s1) =>
    match s1.takeFrame n with
    | none => none
    | some (j, s2) =>
      (s2.takeDesc n).map (fun a =>
        let p := frameOf (s2.region n) j
        (a.1, ((a.2.zeroBytes .sram ⟨n, p.1⟩ p.2 32768).setPd n a.1 (mkPd0 stResident 1 p.1 p.2) 0).setDirEntry n l2
          (page % 512) (dirNames a.1)))

/-! Readable limits -/

/-- EF of every view of the node that names a sequence (R302). -/
def State.updateViews (s : State) (n seq : Nat) : State :=
  s.modNode n (fun x => { x with tiles := x.tiles.map (fun (k, t) => (k, { t with views := t.views.map (fun v =>
    if v.opened && v.seqId.toNat == seq then
      { v with ef := s.efw n (s.findRoot n seq v.layer.toNat v.head.toNat) }
    else v) })) })

/-- A view entry closed (R292, R300). -/
def Tile.closeView (t : Tile) (i : Nat) : Tile :=
  { t with views := t.views.setIfInBounds i { (t.views[i]?).getD default with opened := false }
           tlb := t.tlb.filter (fun e => e.view != i) }

/-- The views of a node closed that meet a condition. -/
def State.closeViews (s : State) (n : Nat) (p : View → Bool) : State :=
  s.modNode n (fun x => { x with tiles := x.tiles.map (fun (k, t) =>
    (k, (List.range 32).foldl (fun t i =>
      let v := (t.views[i]?).getD default
      if v.opened && p v then t.closeView i else t) t)) })

/-! Whole sequences -/

/-- A sequence created (R316); none where its bucket is full. -/
def State.createSeq (s : State) (n seq : Nat) (tied : Bool) (tree : BitVec 32) : Option State :=
  (s.freeSeqPlace n seq).map (fun o =>
    (s.setFoldRec n o (seqRecord false tied seq 0)).setFoldRec n (o + 8) (BitVec.ofNat 64 (tree.toNat * 2 ^ 32)))

/-- A root entry created with FILL 0 (R315); none where its bucket is full. -/
def State.createRoot (s : State) (n seq layer head : Nat) : Option State :=
  (s.freeRootPlace n seq layer).map (fun o =>
    ((s.setFoldRec n o (rootRecord seq layer head 0)).setFoldRec n (o + 8) 0))

/-- A sequence removed (R313): its record, its views, its root entries. -/
def State.removeSeq (s : State) (n seq : Nat) : State :=
  match s.findSeq n seq with
  | none => s
  | some o =>
    let s1 := ((s.setFoldRec n o 0).setFoldRec n (o + 8) 0).closeViews n (fun v => v.seqId.toNat == seq)
    (s.rootsOf n seq).foldl (fun s r =>
      let w := s.foldRec n (r + 8)
      let a := wfld w 0 32
      let b := wfld w 32 32
      let s2 := (s.setFoldRec n r 0).setFoldRec n (r + 8) 0
      let s3 := if locValid a then s2.dropL1 n a else s2
      if locValid b then s3.dropL1 n b else s3) s1

/-- A fork (R311): the state, or the cause it fails with. -/
def State.forkSeq (s : State) (n seq arg : Nat) (tied : Bool) (tree : BitVec 32) : Except Cause State :=
  match s.findSeq n seq with
  | none => .error .foldPerm
  | some o =>
    if (s.findSeq n arg).isSome then .error .foldPerm
    else match s.freeSeqPlace n arg with
      | none => .error .foldNomem
      | some p =>
        let s1 := (s.setFoldRec n p (seqRecord false tied arg (recLen (s.foldRec n o)))).setFoldRec n (p + 8)
          (BitVec.ofNat 64 (tree.toNat * 2 ^ 32))
        (s.rootsOf n seq).foldl (fun acc r => match acc with
          | .error c => .error c
          | .ok s =>
            let w := s.foldRec n r
            let locs := ([wfld (s.foldRec n (r + 8)) 0 32, wfld (s.foldRec n (r + 8)) 32 32]).filter locValid
            if locs.any (fun l => decide (65535 ≤ s.blockCount n l)) then .error .foldNomem
            else match s.freeRootPlace n arg (wfld w 33 8) with
              | none => .error .foldNomem
              | some q =>
                let s2 := (s.setFoldRec n q (rootRecord arg (wfld w 33 8) (wfld w 25 8) (s.efw n (some r)))).setFoldRec n (q + 8)
                  (s.foldRec n (r + 8))
                .ok (locs.foldl (fun s l => s.setBlockCount n l (s.blockCount n l + 1)) s2)) (.ok s1)

/-- The pages a root entry holds. -/
def State.pagesOf (s : State) (n root : Nat) : List Nat :=
  [0, 1].flatMap (fun h =>
    let l1 := s.rootLoc n root (h * 2 ^ 18)
    if !locValid l1 then []
    else (List.range 512).flatMap (fun i =>
      let l2 := wfld (s.dirEntry n l1 i) 0 32
      if !locValid l2 then []
      else ((List.range 512).filter (fun j => (s.dirEntry n l2 j).getLsbD 63)).map (fun j => h * 2 ^ 18 + i * 512 + j)))

/-- Whether a directory block has no valid entry. -/
def State.blockEmpty (s : State) (n loc : Nat) (l1 : Bool) : Bool :=
  (List.range 512).all (fun i =>
    let e := s.dirEntry n loc i
    if l1 then !locValid (wfld e 0 32) else !e.getLsbD 63)

/-- A page kept for the accesses that may still read it; a page that is not here is kept for none (R297). -/
def State.keepPage (s : State) (n page d : Nat) (keep : Option Retained) : State :=
  match keep with
  | some k => if s.pdState n d = stRemote ∨ s.pdState n d = stMoving then s
      else s.modNode n (fun x => { x with retained := x.retained ++ [{ k with page := page, pd := d }] })
  | none => s

/-- One page of a root entry cleared (R312): its path made its own, its entry cleared, its reference dropped, the page kept for its
readers where `keep` says so; directory blocks left empty are released. -/
def State.clearPage (s : State) (n root page : Nat) (keep : Option Retained) : Option State :=
  (s.ownL2 n root page).map (fun a =>
    let l2 := a.1
    let d := wfld (a.2.dirEntry n l2 (page % 512)) 0 18
    let s1 := (a.2.setDirEntry n l2 (page % 512) 0).flushPage n d
    let s2 := (s1.keepPage n page d keep).pdDec n d
    if !s2.blockEmpty n l2 false then s2
    else
      let l1 := s2.rootLoc n root page
      let s3 := (s2.setDirEntry n l1 (page / 512 % 512) 0).dropL2 n l2
      if !s3.blockEmpty n l1 true then s3 else (s3.setRootLoc n root page 0).dropL1 n l1)

/-- A truncation to a length (R312): the state, or the cause it fails with. `keep` says what of a page stays readable for accesses
issued before; a page that the length cuts stays, and is kept for them as it stands. -/
def State.truncSeq (s : State) (n seq arg : Nat) (keep : Nat → Nat → Nat → Option Retained) : Except Cause State :=
  match s.findSeq n seq with
  | none => .error .foldPerm
  | some o =>
    let w := s.foldRec n o
    if recRo w then .error .foldPerm
    else if recLen w ≤ arg then .ok s
    else
      let ppp := pppOf (s.region n)
      let s1 := s.setFoldRec n o (setFld w 0 25 arg)
      let r := (s.rootsOf n seq).foldl (fun (acc : Option State) r => acc.bind (fun s =>
        let e := s.foldRec n r
        let s2 := s.setFoldRec n r (setFld e 0 25 (min (recLen e) arg))
        let cut := arg / ppp
        let s2 := match (s2.walk n seq (wfld e 33 8) (wfld e 25 8) cut).pd with
          | some d => if arg % ppp = 0 then s2 else s2.keepPage n cut d (keep (wfld e 33 8) (wfld e 25 8) cut)
          | none => s2
        ((s2.pagesOf n r).filter (fun p => decide (arg ≤ p * ppp))).foldl (fun (acc : Option State) p =>
          acc.bind (fun s => s.clearPage n r p (keep (wfld e 33 8) (wfld e 25 8) p))) (some s2))) (some s1)
      match r with
      | some s3 => .ok (s3.updateViews n seq)
      | none => .error .foldNomem

end Sys2Proof.Machine
end

