-- ==== Sys2Proof/Machine/Fold.lean ====
section
/-! DEFINITION. The M slot's fold instructions at their issue (spec/10 R291, R303 to R307, R314 to R317), and what the walker
answers to a view, a sequence query and a probe. -/

namespace Sys2Proof.Machine

/-! Operands -/

/-- The fields of a control operand (R304). -/
def ctlBar (w : Word) : Nat := wfld w 0 5
def ctlCnt (w : Word) : Bool := w.getLsbD 5
def ctlTie (w : Word) : Bool := w.getLsbD 6
def ctlOp (w : Word) : Nat := wfld w 8 2
def ctlNode (w : Word) : Nat := wfld w 10 12
def ctlNpg (w : Word) : Nat := wfld w 22 8

/-- The bits of a control operand that an instruction uses (R304). -/
def ctlMask (fn : Nat) (w : Word) : Word :=
  match fn with
  | 2 => 0x7F
  | 5 => if ctlOp w = 2 then 0x3FFFFF3F else 0x3FC0033F
  | _ => 0x3F

/-- The check of a control operand (R304). -/
def ctlFault (fn : Nat) (w : Word) : Option (Cause × Word) :=
  if w &&& ~~~(ctlMask fn w) ≠ 0 ∨ (fn = 5 ∧ ctlOp w = 3) then some (.bound, w) else none

/-- The fields of a key dword (Table 10.1). -/
def keySeq (w : Word) : Nat := wfld w 0 22
def keyLayer (w : Word) : Nat := wfld w 22 8
def keyHead (w : Word) : Nat := wfld w 30 8
def keyFork (w : Word) : Nat := wfld w 38 22
def keyLen (w : Word) : Nat := wfld w 38 25

/-- The check of a key dword for `FFORK`, `FTRUNC`, `FFREE` and the queries (R291). -/
def keyFault (fn : Nat) (w : Word) : Option (Cause × Word) :=
  let bad := match fn with
    | 2 => wfld w 22 16 != 0 || wfld w 60 4 != 0
    | 3 => wfld w 22 16 != 0 || w.getLsbD 63 || decide (16777216 < keyLen w)
    | _ => wfld w 22 42 != 0
  if bad then some (.bound, w) else none

/-- Whether an operation names a tile register beyond the share or of an invalid shape (R18, R103, R135). -/
def tregIllegal (t : Tile) (c : Ctx) (n : Nat) : Bool := decide (t.tregShare ≤ n) || shapeBad (c.shape n)

/-- The check of a view pointer operand (R304, R303): an access of one byte, then the handle, then WR. -/
def viewFault (s : State) (p : Word) (wr : Bool) : Option (Cause × Word) :=
  (accessFault s s.me s.cur.level p 1 1 false (fun w => w != 4)).or
    (match s.here.viewAt p with
     | none => some (.window, p)
     | some v => if wr && !v.wr then some (.window, p) else none)

/-- The position check of a transfer of `n` rows (R303). -/
def rowsFault (t : Tile) (p : Word) (n : Nat) (wr : Bool) : Option (Cause × Word) :=
  match t.viewAt p with
  | none => none
  | some v =>
    let pos := ptrPos p
    if wr = true ∧ v.limit < pos then some (.foldPos, p)
    else if wr = false ∧ v.limit < pos + n then some (.foldPos, setPos p (max pos v.limit))
    else if 16777215 < pos + n - 1 then some (.foldPos, setPos p 16777216)
    else none

/-! Entering the store queue -/

/-- A fold transfer at its issue enters the store queue (R305). -/
def State.issueFold (s : State) (fn treg : Nat) (a b : Word) : State :=
  let s1 := s.queueOp .m false true (.fold ⟨fn, treg, a, b, s.slotWord .m, 0, none, s.cur.tree⟩)
  if ctlCnt b then s1.usesBarrier s.me (ctlBar b) else s1

/-- A view's PEND raised by an `FAPP` at issue (R302). -/
def Tile.raisePend (t : Tile) (p : Word) (last : Nat) : Tile :=
  let i := ptrHandle p % 32
  { t with views := t.views.setIfInBounds i (let v := (t.views[i]?).getD default; { v with pend := max v.pend last }) }

/-- `FLDK` and `FAPP` (R307). -/
def runTransfer (fn : Nat) (g : Guard) (tr : BitVec 4) (a b : Src) (s : State) : Out :=
  let wr := fn == 1
  runOp .m g (fun s =>
      let c := s.cur
      let p := c.srcM a
      let sh := c.shape tr.toNat
      { Checks.reads (c.unsetM a || c.unsetM b) with
        illegal := tregIllegal s.here c tr.toNat
        own := (((viewFault s p wr).or (rowsFault s.here p (shapeRows sh) wr)).or (ctlFault fn (c.srcM b))).or
          (if (s.node s.focus.node).vecbytes < ptrByte p + shapeBytes sh then some (.bound, p) else none) })
    (fun s =>
      let c := s.cur
      let p := c.srcM a
      let s1 := s.issueFold fn tr.toNat p (c.srcM b)
      if wr then s1.modHere (fun t => t.raisePend p (ptrPos p + shapeRows (c.shape tr.toNat))) else s1) s

/-- `FLDK` (R307). -/
def execFldk (g : Guard) (t : BitVec 4) (a b : Src) (s : State) : Out := runTransfer 0 g t a b s

/-- `FAPP` (R307). -/
def execFapp (g : Guard) (t : BitVec 4) (a b : Src) (s : State) : Out := runTransfer 1 g t a b s

/-- A record operation (R311 to R313). -/
def runRecordOp (fn : Nat) (g : Guard) (a b : Src) (s : State) : Out :=
  runOp .m g (fun s => (Checks.reads (s.cur.unsetM a || s.cur.unsetM b)).withOwn
      ((keyFault fn (s.cur.srcM a)).or (ctlFault fn (s.cur.srcM b))))
    (fun s => s.issueFold fn 0 (s.cur.srcM a) (s.cur.srcM b)) s

/-- `FFORK` (R311). -/
def execFfork (g : Guard) (a b : Src) (s : State) : Out := runRecordOp 2 g a b s

/-- `FTRUNC` (R312). -/
def execFtrunc (g : Guard) (a b : Src) (s : State) : Out := runRecordOp 3 g a b s

/-- `FFREE` (R313). -/
def execFfree (g : Guard) (a b : Src) (s : State) : Out := runRecordOp 4 g a b s

/-- `FHINT` (R314). -/
def execFhint (g : Guard) (a b : Src) (s : State) : Out :=
  runOp .m g (fun s =>
      let c := s.cur
      let o := ctlOp (c.srcM b)
      { Checks.reads (c.unsetM a || c.unsetM b) with
        priv := if c.level = 0 ∧ (o = 1 ∨ o = 2) then some (c.srcM b) else none
        own := (viewFault s (c.srcM a) false).or (ctlFault 5 (c.srcM b)) })
    (fun s => s.issueFold 5 0 (s.cur.srcM a) (s.cur.srcM b)) s

/-! Queries -/

/-- The checks of `FVIEW` (R315). -/
def fviewFault (n : Node) (key op : Word) : Option (Cause × Word) :=
  if 3 ≤ op.toNat then some (.bound, op)
  else if op = 2 then none
  else
    let f := n.fold.getD ⟨0, 0, 1, 1, 0, 64, 0, 0⟩
    if wfld key 38 26 ≠ 0 ∨ f.layers ≤ keyLayer key ∨ f.heads ≤ keyHead key then some (.bound, key) else none

/-- The checks of `FSEQ` (R316). -/
def fseqFault (key op : Word) : Option (Cause × Word) :=
  if 4 < wfld op 0 3 then some (.bound, op) else keyFault 4 key

/-- The checks of `FPROBE` (R317, R303). -/
def fprobeFault (s : State) (p op : Word) : Option (Cause × Word) :=
  if winOf p ≠ 4 ∨ (s.here.viewAt p).isNone = true then some (.window, p)
  else if 2 ≤ op.toNat then some (.bound, op)
  else none

/-- A fold query at its issue takes a landing entry; the walker serves it later (R305). -/
def runQuery (kind : LandKind) (fault : State → Word → Word → Option (Cause × Word)) (g : Guard) (l : BitVec 10) (x : RFile)
    (d b : BitVec 5) (s : State) : Out :=
  runOp .m g (fun s =>
      let m := xmReg s.issue.xm
      { Checks.reads (s.cur.unsetReg b.toNat || s.cur.unsetReg m) with
        own := fault s (s.cur.regM b.toNat) (s.cur.regM m), timed := true })
    (fun s =>
      let op := s.cur.regM (xmReg s.issue.xm)
      let a := s.takeLanding .m kind l x d (s.cur.regM b.toNat) 8 12 true
      a.2.modCur (fun c => c.modLanding a.1 (fun e => { e with opb := op }))) s

/-- `FVIEW` (R315). -/
def execFview (g : Guard) (l : BitVec 10) (x : RFile) (d b : BitVec 5) (s : State) : Out :=
  runQuery .foldView (fun s k o => fviewFault (s.node s.focus.node) k o) g l x d b s

/-- `FSEQ` (R316). -/
def execFseq (g : Guard) (l : BitVec 10) (x : RFile) (d b : BitVec 5) (s : State) : Out :=
  runQuery .foldSeq (fun _ k o => fseqFault k o) g l x d b s

/-- `FPROBE` (R317). -/
def execFprobe (g : Guard) (l : BitVec 10) (x : RFile) (d b : BitVec 5) (s : State) : Out :=
  runQuery .foldProbe fprobeFault g l x d b s

/-- A view opened on a tile (R292, R315): the pointer, or 0. -/
def State.openView (s : State) (r : CtxRef) (key : Word) (wr : Bool) : Word × State :=
  let n := r.node
  let t := s.tile (tileOf r)
  let seq := keySeq key
  let free := (List.range 32).find? (fun i => !((t.views[i]?).getD default).opened)
  match s.findSeq n seq, free with
  | some _, some i =>
    let root := s.findRoot n seq (keyLayer key) (keyHead key)
    let made := if wr && root.isNone then s.createRoot n seq (keyLayer key) (keyHead key) else some s
    match made with
    | none => (0, s)
    | some s1 =>
      let o := t.openings + 1
      let tag := BitVec.ofNat 19 o
      let v : View := ⟨true, tag, BitVec.ofNat 22 seq, BitVec.ofNat 8 (keyLayer key), BitVec.ofNat 8 (keyHead key), wr,
        (s.ctx r).tree, s1.efw n (s1.findRoot n seq (keyLayer key) (keyHead key)), 0, false⟩
      (BitVec.ofNat 64 (4 * 2 ^ 60 + (tag.toNat * 32 + i) * 2 ^ 36),
        s1.modTile (tileOf r) (fun t => { t with openings := o, views := t.views.setIfInBounds i v }))
  | _, _ => (0, s)

/-- What `FVIEW` answers (R315). -/
def State.serveView (s : State) (r : CtxRef) (key op : Word) : Word × State :=
  if op = 2 then
    (0, match (s.tile (tileOf r)).viewAt key with
      | some _ => if winOf key = 4 then s.modTile (tileOf r) (fun t => t.closeView (ptrHandle key % 32)) else s
      | none => s)
  else s.openView r key (op == 1)

/-- What `FSEQ` answers (R316). -/
def State.serveSeq (s : State) (r : CtxRef) (key op : Word) : Word × State :=
  let n := r.node
  let seq := keySeq key
  let o := wfld op 0 3
  let answer := fun (s : State) (ex full : Bool) =>
    match s.findSeq n seq with
    | none => BitVec.ofNat 64 ((if ex then 2 ^ 63 else 0) + (if full then 2 ^ 60 else 0))
    | some p =>
      let w := s.foldRec n p
      BitVec.ofNat 64 ((if ex then 2 ^ 63 else 0) + (if recRo w then 2 ^ 62 else 0) + (if recTied w then 2 ^ 61 else 0)
        + (if full then 2 ^ 60 else 0) + recLen w)
  match s.findSeq n seq with
  | some p =>
    let w := s.foldRec n p
    let s1 := if o = 3 then s.setFoldRec n p (setFld w 62 1 1) else if o = 4 then s.setFoldRec n p (setFld w 62 1 0) else s
    (answer s1 true false, s1)
  | none =>
    if o = 1 ∨ o = 2 then
      match s.createSeq n seq (o == 2) (if o = 2 then (s.ctx r).tree else 0) with
      | some s1 => (answer s1 false false, s1)
      | none => (answer s false true, s)
    else (answer s false false, s)

/-- A TLB entry made, the oldest giving way (R300). -/
def Tile.enterTlb (t : Tile) (view page pd : Nat) : Tile :=
  { t with tlb := (⟨view, page, pd⟩ :: t.tlb.filter (fun e => !(e.view == view && e.page == page))).take 64 }

/-- What `FPROBE` answers (R317). -/
def State.serveProbe (s : State) (r : CtxRef) (p op : Word) : Word × State :=
  let n := r.node
  match (s.tile (tileOf r)).viewAt p with
  | none => (0, s)
  | some v =>
    let i := ptrHandle p % 32
    let page := ptrPos p / pppOf (s.region n)
    let w := s.walk n v.seqId.toNat v.layer.toNat v.head.toNat page
    let st := s.walkState n w
    let ref := match w.pd with
      | some d => s.pdRef n d
      | none => 0
    let s1 := s.modTile (tileOf r) (fun t =>
      let t1 := { t with views := t.views.setIfInBounds i { v with cut := false } }
      match w.pd with
      | some d => if op.getLsbD 0 && st == stResident then t1.enterTlb i page d else t1
      | none => t1)
    (BitVec.ofNat 64 (st * 2 ^ 61 + ref * 2 ^ 45 + (if v.cut then 2 ^ 44 else 0) + v.ef % 2 ^ 25), s1)

end Sys2Proof.Machine
end

