-- ==== Sys2Proof/Machine/Images.lean ====
section
/-! DEFINITION. The encodings of payloads and of compressed pages (spec/07 R204, Table 7.2; spec/10 R297): raw, zero-skip and
run-length. -/

namespace Sys2Proof.Machine

/-- The 32-bit little-endian words of bytes. -/
def words32 : List Byte → List Nat
  | a :: b :: c :: d :: r => bytesToNat [a, b, c, d] :: words32 r
  | _ => []

/-- The bytes of 32-bit words. -/
def bytes32 (ws : List Nat) : List Byte := ws.flatMap (natToBytes 4)

/-- The bitmap of which words are nonzero, 32 to a word. -/
def zeroMap (ws : List Nat) : List Nat :=
  (List.range ((ws.length + 31) / 32)).map (fun i =>
    ((ws.drop (32 * i)).take 32).zipIdx.foldl (fun a e => if e.1 = 0 then a else a + 2 ^ e.2) 0)

/-- The zero-skip form. -/
def zeroSkip (bs : List Byte) : List Byte :=
  let ws := words32 bs
  bytes32 (zeroMap ws ++ ws.filter (fun w => w != 0))

/-- Words restored from the bits that say which are nonzero, and the words left over. -/
def unskip : List Bool → List Nat → Option (List Nat × List Nat)
  | [], vs => some ([], vs)
  | false :: bs, vs => (unskip bs vs).map (fun r => (0 :: r.1, r.2))
  | true :: _, [] => none
  | true :: bs, v :: vs => (unskip bs vs).map (fun r => (v :: r.1, r.2))

/-- `n` words read from the zero-skip form, and the words left over. A bit beyond the last word is set in none. -/
def readSkip (n : Nat) (ws : List Nat) : Option (List Nat × List Nat) :=
  let k := (n + 31) / 32
  let bits := (ws.take k).flatMap (fun w => (List.range 32).map (fun i => w.testBit i))
  if ws.length < k ∨ (bits.drop n).any id = true then none else unskip (bits.take n) (ws.drop k)

/-- One more word in front of a run-length form, whose runs are as long as they may be: DESIGN CHOICE (log entry 143). -/
def addRun (w : Nat) : List (Nat × Nat) → List (Nat × Nat)
  | (c, v) :: r => if v = w ∧ c < 1024 then (c + 1, v) :: r else (1, w) :: (c, v) :: r
  | [] => [(1, w)]

/-- The run-length form. -/
def runLength (bs : List Byte) : List Byte :=
  bytes32 (((words32 bs).foldr addRun []).flatMap (fun r => [r.1, r.2]))

/-- Words read from runs (Table 7.3a, code 3): none where a control word is out of range. -/
def readRuns : List Nat → Option (List Nat)
  | [] => some []
  | [_] => none
  | c :: v :: r => if c = 0 ∨ 1024 < c then none else (readRuns r).map (fun ws => List.replicate c v ++ ws)

/-- Runs read until they give `n` words. -/
def readRunsTo (n : Nat) : List Nat → List Nat
  | c :: v :: r => if n = 0 ∨ c = 0 then [] else (List.replicate (min n c) v ++ readRunsTo (n - c) r)
  | _ => []

/-- A payload on the wire (R204). -/
def encodePayload (enc : Nat) (bs : List Byte) : List Byte :=
  match enc with
  | 1 => zeroSkip bs
  | 2 => runLength bs
  | _ => bs

/-- A payload decoded from the wire; none where Table 7.3a finds its code 3. -/
def decodePayload (enc elen : Nat) (wire : List Byte) : Option (List Byte) :=
  match enc with
  | 0 => if wire.length = elen then some wire else none
  | 1 =>
    if elen % 4 ≠ 0 ∨ wire.length % 4 ≠ 0 then none
    else match readSkip (elen / 4) (words32 wire) with
      | some (ws, []) => some (bytes32 ws)
      | _ => none
  | 2 =>
    if elen % 4 ≠ 0 ∨ wire.length % 4 ≠ 0 then none
    else match readRuns (words32 wire) with
      | some ws => if 4 * ws.length = elen then some (bytes32 ws) else none
      | none => none
  | _ => none

/-- The image of a page (R297): whether it is the run-length form, and its bytes. -/
def pageImage (bs : List Byte) : Bool × List Byte :=
  let z := zeroSkip bs
  let r := runLength bs
  if r.length < z.length then (true, r) else (false, z)

/-- The page of an image. -/
def imagePage (run : Bool) (bs : List Byte) : List Byte :=
  let ws := words32 bs
  if run then bytes32 (readRunsTo 8192 ws)
  else match readSkip 8192 ws with
    | some r => bytes32 r.1
    | none => []

end Sys2Proof.Machine
end

