-- ==== Sys2Proof/Machine/FoldPages.lean ====
section
/-! DEFINITION. Fold pages as accesses find them (spec/10 R297 to R302, R312, R318): promotion, compression, the page a row is read
from or written to, and the pages a truncation leaves readable to accesses issued before it. -/

namespace Sys2Proof.Machine

/-! Compressed images -/

/-- A compressed page promoted (R297): a frame, its words, and the state its count gives. -/
def State.promotePage (s : State) (n d : Nat) : Except Cause State :=
  if s.pdState n d ≠ stCompressed then .ok s
  else
    let len := 64 * s.pdClen n d
    let at' : TileRef := ⟨n, s.pdTile n d⟩
    let off := s.pdOff n d
    if s.rangePoisoned at' off len then .error .ue
    else match s.takeFrame n with
      | none => .error .foldNomem
      | some (j, s1) =>
        let bytes := imagePage ((s.node n).runImages.contains d) (s.readBytes .sram at' off len)
        let p := frameOf (s.region n) j
        let s2 := (s1.givePlace n d).modNode n (fun x => { x with runImages := x.runImages.filter (fun k => k != d) })
        .ok ((((s2.writeBytes .sram ⟨n, p.1⟩ p.2 bytes).healWhole .sram ⟨n, p.1⟩ p.2 32768).setPd n d
          (mkPd0 stResident (s.pdRef n d) p.1 p.2) 0).settlePd n d)

/-- The granules of a frame that images use: first and count. -/
def State.granulesIn (s : State) (n j : Nat) : List (Nat × Nat) :=
  (s.imagesIn n j).map (fun d => (s.pdOff n d % 32768 / 64, s.pdClen n d))

/-- The first granule of a frame at which an image of `k` granules fits. -/
def State.fitIn (s : State) (n j k : Nat) : Option Nat :=
  let used := s.granulesIn n j
  (List.range (513 - k)).find? (fun g => used.all (fun u => decide (g + k ≤ u.1) || decide (u.1 + u.2 ≤ g)))

/-- The frames that hold images. -/
def State.imageFrames (s : State) (n : Nat) : List Nat :=
  ((s.node n).descUsed.filter (fun d => s.pdState n d == stCompressed)).map (fun d =>
    frameAt (s.region n) (s.pdTile n d) (s.pdOff n d))

/-- A resident page compressed (R297): into a frame of images that has room, else a new frame, else its own. One whose shorter form
exceeds 511 granules, or that is poisoned, stays. -/
def State.compressPage (s : State) (n d : Nat) : State :=
  let st := s.pdState n d
  let at' : TileRef := ⟨n, s.pdTile n d⟩
  let off := s.pdOff n d
  let img := pageImage (s.readBytes .sram at' off 32768)
  let k := (img.2.length + 63) / 64
  if (st ≠ stResident ∧ st ≠ stShared) ∨ 511 < k ∨ s.rangePoisoned at' off 32768 = true then s
  else
    let f := s.region n
    let own := frameAt f (s.pdTile n d) off
    let place : Nat × Nat × State :=
      match (s.imageFrames n).findSome? (fun j => (s.fitIn n j k).map (fun g => (j, g))) with
      | some (j, g) => (j, g, s.giveFrame n own)
      | none => match s.takeFrame n with
        | some (j, s1) => (j, 0, s1.giveFrame n own)
        | none => (own, 0, s)
    let p := frameOf f place.1
    let o := p.2 + 64 * place.2.1
    let s2 := ((place.2.2.flushPage n d).writeBytes .sram ⟨n, p.1⟩ o (img.2 ++ List.replicate (64 * k - img.2.length) 0)).healWhole
      .sram ⟨n, p.1⟩ o (64 * k)
    (s2.setPd n d (mkPd0 stCompressed (s.pdRef n d) p.1 o) (mkPd1 0 0 k)).modNode n (fun x =>
      { x with runImages := if img.1 then d :: x.runImages else x.runImages })

/-! Retained pages -/

/-- The view a handle was given for, open or closed since (R313). -/
def Tile.viewOf (t : Tile) (p : Word) : Option View :=
  match t.views[ptrHandle p % 32]? with
  | some v => if v.tag.toNat == ptrHandle p / 32 then some v else none
  | none => none

/-- Whether a pointer's view is of a sequence. -/
def Tile.viewsSeq (t : Tile) (p : Word) (seq : Nat) : Bool := (t.viewOf p).any (fun v => v.seqId.toNat == seq)

/-- Whether an access numbered below a bound may still read rows of a sequence of a node (R308, Table 10.7): an `FLDK`, or a fold-view
load. -/
def State.readersBelow (s : State) (n seq upto : Nat) : Bool :=
  (s.node n).tiles.any (fun e =>
    e.2.fold.any (fun j => decide (j.id < upto) && j.req.fn == 0 && !j.finished && e.2.viewsSeq j.req.opa seq) ||
    e.2.ctxs.toList.any (fun c => c.queue.any (fun q => decide (q.id < upto) && (match q.op with
      | .load us => us.any (fun u => winOf u.ptr == 4 && e.2.viewsSeq u.ptr seq)
      | .fold q => q.fn == 0 && e.2.viewsSeq q.opa seq
      | _ => false))))

/-- Pages kept for readers that are done: those without a reference are freed (R298, R308). -/
def State.releaseRetained (s : State) (n : Nat) : State :=
  let gone := (s.node n).retained.filter (fun k => !s.readersBelow n k.seqId k.upto)
  if gone.isEmpty then s
  else
    (gone.map (fun k => k.pd)).eraseDups.foldl (fun s d => if s.pdRef n d = 0 ∧ s.pdKept n d = false then s.freePage n d else s)
      (s.modNode n (fun x => { x with retained := x.retained.filter (fun k => !gone.contains k) }))

/-! Rows -/

/-- The root entry of a view. -/
def State.rootOf (s : State) (n : Nat) (v : View) : Option Nat := s.findRoot n v.seqId.toNat v.layer.toNat v.head.toNat

/-- The bytes of a page's frame at a position and byte. -/
def State.rowPlace (s : State) (n d pos byte : Nat) : TileRef × Nat :=
  let f := s.region n
  (⟨n, s.pdTile n d⟩, s.pdOff n d + pos % pppOf f * f.vecbytes + byte)

/-- The TLB entry of a page of a view entry (R300). -/
def Tile.tlbHit (t : Tile) (view page : Nat) : Option Nat :=
  (t.tlb.find? (fun e => e.view == view && e.page == page)).map (fun e => e.pd)

/-- A page that an access has found here is the entry most recently used (R300). -/
def State.touchTlb (s : State) (r : TileRef) (v : View) (p : Word) (page d : Nat) : State :=
  if v.opened then s.modTile r (fun t => t.enterTlb (ptrHandle p % 32) page d) else s

/-- Where a row is read through the view of a pointer (R297, R299, R300, R308, R318): its place, or none where it reads as zero, which
`zero` allows a fold-view load, with the page state found; or the fault with that state. An access numbered `id` reads what a later
truncation cut as it stood. A hit in the TLB walks no record. -/
def State.findRead (s : State) (r : TileRef) (v : View) (p : Word) (pos id : Nat) (zero : Bool) :
    Except (Cause × Nat) (Option (TileRef × Nat) × Nat × State) :=
  let n := r.node
  let page := pos / pppOf (s.region n)
  let kept := (s.node n).retained.find? (fun k => k.seqId == v.seqId.toNat && k.layer == v.layer.toNat
    && k.head == v.head.toNat && k.page == page && decide (k.pos ≤ pos) && decide (id < k.upto))
  let here := fun (s : State) (d : Nat) =>
    let st := s.pdState n d
    if st = stRemote ∨ st = stMoving then Except.error (Cause.foldMiss, st)
    else match s.promotePage n d with
      | .error c => .error (c, st)
      | .ok s1 => .ok (some (s1.rowPlace n d pos (ptrByte p)), st,
          if kept.isSome then s1 else s1.touchTlb r v p page d)
  match kept with
  | some k => here s k.pd
  | none => match (if v.opened then (s.tile r).tlbHit (ptrHandle p % 32) page else none) with
    | some d => here s d
    | none =>
      let w := s.walk n v.seqId.toNat v.layer.toNat v.head.toNat page
      if w.ue then .error (.ue, s.walkState n w)
      else match w.pd with
        | some d => here s d
        | none =>
          if !zero then .error (.foldMiss, stInvalid)
          else if s.seqBad n v.seqId.toNat then .error (.ue, stInvalid)
          else if s.efw n w.root ≤ pos ∧ pos < v.pend then .ok (none, stInvalid, s) else .error (.foldMiss, stInvalid)

/-- Where a row is written through the view of a pointer (R297, R300, R301, R307, R318): the page's own frame, copied or promoted as
needed, with the page state found; `grow` lets an `FAPP` row allocate. A hit in the TLB walks no record, but what an `FAPP` row grows is
read (R300). -/
def State.findWrite (s : State) (r : TileRef) (v : View) (p : Word) (pos : Nat) (grow : Bool) :
    Except (Cause × Nat) ((TileRef × Nat) × Nat × State) :=
  let n := r.node
  let page := pos / pppOf (s.region n)
  let w := s.walk n v.seqId.toNat v.layer.toNat v.head.toNat page
  let st := s.walkState n w
  let frozen := match s.findSeq n v.seqId.toNat with
    | some o => recRo (s.foldRec n o)
    | none => false
  let hit := v.opened && st == stResident && w.pd == (s.tile r).tlbHit (ptrHandle p % 32) page
    && w.root.any (fun o => s.pathPrivate n o page) && !w.pd.any (fun d => s.pdKept n d)
  let meets := if hit then grow && s.rootsBad n v.seqId.toNat v.layer.toNat else w.ue || w.root.any (fun o => s.pathBad n o page)
  let done := fun (st d : Nat) (s : State) => Except.ok (s.rowPlace n d pos (ptrByte p), st, s.touchTlb r v p page d)
  if meets || s.seqBad n v.seqId.toNat then .error (.ue, st)
  else if frozen then .error (.foldPerm, st)
  else match w.root, w.pd with
    | none, _ => .error (.foldMiss, stInvalid)
    | some o, none =>
      if grow && pos % pppOf (s.region n) == 0 && pos == s.efw n (some o) then
        match s.newPage n o page with
        | some (d, s1) => done stInvalid d s1
        | none => .error (.foldNomem, stInvalid)
      else .error (.foldMiss, stInvalid)
    | some o, some d =>
      if st = stRemote ∨ st = stMoving then .error (.foldMiss, st)
      else match s.promotePage n d with
        | .error c => .error (c, st)
        | .ok s1 => match s1.ownPage n o page with
          | none => .error (.foldNomem, st)
          | some (e, s2) => done st e s2

/-- `PAGE_PROMOTION` (R297): the walker promotes a compressed page, with no trap. -/
def execPagePromotion (n k : Nat) (s : State) : Out :=
  .next (match s.promotePage n k with
    | .ok s1 => s1
    | .error _ => s)

end Sys2Proof.Machine
end

