-- ==== Sys2Proof/Machine/Crook.lean ====
section
/-! DEFINITION. The crook (spec/11): lock names and sets, the judgement of requests at a home crook, wounds and releases, the
crook's messages, and the E slot's crook instructions. -/

namespace Sys2Proof.Machine

/-! Names and modes -/

/-- Whether a lock name is reserved (R320). -/
def lockNameBad (w : Word) : Bool :=
  wfld w 52 12 != 0 || wfld w 32 20 == 0xFFFFF || (wfld w 16 16 == 0xFFFF && wfld w 0 16 != 0xFFFF)

/-- The home node of a lock object (R321). -/
def lockHome (w : Word) : Nat := wfld w 40 12

/-- The parent of an object (R321). -/
def lockParent (w : Word) : Option Word :=
  if wfld w 16 16 = 0xFFFF then none
  else if wfld w 0 16 = 0xFFFF then some (w ||| 0xFFFFFFFF)
  else some (w ||| 0xFFFF)

/-- The code of a mode (R97). -/
def modeCode : LockMode → Nat
  | .is => 0
  | .ix => 1
  | .s => 2
  | .six => 3
  | .inc => 4
  | .x => 5

/-- Whether a parent held in `p` allows a child in `m` (Table 11.4). -/
def parentAllows (m p : LockMode) : Bool :=
  match m with
  | .is | .s => true
  | .inc => p == .ix || p == .six || p == .inc || p == .x
  | .ix | .six | .x => p == .ix || p == .six || p == .x

/-- The steps of an upgrade (R329). -/
def upgradeAllowed (old new : LockMode) : Bool :=
  match old with
  | .is => new != .is
  | .ix => new == .six || new == .x
  | .s => new == .six || new == .x
  | .six => new == .x
  | .inc => new == .x
  | .x => false

/-- The status dword (Table 11.6). -/
def lockStatus (stat mode : Nat) : Word := BitVec.ofNat 64 (stat * 2 ^ 60 + mode * 2 ^ 57)

/-! Lock sets -/

/-- The mode in which a context holds an object, if it does. -/
def Ctx.holds (c : Ctx) (w : Word) : Option LockMode :=
  match c.lockEntry w with
  | some e => if e.pending then none else some e.mode
  | none => none

/-- Whether the parent mode of R325 is missing. -/
def Ctx.parentMissing (c : Ctx) (w : Word) (m : LockMode) : Bool :=
  match lockParent w with
  | none => false
  | some p => match c.holds p with
    | none => true
    | some h => !parentAllows m h

/-- The entries of a context's lock set whose parent is an object. -/
def Ctx.lockChildren (c : Ctx) (w : Word) : List LockEntry := c.locks.filter (fun e => lockParent e.name == some w)

/-- The checks of a request on a name: R320, then the protocol (R326, R344). -/
def nameFault (w : Word) (proto : Bool) : Option (Cause × Word) :=
  if lockNameBad w then some (.bound, w) else if proto then some (.lockProto, w) else none
def acquireFault (c : Ctx) (w : Word) (m : LockMode) : Option (Cause × Word) :=
  nameFault w (c.parentMissing w m || (c.lockEntry w).isSome || decide (32 ≤ c.locks.length))
def upgradeFault (c : Ctx) (w : Word) (m : LockMode) : Option (Cause × Word) :=
  nameFault w (match c.holds w with
    | none => true
    | some h => !upgradeAllowed h m || c.parentMissing w m
        || (c.lockChildren w).any (fun e => !e.pending && !parentAllows e.mode m))
def releaseFault (c : Ctx) (w : Word) : Option (Cause × Word) :=
  nameFault w ((c.holds w).isNone || !(c.lockChildren w).isEmpty)

/-! Messages of a context -/

/-- A message of a context to the home of a name. -/
def crookMsg (r : CtxRef) (w : Word) (m : LockMode) (tick : Nat) (id : Nat) : CrookMsg :=
  ⟨lockHome w, m, r, w, tick, 0, id⟩

/-- A message of a context to a home crook. -/
def Event.crookAsk : Event → Option CrookMsg
  | .crookAcquireMsg m => some m
  | .crookTryMsg m => some m
  | .crookUpgradeMsg m => some m
  | .crookReleaseMsg m => some m
  | .crookWithdrawMsg m => some m
  | .crookQueryMsg m => some m
  | _ => none

/-- Whether a request of a context waits behind a release to the same home that still stands in its queues: messages reach a home in
the order their instructions issued (R321). -/
def Ctx.behindRelease (c : Ctx) (m : CrookMsg) : Bool :=
  c.queue.any (fun e => decide (e.id < m.id) && (match e.op with
    | .release ns => ns.any (fun w => lockHome w == m.dest)
    | _ => false))

/-- A context's request to a home sent, or kept behind the releases ahead of it. -/
def State.ask (s : State) (r : CtxRef) (m : CrookMsg) (e : CrookMsg → Event) : State :=
  if (s.ctx r).behindRelease m then s.modCtx r (fun c => { c with asks := c.asks ++ [e m] }) else s.post r.node (e m)

/-- The kept requests that no release holds back any more are sent. -/
def State.sendAsks (s : State) (r : CtxRef) : State :=
  let c := s.ctx r
  let waits := fun (e : Event) => e.crookAsk.any c.behindRelease
  (c.asks.filter (fun e => !waits e)).foldl (fun s e => s.post r.node e) (s.modCtx r (fun c => { c with asks := c.asks.filter waits }))

/-- Whether a request finds a crook at its home: a member of the pasture that can be reached and has not failed (R321, R407, R433). -/
def State.hasHome (s : State) (r : CtxRef) (m : CrookMsg) : Bool := canReach s r.node m.dest && !(s.node m.dest).failed

/-- A context sends its request; one whose home has left or has failed is answered NOHOME (R321, R433). -/
def State.request (s : State) (r : CtxRef) (m : CrookMsg) (e : CrookMsg → Event) : State :=
  if s.hasHome r m then s.ask r m e
  else s.send (.crookStatusMsg { m with dest := r.node, result := lockStatus 4 7 })

/-- Whether an event is a request that its context waits for. -/
def Event.waitedAsk : Event → Bool
  | .crookAcquireMsg _ => true
  | .crookUpgradeMsg _ => true
  | _ => false

/-- A status written to the destination of a lock instruction. A saved context takes it when it resumes (Table 11.5a). -/
def Ctx.writeDst (c : Ctx) (d : Dst) (v : Word) : Ctx :=
  match d with
  | .reg n =>
    if c.st = .saved then { c with results := c.results ++ [⟨0, true, true, 0, .e, .word .e n false v, 0, false, none⟩] }
    else c.writeWord .e n.toNat false false v
  | .drop => c

/-- The lock requests a context waits for, each with its object, its destination and its number: that of the block it has ended, and
that of the block a trap has interrupted at its end (R198, R339). -/
def Ctx.lockWaits (c : Ctx) : List (Word × Dst × Nat) :=
  (match c.wait with
    | .lock w d => [(w, d, c.waitSeq)]
    | _ => []) ++ (match c.outer with
    | some (.lock w d, n) => [(w, d, n)]
    | _ => [])

/-- Whether the lock request of a number is that of the block a context has ended, and not of one a trap has interrupted. -/
def Ctx.waitsNow (c : Ctx) (n : Nat) : Bool :=
  match c.wait with
  | .lock _ _ => c.waitSeq == n
  | _ => false

/-- The wait for a lock request ends with a status (R339): its destination is written; that of an interrupted block is told it, which
has it before its next block begins. -/
def Ctx.answerWait (c : Ctx) (d : Dst) (n : Nat) (v : Word) : Ctx :=
  if c.waitsNow n then { c.writeDst d v with wait := .none } else { c with outer := some (.told d v, n) }

/-- The lock requests a context waits for are withdrawn, or never sent (R331, R334). -/
def State.withdrawRequests (s : State) (r : CtxRef) : State :=
  let c := s.ctx r
  let unsent := fun (n : Nat) => c.asks.any (fun e => e.waitedAsk && e.crookAsk.any (fun m => m.id == n))
  let s1 := c.lockWaits.foldl (fun s x =>
    if unsent x.2.2 then s else s.post r.node (.crookWithdrawMsg (crookMsg r x.1 .is c.tick 0))) s
  s1.modCtx r (fun c => { c with asks := c.asks.filter (fun e => !e.waitedAsk) })

/-- The objects a context has been granted: the held ones of its lock set, and those whose `LKTRY` has been granted and is still to
land. -/
def Ctx.grants (c : Ctx) : List Word := (c.locks.filter (fun e => !e.pending || c.granted.contains e.name)).map (fun e => e.name)

/-- Every entry of a context's lock set is removed (R324, R342): each object granted to it is released when the context's accesses ahead
have been performed (R402). -/
def State.releaseEntries (s : State) (r : CtxRef) : State :=
  let names := (s.ctx r).grants
  let i := s.newId
  let s1 := if names.isEmpty then s else i.2
  s1.modCtx r (fun c =>
    { c with locks := []
             granted := []
             queue := if names.isEmpty then c.queue else c.queue ++ [⟨i.1, none, (s.tile (tileOf r)).issued * 256 + 3, true, true, false,
               .release names, c.level⟩] })

/-- Every claim of a context ends (R331, R334): its requests are withdrawn and its lock set is released. -/
def State.releaseAll (s : State) (r : CtxRef) : State := (s.withdrawRequests r).releaseEntries r

/-- A wound's release (R331): every claim of the task ends, and a wait for a lock ends with status WOUNDED (Table 11.5a). -/
def State.releaseWounded (s : State) (r : CtxRef) : State :=
  let waits := (s.ctx r).lockWaits
  (s.releaseAll r).modCtx r (fun c => waits.foldl (fun c x => c.answerWait x.2.1 x.2.2 (lockStatus 2 7)) c)

/-! The home crook -/

/-- compat(r, c) of a node's matrix (R322). -/
def Node.compat (n : Node) (r c : LockMode) : Bool := n.matrix.getLsbD (6 * modeCode r + modeCode c)

/-- The order of tuples of one length. -/
def tupleLt : List Nat → List Nat → Bool
  | a :: as, b :: bs => if a = b then tupleLt as bs else decide (a < b)
  | _, _ => false

/-- Whether one claim's task is younger than another's (R330). -/
def Claim.younger (x y : Claim) : Bool :=
  let k := fun (c : Claim) => [c.tick, c.ctx.node, c.ctx.tile, c.ctx.slot, c.order]
  tupleLt (k y) (k x)

/-- A lock object of a node. -/
def Node.lockObj (n : Node) (w : Word) : LockObj := (n.locks.find? (fun o => o.name == w)).getD ⟨w, [], []⟩

/-- The node with a lock object replaced; one without holder or waiter is free (R336). -/
def Node.setLockObj (n : Node) (o : LockObj) : Node :=
  let rest := n.locks.filter (fun x => x.name != o.name)
  { n with locks := if o.holders.isEmpty && o.queue.isEmpty then rest else o :: rest }

/-- The waiter entries in use (R336). -/
def Node.waiters (n : Node) : Nat := n.locks.foldl (fun m o => m + (o.holders.length - 2) + o.queue.length) 0

/-- Whether an object can take one more holder, or one more queued request (R336). -/
def Node.roomHolder (n : Node) (o : LockObj) : Bool :=
  if o.holders.isEmpty && o.queue.isEmpty then decide (n.locks.length < 65536)
  else decide (o.holders.length < 2) || decide (n.waiters < 16384)
def Node.roomWaiter (n : Node) : Bool := decide (n.waiters < 16384)

/-- A status sent to the context of a request (Table 15.2c). -/
def State.lockAnswer (s : State) (home : Nat) (q : Claim) (w v : Word) : State :=
  s.post home (.crookStatusMsg ⟨q.ctx.node, q.mode, q.ctx, w, q.tick, v, q.id⟩)

/-- A wound sent to a task, with the tick and the name of the request that wounds it (R331, Table 15.2c). -/
def State.wound (s : State) (home : Nat) (c : CtxRef) (w : Word) (tick : Nat) : State :=
  s.post home (.crookWoundMsg ⟨c.node, .is, c, w, tick, w, 0⟩)

/-- The queue scan (R328): at most `fuel` grants from the head. -/
def State.scanQueue (s : State) (home : Nat) (w : Word) : Nat → State
  | 0 => s
  | fuel + 1 =>
    let n := s.node home
    let o := n.lockObj w
    match o.queue with
    | [] => s
    | r :: rest =>
      if o.holders.all (fun h => h.ctx == r.ctx || n.compat r.mode h.mode) then
        let holders := o.holders.filter (fun h => h.ctx != r.ctx) ++ [{ r with upgrade := false }]
        let s1 := s.modNode home (fun n => n.setLockObj ⟨w, holders, rest⟩)
        State.scanQueue (s1.lockAnswer home r w (lockStatus 0 (modeCode r.mode))) home w fuel
      else s

/-- The scan of an object's whole queue. -/
def State.scanObj (s : State) (home : Nat) (w : Word) : State := s.scanQueue home w ((s.node home).lockObj w).queue.length

/-- A request judged on arrival (R327). -/
def State.judge (s : State) (home : Nat) (try' : Bool) (m : CrookMsg) : State :=
  let n := s.node home
  let o := n.lockObj m.name
  let q : Claim := ⟨m.ctx, m.tick, m.mode, n.arrivals, false, m.id⟩
  let s1 := s.modNode home (fun n => { n with arrivals := n.arrivals + 1 })
  let held := o.holders.all (fun h => n.compat m.mode h.mode)
  let fast := (m.mode == .is || m.mode == .ix) && held && o.queue.all (fun h => n.compat m.mode h.mode)
  if fast || (o.queue.isEmpty && held) then
    if n.roomHolder o then
      (s1.modNode home (fun n => n.setLockObj { o with holders := o.holders ++ [q] })).lockAnswer home q m.name
        (lockStatus 0 (modeCode m.mode))
    else s1.lockAnswer home q m.name (lockStatus 3 7)
  else if try' then s1.lockAnswer home q m.name (lockStatus 1 7)
  else if !n.roomWaiter then s1.lockAnswer home q m.name (lockStatus 3 7)
  else
    let victims := (o.holders ++ o.queue).filter (fun h => !n.compat m.mode h.mode && h.younger q)
    (victims.foldl (fun s h => s.wound home h.ctx m.name q.tick) s1).modNode home
      (fun n => n.setLockObj { o with queue := o.queue ++ [q] })

/-- An upgrade judged on arrival (R329, R336). A task that no longer holds the object has released it meanwhile. -/
def State.judgeUpgrade (s : State) (home : Nat) (m : CrookMsg) : State :=
  let n := s.node home
  let o := n.lockObj m.name
  match o.holders.find? (fun h => h.ctx == m.ctx) with
  | none => s
  | some old =>
    let q : Claim := ⟨m.ctx, m.tick, m.mode, n.arrivals, true, m.id⟩
    let others := o.holders.filter (fun h => h.ctx != m.ctx)
    let s1 := s.modNode home (fun n => { n with arrivals := n.arrivals + 1 })
    if others.all (fun h => n.compat m.mode h.mode) then
      (s1.modNode home (fun n => n.setLockObj { o with holders := others ++ [{ q with upgrade := false }] })).lockAnswer home
        q m.name (lockStatus 0 (modeCode m.mode))
    else if !n.roomWaiter then s1.lockAnswer home q m.name (lockStatus 3 (modeCode old.mode))
    else
      let u := o.queue.find? (fun x => x.upgrade)
      let lose := match u with
        | some x => q.younger x
        | none => false
      let s2 := match u with
        | some x => if lose then s1.wound home m.ctx m.name x.tick else s1.wound home x.ctx m.name q.tick
        | none => s1
      if lose then s2
      else
        ((others.filter (fun h => !n.compat m.mode h.mode && h.younger q)).foldl (fun s h => s.wound home h.ctx m.name q.tick) s2).modNode
          home (fun n => n.setLockObj { o with queue := q :: o.queue })

/-- A context's claim on an object ends: the held one, or the queued one (R328, R334). -/
def State.endClaim (s : State) (home : Nat) (c : CtxRef) (w : Word) (holder : Bool) : State :=
  let others := fun (cs : List Claim) => cs.filter (fun h => h.ctx != c)
  let s1 := s.modNode home (fun n =>
    let o := n.lockObj w
    n.setLockObj (if holder then { o with holders := others o.holders } else { o with queue := others o.queue }))
  s1.scanObj home w

/-- A new matrix, and the scans it brings (R323, R328). -/
def State.setMatrix (s : State) (home : Nat) (v : Word) : State :=
  let s1 := s.modNode home (fun n => { n with matrix := v.setWidth 36 })
  ((s1.node home).locks.map (fun o => o.name)).foldl (fun s w => s.scanObj home w) s1

/-- The answer to `LKQRY` (R341), MINE apart. -/
def lockQuery (o : LockObj) : Word :=
  let set := fun (cs : List Claim) => (List.range 6).foldl (fun acc m =>
    if cs.any (fun c => modeCode c.mode == m) then acc + 2 ^ m else acc) 0
  BitVec.ofNat 64 ((if o.holders.isEmpty && o.queue.isEmpty then 0 else 2 ^ 63) + set o.holders * 2 ^ 57 + set o.queue * 2 ^ 51
    + o.holders.length % 65536 * 2 ^ 35 + o.queue.length % 65536 * 2 ^ 19)

/-! Messages at their destination -/

/-- A message of the net is taken where it is one; what is not on its way changes nothing. -/
def State.taking (s : State) (e : Event) (f : State → State) : Out :=
  .next (if s.net.contains e then f { s with net := s.net.erase e } else s)

/-- A context's message is taken by its home after those the context sent there before it (R321, R406). -/
def State.takingAsk (s : State) (e : Event) (f : State → State) : Out :=
  let same := fun (x : Event) => match x.crookAsk, e.crookAsk with
    | some a, some b => a.ctx == b.ctx && a.dest == b.dest
    | _, _ => false
  if s.net.find? same = some e then s.taking e f else .next s

/-- `CROOK_ACQUIRE_MSG` (R327). -/
def execCrookAcquireMsg (m : CrookMsg) (s : State) : Out := s.takingAsk (.crookAcquireMsg m) (fun s => s.judge m.dest false m)

/-- `CROOK_TRY_MSG` (R327, R340). -/
def execCrookTryMsg (m : CrookMsg) (s : State) : Out := s.takingAsk (.crookTryMsg m) (fun s => s.judge m.dest true m)

/-- `CROOK_UPGRADE_MSG` (R329). -/
def execCrookUpgradeMsg (m : CrookMsg) (s : State) : Out := s.takingAsk (.crookUpgradeMsg m) (fun s => s.judgeUpgrade m.dest m)

/-- `CROOK_RELEASE_MSG` (R334). -/
def execCrookReleaseMsg (m : CrookMsg) (s : State) : Out :=
  s.takingAsk (.crookReleaseMsg m) (fun s => s.endClaim m.dest m.ctx m.name true)

/-- `CROOK_WITHDRAW_MSG` (R331, R334). -/
def execCrookWithdrawMsg (m : CrookMsg) (s : State) : Out :=
  s.takingAsk (.crookWithdrawMsg m) (fun s => s.endClaim m.dest m.ctx m.name false)

/-- `CROOK_QUERY_MSG` (R341). -/
def execCrookQueryMsg (m : CrookMsg) (s : State) : Out :=
  s.takingAsk (.crookQueryMsg m) (fun s =>
    s.post m.dest (.crookQueryResultMsg ⟨m.ctx.node, .is, m.ctx, m.name, m.tick, lockQuery ((s.node m.dest).lockObj m.name), m.id⟩))

/-- Whether an answer belongs to the request numbered `k` of a context: one that crossed a link carries no number, and its name and its
tree's tick tell (R401, log entry 120). -/
def Ctx.answeredBy (c : Ctx) (m : CrookMsg) (k : Nat) : Bool :=
  m.tick == c.tick % 2 ^ 56 && (m.id == 0 || k % 65536 == m.id % 65536)

/-- A grant that no request of its context waits for any more is given up, unless a release of the object is still on its way. -/
def State.giveUpGrant (s : State) (m : CrookMsg) : State :=
  let queued := (s.ctx m.ctx).queue.any (fun e => match e.op with
    | .release ns => ns.contains m.name
    | _ => false)
  if wfld m.result 60 4 ≠ 0 ∨ queued then s
  else s.post m.ctx.node (.crookReleaseMsg (crookMsg m.ctx m.name .is m.tick 0))

/-- A status reaches its context (R338 to R340): the landing of an `LKTRY`, or the destination of a wait. NOHOME ends an `LKUPG`'s claim with
its home (R324, R433); a grant to an interrupted block whose entry the handler has released since is given up. -/
def State.takeStatus (s : State) (m : CrookMsg) : State :=
  let r := m.ctx
  let c := s.ctx r
  let stat := wfld m.result 60 4
  match c.landings.find? (fun l => l.kind == .lockTry m.name && l.value.isNone && c.answeredBy m l.id) with
  | some l =>
    let s1 := s.modCtx r (fun c => c.modLanding l.id (fun x => x.deliver m.result))
    if (c.lockEntry m.name).isNone then s1.giveUpGrant m
    else if stat = 0 then s1.modCtx r (fun c => { c with granted := c.granted ++ [m.name] })
    else s1
  | none =>
    match c.lockWaits.find? (fun x => x.1 == m.name && c.answeredBy m x.2.2) with
    | some (w, d, n) =>
      let e' : Option LockEntry := match c.lockEntry w with
        | none => none
        | some x => if stat = 0 then some ⟨w, modeOfCode (wfld m.result 57 3), false⟩ else if x.pending ∨ stat = 4 then none else some x
      let s1 := s.modCtx r (fun c => (c.setLock w e').answerWait d n m.result)
      if !c.waitsNow n && (c.lockEntry w).isNone then s1.giveUpGrant m else s1
    | none => s.giveUpGrant m

/-- `CROOK_STATUS_MSG` (R338 to R340). -/
def execCrookStatusMsg (m : CrookMsg) (s : State) : Out := s.taking (.crookStatusMsg m) (fun s => s.takeStatus m)

/-- `CROOK_QUERY_RESULT_MSG` (R341): MINE comes from the context's own lock set. -/
def execCrookQueryResultMsg (m : CrookMsg) (s : State) : Out :=
  s.taking (.crookQueryResultMsg m) (fun s =>
    let c := s.ctx m.ctx
    let mine := match c.holds m.name with
      | some h => modeCode h
      | none => 7
    match c.landings.find? (fun l => l.kind == .lockQuery && l.addr == m.name && l.value.isNone && c.answeredBy m l.id) with
    | some l => s.modCtx m.ctx (fun c => c.modLanding l.id (fun x => x.deliver (m.result &&& 0xFFFFFFFFFFFFFFF8 ||| BitVec.ofNat 64 mine)))
    | none => s)

/-- `CROOK_WOUND_MSG` (R331): the wound has reached the task's node. -/
def execCrookWoundMsg (m : CrookMsg) (s : State) : Out :=
  s.taking (.crookWoundMsg m) (fun s => s.send (.woundDelivery m.ctx m.name))

/-- Whether a task still has a claim on some crook: an entry of its lock set, or a release of the object not yet sent. -/
def Ctx.claims (c : Ctx) (w : Word) : Bool :=
  !c.locks.isEmpty || c.queue.any (fun e => match e.op with
    | .release ns => ns.contains w
    | _ => false)

/-- A wound stands against a context, the first one that comes (R331). -/
def Ctx.wounded (c : Ctx) (w : Word) (wall : Nat) : Ctx :=
  if c.wound.isSome then c else { c with wound := some w, woundSince := wall }

/-- Delivery of a wound to a context (Table 11.5a): a wait for a lock is cancelled with WOUNDED, any other task takes `WOUND` at
a boundary; the locks are released here unless the task runs. A task without a claim is past it. -/
def State.deliverWound (s : State) (r : CtxRef) (w : Word) : State :=
  let c := s.ctx r
  let wall := (s.tile (tileOf r)).wall
  if c.claims w = false ∨ c.st = .ending ∨ c.st = .free then s
  else match c.st, c.wait with
    | .running, _ => s.modCtx r (fun c => c.wounded w wall)
    | _, .lock _ _ => s.releaseWounded r
    | _, _ => (s.releaseWounded r).modCtx r (fun c => c.wounded w wall)

/-- `WOUND_DELIVERY` (R331). -/
def execWoundDelivery (c : CtxRef) (w : Word) (s : State) : Out := s.taking (.woundDelivery c w) (fun s => s.deliverWound c w)

/-- Whether a pending wound's locks are due for release: 4 µs after its arrival, whatever the task's state (R331). -/
def Ctx.woundLate (c : Ctx) (wall : Nat) : Bool := c.wound.isSome && decide (c.woundSince + 5000 ≤ wall) && !c.locks.isEmpty

/-- `WOUND_RELEASE_TIMEOUT` (R331, Table 11.5a). -/
def execWoundReleaseTimeout (c : CtxRef) (s : State) : Out :=
  .next (if (s.ctx c).woundLate (s.tile (tileOf c)).wall then s.releaseWounded c else s)

/-! The crook instructions -/

/-- A request that ends the block (R339). -/
def State.issueLock (s : State) (e : CrookMsg → Event) (d : Dst) (w : Word) (m : LockMode) : State :=
  let i := s.newId
  let s1 := (i.2.modCur (fun c => { c with waitSeq := i.1 })).request s.me (crookMsg s.me w m s.cur.tick i.1) e
  { s1 with issue := { s1.issue with endBlock := some (.lock w d) } }

/-- `LKACQ` (R339). -/
def execLkacq (g : Guard) (d : Dst) (a : Src) (m : LockMode) (s : State) : Out :=
  runOp .e g (fun s => (Checks.reads (s.cur.unsetE a)).withOwn (acquireFault s.cur (s.cur.srcE a) m))
    (fun s =>
      let w := s.cur.srcE a
      (s.issueLock .crookAcquireMsg d w m).modCur (fun c => c.setLock w (some ⟨w, m, true⟩))) s

/-- `LKUPG` (R339). -/
def execLkupg (g : Guard) (d : Dst) (a : Src) (m : LockMode) (s : State) : Out :=
  runOp .e g (fun s => (Checks.reads (s.cur.unsetE a)).withOwn (upgradeFault s.cur (s.cur.srcE a) m))
    (fun s => s.issueLock .crookUpgradeMsg d (s.cur.srcE a) m) s

/-- `LKREL` (R342, R334). -/
def execLkrel (g : Guard) (a : Src) (s : State) : Out :=
  runOp .e g (fun s => (Checks.reads (s.cur.unsetE a)).withOwn (releaseFault s.cur (s.cur.srcE a)))
    (fun s =>
      let w := s.cur.srcE a
      (s.queueOp .e true true (.release [w])).modCur (fun c => c.setLock w none)) s

/-- `LKRELA` (R342). -/
def execLkrela (g : Guard) (s : State) : Out := runOp .e g (fun _ => Checks.reads false) (fun s => s.releaseEntries s.me) s

/-- `LKMAT` (R343). -/
def execLkmat (g : Guard) (a : Src) (s : State) : Out :=
  runOp .e g (fun s =>
      { Checks.reads (s.cur.unsetE a) with
        priv := if s.cur.level = 0 then some 0 else none
        own := if (s.cur.srcE a).toNat < 2 ^ 36 then none else some (.bound, s.cur.srcE a) })
    (fun s => s.pend .e 1 false (.matrix (s.cur.srcE a))) s

/-- The earliest landing of a crook instruction (Table 1.4); an object of another node is no nearer. -/
def earliestLock : Nat := 24

/-- `LKTRY` (R340). -/
def execLktry (g : Guard) (l : BitVec 10) (m : LockMode) (d : BitVec 4) (a : Src) (s : State) : Out :=
  runOp .e g (fun s =>
      { Checks.reads (s.cur.unsetE a) with own := acquireFault s.cur (s.cur.srcE a) m, timed := true })
    (fun s =>
      let w := s.cur.srcE a
      let x := s.takeLanding .e (.lockTry w) l .e (d.setWidth 5) w 8 earliestLock false
      (x.2.modCur (fun c => c.setLock w (some ⟨w, m, true⟩))).request s.me (crookMsg s.me w m s.cur.tick x.1) .crookTryMsg) s

/-- `LKQRY` (R341); a home outside the pasture answers as an object without an entry (log entry 14). -/
def execLkqry (g : Guard) (l : BitVec 10) (d : BitVec 4) (a : Src) (s : State) : Out :=
  runOp .e g (fun s => { Checks.reads (s.cur.unsetE a) with own := nameFault (s.cur.srcE a) false, timed := true })
    (fun s =>
      let w := s.cur.srcE a
      let x := s.takeLanding .e .lockQuery l .e (d.setWidth 5) w 8 earliestLock false
      let q := crookMsg s.me w .is s.cur.tick x.1
      if s.hasHome s.me q then x.2.ask s.me q .crookQueryMsg
      else x.2.send (.crookQueryResultMsg { q with dest := s.me.node })) s

end Sys2Proof.Machine
end

