-- ==== Sys2Proof/Machine/Scalar.lean ====
section
/-! DEFINITION. The A slot's integer and bit operations, multiplies and divides, compares, selection and predicates
(spec/04 R112 to R122). -/

namespace Sys2Proof.Machine

/-- The `STACK` check of a latency-1 write of a31 (R124). -/
def stackCheck (c : Ctx) (d : Dst) (v : Word) : Option (Cause × Word) :=
  match d with
  | .reg n => if n = 31 ∧ c.slim < c.sbase ∧ (v < c.slim ∨ c.sbase < v) then some (.stack, v) else none
  | .drop => none

/-- An A operation of latency 1 with a general destination (R114, R124). -/
def runAlu (g : Guard) (d : Dst) (unset : Ctx → Bool) (f : Ctx → Word) (s : State) : Out :=
  runOp .a g (fun s => (Checks.reads (unset s.cur)).withOwn (stackCheck s.cur d (f s.cur)))
    (fun s => s.resultWord .a .a 1 d (f s.cur)) s

/-- The two-source, immediate and one-source forms (R112). -/
def runAlu2 (g : Guard) (d : Dst) (a b : Src) (op : Word → Word → Word) (s : State) : Out :=
  runAlu g d (fun c => c.unsetA a || c.unsetA b) (fun c => op (c.srcA a) (c.srcA b)) s
def runAluI (g : Guard) (d : Dst) (a : Src) (i : Word) (op : Word → Word → Word) (s : State) : Out :=
  runAlu g d (fun c => c.unsetA a) (fun c => op (c.srcA a) i) s
def runAlu1 (g : Guard) (d : Dst) (a : Src) (op : Word → Word) (s : State) : Out :=
  runAlu g d (fun c => c.unsetA a) (fun c => op (c.srcA a)) s

/-- A multiply or divide: a two-source operation of latency `lat` that no check but its sources stops (R119). -/
def runLong (g : Guard) (d : Dst) (a b : Src) (lat : Nat) (op : Word → Word → Word) (s : State) : Out :=
  runOp .a g (fun s => Checks.reads (s.cur.unsetA a || s.cur.unsetA b))
    (fun s => s.resultWord .a .a lat d (op (s.cur.srcA a) (s.cur.srcA b))) s

/-- The shift count of a register shift (Table 4.2). -/
def shiftCount (b : Word) : Nat := b.toNat % 64

/-- The two-operand operations (Table 4.2) and `ADDX` (R115). -/
def opShl (a b : Word) : Word := a <<< shiftCount b
def opShr (a b : Word) : Word := a >>> shiftCount b
def opSar (a b : Word) : Word := a.sshiftRight (shiftCount b)
def opRol (a b : Word) : Word := a.rotateLeft (shiftCount b)
def opMin (a b : Word) : Word := if a.slt b then a else b
def opMax (a b : Word) : Word := if a.slt b then b else a
def opMinu (a b : Word) : Word := if a < b then a else b
def opMaxu (a b : Word) : Word := if a < b then b else a
def opAddx (a b : Word) : Word := (a &&& 0xF000000000000000) ||| ((a + b) &&& 0x0FFFFFFFFFFFFFFF)

/-- The one-operand operations (Table 4.3). -/
def opClz (a : Word) : Word := BitVec.ofNat 64 (64 - bitLen a.toNat)
def opCtz (a : Word) : Word := BitVec.ofNat 64 (((List.range 64).find? (fun i => a.getLsbD i)).getD 64)
def opPopc (a : Word) : Word := BitVec.ofNat 64 ((List.range 64).filter (fun i => a.getLsbD i)).length
def opBrev (a : Word) : Word :=
  BitVec.ofNat 64 ((List.range 64).foldl (fun acc i => if a.getLsbD (63 - i) then acc + 2 ^ i else acc) 0)
def opBswap (a : Word) : Word := bytesWord (wordBytes a).reverse
def extBits : ExtW → Nat
  | .byte => 8
  | .half => 16
  | .word => 32
def opSext (w : ExtW) (a : Word) : Word := BitVec.ofInt 64 (sfld a.toNat 0 (extBits w))
def opZext (w : ExtW) (a : Word) : Word := BitVec.ofNat 64 (fld a.toNat 0 (extBits w))

/-- Multiplication and division (Table 4.4). -/
def opMulh (a b : Word) : Word := BitVec.ofInt 64 (a.toInt * b.toInt / 2 ^ 64)
def opMulhu (a b : Word) : Word := BitVec.ofNat 64 (a.toNat * b.toNat / 2 ^ 64)
def opDiv (a b : Word) : Word := if b = 0 then BitVec.allOnes 64 else BitVec.ofInt 64 (a.toInt.tdiv b.toInt)
def opDivu (a b : Word) : Word := if b = 0 then BitVec.allOnes 64 else BitVec.ofNat 64 (a.toNat / b.toNat)
def opRem (a b : Word) : Word := if b = 0 then a else BitVec.ofInt 64 (a.toInt.tmod b.toInt)
def opRemu (a b : Word) : Word := if b = 0 then a else BitVec.ofNat 64 (a.toNat % b.toNat)

/-- The field of `EXTR` and `INSR`: position, width and mask (R117). -/
def fieldPos (b : Word) : Nat := wfld b 0 6
def fieldLen (b : Word) : Nat := min (wfld b 8 7) (64 - fieldPos b)
def fieldMask (b : Word) : Word := BitVec.ofNat 64 ((2 ^ fieldLen b - 1) * 2 ^ fieldPos b)
def opExtr (a b : Word) : Word := (a &&& fieldMask b) >>> fieldPos b
def opInsr (d a b : Word) : Word := (d &&& ~~~(fieldMask b)) ||| ((a <<< fieldPos b) &&& fieldMask b)

/-- `MOVH` at a half-word position (R118). -/
def opMovh (h : Nat) (d : Word) (i : BitVec 16) : Word := setFld d (16 * h) 16 i.toNat

/-- An integer condition on two words (Table 3.5). -/
def condHolds (c : ICond) (a b : Word) : Bool :=
  match c with
  | .eq => a == b
  | .ne => a != b
  | .lt => a.slt b
  | .ge => !(a.slt b)
  | .ltu => decide (a < b)
  | .geu => !decide (a < b)

/-- `ADD` (R114). -/
def execAdd (g : Guard) (d : Dst) (a b : Src) (s : State) : Out :=
  runAlu2 g d a b (· + ·) s

/-- `SUB` (R114). -/
def execSub (g : Guard) (d : Dst) (a b : Src) (s : State) : Out :=
  runAlu2 g d a b (· - ·) s

/-- `AND` (R114). -/
def execAnd (g : Guard) (d : Dst) (a b : Src) (s : State) : Out :=
  runAlu2 g d a b (· &&& ·) s

/-- `OR` (R114). -/
def execOr (g : Guard) (d : Dst) (a b : Src) (s : State) : Out :=
  runAlu2 g d a b (· ||| ·) s

/-- `XOR` (R114). -/
def execXor (g : Guard) (d : Dst) (a b : Src) (s : State) : Out :=
  runAlu2 g d a b (· ^^^ ·) s

/-- `ANDN` (R114). -/
def execAndn (g : Guard) (d : Dst) (a b : Src) (s : State) : Out :=
  runAlu2 g d a b (fun x y => x &&& ~~~y) s

/-- `SHL` (R114). -/
def execShl (g : Guard) (d : Dst) (a b : Src) (s : State) : Out :=
  runAlu2 g d a b opShl s

/-- `SHR` (R114). -/
def execShr (g : Guard) (d : Dst) (a b : Src) (s : State) : Out :=
  runAlu2 g d a b opShr s

/-- `SAR` (R114). -/
def execSar (g : Guard) (d : Dst) (a b : Src) (s : State) : Out :=
  runAlu2 g d a b opSar s

/-- `ROL` (R114). -/
def execRol (g : Guard) (d : Dst) (a b : Src) (s : State) : Out :=
  runAlu2 g d a b opRol s

/-- `MIN` (R114). -/
def execMin (g : Guard) (d : Dst) (a b : Src) (s : State) : Out :=
  runAlu2 g d a b opMin s

/-- `MAX` (R114). -/
def execMax (g : Guard) (d : Dst) (a b : Src) (s : State) : Out :=
  runAlu2 g d a b opMax s

/-- `MINU` (R114). -/
def execMinu (g : Guard) (d : Dst) (a b : Src) (s : State) : Out :=
  runAlu2 g d a b opMinu s

/-- `MAXU` (R114). -/
def execMaxu (g : Guard) (d : Dst) (a b : Src) (s : State) : Out :=
  runAlu2 g d a b opMaxu s

/-- `ADDX` (R115). -/
def execAddx (g : Guard) (d : Dst) (a b : Src) (s : State) : Out :=
  runAlu2 g d a b opAddx s

/-- `CLZ` (R116). -/
def execClz (g : Guard) (d : Dst) (a : Src) (s : State) : Out :=
  runAlu1 g d a opClz s

/-- `CTZ` (R116). -/
def execCtz (g : Guard) (d : Dst) (a : Src) (s : State) : Out :=
  runAlu1 g d a opCtz s

/-- `POPC` (R116). -/
def execPopc (g : Guard) (d : Dst) (a : Src) (s : State) : Out :=
  runAlu1 g d a opPopc s

/-- `BREV` (R116). -/
def execBrev (g : Guard) (d : Dst) (a : Src) (s : State) : Out :=
  runAlu1 g d a opBrev s

/-- `BSWAP` (R116). -/
def execBswap (g : Guard) (d : Dst) (a : Src) (s : State) : Out :=
  runAlu1 g d a opBswap s

/-- `SEXT` (R116). -/
def execSext (g : Guard) (d : Dst) (a : Src) (w : ExtW) (s : State) : Out :=
  runAlu1 g d a (opSext w) s

/-- `ZEXT` (R116). -/
def execZext (g : Guard) (d : Dst) (a : Src) (w : ExtW) (s : State) : Out :=
  runAlu1 g d a (opZext w) s

/-- `MOV` (R116). -/
def execMov (g : Guard) (d : Dst) (a : Src) (s : State) : Out :=
  runAlu1 g d a id s

/-- `MUL` (R119). -/
def execMul (g : Guard) (d : Dst) (a b : Src) (s : State) : Out :=
  runLong g d a b 3 (· * ·) s

/-- `MULH` (R119). -/
def execMulh (g : Guard) (d : Dst) (a b : Src) (s : State) : Out :=
  runLong g d a b 3 opMulh s

/-- `MULHU` (R119). -/
def execMulhu (g : Guard) (d : Dst) (a b : Src) (s : State) : Out :=
  runLong g d a b 3 opMulhu s

/-- `DIV` (R119). -/
def execDiv (g : Guard) (d : Dst) (a b : Src) (s : State) : Out :=
  runLong g d a b 24 opDiv s

/-- `DIVU` (R119). -/
def execDivu (g : Guard) (d : Dst) (a b : Src) (s : State) : Out :=
  runLong g d a b 24 opDivu s

/-- `REM` (R119). -/
def execRem (g : Guard) (d : Dst) (a b : Src) (s : State) : Out :=
  runLong g d a b 24 opRem s

/-- `REMU` (R119). -/
def execRemu (g : Guard) (d : Dst) (a b : Src) (s : State) : Out :=
  runLong g d a b 24 opRemu s

/-- `EXTR` (R117). -/
def execExtr (g : Guard) (d : Dst) (a b : Src) (s : State) : Out :=
  runAlu2 g d a b opExtr s

/-- `INSR` (R117): the destination is a third operand. -/
def execInsr (g : Guard) (d : BitVec 5) (a b : Src) (s : State) : Out :=
  runAlu g (.reg d) (fun c => c.unsetA a || c.unsetA b || c.unsetA (.reg d))
    (fun c => opInsr (c.srcA (.reg d)) (c.srcA a) (c.srcA b)) s

/-- `SEL` (R121): predicate `k`, inverted when `v`. -/
def execSel (g : Guard) (d : Dst) (a b : Src) (v : Bool) (k : BitVec 3) (s : State) : Out :=
  runAlu g d (fun c => c.unsetP k || c.unsetA a || c.unsetA b)
    (fun c => if xor (c.pred k.toNat) v then c.srcA a else c.srcA b) s

/-- A write of a predicate at latency 1, checked for its sources alone (R120, R122). -/
def runPred (g : Guard) (q : BitVec 3) (unset : Ctx → Bool) (f : Ctx → Bool) (s : State) : Out :=
  runOp .a g (fun s => Checks.reads (unset s.cur)) (fun s => s.result .a 1 false (.pred q (f s.cur)) 0) s

/-- `CMP` (R120). -/
def execCmp (g : Guard) (c : ICond) (q : BitVec 3) (a b : Src) (s : State) : Out :=
  runPred g q (fun x => x.unsetA a || x.unsetA b) (fun x => condHolds c (x.srcA a) (x.srcA b)) s

/-- `CMPI` (R120). -/
def execCmpi (g : Guard) (c : ICond) (q : BitVec 3) (a : Src) (i : BitVec 10) (s : State) : Out :=
  runPred g q (fun x => x.unsetA a) (fun x => condHolds c (x.srcA a) (i.signExtend 64)) s

/-- `PAND` (R122). -/
def execPand (g : Guard) (d a b : BitVec 3) (s : State) : Out :=
  runPred g d (fun c => c.unsetP a || c.unsetP b) (fun c => c.pred a.toNat && c.pred b.toNat) s

/-- `POR` (R122). -/
def execPor (g : Guard) (d a b : BitVec 3) (s : State) : Out :=
  runPred g d (fun c => c.unsetP a || c.unsetP b) (fun c => c.pred a.toNat || c.pred b.toNat) s

/-- `PNOT` (R122). -/
def execPnot (g : Guard) (d a : BitVec 3) (s : State) : Out :=
  runPred g d (fun c => c.unsetP a) (fun c => !c.pred a.toNat) s

/-- `ADDI` (R113, R114). -/
def execAddi (g : Guard) (d : Dst) (a : Src) (i : BitVec 10) (s : State) : Out :=
  runAluI g d a (i.signExtend 64) (· + ·) s

/-- `SUBI` (R113, R114). -/
def execSubi (g : Guard) (d : Dst) (a : Src) (i : BitVec 10) (s : State) : Out :=
  runAluI g d a (i.signExtend 64) (· - ·) s

/-- `ANDI` (R113, R114). -/
def execAndi (g : Guard) (d : Dst) (a : Src) (i : BitVec 10) (s : State) : Out :=
  runAluI g d a (i.signExtend 64) (· &&& ·) s

/-- `ORI` (R113, R114). -/
def execOri (g : Guard) (d : Dst) (a : Src) (i : BitVec 10) (s : State) : Out :=
  runAluI g d a (i.setWidth 64) (· ||| ·) s

/-- `XORI` (R113, R114). -/
def execXori (g : Guard) (d : Dst) (a : Src) (i : BitVec 10) (s : State) : Out :=
  runAluI g d a (i.setWidth 64) (· ^^^ ·) s

/-- `SHLI` (R113, R114). -/
def execShli (g : Guard) (d : Dst) (a : Src) (i : BitVec 6) (s : State) : Out :=
  runAluI g d a (i.setWidth 64) opShl s

/-- `SHRI` (R113, R114). -/
def execShri (g : Guard) (d : Dst) (a : Src) (i : BitVec 6) (s : State) : Out :=
  runAluI g d a (i.setWidth 64) opShr s

/-- `SARI` (R113, R114). -/
def execSari (g : Guard) (d : Dst) (a : Src) (i : BitVec 6) (s : State) : Out :=
  runAluI g d a (i.setWidth 64) opSar s

/-- `MOVI` (R118). -/
def execMovi (g : Guard) (d : Dst) (i : BitVec 16) (s : State) : Out :=
  runAlu g d (fun _ => false) (fun _ => i.signExtend 64) s

/-- `MOVH` at half-word 1 (R118). -/
def execMovh1 (g : Guard) (d : BitVec 5) (i : BitVec 16) (s : State) : Out :=
  runAlu g (.reg d) (fun c => c.unsetA (.reg d)) (fun c => opMovh 1 (c.srcA (.reg d)) i) s

/-- `MOVH` at half-word 2 (R118). -/
def execMovh2 (g : Guard) (d : BitVec 5) (i : BitVec 16) (s : State) : Out :=
  runAlu g (.reg d) (fun c => c.unsetA (.reg d)) (fun c => opMovh 2 (c.srcA (.reg d)) i) s

/-- `MOVH` at half-word 3 (R118). -/
def execMovh3 (g : Guard) (d : BitVec 5) (i : BitVec 16) (s : State) : Out :=
  runAlu g (.reg d) (fun c => c.unsetA (.reg d)) (fun c => opMovh 3 (c.srcA (.reg d)) i) s

end Sys2Proof.Machine
end

