-- ==== Sys2Proof/Machine/Control.lean ====
section
/-! DEFINITION. The A slot's transfers, hardware loops, control registers, system instructions, duplicate check and `XMOV`
(spec/04 R123 to R141, spec/01 R39 to R44), and the loop test at a bundle's retirement. -/

namespace Sys2Proof.Machine

/-- The target of `BR` and `CALL`, and the `BOUND` check of every transfer (R125, R126). -/
def relTarget (c : Ctx) (i : BitVec 16) : Word := c.pc.setWidth 64 + i.signExtend 64
def targetCheck (t : Word) : Option (Cause × Word) := if t.toNat ≤ 4095 then none else some (.bound, t)

/-- A taken transfer: where control goes when the bundle retires, one bubble after it (R48); `leaves` for those that may end
loops (R42). -/
def State.transfer (s : State) (t : Word) (leaves : Bool) : State :=
  { s with issue := { s.issue with retire := .jump (t.setWidth 12) leaves, bubbles := 1 } }

/-- A transfer without a link (R125, R126). -/
def runJump (g : Guard) (unset : Ctx → Bool) (t : Ctx → Word) (s : State) : Out :=
  runOp .a g (fun s => (Checks.reads (unset s.cur)).withOwn (targetCheck (t s.cur)))
    (fun s => s.transfer (t s.cur) true) s

/-- A transfer that writes a link at latency 1 (R125, R126, R124). `BOUND` goes before `STACK`: DESIGN CHOICE (log entry 139). -/
def runCall (g : Guard) (d : Dst) (unset : Ctx → Bool) (t : Ctx → Word) (s : State) : Out :=
  runOp .a g (fun s => (Checks.reads (unset s.cur)).withOwn
      ((targetCheck (t s.cur)).or (stackCheck s.cur d (s.cur.pc.setWidth 64 + 1))))
    (fun s => (s.resultWord .a .a 1 d (s.cur.pc.setWidth 64 + 1)).transfer (t s.cur) false) s

/-- `BR` (R125). -/
def execBr (g : Guard) (i : BitVec 16) (s : State) : Out := runJump g (fun _ => false) (fun c => relTarget c i) s

/-- `JMP` (R125). -/
def execJmp (g : Guard) (a : Src) (s : State) : Out := runJump g (fun c => c.unsetA a) (fun c => c.srcA a) s

/-- `RET` (R127). -/
def execRet (g : Guard) (a : Src) (s : State) : Out := runJump g (fun c => c.unsetA a) (fun c => c.srcA a) s

/-- `CALL` (R125). -/
def execCall (g : Guard) (d : Dst) (i : BitVec 16) (s : State) : Out :=
  runCall g d (fun _ => false) (fun c => relTarget c i) s

/-- `CALLR` (R125). -/
def execCallr (g : Guard) (d : Dst) (a : Src) (s : State) : Out :=
  runCall g d (fun c => c.unsetA a) (fun c => c.srcA a) s

/-! Hardware loops -/

/-- The fields of a loop register (Table 1.5). -/
def lcAct (w : Word) : Bool := w.getLsbD 63
def lcEnd (w : Word) : Nat := wfld w 44 12
def lcStart (w : Word) : Nat := wfld w 32 12
def lcIter (w : Word) : Nat := wfld w 16 16
def lcLeft (w : Word) : Nat := wfld w 0 16

/-- A loop register from its fields. -/
def lcMake (act : Bool) (last start iter left : Nat) : Word :=
  BitVec.ofNat 64 ((if act then 2 ^ 63 else 0) + last % 4096 * 2 ^ 44 + start % 4096 * 2 ^ 32 + iter % 65536 * 2 ^ 16
    + left % 65536)

/-- Loop register `n`. -/
def Ctx.loopReg (c : Ctx) (n : Nat) : Word := (c.lc[n]?).getD 0
def Ctx.setLoopReg (c : Ctx) (n : Nat) (w : Word) : Ctx := { c with lc := c.lc.setIfInBounds n w }

/-- The lowest inactive loop register (R40). -/
def Ctx.freeLoop (c : Ctx) : Option Nat := (List.range 4).find? (fun n => !lcAct (c.loopReg n))

/-- The innermost active loop below register `n` (R40). -/
def Ctx.innerLoop (c : Ctx) (n : Nat) : Option Nat := ((List.range n).reverse).find? (fun k => lcAct (c.loopReg k))

/-- The loop test at index `i`, over the loop registers below `n`, `fuel` of them (R41, R130): the context, and the next bundle
if a loop returns to its start. -/
def Ctx.loopTest (c : Ctx) (i : Nat) : Nat → Nat → Ctx × Option Nat
  | 0, _ => (c, none)
  | fuel + 1, n =>
    match c.innerLoop n with
    | none => (c, none)
    | some k =>
      let w := c.loopReg k
      if lcEnd w != i then (c, none)
      else if 1 < lcLeft w then
        (c.setLoopReg k (lcMake true (lcEnd w) (lcStart w) (lcIter w + 1) (lcLeft w - 1)), some (lcStart w))
      else
        Ctx.loopTest (c.setLoopReg k (lcMake false (lcEnd w) (lcStart w) (lcIter w + 1) (lcLeft w))) i fuel k

/-- Where straight-line code goes after bundle `i`; past the last bundle the spec names none (log entry 6). -/
def nextIndex (i : Nat) : BitVec 12 := if 4095 ≤ i then Config.pcAfterLast else BitVec.ofNat 12 (i + 1)

/-- The retirement of bundle `i` without a transfer (R41, R130). -/
def Ctx.retireAt (c : Ctx) (i : Nat) : Ctx :=
  let r := c.loopTest i 4 4
  { r.1 with pc := match r.2 with
      | some t => BitVec.ofNat 12 t
      | none => nextIndex i }

/-- A taken transfer clears the loops it leaves, from the innermost outward (R42). -/
def Ctx.leaveLoops (c : Ctx) (t : Nat) : Nat → Nat → Ctx
  | 0, _ => c
  | fuel + 1, n =>
    match c.innerLoop n with
    | none => c
    | some k =>
      let w := c.loopReg k
      if lcStart w ≤ t ∧ t ≤ lcEnd w then c
      else Ctx.leaveLoops (c.setLoopReg k (w &&& 0x7FFFFFFFFFFFFFFF)) t fuel k

/-- The checks of a loop instruction with count `n` (R128): `opa` is the count as read. -/
def loopChecks (c : Ctx) (l : BitVec 12) (unset : Bool) (n : Int) (opa : Word) : Checks :=
  { Checks.reads unset with
    illegal := decide (4095 < c.pc.toNat + 1 + l.toNat)
    own := if 65535 < n then some (.stack, opa)
      else if 0 < n ∧ c.freeLoop.isNone then some (.stack, 0) else none }

/-- The start of a loop, or its skip (R128, R129). -/
def State.startLoop (s : State) (l : BitVec 12) (n : Int) : State :=
  let c := s.cur
  let start := c.pc.toNat + 1
  let last := start + l.toNat
  if n ≤ 0 then { s with issue := { s.issue with retire := .skip last, bubbles := 1 } }
  else match c.freeLoop with
    | none => s
    | some k => { s with issue := { s.issue with loop := some (BitVec.ofNat 2 k, lcMake true last start 0 n.toNat) } }

/-- `LOOPI` (R128). -/
def execLoopi (g : Guard) (l : BitVec 12) (c : BitVec 10) (s : State) : Out :=
  runOp .a g (fun s => loopChecks s.cur l false (c.toNat : Int) (c.setWidth 64)) (fun s => s.startLoop l (c.toNat : Int)) s

/-- `LOOP` (R128). -/
def execLoop (g : Guard) (l : BitVec 12) (a : Src) (s : State) : Out :=
  runOp .a g (fun s => loopChecks s.cur l (s.cur.unsetA a) (s.cur.srcA a).toInt (s.cur.srcA a))
    (fun s => s.startLoop l (s.cur.srcA a).toInt) s

/-! Control registers -/

/-- Whether a control register names a tile register beyond the share (R103, R135). -/
def cregBeyond (t : Tile) : CReg → Bool
  | .tshape n => decide (t.tregShare ≤ n.toNat)
  | _ => false

/-- `MTCR` (R133). -/
def execMtcr (g : Guard) (a : Src) (r : CReg) (s : State) : Out :=
  runOp .a g (fun s =>
      { Checks.reads (s.cur.unsetA a) with
        illegal := cregBeyond s.here r
        priv := if s.cur.level < cregWriteLevel r then some (r.number.setWidth 64) else none })
    (fun s => s.result .a 3 false (.creg r (s.cur.srcA a)) 0) s

/-- `MFCR` (R134). -/
def execMfcr (g : Guard) (d : Dst) (r : CReg) (s : State) : Out :=
  runOp .a g (fun s =>
      { Checks.reads false with
        illegal := cregBeyond s.here r
        priv := if s.cur.level < cregReadLevel r then some (r.number.setWidth 64) else none })
    (fun s => s.resultWord .a .a 2 d (readCReg s.focus s.here s.slot r)) s

/-! System instructions -/

/-- `TRAP` (R137): the request is made when the bundle retires. -/
def execTrap (g : Guard) (k : BitVec 4) (s : State) : Out :=
  runOp .a g (fun _ => Checks.reads false) (fun s => { s with issue := { s.issue with trap := some k } }) s

/-- `TRET` (R138, R196). -/
def execTret (g : Guard) (s : State) : Out :=
  runOp .a g (fun s => (Checks.reads false).withPriv (if s.cur.level = 0 then some 0 else none))
    (fun s => let s1 := s.trapReturn s.me
      { s1 with issue := { s1.issue with tret := true } }) s

/-- `IFENCE` (R139): issue is held until the writes to instruction memory accepted before it have completed, and for 4 wall
cycles. -/
def execIfence (g : Guard) (s : State) : Out :=
  runOp .a g (fun _ => Checks.reads false)
    (fun s => let w := s.here.wall
      s.modCur (fun c => { c with fencing := true, holdUntil := w + 4 })) s

/-- `DCHK` (R140). -/
def execDchk (g : Guard) (a b : Src) (s : State) : Out :=
  runOp .a g (fun s => (Checks.reads (s.cur.unsetA a || s.cur.unsetA b)).withOwn
      (if s.cur.srcA a = s.cur.srcA b then none else some (.dupchk, s.cur.srcA a ^^^ s.cur.srcA b))) id s

/-- The 64 bits an `XMOV` moves, and whether its source is unset (R141). -/
def xmovSource (c : Ctx) (a : Src) (k : BitVec 4) : RFile → Word
  | .a => c.srcA a
  | .m => c.srcM a
  | .e => c.srcE a
  | .v => (c.srcV a >>> (64 * k.toNat)).setWidth 64
def xmovUnset (c : Ctx) (a : Src) : RFile → Bool
  | .a => c.unsetA a
  | .m => c.unsetM a
  | .e => c.unsetE a
  | .v => c.unsetV a

/-- What an `XMOV` writes (R141). -/
def xmovEffect (d : BitVec 5) (k : BitVec 4) (v : Word) : RFile → Effect
  | .v => .vec d false (v.setWidth 1024 <<< (64 * k.toNat)) ((BitVec.allOnes 64).setWidth 1024 <<< (64 * k.toNat))
  | f => .word f d false v

/-- `XMOV` (R39, R141): destination file `df`, source file `sf`. -/
def execXmov (g : Guard) (d : BitVec 5) (a : Src) (k : BitVec 4) (df sf : RFile) (s : State) : Out :=
  runOp .a g (fun s => Checks.reads (xmovUnset s.cur a sf))
    (fun s => s.result .a 2 true (xmovEffect d k (xmovSource s.cur a k sf) df) 0) s

/-- `NOP` (R90). -/
def execNop (s : State) : Out := .next s

end Sys2Proof.Machine
end

