-- ==== Sys2Proof/Machine/Vector.lean ====
section
/-! DEFINITION. The V slot: lanes, masks, expanded sources, and how every V operation runs (spec/05 R143 to R148, R173,
R176, R181; spec/02 R78); the integer lanes, lane movement, integer reductions and scans, masks, random bits and the
duplicate check (R149 to R155, R157, R177 to R180). -/

namespace Sys2Proof.Machine

/-! Lanes -/

/-- Lane `i` of width `lw` (R143). -/
def lane (lw : Nat) (v : VReg) (i : Nat) : Nat := fld v.toNat (i * lw) lw

/-- Fields of a width packed from bit 0 upward. -/
def packLanes (lw : Nat) : List Nat → Nat
  | [] => 0
  | x :: xs => x % 2 ^ lw + 2 ^ lw * packLanes lw xs

/-- The signed value of a lane. -/
def slane (lw : Nat) (x : Nat) : Int := sfld x 0 lw

/-- The extension byte's fields (Table 3.3). -/
def State.xvMask (s : State) : BitVec 3 := s.issue.xv.extractLsb' 5 3
def State.xvRm (s : State) : Nat := (s.issue.xv.extractLsb' 2 3).toNat
def State.xvMz (s : State) : Bool := s.issue.xv.getLsbD 1

/-- Whether lane `i` of width `lw` is active (R144). -/
def State.active (s : State) (lw i : Nat) : Bool := (s.cur.mask s.xvMask.toNat).getLsbD (i * lw / 8)

/-- How lane `i` rounds: the mode, and with `.sr` its bits of the word popped at issue (R75). -/
def State.rounding (s : State) (i : Nat) : Rounding :=
  ⟨s.xvRm, if s.xvRm = 4 then rngBits (rngPop s.here.rng).1 i else 0⟩

/-- The state with the word of a stochastic rounding popped (R75). -/
def State.popIf (s : State) (b : Bool) : State := if b then s.modHere (fun t => { t with rng := (rngPop t.rng).2 }) else s

/-! Codebooks -/

/-- A change of the banks' entries (Table 9.17), on the entries and the valid keys. -/
def CbAct.apply (a : CbAct) (e : Sparse Word) (v : List Nat) : Sparse Word × List Nat :=
  match a with
  | .write b i x => (spPut e (256 * b + i.toNat) x, if v.contains (256 * b + i.toNat) then v else (256 * b + i.toNat) :: v)
  | .load b i xs =>
    (xs.zipIdx).foldl (fun acc p =>
      let k := 256 * b + (i.toNat + p.2) % 256
      (spPut acc.1 k p.1, if acc.2.contains k then acc.2 else k :: acc.2)) (e, v)
  | .invalidate b i n =>
    (e, v.filter (fun k => !(k / 256 == b && decide ((k % 256 + 256 - i.toNat) % 256 < n))))

/-- The banks as a context's V slot sees them now (R176): a write of the same context by its core cycle, of another by its
wall cycle. -/
def Tile.banks (t : Tile) (slot : Nat) : Sparse Word × List Nat :=
  t.pending.foldl (fun acc p =>
    match p.act with
    | .codebook a =>
      let seen := !p.held && (if p.slot = slot then decide (p.core ≤ t.core) else decide (p.wall ≤ t.wall))
      if seen then a.apply acc.1 acc.2 else acc
    | _ => acc) (t.cbEntry, t.cbValid)

/-- The index width of a bank, none for a reserved code; elements per index; base; policy (Table 2.12). -/
def cbWidth (ctl : Word) : Option Nat :=
  match wfld ctl 8 3 with
  | 0 => some 2
  | 1 => some 3
  | 2 => some 4
  | 3 => some 6
  | 4 => some 8
  | _ => none
def cbElems (ctl : Word) : Nat := 2 ^ wfld ctl 4 2
def cbBase (ctl : Word) : Nat := wfld ctl 16 8
def cbPol (ctl : Word) : Nat := wfld ctl 0 2

/-- Whether a bank's control refuses an expansion into lanes of `lw` bits (R78). -/
def cbRefused (ctl : Word) (lw : Nat) : Bool :=
  (cbWidth ctl).isNone || cbPol ctl == 3 || (cbElems ctl != 1 && lw != 64 / cbElems ctl)

/-- `XADDR` of a refused bank. -/
def cbBadAddr (bank : Nat) : Word := BitVec.ofNat 64 (2 ^ 63 + bank * 256)

/-- The expansion of one index (R78): the elements, whether the entry was invalid, and its number. -/
def cbIndex (ctl : Word) (bank lw nan : Nat) (banks : Sparse Word × List Nat) (idx : Nat) : List Nat × Bool × Nat :=
  let ent := (cbBase ctl + idx) % 256
  let n := cbElems ctl
  let ok := banks.2.contains (256 * bank + ent)
  let e := spGet 0 banks.1 (256 * bank + ent)
  let els := if ok then (List.range n).map (fun q => fld e.toNat (q * lw) lw)
    else List.replicate n (match cbPol ctl with
      | 1 => 0
      | 2 => nan
      | _ => Config.cbUnread)
  (els, !ok, ent)

/-- The expansion of a register through a bank into lanes of `lw` bits (R78, R173): the vector, whether an entry was
substituted, and the `XADDR` of its trap. `read` names the lanes the operation reads. Index bits past the register's
last read as zero: DESIGN CHOICE (log entry 137). -/
def cbExpand (ctl : Word) (bank lw nan : Nat) (banks : Sparse Word × List Nat) (v : VReg) (read : Nat → Bool) :
    VReg × Bool × Option Word :=
  if cbRefused ctl lw then (0, false, some (cbBadAddr bank))
  else
    let w := (cbWidth ctl).getD 2
    let n := cbElems ctl
    let xs := (List.range (1024 / lw / n)).map (fun j =>
      let r := cbIndex ctl bank lw nan banks (fld v.toNat (j * w) w)
      (r.1, r.2.1 && (List.range n).any (fun q => read (j * n + q)), r.2.2))
    let bad := xs.find? (fun x => x.2.1)
    (BitVec.ofNat 1024 (packLanes lw (xs.flatMap (fun x => x.1))), bad.isSome,
      match bad with
      | some x => if cbPol ctl = 0 then some (BitVec.ofNat 64 (bank * 256 + x.2.2)) else none
      | none => none)

/-- A V source as the operation reads it (R148, R173): position 1 or 2, the lanes it reads, the NaN of its lanes. -/
def State.vread (s : State) (pos : Nat) (a : Src) (lw nan : Nat) (read : Nat → Bool) : VReg × Bool × Option Word :=
  if s.issue.cbp.toNat = pos then
    let b := s.issue.cbb.toNat
    cbExpand ((s.here.cbctl[b]?).getD 0) b lw nan (s.here.banks s.slot) (s.cur.srcV a) read
  else (s.cur.srcV a, false, none)

/-! Running -/

/-- Lanes with their results, inactive ones `none`, and the flags of the active ones (R146). -/
def overLanes (n : Nat) (act : Nat → Bool) (f : Nat → Nat × BitVec 7) : List (Option Nat) × BitVec 7 :=
  let xs := (List.range n).map (fun i => if act i then
    let r := f i
    (some r.1, r.2) else (none, 0))
  (xs.map (fun x => x.1), xs.foldl (fun acc x => acc ||| x.2) 0)

/-- The value and the enabled bits of a result whose fields have width `lw` (R145): inactive fields keep the destination when
`keep`, and are zero otherwise. -/
def vassemble (lw : Nat) (xs : List (Option Nat)) (keep : Bool) : VReg × VReg :=
  (BitVec.ofNat 1024 (packLanes lw (xs.map (fun x => x.getD 0))),
    if keep then ~~~(BitVec.ofNat 1024 (packLanes lw (xs.map (fun x => if x.isSome then 0 else 2 ^ lw - 1))))
    else BitVec.allOnes 1024)

/-- The result of a V operation: one core cycle later for an expanded source (R29), CV for a substituted entry. -/
def State.vresult (s : State) (lat : Nat) (d : Dst) (lw : Nat) (r : List (Option Nat) × BitVec 7) (cv : Bool) : State :=
  let sup := d == .drop
  let ve := vassemble lw r.1 (!(s.xvMz || sup))
  let n : BitVec 5 := match d with
    | .reg n => n
    | .drop => 0
  s.result .v (if s.issue.cbp = 0 then lat else lat + 1) false (.vec n sup ve.1 ve.2)
    (r.2 ||| (if cv then flagCV else 0))

/-- The checks every V operation makes: its mask and its sources are set (R181). -/
def State.vchecks (s : State) (unset : Bool) (cb : Option Word) : Checks :=
  { Checks.reads (s.cur.unsetK s.xvMask || unset) with cb := cb }

/-- A V operation of one source (R143 to R148): result width `lw`, latency, the NaN of a float lane, and its lanes. `pops`
says that it rounds, so that `.sr` pops a word. -/
def runV1 (g : Guard) (d : Dst) (a : Src) (lat lw nan : Nat) (pops : Bool)
    (f : State → VReg → List (Option Nat) × BitVec 7) (s : State) : Out :=
  runOp .v g (fun s => s.vchecks (s.cur.unsetV a) (s.vread 1 a lw nan (s.active lw)).2.2)
    (fun s =>
      let x := s.vread 1 a lw nan (s.active lw)
      (s.vresult lat d lw (f s x.1) x.2.1).popIf (pops && s.xvRm == 4)) s

/-- A V operation of two sources. -/
def runV2 (g : Guard) (d : Dst) (a b : Src) (lat lw nan : Nat) (pops : Bool)
    (f : State → VReg → VReg → List (Option Nat) × BitVec 7) (s : State) : Out :=
  runOp .v g (fun s => s.vchecks (s.cur.unsetV a || s.cur.unsetV b)
      ((s.vread 1 a lw nan (s.active lw)).2.2.or (s.vread 2 b lw nan (s.active lw)).2.2))
    (fun s =>
      let x := s.vread 1 a lw nan (s.active lw)
      let y := s.vread 2 b lw nan (s.active lw)
      (s.vresult lat d lw (f s x.1 y.1) (x.2.1 || y.2.1)).popIf (pops && s.xvRm == 4)) s

/-- Lane by lane over one or two sources. -/
def lanes1 (lw : Nat) (f : Nat → Nat × BitVec 7) (s : State) (x : VReg) : List (Option Nat) × BitVec 7 :=
  overLanes (1024 / lw) (s.active lw) (fun i => f (lane lw x i))
def lanes2 (lw : Nat) (f : Nat → Nat → Nat × BitVec 7) (s : State) (x y : VReg) : List (Option Nat) × BitVec 7 :=
  overLanes (1024 / lw) (s.active lw) (fun i => f (lane lw x i) (lane lw y i))

/-- A lane operation that sets no flag. -/
def quiet (f : Nat → Nat → Nat) (x y : Nat) : Nat × BitVec 7 := (f x y, 0)

/-! Integer lanes (Table 5.2) -/

/-- A sum or difference delivered in a lane in a saturation mode. -/
def satLane (lw : Nat) (m : SatMode) (exactS exactU : Int) : Nat × BitVec 7 :=
  match m with
  | .wrap => (wrapInt lw exactS, 0)
  | .sat =>
    if exactS < intMin true lw then (wrapInt lw (intMin true lw), flagSA)
    else if intMax true lw < exactS then (wrapInt lw (intMax true lw), flagSA)
    else (wrapInt lw exactS, 0)
  | .usat =>
    if exactU < 0 then (0, flagSA)
    else if intMax false lw < exactU then (wrapInt lw (intMax false lw), flagSA)
    else (wrapInt lw exactU, 0)

def laneAdd (lw : Nat) (m : SatMode) (x y : Nat) : Nat × BitVec 7 :=
  satLane lw m (slane lw x + slane lw y) ((x : Int) + y)
def laneSub (lw : Nat) (m : SatMode) (x y : Nat) : Nat × BitVec 7 :=
  satLane lw m (slane lw x - slane lw y) ((x : Int) - y)
def laneMul (_lw : Nat) (x y : Nat) : Nat := x * y
def laneMulh (lw : Nat) (x y : Nat) : Nat := wrapInt lw (slane lw x * slane lw y / 2 ^ lw)
def laneMulhu (lw : Nat) (x y : Nat) : Nat := x * y / 2 ^ lw
def laneShl (lw : Nat) (x n : Nat) : Nat := x <<< (n % lw)
def laneShr (lw : Nat) (x n : Nat) : Nat := x >>> (n % lw)
def laneSar (lw : Nat) (x n : Nat) : Nat := wrapInt lw (slane lw x >>> (n % lw))
def laneMin (lw : Nat) (x y : Nat) : Nat := if slane lw x < slane lw y then x else y
def laneMax (lw : Nat) (x y : Nat) : Nat := if slane lw x < slane lw y then y else x
def laneAbs (lw : Nat) (x : Nat) : Nat := wrapInt lw (slane lw x).natAbs
def laneNeg (lw : Nat) (x : Nat) : Nat := wrapInt lw (-(slane lw x))

/-- `VADD` (R149). -/
def execVadd (g : Guard) (d : Dst) (a b : Src) (w : LaneW) (m : SatMode) (s : State) : Out :=
  runV2 g d a b 2 w.bits 0 false (lanes2 w.bits (laneAdd w.bits m)) s

/-- `VSUB` (R149). -/
def execVsub (g : Guard) (d : Dst) (a b : Src) (w : LaneW) (m : SatMode) (s : State) : Out :=
  runV2 g d a b 2 w.bits 0 false (lanes2 w.bits (laneSub w.bits m)) s

/-- `VMUL` (R149). -/
def execVmul (g : Guard) (d : Dst) (a b : Src) (w : LaneW) (s : State) : Out :=
  runV2 g d a b 4 w.bits 0 false (lanes2 w.bits (quiet (laneMul w.bits))) s

/-- `VMULH` (R149). -/
def execVmulh (g : Guard) (d : Dst) (a b : Src) (w : LaneW) (s : State) : Out :=
  runV2 g d a b 4 w.bits 0 false (lanes2 w.bits (quiet (laneMulh w.bits))) s

/-- `VMULH.u` (R149). -/
def execVmulhU (g : Guard) (d : Dst) (a b : Src) (w : LaneW) (s : State) : Out :=
  runV2 g d a b 4 w.bits 0 false (lanes2 w.bits (quiet (laneMulhu w.bits))) s

/-- `VAND` (R149): 8-bit lanes. -/
def execVand (g : Guard) (d : Dst) (a b : Src) (s : State) : Out :=
  runV2 g d a b 2 8 0 false (lanes2 8 (quiet (fun x y => x &&& y))) s

/-- `VOR` (R149). -/
def execVor (g : Guard) (d : Dst) (a b : Src) (s : State) : Out :=
  runV2 g d a b 2 8 0 false (lanes2 8 (quiet (fun x y => x ||| y))) s

/-- `VXOR` (R149). -/
def execVxor (g : Guard) (d : Dst) (a b : Src) (s : State) : Out :=
  runV2 g d a b 2 8 0 false (lanes2 8 (quiet (fun x y => x ^^^ y))) s

/-- `VSHL` (R149). -/
def execVshl (g : Guard) (d : Dst) (a b : Src) (w : LaneW) (s : State) : Out :=
  runV2 g d a b 2 w.bits 0 false (lanes2 w.bits (quiet (laneShl w.bits))) s

/-- `VSHR` (R149). -/
def execVshr (g : Guard) (d : Dst) (a b : Src) (w : LaneW) (s : State) : Out :=
  runV2 g d a b 2 w.bits 0 false (lanes2 w.bits (quiet (laneShr w.bits))) s

/-- `VSAR` (R149). -/
def execVsar (g : Guard) (d : Dst) (a b : Src) (w : LaneW) (s : State) : Out :=
  runV2 g d a b 2 w.bits 0 false (lanes2 w.bits (quiet (laneSar w.bits))) s

/-- `VSHL` by an immediate count (R149). -/
def execVshlImm (g : Guard) (d : Dst) (a : Src) (w : LaneW) (c : BitVec 6) (s : State) : Out :=
  runV1 g d a 2 w.bits 0 false (lanes1 w.bits (fun x => (laneShl w.bits x c.toNat, 0))) s

/-- `VSHR` by an immediate count (R149). -/
def execVshrImm (g : Guard) (d : Dst) (a : Src) (w : LaneW) (c : BitVec 6) (s : State) : Out :=
  runV1 g d a 2 w.bits 0 false (lanes1 w.bits (fun x => (laneShr w.bits x c.toNat, 0))) s

/-- `VSAR` by an immediate count (R149). -/
def execVsarImm (g : Guard) (d : Dst) (a : Src) (w : LaneW) (c : BitVec 6) (s : State) : Out :=
  runV1 g d a 2 w.bits 0 false (lanes1 w.bits (fun x => (laneSar w.bits x c.toNat, 0))) s

/-- `VMIN` (R149). -/
def execVmin (g : Guard) (d : Dst) (a b : Src) (w : LaneW) (s : State) : Out :=
  runV2 g d a b 2 w.bits 0 false (lanes2 w.bits (quiet (laneMin w.bits))) s

/-- `VMAX` (R149). -/
def execVmax (g : Guard) (d : Dst) (a b : Src) (w : LaneW) (s : State) : Out :=
  runV2 g d a b 2 w.bits 0 false (lanes2 w.bits (quiet (laneMax w.bits))) s

/-- `VMIN.u` (R149). -/
def execVminU (g : Guard) (d : Dst) (a b : Src) (w : LaneW) (s : State) : Out :=
  runV2 g d a b 2 w.bits 0 false (lanes2 w.bits (quiet min)) s

/-- `VMAX.u` (R149). -/
def execVmaxU (g : Guard) (d : Dst) (a b : Src) (w : LaneW) (s : State) : Out :=
  runV2 g d a b 2 w.bits 0 false (lanes2 w.bits (quiet max)) s

/-- `VABS` (R149). -/
def execVabs (g : Guard) (d : Dst) (a : Src) (w : LaneW) (s : State) : Out :=
  runV1 g d a 2 w.bits 0 false (lanes1 w.bits (fun x => (laneAbs w.bits x, 0))) s

/-- `VNEG` (R149). -/
def execVneg (g : Guard) (d : Dst) (a : Src) (w : LaneW) (s : State) : Out :=
  runV1 g d a 2 w.bits 0 false (lanes1 w.bits (fun x => (laneNeg w.bits x, 0))) s

/-! Compares, selection, splats -/

/-- An integer condition on lanes (Table 3.5). -/
def condLane (lw : Nat) (c : ICond) (x y : Nat) : Bool :=
  match c with
  | .eq => x == y
  | .ne => x != y
  | .lt => decide (slane lw x < slane lw y)
  | .ge => decide (slane lw y ≤ slane lw x)
  | .ltu => decide (x < y)
  | .geu => decide (y ≤ x)

/-- The mask a compare writes, one result per lane over the lane's bytes, and its enabled bits (R150). -/
def maskOf (lw : Nat) (xs : List (Option Bool)) (keep : Bool) : MaskReg × MaskReg :=
  let n := lw / 8
  (BitVec.ofNat 128 (packLanes n (xs.map (fun x => if x.getD false then 2 ^ n - 1 else 0))),
    if keep then ~~~(BitVec.ofNat 128 (packLanes n (xs.map (fun x => if x.isSome then 0 else 2 ^ n - 1))))
    else BitVec.allOnes 128)

/-- A compare into a mask (R150, R163). -/
def runVcmp (g : Guard) (q : BitVec 3) (a b : Src) (lw nan : Nat) (f : Nat → Nat → Bool) (s : State) : Out :=
  runOp .v g (fun s => s.vchecks (s.cur.unsetV a || s.cur.unsetV b)
      ((s.vread 1 a lw nan (s.active lw)).2.2.or (s.vread 2 b lw nan (s.active lw)).2.2))
    (fun s =>
      let x := s.vread 1 a lw nan (s.active lw)
      let y := s.vread 2 b lw nan (s.active lw)
      let rs := (List.range (1024 / lw)).map (fun i =>
        if s.active lw i then some (f (lane lw x.1 i) (lane lw y.1 i)) else none)
      let m := maskOf lw rs (!s.xvMz)
      s.result .v (if s.issue.cbp = 0 then 2 else 3) false (.mask q m.1 m.2)
        (if x.2.1 || y.2.1 then flagCV else 0)) s

/-- `VCMP` (R150). -/
def execVcmp (g : Guard) (c : ICond) (q : BitVec 3) (a b : Src) (w : LaneW) (s : State) : Out :=
  runVcmp g q a b w.bits 0 (condLane w.bits c) s

/-- `VSEL` (R151). -/
def execVsel (g : Guard) (d : Dst) (a b : Src) (k : BitVec 3) (s : State) : Out :=
  runOp .v g (fun s => s.vchecks (s.cur.unsetK k || s.cur.unsetV a || s.cur.unsetV b)
      ((s.vread 1 a 8 0 (s.active 8)).2.2.or (s.vread 2 b 8 0 (s.active 8)).2.2))
    (fun s =>
      let x := s.vread 1 a 8 0 (s.active 8)
      let y := s.vread 2 b 8 0 (s.active 8)
      let m := s.cur.mask k.toNat
      s.vresult 2 d 8 (overLanes 128 (s.active 8) (fun i =>
        (if m.getLsbD i then lane 8 x.1 i else lane 8 y.1 i, 0))) (x.2.1 || y.2.1)) s

/-- `VSPLAT` of an immediate (R152). -/
def execVsplatImm (g : Guard) (d : Dst) (w : LaneW) (i : BitVec 10) (s : State) : Out :=
  runOp .v g (fun s => s.vchecks false none)
    (fun s => s.vresult 2 d w.bits (overLanes w.lanes (s.active w.bits) (fun _ => (wrapInt w.bits i.toInt, 0))) false) s

/-- `VSPLAT` of a lane (R152). -/
def execVsplatLane (g : Guard) (d : Dst) (a : Src) (l : BitVec 8) (w : LaneW) (s : State) : Out :=
  runV1 g d a 2 w.bits 0 false (fun s x =>
    overLanes w.lanes (s.active w.bits) (fun _ => (lane w.bits x l.toNat, 0))) s

/-! Moving lanes (Table 5.3) -/

/-- `VPERM` (R153). -/
def execVperm (g : Guard) (d : Dst) (a b : Src) (w : LaneW) (s : State) : Out :=
  runV2 g d a b 3 w.bits 0 false (fun s x y =>
    overLanes w.lanes (s.active w.bits) (fun i => (lane w.bits x (lane w.bits y i % w.lanes), 0))) s

/-- `VROT` (R153). -/
def execVrot (g : Guard) (d : Dst) (a : Src) (w : LaneW) (c : BitVec 8) (s : State) : Out :=
  runV1 g d a 3 w.bits 0 false (fun s x =>
    overLanes w.lanes (s.active w.bits) (fun i => (lane w.bits x ((i + c.toNat) % w.lanes), 0))) s

/-- `VSLIDE` (R153): `up` slides towards higher lanes. -/
def execVslide (g : Guard) (d : Dst) (a : Src) (w : LaneW) (up : Bool) (c : BitVec 7) (s : State) : Out :=
  runV1 g d a 3 w.bits 0 false (fun s x =>
    overLanes w.lanes (s.active w.bits) (fun i =>
      (if up then (if c.toNat ≤ i then lane w.bits x (i - c.toNat) else 0)
       else if i + c.toNat < w.lanes then lane w.bits x (i + c.toNat) else 0, 0))) s

/-- `VCOMPRESS` (R154). -/
def execVcompress (g : Guard) (d : Dst) (a : Src) (w : LaneW) (s : State) : Out :=
  runV1 g d a 4 w.bits 0 false (fun s x =>
    let xs := ((List.range w.lanes).filter (s.active w.bits)).map (fun i => some (lane w.bits x i))
    (xs ++ List.replicate (w.lanes - xs.length) none, 0)) s

/-- The lanes `VEXPAND` reads: as many as are active, from lane 0 (R154, R173). -/
def State.expandReads (s : State) (w : LaneW) (i : Nat) : Bool :=
  decide (i < ((List.range w.lanes).filter (s.active w.bits)).length)

/-- `VEXPAND` (R154). -/
def execVexpand (g : Guard) (d : Dst) (a : Src) (w : LaneW) (s : State) : Out :=
  runOp .v g (fun s => s.vchecks (s.cur.unsetV a) (s.vread 1 a w.bits 0 (s.expandReads w)).2.2)
    (fun s =>
      let x := s.vread 1 a w.bits 0 (s.expandReads w)
      s.vresult 4 d w.bits (overLanes w.lanes (s.active w.bits) (fun i =>
        (lane w.bits x.1 ((List.range i).filter (s.active w.bits)).length, 0))) x.2.1) s

/-! Integer reductions and scan -/

/-- The active lanes of a vector. -/
def State.activeLanes (s : State) (lw : Nat) (x : VReg) : List Nat :=
  ((List.range (1024 / lw)).filter (s.active lw)).map (fun i => lane lw x i)

/-- A whole register as one field of a result. -/
def wholeVec (v : Nat) : List (Option Nat) := [some v]

/-- An integer reduction: the signed result in the low 64 bits, the rest zero (R155). -/
def runVred (g : Guard) (d : Dst) (a : Src) (w : LaneW) (f : Int → Int → Int) (z : Int) (s : State) : Out :=
  runOp .v g (fun s => s.vchecks (s.cur.unsetV a) (s.vread 1 a w.bits 0 (s.active w.bits)).2.2)
    (fun s =>
      let x := s.vread 1 a w.bits 0 (s.active w.bits)
      let v := ((s.activeLanes w.bits x.1).map (slane w.bits)).foldl f z
      s.vresult 6 d 1024 (wholeVec (wrapInt 64 v), 0) x.2.1) s

/-- `VREDSUM` on integers (R155). -/
def execVredsum (g : Guard) (d : Dst) (a : Src) (w : LaneW) (s : State) : Out := runVred g d a w (· + ·) 0 s

/-- `VREDMAX` on integers (R155). -/
def execVredmax (g : Guard) (d : Dst) (a : Src) (w : LaneW) (s : State) : Out := runVred g d a w max (intMin true w.bits) s

/-- `VREDMIN` on integers (R155). -/
def execVredmin (g : Guard) (d : Dst) (a : Src) (w : LaneW) (s : State) : Out := runVred g d a w min (intMax true w.bits) s

/-- Inclusive prefixes in lane order; an inactive lane keeps the prefix before it (R157). -/
def scanLanes (act : Nat → Bool) (f : Option Nat → Nat → Nat × BitVec 7) : List Nat → Option Nat → List (Nat × BitVec 7)
  | [], _ => []
  | i :: is, p =>
    if act i then
      let r := f p i
      r :: scanLanes act f is (some r.1)
    else (p.getD 0, 0) :: scanLanes act f is p

/-- `VSCAN` on integers (R157). -/
def execVscanI (g : Guard) (d : Dst) (a : Src) (w : LaneW) (s : State) : Out :=
  runV1 g d a 10 w.bits 0 false (fun s x =>
    let xs := scanLanes (s.active w.bits) (fun p i => ((p.getD 0 + lane w.bits x i) % 2 ^ w.bits, 0)) (List.range w.lanes) none
    (xs.map (fun r => some r.1), 0)) s

/-! Packing -/

/-- `VPACK` (R177). -/
def execVpack (g : Guard) (d : Dst) (a : Src) (c : BitVec 4) (s : State) : Out :=
  runOp .v g (fun s => s.vchecks (s.cur.unsetV a) (s.vread 1 a 8 0 (s.active 8)).2.2)
    (fun s =>
      let x := s.vread 1 a 8 0 (s.active 8)
      s.vresult 3 d c.toNat (overLanes 128 (s.active 8) (fun i => (lane 8 x.1 i, 0))) x.2.1) s

/-- `VUNPACK` (R177). -/
def execVunpack (g : Guard) (d : Dst) (a : Src) (c : BitVec 4) (s : State) : Out :=
  runV1 g d a 3 8 0 false (fun s x => overLanes 128 (s.active 8) (fun i => (lane c.toNat x i, 0))) s

/-! Random bits, masks and checks -/

/-- `VRAND` (R178). -/
def execVrand (g : Guard) (d : Dst) (s : State) : Out :=
  runOp .v g (fun _ => Checks.reads false)
    (fun s =>
      let w := (rngPop s.here.rng).1
      (s.vresult 2 d 16 ((List.range 64).map (fun i => some (rngBits w i)), 0) false).popIf true) s

/-- A mask operation (R179). -/
def runMask (g : Guard) (d : BitVec 3) (unset : Ctx → Bool) (f : Ctx → MaskReg) (s : State) : Out :=
  runOp .v g (fun s => Checks.reads (unset s.cur))
    (fun s => s.result .v 1 false (.mask d (f s.cur) (BitVec.allOnes 128)) 0) s

/-- `KAND` (R179). -/
def execKand (g : Guard) (d a b : BitVec 3) (s : State) : Out :=
  runMask g d (fun c => c.unsetK a || c.unsetK b) (fun c => c.mask a.toNat &&& c.mask b.toNat) s

/-- `KOR` (R179). -/
def execKor (g : Guard) (d a b : BitVec 3) (s : State) : Out :=
  runMask g d (fun c => c.unsetK a || c.unsetK b) (fun c => c.mask a.toNat ||| c.mask b.toNat) s

/-- `KNOT` (R179). -/
def execKnot (g : Guard) (d a : BitVec 3) (s : State) : Out :=
  runMask g d (fun c => c.unsetK a) (fun c => ~~~(c.mask a.toNat)) s

/-- `KMOV` (R179). -/
def execKmov (g : Guard) (d a : BitVec 3) (s : State) : Out :=
  runMask g d (fun c => c.unsetK a) (fun c => c.mask a.toNat) s

/-- The lowest 64-bit part in which two vectors differ (R180). -/
def firstDiff (x y : VReg) : Option Nat :=
  (List.range 16).find? (fun k => fld (x ^^^ y).toNat (64 * k) 64 != 0)

/-- `VDCHK` (R180). -/
def execVdchk (g : Guard) (a b : Src) (s : State) : Out :=
  runOp .v g (fun s => (Checks.reads (s.cur.unsetV a || s.cur.unsetV b)).withOwn
      ((firstDiff (s.cur.srcV a) (s.cur.srcV b)).map (fun k => (.dupchk, BitVec.ofNat 64 k)))) id s

end Sys2Proof.Machine
end

