-- ==== Sys2Proof/Machine/VFloat.lean ====
section
/-! DEFINITION. The V slot's float lanes: arithmetic, compares, sign and class, reductions and scan, the function units and
the rotary embedding (spec/05 R156 to R167, spec/02 R82, R83). -/

namespace Sys2Proof.Machine

/-- The canonical NaN of a float lane type (R70). -/
def laneNaN (t : FloatT) : Nat := ((floatSpec t).canonNaN).getD 0

/-- A float operation of two sources whose lanes round (R158). -/
def runVf2 (g : Guard) (d : Dst) (a b : Src) (t : FloatT) (lat : Nat) (pops : Bool)
    (f : Rounding → Nat → Nat → Nat × BitVec 7) (s : State) : Out :=
  runV2 g d a b lat (floatBits t) (laneNaN t) pops (fun s x y =>
    overLanes (1024 / floatBits t) (s.active (floatBits t)) (fun i =>
      f (s.rounding i) (lane (floatBits t) x i) (lane (floatBits t) y i))) s

/-- A float operation of one source (R158, R162, R164). -/
def runVf1 (g : Guard) (d : Dst) (a : Src) (t : FloatT) (lat : Nat) (f : Nat → Nat × BitVec 7) (s : State) : Out :=
  runV1 g d a lat (floatBits t) (laneNaN t) false (lanes1 (floatBits t) f) s

/-- A fused operation: the destination is the addend, read at issue (R148, R159). -/
def runVfma (g : Guard) (d : BitVec 5) (a b : Src) (t : FloatT) (f : Rounding → Nat → Nat → Nat → Nat × BitVec 7)
    (s : State) : Out :=
  let lw := floatBits t
  runOp .v g (fun s => s.vchecks (s.cur.unsetV a || s.cur.unsetV b || s.cur.unsetV (.reg d))
      ((s.vread 1 a lw (laneNaN t) (s.active lw)).2.2.or (s.vread 2 b lw (laneNaN t) (s.active lw)).2.2))
    (fun s =>
      let x := s.vread 1 a lw (laneNaN t) (s.active lw)
      let y := s.vread 2 b lw (laneNaN t) (s.active lw)
      let z := s.cur.srcV (.reg d)
      (s.vresult 4 (.reg d) lw (overLanes (1024 / lw) (s.active lw) (fun i =>
        f (s.rounding i) (lane lw x.1 i) (lane lw y.1 i) (lane lw z i))) (x.2.1 || y.2.1)).popIf (s.xvRm == 4)) s

/-- Addition, subtraction and multiplication of codes (R158). -/
def fAdd (f : FloatSpec) (r : Rounding) (x y : Nat) : Nat × BitVec 7 := f.finish r ((f.decode x).add r (f.decode y))
def fSub (f : FloatSpec) (r : Rounding) (x y : Nat) : Nat × BitVec 7 := f.finish r ((f.decode x).add r (f.decode y).neg)
def fMul (f : FloatSpec) (r : Rounding) (x y : Nat) : Nat × BitVec 7 := f.finish r ((f.decode x).mul (f.decode y))

/-- The fused sum of a product, or its negative, and an addend (R159). An invalid product wins over a NaN addend. -/
def fFused (f : FloatSpec) (r : Rounding) (negP negZ : Bool) (x y z : Nat) : Nat × BitVec 7 :=
  let p := (f.decode x).mul (f.decode y)
  if p.2 then ((f.nanCode false).1, flagNV)
  else
    let pv := if negP then p.1.neg else p.1
    let zv := if negZ then (f.decode z).neg else f.decode z
    f.finish r (pv.add r zv)

/-- `VFADD` (R158). -/
def execVfadd (g : Guard) (d : Dst) (a b : Src) (t : FloatT) (s : State) : Out :=
  runVf2 g d a b t 4 true (fAdd (floatSpec t)) s

/-- `VFSUB` (R158). -/
def execVfsub (g : Guard) (d : Dst) (a b : Src) (t : FloatT) (s : State) : Out :=
  runVf2 g d a b t 4 true (fSub (floatSpec t)) s

/-- `VFMUL` (R158). -/
def execVfmul (g : Guard) (d : Dst) (a b : Src) (t : FloatT) (s : State) : Out :=
  runVf2 g d a b t 4 true (fMul (floatSpec t)) s

/-- `VFMA` (R159). -/
def execVfma (g : Guard) (d : BitVec 5) (a b : Src) (t : FloatT) (s : State) : Out :=
  runVfma g d a b t (fun r => fFused (floatSpec t) r false false) s

/-- `VFMS` (R159). -/
def execVfms (g : Guard) (d : BitVec 5) (a b : Src) (t : FloatT) (s : State) : Out :=
  runVfma g d a b t (fun r => fFused (floatSpec t) r false true) s

/-- `VFNMA` (R159). -/
def execVfnma (g : Guard) (d : BitVec 5) (a b : Src) (t : FloatT) (s : State) : Out :=
  runVfma g d a b t (fun r => fFused (floatSpec t) r true false) s

/-- The sign bit of a value. -/
def FVal.isNeg : FVal → Bool
  | .nan a => a
  | .inf a => a
  | .fin a _ _ => a

/-- Whether a value is a NaN. -/
def FVal.isNaN : FVal → Bool
  | .nan _ => true
  | _ => false

/-- The larger or the smaller of two codes, −0 below +0, a NaN winning (R160). -/
def fMax (f : FloatSpec) (x y : Nat) : Nat × BitVec 7 :=
  let u := f.decode x
  let v := f.decode y
  if u.isNaN || v.isNaN then ((f.nanCode false).1, 0)
  else if u.lt v then (y, 0) else if v.lt u then (x, 0) else (if u.isNeg then y else x, 0)
def fMin (f : FloatSpec) (x y : Nat) : Nat × BitVec 7 :=
  let u := f.decode x
  let v := f.decode y
  if u.isNaN || v.isNaN then ((f.nanCode false).1, 0)
  else if u.lt v then (x, 0) else if v.lt u then (y, 0) else (if u.isNeg then x else y, 0)

/-- `VFMAX` (R160). -/
def execVfmax (g : Guard) (d : Dst) (a b : Src) (t : FloatT) (s : State) : Out :=
  runVf2 g d a b t 2 false (fun _ => fMax (floatSpec t)) s

/-- `VFMIN` (R160). -/
def execVfmin (g : Guard) (d : Dst) (a b : Src) (t : FloatT) (s : State) : Out :=
  runVf2 g d a b t 2 false (fun _ => fMin (floatSpec t)) s

/-- x · 2^n rounded, n a signed lane (R161); a count past 8,192 either way is beyond every range. -/
def fScale (f : FloatSpec) (lw : Nat) (r : Rounding) (x n : Nat) : Nat × BitVec 7 :=
  match f.decode x with
  | .nan _ => ((f.nanCode false).1, 0)
  | .inf _ => (x, 0)
  | .fin neg m e =>
    if m = 0 then (x, 0)
    else f.round r neg m (e + max (-8192) (min 8192 (slane lw n))) false

/-- `VFSCALE` (R161); its second source has integer lanes (R78). -/
def execVfscale (g : Guard) (d : Dst) (a b : Src) (t : FloatT) (s : State) : Out :=
  let lw := floatBits t
  runOp .v g (fun s => s.vchecks (s.cur.unsetV a || s.cur.unsetV b)
      ((s.vread 1 a lw (laneNaN t) (s.active lw)).2.2.or (s.vread 2 b lw 0 (s.active lw)).2.2))
    (fun s =>
      let x := s.vread 1 a lw (laneNaN t) (s.active lw)
      let y := s.vread 2 b lw 0 (s.active lw)
      (s.vresult 2 d lw (overLanes (1024 / lw) (s.active lw) (fun i =>
        fScale (floatSpec t) lw (s.rounding i) (lane lw x.1 i) (lane lw y.1 i))) (x.2.1 || y.2.1)).popIf (s.xvRm == 4)) s

/-- Sign operations: bit for bit, a NaN becoming the canonical one (R162). -/
def fAbs (f : FloatSpec) (x : Nat) : Nat × BitVec 7 :=
  if (f.decode x).isNaN then ((f.nanCode false).1, 0) else (x % 2 ^ (f.exp + f.man), 0)
def fNeg (f : FloatSpec) (x : Nat) : Nat × BitVec 7 :=
  if (f.decode x).isNaN then ((f.nanCode false).1, 0) else (x ^^^ 2 ^ (f.exp + f.man), 0)

/-- The class bits of R162. -/
def fClass (f : FloatSpec) (x : Nat) : Nat :=
  match f.decode x with
  | .nan _ => 256
  | .inf neg => if neg then 1 else 128
  | .fin neg m _ =>
    let sub := decide (x % 2 ^ (f.exp + f.man) < 2 ^ f.man)
    if m = 0 then (if neg then 8 else 16)
    else if sub then (if neg then 4 else 32)
    else (if neg then 2 else 64)

/-- `VFABS` (R162). -/
def execVfabs (g : Guard) (d : Dst) (a : Src) (t : FloatT) (s : State) : Out := runVf1 g d a t 2 (fAbs (floatSpec t)) s

/-- `VFNEG` (R162). -/
def execVfneg (g : Guard) (d : Dst) (a : Src) (t : FloatT) (s : State) : Out := runVf1 g d a t 2 (fNeg (floatSpec t)) s

/-- `VFCLASS` (R162). -/
def execVfclass (g : Guard) (d : Dst) (a : Src) (t : FloatT) (s : State) : Out :=
  runVf1 g d a t 2 (fun x => (fClass (floatSpec t) x, 0)) s

/-- A float condition (Table 3.5, R163). -/
def fcondHolds (f : FloatSpec) (c : FCond) (x y : Nat) : Bool :=
  let u := f.decode x
  let v := f.decode y
  match c with
  | .eq => u.eq v
  | .ne => u.unordered v || !u.eq v
  | .lt => u.lt v
  | .le => u.lt v || u.eq v
  | .gt => v.lt u
  | .ge => v.lt u || u.eq v
  | .un => u.unordered v

/-- `VFCMP` (R163). -/
def execVfcmp (g : Guard) (c : FCond) (q : BitVec 3) (a b : Src) (t : FloatT) (s : State) : Out :=
  runVcmp g q a b (floatBits t) (laneNaN t) (fcondHolds (floatSpec t) c) s

/-! Reductions and scan -/

/-- One level of the tree of R82: adjacent results combined, `k` the number of the first combination (R156). -/
def treeLevel (comb : Nat → Nat → Nat → Nat × BitVec 7) :
    Nat → List (Option Nat) → List (Option Nat) × BitVec 7
  | k, x :: y :: xs =>
    let rest := treeLevel comb (k + 1) xs
    match x, y with
    | some a, some b =>
      let r := comb k a b
      (some r.1 :: rest.1, r.2 ||| rest.2)
    | some a, none => (some a :: rest.1, rest.2)
    | none, b => (b :: rest.1, rest.2)
  | _, xs => (xs, 0)

/-- The tree over a list of 2^fuel results (R82, R156). -/
def treeReduce (comb : Nat → Nat → Nat → Nat × BitVec 7) :
    Nat → Nat → List (Option Nat) → Option Nat × BitVec 7
  | 0, _, xs => ((xs.head?).getD none, 0)
  | fuel + 1, k, xs =>
    let l := treeLevel comb k xs
    let r := treeReduce comb fuel (k + xs.length / 2) l.1
    (r.1, l.2 ||| r.2)

/-- A float reduction: its result in lane 0, the other lanes zero (R156). `z` is what an all-inactive one returns. -/
def runVfred (g : Guard) (d : Dst) (a : Src) (t : FloatT) (pops : Bool) (comb : Rounding → Nat → Nat → Nat × BitVec 7)
    (z : Nat) (s : State) : Out :=
  let lw := floatBits t
  runOp .v g (fun s => s.vchecks (s.cur.unsetV a) (s.vread 1 a lw (laneNaN t) (s.active lw)).2.2)
    (fun s =>
      let x := s.vread 1 a lw (laneNaN t) (s.active lw)
      let n := 1024 / lw
      let xs := (List.range n).map (fun i => if s.active lw i then some (lane lw x.1 i) else none)
      let r := treeReduce (fun k u v => comb (s.rounding k) u v) (bitLen n - 1) 0 xs
      let v := match r.1 with
        | none => z
        | some c => if ((floatSpec t).decode c).isNaN then laneNaN t else c
      (s.vresult 10 d 1024 (wholeVec v, r.2) x.2.1).popIf (pops && s.xvRm == 4)) s

/-- `VREDSUM` on floats (R156). -/
def execVredsumF (g : Guard) (d : Dst) (a : Src) (t : FloatT) (s : State) : Out :=
  runVfred g d a t true (fAdd (floatSpec t)) 0 s

/-- `VREDMAX` on floats (R156). -/
def execVredmaxF (g : Guard) (d : Dst) (a : Src) (t : FloatT) (s : State) : Out :=
  runVfred g d a t true (fun _ => fMax (floatSpec t))
    ((floatSpec t).withSign true (((floatSpec t).infMag).getD 0)) s

/-- `VREDMIN` on floats (R156). -/
def execVredminF (g : Guard) (d : Dst) (a : Src) (t : FloatT) (s : State) : Out :=
  runVfred g d a t true (fun _ => fMin (floatSpec t)) (((floatSpec t).infMag).getD 0) s

/-- `VSCAN` on floats (R83, R157). -/
def execVscanF (g : Guard) (d : Dst) (a : Src) (t : FloatT) (s : State) : Out :=
  let f := floatSpec t
  runV1 g d a 10 (floatBits t) (laneNaN t) true (fun s x =>
    let xs := scanLanes (s.active (floatBits t)) (fun p i =>
      let v := lane (floatBits t) x i
      match p with
      | none => (if (f.decode v).isNaN then laneNaN t else v, 0)
      | some q => fAdd f (s.rounding i) q v) (List.range (1024 / floatBits t)) none
    (xs.map (fun r => some r.1), xs.foldl (fun acc r => acc ||| r.2) 0)) s

/-! Function units -/

/-- The integer square root, from its highest bit down. -/
def isqrtBits (n : Nat) : Nat → Nat → Nat
  | 0, r => r
  | b + 1, r => if (r + 2 ^ b) * (r + 2 ^ b) ≤ n then isqrtBits n b (r + 2 ^ b) else isqrtBits n b r

/-- The fixed-point precision of the function units, and ln 2 and π at it. -/
def fnBits : Nat := 192
def fnLn2 : Nat := 0xb17217f7d1cf79abc9e3b39803f2f6af40f343267298b62d
def fnPi : Nat := 0x3243f6a8885a308d313198a2e03707344a4093822299f31d0

/-- The sum of a series of fixed-point terms: term `k + 1` is term `k` times `y`, over `d k` (R164, log entry 12). -/
def seriesSum (y : Nat) (d : Nat → Nat) : Nat → Nat → Nat → Nat
  | 0, _, _ => 0
  | fuel + 1, k, t => t + seriesSum y d fuel (k + 1) (((t * y) >>> fnBits) / d k)

/-- The alternating sum of such a series. -/
def altSum (y : Nat) (d : Nat → Nat) : Nat → Nat → Nat → Int
  | 0, _, _ => 0
  | fuel + 1, k, t => (t : Int) - altSum y d fuel (k + 1) (((t * y) >>> fnBits) / d k)

/-- 2^f for a fixed-point f below 1: the exponential series in f · ln 2. -/
def exp2Frac (f : Nat) : Nat := seriesSum ((f * fnLn2) >>> fnBits) (fun k => k + 1) 60 0 (2 ^ fnBits)

/-- log₂ of a fixed-point number from 1 up to 2: the area-tangent series over ln 2. -/
def log2Frac (m : Nat) : Nat :=
  let z := ((m - 2 ^ fnBits) <<< fnBits) / (m + 2 ^ fnBits)
  let z2 := (z * z) >>> fnBits
  let ln := (List.range 64).foldl (fun acc k => (acc.1 + 2 * (acc.2 / (2 * k + 1)), (acc.2 * z2) >>> fnBits)) (0, z)
  (ln.1 <<< fnBits) / fnLn2

/-- 1/x (R164, R165). -/
def fRcp (f : FloatSpec) (x : Nat) : Nat × BitVec 7 :=
  match f.decode x with
  | .nan _ => ((f.nanCode false).1, 0)
  | .inf neg => (f.withSign neg 0, 0)
  | .fin neg m e =>
    if m = 0 then (f.withSign neg ((f.infMag).getD f.maxMag), flagDZ)
    else
      let k := bitLen m + 80
      f.round rne neg (2 ^ k / m) (-(k : Int) - e) (2 ^ k % m != 0)

/-- 1/√x (R164, R165). -/
def fRsq (f : FloatSpec) (x : Nat) : Nat × BitVec 7 :=
  match f.decode x with
  | .nan _ => ((f.nanCode false).1, 0)
  | .inf neg => if neg then ((f.nanCode false).1, flagNV) else (0, 0)
  | .fin neg m e =>
    if m = 0 then (f.withSign neg ((f.infMag).getD f.maxMag), flagDZ)
    else if neg then ((f.nanCode false).1, flagNV)
    else
      let m' := if e % 2 = 0 then m else 2 * m
      let e' := if e % 2 = 0 then e else e - 1
      let k := bitLen m' + 60
      let q := 2 ^ (2 * k) / m'
      let r := isqrtBits q (bitLen q / 2 + 1) 0
      f.round rne false r (-(k : Int) - e' / 2) (m' * r * r != 2 ^ (2 * k))

/-- 2^x (R164, R165). -/
def fExp2 (f : FloatSpec) (x : Nat) : Nat × BitVec 7 :=
  match f.decode x with
  | .nan _ => ((f.nanCode false).1, 0)
  | .inf neg => if neg then (0, 0) else (((f.infMag).getD f.maxMag), 0)
  | .fin neg m e =>
    if m = 0 then f.round rne false 1 0 false
    else if 12 < (bitLen m : Int) + e then f.round rne false 1 (if neg then -8192 else 8192) true
    else
      let fx : Nat := if 0 ≤ e + fnBits then m <<< (e + fnBits).toNat else m >>> (-(e + fnBits)).toNat
      let lost := decide (e + fnBits < 0) && m % 2 ^ (-(e + fnBits)).toNat != 0
      let whole := fx >>> fnBits
      let frac := fx % 2 ^ fnBits
      if frac = 0 ∧ lost = false then f.round rne false 1 (if neg then -(whole : Int) else whole) false
      else if neg then
        f.round rne false (exp2Frac (2 ^ fnBits - 1 - frac)) (-(whole : Int) - 1 - fnBits) true
      else f.round rne false (exp2Frac frac) ((whole : Int) - fnBits) true

/-- log₂ x (R164, R165). -/
def fLog2 (f : FloatSpec) (x : Nat) : Nat × BitVec 7 :=
  match f.decode x with
  | .nan _ => ((f.nanCode false).1, 0)
  | .inf neg => if neg then ((f.nanCode false).1, flagNV) else (((f.infMag).getD f.maxMag), 0)
  | .fin neg m e =>
    if m = 0 then (f.withSign true ((f.infMag).getD f.maxMag), flagDZ)
    else if neg then ((f.nanCode false).1, flagNV)
    else
      let k := e + (bitLen m : Int) - 1
      if m = 2 ^ (bitLen m - 1) then f.round rne (decide (k < 0)) k.natAbs 0 false
      else
        let fr := log2Frac (m <<< (fnBits - (bitLen m - 1)))
        if 0 ≤ k then f.round rne false (k.toNat <<< fnBits + fr) (-(fnBits : Int)) true
        else f.round rne true (k.natAbs <<< fnBits - fr - 1) (-(fnBits : Int)) true

/-- `VFRCP` (R164). -/
def execVfrcp (g : Guard) (d : Dst) (a : Src) (t : FloatT) (s : State) : Out := runVf1 g d a t 8 (fRcp (floatSpec t)) s

/-- `VFRSQ` (R164). -/
def execVfrsq (g : Guard) (d : Dst) (a : Src) (t : FloatT) (s : State) : Out := runVf1 g d a t 8 (fRsq (floatSpec t)) s

/-- `VFEXP2` (R164). -/
def execVfexp2 (g : Guard) (d : Dst) (a : Src) (t : FloatT) (s : State) : Out := runVf1 g d a t 8 (fExp2 (floatSpec t)) s

/-- `VFLOG2` (R164). -/
def execVflog2 (g : Guard) (d : Dst) (a : Src) (t : FloatT) (s : State) : Out := runVf1 g d a t 8 (fLog2 (floatSpec t)) s

/-! Rotary embedding -/

/-- Sine and cosine of a phase below a quarter turn, in fixed point (R167, log entry 12). -/
def quarterSin (r : Nat) : Nat :=
  let y := (r * fnPi) >>> 31
  (altSum ((y * y) >>> fnBits) (fun k => (2 * k + 2) * (2 * k + 3)) 40 0 y).toNat
def quarterCos (r : Nat) : Nat :=
  let y := (r * fnPi) >>> 31
  (altSum ((y * y) >>> fnBits) (fun k => (2 * k + 1) * (2 * k + 2)) 40 0 (2 ^ fnBits)).toNat

/-- A fixed-point magnitude with a sign as the nearest FP32 value; exact zeros and ones are exact (R167). -/
def fixedFp32 (neg exact : Bool) (v : Nat) : FVal :=
  specFp32.decode ((specFp32.round rne (neg && v != 0) v (-(fnBits : Int)) (!exact)).1)

/-- cos and sin of a phase in units of 2⁻³² of a turn, rounded to FP32 (R167). -/
def phaseCosSin (ph : Nat) : FVal × FVal :=
  let q := ph / 2 ^ 30
  let r := ph % 2 ^ 30
  let ex := r == 0
  let sn := if ex then 0 else quarterSin r
  let cs := if ex then 2 ^ fnBits else quarterCos r
  match q with
  | 0 => (fixedFp32 false ex cs, fixedFp32 false ex sn)
  | 1 => (fixedFp32 true ex sn, fixedFp32 false ex cs)
  | 2 => (fixedFp32 true ex cs, fixedFp32 true ex sn)
  | _ => (fixedFp32 false ex sn, fixedFp32 true ex cs)

/-- One rotated coordinate: u·c + v·w rounded once (R167). A NaN among u and v gives the canonical NaN; 0 × ∞ in either product sets NV, be the
other lane a NaN or not (R71). -/
def ropeLane (r : Rounding) (u c v w : FVal) : Nat × BitVec 7 :=
  let p := u.mul c
  let q := v.mul w
  if p.2 || q.2 then ((specFp32.nanCode false).1, flagNV) else specFp32.finish r (p.1.add r q.1)

/-- The pair's lanes: the position and the frequency of pair `j`, and the first failing active pair (R167). -/
def ropeActive (s : State) (i : Nat) : Bool := s.active 32 (2 * (i / 2))
def ropeFail (s : State) (y : VReg) : Option (Cause × Word) :=
  match (List.range 16).find? (fun j => s.active 32 (2 * j) && decide (16777215 < lane 32 y (2 * j))) with
  | some j => some (.foldPos, BitVec.ofNat 64 (j * 2 ^ 32 + lane 32 y (2 * j)))
  | none => none

/-- Lane `i` of the rotation (R167). -/
def ropeResult (s : State) (x y : VReg) (i : Nat) : Nat × BitVec 7 :=
  let j := i / 2
  let cs := phaseCosSin (lane 32 y (2 * j) * lane 32 y (2 * j + 1) % 2 ^ 32)
  let x0 := specFp32.decode (lane 32 x (2 * j))
  let x1 := specFp32.decode (lane 32 x (2 * j + 1))
  if i % 2 = 0 then ropeLane (s.rounding i) x0 cs.1 x1.neg cs.2
  else ropeLane (s.rounding i) x0 cs.2 x1 cs.1

/-- `VROPE` (R166, R167). -/
def execVrope (g : Guard) (d : Dst) (a b : Src) (s : State) : Out :=
  let nan := laneNaN .fp32
  runOp .v g (fun s =>
      let y := s.vread 2 b 32 0 (ropeActive s)
      (s.vchecks (s.cur.unsetV a || s.cur.unsetV b) ((s.vread 1 a 32 nan (ropeActive s)).2.2.or y.2.2)).withOwn
        (ropeFail s y.1))
    (fun s =>
      let x := s.vread 1 a 32 nan (ropeActive s)
      let y := s.vread 2 b 32 0 (ropeActive s)
      (s.vresult 8 d 32 (overLanes 32 (ropeActive s) (ropeResult s x.1 y.1)) (x.2.1 || y.2.1)).popIf (s.xvRm == 4)) s

end Sys2Proof.Machine
end

