-- ==== Sys2Proof/Machine/VConvert.lean ====
section
/-! DEFINITION. The V slot's conversions, block quantisation and codebook instructions (spec/05 R168 to R175, spec/02 R63 to
R71, R84, R85). -/

namespace Sys2Proof.Machine

/-! Formats of an instruction -/

/-- The code a format operand names at issue, `f.lp` resolved (R65). -/
def State.fmtCode (s : State) (c : BitVec 5) : Option (BitVec 5) :=
  if c = 0x0F then resolveLp s.here.ftab s.here.ftctl s.cur.lc else some c

/-- The format a format operand names at issue; none where it is invalid (R61, R65). -/
def State.fmtOf (s : State) (c : BitVec 5) : Option ElemFmt := (s.fmtCode c).bind (elemFmt s.here.fmt)

/-- The NaN an invalid codebook entry stands for in lanes of a format (R78); 0 for an integer. -/
def ElemFmt.nan (f : ElemFmt) : Nat :=
  match f with
  | .int _ _ => 0
  | .flt q _ => (q.canonNaN).getD (Config.cbNaNLess q.width)
  | .e8m0 => 255

/-! Single values -/

/-- A finite magnitude rounded to an integer: the integer and whether it was inexact (R66, R67). -/
def roundToInt (r : Rounding) (neg : Bool) (m : Nat) (e : Int) : Nat × Bool :=
  if 0 ≤ e then (m <<< e.toNat, false)
  else
    let sh := (-e).toNat
    let n := m >>> sh
    let rem := m % 2 ^ sh
    (if roundsUp r neg n rem sh false then n + 1 else n, rem != 0)

/-- A value converted to an integer format (Table 5.7, R71). An inexact result of 0 sets NX alone: DESIGN CHOICE (log
entry 136). -/
def valueToInt (r : Rounding) (sg : Bool) (b : Nat) (v : FVal) : Nat × BitVec 7 :=
  match v with
  | .nan _ => (0, flagNV)
  | .inf neg => (wrapInt b (if neg then intMin sg b else intMax sg b), flagNV)
  | .fin neg m e =>
    if neg && m != 0 && !sg then (0, flagNV)
    else
      let q := roundToInt r neg m e
      let x : Int := if neg then -(q.1 : Int) else q.1
      if intMax sg b < x then (wrapInt b (intMax sg b), flagNV)
      else if x < intMin sg b then (wrapInt b (intMin sg b), flagNV)
      else (wrapInt b x, if q.2 then flagNX else 0)

/-- An integer converted to an integer format (Table 5.7). -/
def intToInt (sg : Bool) (b : Nat) (x : Int) : Nat × BitVec 7 :=
  if intMax sg b < x then (wrapInt b (intMax sg b), flagSA)
  else if x < 0 ∧ sg = false then (0, flagNV)
  else if x < intMin sg b then (wrapInt b (intMin sg b), flagSA)
  else (wrapInt b x, 0)

/-- A value converted to an E8M0 scale (R170). -/
def valueToE8m0 (r : Rounding) (v : FVal) : Nat × BitVec 7 :=
  match v with
  | .nan _ => (255, 0)
  | .inf neg => if neg then (255, flagNV) else (254, flagOF ||| flagNX)
  | .fin neg m e =>
    if m = 0 then (0, flagUF ||| flagNX)
    else if neg then (255, flagNV)
    else
      let sh := bitLen m - 1
      let k := e + (sh : Int)
      let rem := m % 2 ^ sh
      let up := roundsUp r false ((k + 127) % 2).toNat rem sh false
      let k' := if up then k + 1 else k
      if k' < -127 then (0, flagUF ||| flagNX)
      else if 127 < k' then (254, flagOF ||| flagNX)
      else ((k' + 127).toNat, if rem = 0 then 0 else flagNX)

/-- One element converted (R169). -/
def convertElem (dst src : ElemFmt) (r : Rounding) (c : Nat) : Nat × BitVec 7 :=
  match dst, src with
  | .int sg b, .int sg' b' => intToInt sg b (if sg' then sfld c 0 b' else (fld c 0 b' : Int))
  | .int sg b, f => valueToInt r sg b (f.decode c)
  | .flt q _, f => q.deliver r (f.decode c)
  | .e8m0, .e8m0 => (c % 256, 0)
  | .e8m0, f => valueToE8m0 r (f.decode c)

/-- `VCVT` (R168): target `o`, source `m`. -/
def execVcvt (g : Guard) (d : Dst) (a : Src) (o m : BitVec 5) (s : State) : Out :=
  let wmax := fun (t f : ElemFmt) => max t.bits f.bits
  let act := fun (s : State) (w j : Nat) => (s.cur.mask s.xvMask.toNat).getLsbD (j * w / 8)
  runOp .v g (fun s =>
      match s.fmtOf o, s.fmtOf m with
      | some t, some f => s.vchecks (s.cur.unsetV a) (s.vread 1 a f.bits f.nan (act s (wmax t f))).2.2
      | _, _ => { s.vchecks (s.cur.unsetV a) none with illegal := true })
    (fun s =>
      match s.fmtOf o, s.fmtOf m with
      | some t, some f =>
        let w := wmax t f
        let x := s.vread 1 a f.bits f.nan (act s w)
        (s.vresult 4 d t.bits (overLanes (1024 / w) (act s w) (fun j =>
          convertElem t f (s.rounding j) (lane f.bits x.1 j))) x.2.1).popIf (s.xvRm == 4)
      | _, _ => s) s

/-! Block quantisation -/

/-- Whether a format is one of the block formats: INT8, INT4 or narrow (R171). -/
def blockCode (c : BitVec 5) : Bool := c == 0x02 || c == 0x00 || decide (0x10 ≤ c.toNat)

/-- The largest magnitude of a block format as m · 2^e (R84). -/
def largestOf : ElemFmt → Nat × Int
  | .int _ b => (2 ^ (b - 1) - 1, 0)
  | .flt f _ => f.magValue f.maxMag
  | .e8m0 => (1, 127)

/-- The floor of its logarithm (R84). DESIGN CHOICE (log entry 112): a narrow format whose largest finite value is 0 (EXP = 1,
MAN = 0, NaN-only) takes minus its BIAS. -/
def emaxOf (f : ElemFmt) : Int := let v := largestOf f; (bitLen v.1 : Int) - 1 + v.2

/-- The code of plus or minus the largest magnitude; an unsigned format has no sign. -/
def largestCode (f : ElemFmt) (neg : Bool) : Nat :=
  match f with
  | .int _ b => wrapInt b (if neg then -(2 ^ (b - 1) - 1 : Nat) else (2 ^ (b - 1) - 1 : Nat))
  | .flt q _ => q.withSign neg q.maxMag
  | .e8m0 => 254

/-- The scale of a block (R84). -/
def blockScale (f : ElemFmt) (xs : List FVal) : Nat :=
  let mags := xs.filterMap (fun x => match x with
    | .fin _ m e => if m = 0 then none else some ((bitLen m : Int) - 1 + e)
    | _ => none)
  match mags with
  | [] => if xs.any FVal.isNaN then 255 else 0
  | k :: ks => (max 0 (min 254 (ks.foldl max k - emaxOf f + 127))).toNat

/-- One element of a block encoded with its scale (R84). Minus infinity into an unsigned narrow format is R63's: DESIGN CHOICE (log entry
138). -/
def quantElem (f : ElemFmt) (r : Rounding) (scale : Nat) (x : FVal) : Nat × BitVec 7 :=
  match x with
  | .nan neg =>
    match f with
    | .flt q _ => q.nanCode neg
    | _ => (largestCode f neg, flagNV)
  | .inf neg =>
    match f with
    | .flt q _ =>
      if neg && !q.sgn then (0, flagNV)
      else match q.infMag with
        | some i => (q.withSign neg i, 0)
        | none => (largestCode f neg, flagOF)
    | _ => (largestCode f neg, flagOF)
  | .fin neg m e =>
    let e' := e - ((scale : Int) - 127)
    match f with
    | .flt q _ =>
      let y := q.round r neg m e' false
      if y.2 &&& flagOF = 0 then y else (largestCode f neg, flagOF ||| flagNX)
    | .int _ b =>
      let y := roundToInt r neg m e'
      if 2 ^ (b - 1) - 1 < y.1 then (largestCode f neg, flagOF ||| flagNX)
      else (wrapInt b (if neg then -(y.1 : Int) else y.1),
        if y.2 then (if y.1 = 0 then flagNX ||| flagUF else flagNX) else 0)
    | .e8m0 => (0, 0)

/-- Whether a block instruction's block format resolves and is a block format (R171, R172). -/
def State.blockFmt (s : State) (c : BitVec 5) : Option ElemFmt :=
  match s.fmtCode c with
  | some k => if blockCode k then elemFmt s.here.fmt k else none
  | none => none

/-- The codes of a vector's blocks with their flags, and the scales (R171). -/
def quantVec (f src : ElemFmt) (rd : Nat → Rounding) (x : VReg) : List Nat × List Nat × BitVec 7 :=
  let n := 1024 / src.bits
  let vals := (List.range n).map (fun i => src.decode (lane src.bits x i))
  let scales := (List.range (n / 32)).map (fun b => blockScale f ((vals.drop (32 * b)).take 32))
  let rs := (List.range n).map (fun i =>
    quantElem f (rd i) ((scales[i / 32]?).getD 0) ((vals[i]?).getD (.fin false 0 0)))
  (rs.map (fun r => r.1), scales, rs.foldl (fun acc r => acc ||| r.2) 0)

/-- `VQBLK` (R171): target `o`, source `m`. -/
def execVqblk (g : Guard) (d : Dst) (a : Src) (o m : BitVec 5) (s : State) : Out :=
  let all := fun (_ : Nat) => true
  runOp .v g (fun s =>
      match s.blockFmt o, s.fmtOf m with
      | some _, some f => s.vchecks (s.cur.unsetV a) (s.vread 1 a f.bits f.nan all).2.2
      | _, _ => { s.vchecks (s.cur.unsetV a) none with illegal := true })
    (fun s =>
      match s.blockFmt o, s.fmtOf m with
      | some t, some f =>
        let x := s.vread 1 a f.bits f.nan all
        let q := quantVec t f s.rounding x.1
        let v := packLanes (if t.bits = 4 then 4 else 8) q.1 % 2 ^ 960 + 2 ^ 960 * packLanes 8 q.2.1
        (s.vresult 6 d 1024 (wholeVec v, q.2.2) x.2.1).popIf (s.xvRm == 4)
      | _, _ => s) s

/-- One code decoded with its block's scale into a float format (R85). -/
def dequantElem (t : FloatSpec) (f : ElemFmt) (r : Rounding) (scale c : Nat) : Nat × BitVec 7 :=
  if scale = 255 then t.nanCode false
  else match f.decode c with
    | .fin neg m e => t.round r neg m (e + ((scale : Int) - 127)) false
    | v => t.deliver r v

/-- The source lanes `VDQBLK` reads: the codes of its n elements and the scales of its blocks (R172). -/
def dqblkReads (bits n i : Nat) : Bool :=
  decide (i < n) || (decide (960 ≤ i * bits) && decide (i * bits < 960 + 8 * (n / 32)))

/-- `VDQBLK` (R172): target `o`, source `m`. -/
def execVdqblk (g : Guard) (d : Dst) (a : Src) (o m : BitVec 5) (s : State) : Out :=
  runOp .v g (fun s =>
      match s.blockFmt m, s.fmtOf o with
      | some f, some (.flt _ tb) =>
        s.vchecks (s.cur.unsetV a) (s.vread 1 a f.bits f.nan (dqblkReads f.bits (1024 / tb))).2.2
      | _, _ => { s.vchecks (s.cur.unsetV a) none with illegal := true })
    (fun s =>
      match s.blockFmt m, s.fmtOf o with
      | some f, some (.flt t tb) =>
        let x := s.vread 1 a f.bits f.nan (dqblkReads f.bits (1024 / tb))
        (s.vresult 6 d tb (overLanes (1024 / tb) (fun _ => true) (fun i =>
          dequantElem t f (s.rounding i) (lane 8 x.1 (120 + i / 32)) (lane f.bits x.1 i))) x.2.1).popIf (s.xvRm == 4)
      | _, _ => s) s

/-! Codebooks -/

/-- The expansion `VCBX` makes (R174). -/
def State.vcbx (s : State) (a : Src) (w : LaneW) (k : BitVec 2) : VReg × Bool × Option Word :=
  cbExpand ((s.here.cbctl[k.toNat]?).getD 0) k.toNat w.bits 0 (s.here.banks s.slot) (s.cur.srcV a) (s.active w.bits)

/-- `VCBX` (R174). -/
def execVcbx (g : Guard) (d : Dst) (a : Src) (w : LaneW) (k : BitVec 2) (s : State) : Out :=
  runOp .v g (fun s => s.vchecks (s.cur.unsetV a) (s.vcbx a w k).2.2)
    (fun s =>
      let x := s.vcbx a w k
      s.vresult 3 d w.bits (overLanes w.lanes (s.active w.bits) (fun i => (lane w.bits x.1 i, 0))) x.2.1) s

/-- The valid entries of a bank with their indices, as values of a type (R175). -/
def State.cbCands (s : State) (t : FloatT) (k : BitVec 2) : List (Nat × FVal) :=
  let ctl := (s.here.cbctl[k.toNat]?).getD 0
  let banks := s.here.banks s.slot
  (List.range (2 ^ (cbWidth ctl).getD 2)).filterMap (fun idx =>
    let key := 256 * k.toNat + (cbBase ctl + idx) % 256
    if banks.2.contains key then
      some (idx, (floatSpec t).decode (fld (spGet 0 banks.1 key).toNat 0 (floatBits t)))
    else none)

/-- The distance of two values, infinities apart (R175). -/
def FVal.dist (x y : FVal) : FVal :=
  match (x.add rne y.neg).1 with
  | .fin _ m e => .fin false m e
  | .inf _ => .inf false
  | .nan a => .nan a

/-- Whether candidate `y` is nearer to `x` than `z`, or for an infinite `x` equal to it or further towards it (R175). -/
def nearer (x y z : FVal) : Bool :=
  match x with
  | .inf neg =>
    if y.eq x then !z.eq x
    else if z.eq x then false
    else if neg then y.lt z else z.lt y
  | _ => (x.dist y).lt (x.dist z)

/-- The nearest candidate, ties to the lowest index (R175). -/
def nearest (x : FVal) : List (Nat × FVal) → Option (Nat × FVal)
  | [] => none
  | c :: cs =>
    match nearest x cs with
    | none => some c
    | some b => if nearer x b.2 c.2 then some b else some c

/-- The index of one lane (R175). DEDUCED (log entry 113): a NaN lane matched to a NaN entry sets no flag. -/
def cbqLane (cands : List (Nat × FVal)) (x : FVal) : Nat × BitVec 7 :=
  if x.isNaN then
    match cands.find? (fun c => c.2.isNaN) with
    | some c => (c.1, 0)
    | none => (0, flagNV)
  else
    match nearest x (cands.filter (fun c => !c.2.isNaN)) with
    | some c => (c.1, if x.eq c.2 then 0 else flagNX)
    | none => (0, 0)

/-- `VCBQ` (R175). -/
def execVcbq (g : Guard) (d : Dst) (a : Src) (t : FloatT) (k : BitVec 2) (s : State) : Out :=
  let lw := floatBits t
  runOp .v g (fun s =>
      let ctl := (s.here.cbctl[k.toNat]?).getD 0
      let bad := (cbWidth ctl).isNone || cbPol ctl == 3 || cbElems ctl != 1
        || (s.cbCands t k).all (fun c => c.2.isNaN)
      s.vchecks (s.cur.unsetV a) (if bad then some (cbBadAddr k.toNat) else none))
    (fun s =>
      let w := (cbWidth ((s.here.cbctl[k.toNat]?).getD 0)).getD 2
      let cands := s.cbCands t k
      s.vresult 6 d w (overLanes (1024 / lw) (s.active lw) (fun i =>
        cbqLane cands ((floatSpec t).decode (lane lw (s.cur.srcV a) i)))) false) s

end Sys2Proof.Machine
end

