-- ==== Sys2Proof/Machine/Engine.lean ====
section
/-! DEFINITION. The matrix engine's registers, shadow set and swap-in, and the codebook banks' writes (spec/09 R269 to R276, R287,
R288): the E slot's `EWR`, `ERD`, `ESTAT`, go-forms and codebook writes. -/

namespace Sys2Proof.Machine

/-! Registers -/

/-- The place of a register of the sets (Table 9.5) and its writable bits (Tables 9.6, 9.7). -/
def nestIdx : NestReg → Nat
  | .mctl => 0
  | .mfmt => 1
  | .mabase => 2
  | .mbbase => 3
  | .mzbase => 4
  | .mstr l => 5 + l.val
  | .mcnt l => 11 + l.val
def nestMask : NestReg → Word
  | .mctl => 0x7F1FF77
  | .mfmt => 0x1F1F1F
  | .mabase => 0xFFFFFF
  | .mbbase => 0xFFFFFF
  | .mzbase => 0x7F
  | .mstr _ => 0xFFFFFFFFFFFFFFFF
  | .mcnt _ => 0xFFFFFFFF

/-- A register of a set. -/
def setReg (set : Vector Word 17) (r : NestReg) : Word := (set[nestIdx r]?).getD 0

/-- The slot that owns the shadow set. -/
def ShadowState.owner : ShadowState → Option Nat
  | .free => none
  | .filling k => some k
  | .ready k _ _ => some k

/-- Whether a task of a slot owns the shadow set. -/
def ShadowState.mine (q : ShadowState) (slot serial : Nat) : Bool :=
  match q with
  | .free => false
  | .filling k => k == slot
  | .ready k _ n => k == slot && n == serial

/-- Whether a write by a context is busy (Table 9.10). -/
def ShadowState.busy (q : ShadowState) (slot : Nat) : Bool :=
  match q with
  | .free => false
  | .filling k => k != slot
  | .ready _ _ _ => true

/-- A write of the shadow set takes effect (R273, R274). -/
def Tile.applyEngine (t : Tile) (slot seq serial : Nat) : EngineWrite → Tile
  | .reg r v =>
    { t with shadow := t.shadow.setIfInBounds (nestIdx r) (v &&& nestMask r)
             shadowSt := .filling slot }
  | .go k =>
    { t with
      shadow := match k with
        | some q => t.shadow.setIfInBounds 0 (setFld (setReg t.shadow .mctl) 0 3 q.toNat)
        | none => t.shadow
      shadowSt := .ready slot seq serial }

/-- Whether a write outside a context has reached its cycle. -/
def Pending.due (p : Pending) (t : Tile) : Bool :=
  if t.running = some p.slot then decide (p.core ≤ t.core) else decide (p.wall ≤ t.wall)

/-- The engine writes that are due, in order: one judged not busy at its cycle, a held one when the state admits it (R273). -/
def Tile.settleEngine (t : Tile) : Tile :=
  t.pending.foldl (fun t p => match p.act with
    | .engine w =>
      if p.due t && (!p.held || !t.shadowSt.busy p.slot) then
        let t1 := t.applyEngine p.slot p.seq p.serial w
        { t1 with pending := t1.pending.filter (fun q => q.seq != p.seq) }
      else t
    | _ => t) t

/-- Whether bank `b` is in use (R288). -/
def Tile.bankInUse (t : Tile) (b : Nat) : Bool :=
  let uses := fun (set : Vector Word 17) => let c := setReg set .mctl; c.getLsbD 24 && wfld c 25 2 == b
  (t.op.isSome && uses t.active) || (match t.shadowSt with
    | .ready _ _ _ => uses t.shadow
    | _ => false)

/-- The bank a codebook write names. -/
def CbAct.bank : CbAct → Nat
  | .write b _ _ => b
  | .load b _ _ => b
  | .invalidate b _ _ => b

/-- Held codebook writes whose bank is no longer in use are applied, counting from this wall cycle; writes every context sees
are merged into the banks (R176, R288). -/
def Tile.settleBanks (t : Tile) : Tile :=
  let t1 : Tile := { t with pending := t.pending.map (fun (p : Pending) => match p.act with
      | .codebook a =>
        if p.held && !t.bankInUse a.bank && decide (p.wall ≤ t.wall + 2) then
          { p with held := false, core := t.core + 3, wall := t.wall + 3 }
        else p
      | _ => p) }
  t1.pending.foldl (fun t p => match p.act with
    | .codebook a =>
      if !p.held && decide (p.core ≤ t.core) && decide (p.wall ≤ t.wall) then
        let b := a.apply t.cbEntry t.cbValid
        { t with cbEntry := b.1, cbValid := b.2, pending := t.pending.filter (fun q => q.seq != p.seq) }
      else t
    | _ => t) t1

/-- `MSTAT` as a context reads it (Table 9.12). -/
def Tile.mstat (t : Tile) (slot : Nat) : Word :=
  let c := t.ctx slot
  let bit := fun (b : Bool) (i : Nat) => if b then 2 ^ i else 0
  let sh := match t.shadowSt with
    | .free => 0
    | .filling k => k * 2 ^ 8 + 1 * 2 ^ 6 + bit (k == slot) 5
    | .ready k _ n => k * 2 ^ 8 + 2 * 2 ^ 6 + bit (k == slot && n == c.serial) 5
  let act := match t.op with
    | none => 0
    | some o => bit (o.slot == slot && o.serial == c.serial && !o.orphan) 4 + 8 + o.kind.toNat
  BitVec.ofNat 64 (c.done.toNat * 2 ^ 48 + c.err.toNat * 2 ^ 44 + bit t.wval 29 + t.wtag.toNat * 2 ^ 24
    + t.accFloat.toNat * 2 ^ 16 + sh + act)

/-- What `ERD` of a register returns (R276, Table 9.14). -/
def Tile.engineReg (t : Tile) (slot : Nat) : EReg → Word
  | .shadow r => setReg t.shadow r
  | .active r => setReg t.active r
  | .mstat => t.mstat slot
  | .bstat b => let x := t.barrier b.toNat; BitVec.ofNat 64 ((if x.ovf then 2 ^ 32 else 0) + x.count.toNat)
  | .bcfg b => (t.barrier b.toNat).cfg

/-! Register instructions -/

/-- A write of the shadow set at its issue: it is busy or not by the state as it stands (R273). -/
def State.issueEngine (s : State) (w : EngineWrite) : State :=
  if s.here.shadowSt.busy s.slot then
    let s1 := s.pend .e 1 true (.engine w)
    { s1 with issue := { s1.issue with endBlock := some .shadow } }
  else s.pend .e 1 false (.engine w)

/-- `EWR` (R276, R269). -/
def execEwr (g : Guard) (a : Src) (r : EReg) (s : State) : Out :=
  runOp .e g (fun s => Checks.reads (s.cur.unsetE a))
    (fun s => match r with
      | .shadow q => s.issueEngine (.reg q (s.cur.srcE a))
      | .bcfg b => (s.pend .e 1 false (.bcfg b.toNat (s.cur.srcE a))).usesBarrier s.me b.toNat
      | _ => s) s

/-- `ERD` (R276). -/
def execErd (g : Guard) (d : Dst) (r : EReg) (s : State) : Out :=
  runOp .e g (fun _ => Checks.reads false)
    (fun s => s.resultWord .e .e 3 d (s.here.settleBarriers.engineReg s.slot r)) s

/-- `ESTAT` (R276). -/
def execEstat (g : Guard) (d : Dst) (s : State) : Out :=
  runOp .e g (fun _ => Checks.reads false) (fun s => s.resultWord .e .e 3 d (s.here.mstat s.slot)) s

/-- A go-form (R274). -/
def runGo (k : Option (BitVec 3)) (g : Guard) (s : State) : Out :=
  runOp .e g (fun _ => Checks.reads false) (fun s => s.issueEngine (.go k)) s

/-- `EGO` (R274). -/
def execEgo (g : Guard) (s : State) : Out := runGo none g s

/-- `MLOADW` (R274). -/
def execMloadw (g : Guard) (s : State) : Out := runGo (some 1) g s

/-- `MMAC` (R274). -/
def execMmac (g : Guard) (s : State) : Out := runGo (some 2) g s

/-- `MDRAIN` (R274). -/
def execMdrain (g : Guard) (s : State) : Out := runGo (some 3) g s

/-- The active operation stops within 16 cycles and completes with ERR 4 (R274); `k` chooses the cycle. -/
def ActiveOp.abort (o : ActiveOp) (wall k : Nat) : ActiveOp :=
  if o.err = 0 then { o with err := 4, finish := min o.finish (wall + 1 + k % 16) } else o

/-- What an owner's abort does (R274). -/
def State.abortEngine (s : State) (r : CtxRef) : State :=
  let x := s.choose 16
  x.2.modTile (tileOf r) (fun t =>
    { t with
      op := t.op.map (fun o => if o.slot = r.slot ∧ o.serial = (t.ctx r.slot).serial then o.abort t.wall x.1 else o)
      shadowSt := if t.shadowSt.mine r.slot (t.ctx r.slot).serial then .free else t.shadowSt })

/-- `EABORT` (R274). -/
def execEabort (g : Guard) (s : State) : Out :=
  runOp .e g (fun _ => Checks.reads false) (fun s => s.abortEngine s.me) s

/-! Swap-in -/

/-- The kinds of element format the array takes (Table 9.9, Table 2.13). -/
inductive ArrayKind where
  | int | narrow | bf16
  deriving DecidableEq, Repr, Inhabited
def arrayKind (code : BitVec 5) : Option ArrayKind :=
  if code.toNat ≤ 3 then some .int else if code = 0x0A then some .bf16 else if 0x10 ≤ code.toNat then some .narrow else none

/-- The code an operation's format resolves to (R65). -/
def Tile.resolveCode (t : Tile) (slot : Nat) (code : BitVec 5) : Option (BitVec 5) :=
  if code = 0x0F then resolveLp t.ftab t.ftctl (t.ctx slot).lc else some code

/-- COUNT and the strides of the levels of a set. -/
def setCounts (set : Vector Word 17) : List Nat := (List.range 6).map (fun l => wfld ((set[11 + l]?).getD 0) 16 16)
def setSA (set : Vector Word 17) : List Int := (List.range 6).map (fun l => sfld ((set[5 + l]?).getD 0).toNat 0 32)
def setSB (set : Vector Word 17) : List Int := (List.range 6).map (fun l => sfld ((set[5 + l]?).getD 0).toNat 32 32)
def setSZ (set : Vector Word 17) : List Int := (List.range 6).map (fun l => sfld ((set[11 + l]?).getD 0).toNat 0 16)

/-- The number of passes (R270). -/
def setPasses (set : Vector Word 17) : Nat := (setCounts set).foldl (· * ·) 1

/-- The indices of pass `p`, level 0 innermost (R270). -/
def passIdx : List Nat → Nat → List Nat
  | [], _ => []
  | c :: cs, p => p % c :: passIdx cs (p / c)

/-- An address or row of the nest at given indices (R270). -/
def nestAt (base : Int) (strides : List Int) (idx : List Nat) : Int :=
  (strides.zip idx).foldl (fun acc x => acc + x.1 * (x.2 : Int)) base

/-- The extremes of a linear form over the nest (R271). -/
def nestSpan (base : Int) (strides : List Int) (counts : List Nat) : Int × Int :=
  (strides.zip counts).foldl (fun acc x =>
    let d := x.1 * ((x.2 : Int) - 1)
    (acc.1 + min d 0, acc.2 + max d 0)) (base, base)

/-- Whether a pass address of the nest is ever off a 32-byte boundary. -/
def nestMisaligned (base : Int) (strides : List Int) (counts : List Nat) : Bool :=
  base % 32 != 0 || (strides.zip counts).any (fun x => decide (1 < x.2) && x.1 % 32 != 0)

/-- The operation's own code for its format: the input of `MAC`, the weights of `LOADW`, the output of `DRAIN`. -/
def setFormat (set : Vector Word 17) : BitVec 5 :=
  let f := setReg set .mfmt
  match wfld (setReg set .mctl) 0 3 with
  | 1 => BitVec.ofNat 5 (wfld f 8 5)
  | 2 => BitVec.ofNat 5 (wfld f 0 5)
  | _ => BitVec.ofNat 5 (wfld f 16 5)

/-- The tile register an operation names (Table 9.6). -/
def setTreg (set : Vector Word 17) : Option Nat :=
  let c := setReg set .mctl
  match wfld c 0 3 with
  | 2 => if c.getLsbD 11 then some (wfld c 12 4) else none
  | 3 => if c.getLsbD 16 then some (wfld c 20 4) else none
  | _ => none

/-- The bytes one pass reads or writes (Table 9.8). -/
def rowBytes (set : Vector Word 17) (bits : Nat) (cbctl : Word) : Nat :=
  let c := setReg set .mctl
  if wfld c 0 3 = 1 ∧ c.getLsbD 24 = true then 16 * (cbWidth cbctl).getD 2 / cbElems cbctl else 16 * bits

/-- The base and strides of the stream an operation moves (R270). -/
def setStream (set : Vector Word 17) : Int × List Int :=
  if wfld (setReg set .mctl) 0 3 = 2 then ((setReg set .mabase).toNat, setSA set) else ((setReg set .mbbase).toNat, setSB set)

/-- The refusal code of an operation at its swap-in; 0 where it runs (Table 9.9, and R397 for a bank without type).
A `DRAIN` whose OFMT is E8M0 is none of its rows and runs: DESIGN CHOICE (log entry 135). -/
def Tile.engineErr (t : Tile) (slot : Nat) (set : Vector Word 17) : Nat :=
  let ctl := setReg set .mctl
  let kind := wfld ctl 0 3
  let counts := setCounts set
  let z := nestSpan ((setReg set .mzbase).toNat) (setSZ set) counts
  let st := setStream set
  let cbctl := (t.cbctl[wfld ctl 25 2]?).getD 0
  if kind = 0 ∨ 3 < kind then 1
  else match t.resolveCode slot (setFormat set) with
    | none => 1
    | some code => match elemFmt t.fmt code with
      | none => 1
      | some f =>
        let shape := ((t.ctx slot).tshape[(setTreg set).getD 0]?).getD 0
        let badW := kind == 1 && ((arrayKind code).isNone || (ctl.getLsbD 24 && cbRefused cbctl f.bits))
        let badA := kind == 2 && (!t.wval || (arrayKind code).isNone || arrayKind code != arrayKind t.wtag
          || (elemFmt t.fmt t.wtag).isNone)
        let badD := kind == 3 && decide (4 < wfld ctl 8 3)
        let a := nestSpan st.1 st.2 counts
        let last := a.2 + (rowBytes set f.bits cbctl : Int) - 1
        if badW || badA || badD || ((setTreg set).isSome && shapeBad shape) then 1
        else if counts.any (fun c => c == 0) || (kind == 1 && setPasses set != 128)
            || decide (z.1 < 0) || decide (127 < z.2) || decide (a.1 < 0) then 2
        else if match setTreg set with
            | none => decide ((saveBase : Int) ≤ last) || nestMisaligned st.1 st.2 counts
            | some n => decide (t.tregShare ≤ n) || decide ((shapeRows shape * shapeBytes shape : Nat) ≤ last) then 2
        else if (kind = 2 ∧ ctl.getLsbD 5 = false
              ∧ (t.accFloat.getLsbD (wfld ctl 4 1) ≠ (arrayKind code != some ArrayKind.int) ∨ t.accVoid.getLsbD (wfld ctl 4 1) = true))
            ∨ (kind = 3 ∧ t.accVoid.getLsbD (wfld ctl 4 1) = true) then 3
        else 0

/-- Half cycles per pass (Table 9.8). -/
def passRate (kind : Nat) (code : BitVec 5) (bits : Nat) : Nat :=
  match kind with
  | 1 => if code = 0x0A then 4 else 2
  | 2 => if bits = 4 then 1 else if code = 0x0A then 8 else 2
  | _ => 2 * max 1 (bits / 8)

/-- The wall cycles from swap-in to completion (R272). -/
def engineTime (set : Vector Word 17) (code : BitVec 5) (bits err f : Nat) : Nat :=
  let ctl := setReg set .mctl
  let kind := wfld ctl 0 3
  if err ≠ 0 then 1
  else (if kind = 2 ∧ ctl.getLsbD 5 = true then 32 else 0) + (setPasses set * passRate kind code bits * 8 + 2 * f - 1) / (2 * f)
    + (match kind with
       | 1 => if ctl.getLsbD 24 then 17 else 16
       | 2 => 140
       | _ => 20)

/-- SWAP-IN (R275, R271): the shadow set becomes the active operation of the task that made it Ready, on a node whose throttle factor
is `f` (R435). -/
def Tile.swapIn (t : Tile) (f : Nat) : Tile :=
  match t.shadowSt, t.op with
  | .ready slot seq serial, none =>
    let set := t.shadow
    let ctl := setReg set .mctl
    let err := t.engineErr slot set
    let code := (t.resolveCode slot (setFormat set)).getD 0
    let bits := ((elemFmt t.fmt code).map ElemFmt.bits).getD 8
    let o : ActiveOp := ⟨slot, serial, seq, BitVec.ofNat 3 (wfld ctl 0 3), t.wall,
      t.wall + engineTime set code bits err f, 0, BitVec.ofNat 4 err, 0, false, false, code, t.fmt,
      (t.cbctl[wfld ctl 25 2]?).getD 0, (t.ctx slot).tshape⟩
    { t with active := set, shadowSt := .free, op := some o
             wval := t.wval && !(err == 0 && wfld ctl 0 3 == 1) }
  | _, _ => t

/-! Codebook writes -/

/-- A codebook write at its issue (R287, R288): in effect by R176, or held with its block ended while its bank is in use. -/
def State.issueCodebook (s : State) (a : CbAct) : State :=
  if s.here.bankInUse a.bank then
    let s1 := s.pend .e 3 true (.codebook a)
    { s1 with issue := { s1.issue with endBlock := some .codebook } }
  else s.pend .e 3 false (.codebook a)

/-- `CBWR` (R287). -/
def execCbwr (g : Guard) (k : BitVec 2) (a b : Src) (s : State) : Out :=
  runOp .e g (fun s => Checks.reads (s.cur.unsetE a || s.cur.unsetE b))
    (fun s => s.issueCodebook (.write k.toNat ((s.cur.srcE a).setWidth 8) (s.cur.srcE b))) s

/-- `CBWR.NW` (R287). -/
def execCbwrNw (g : Guard) (k : BitVec 2) (a b : Src) (s : State) : Out :=
  runOp .e g (fun s => (Checks.reads (s.cur.unsetE a || s.cur.unsetE b)).withOwn
      (if s.here.bankInUse k.toNat then some (.cbHazard, BitVec.ofNat 64 (k.toNat * 256 + wfld (s.cur.srcE a) 0 8)) else none))
    (fun s => s.pend .e 3 false (.codebook (.write k.toNat ((s.cur.srcE a).setWidth 8) (s.cur.srcE b)))) s

/-- The check of `CBLD` (R287). -/
def cbldFault (t : Tile) (a b : Word) : Option (Cause × Word) :=
  if a.toNat % 4 ≠ 0 ∨ wfld b 0 8 % 4 ≠ 0 then some (.align, a)
  else if t.spillShare / 8 ≤ a.toNat + 3 then some (.bound, a)
  else none

/-- `CBLD` (R287): its spill reads follow the M slot's access of the same bundle. -/
def execCbld (g : Guard) (k : BitVec 2) (a b : Src) (s : State) : Out :=
  runOp .e g (fun s => (Checks.reads (s.cur.unsetE a || s.cur.unsetE b)).withOwn (cbldFault s.here (s.cur.srcE a) (s.cur.srcE b)))
    (fun s =>
      let off := s.here.spillOff s.slot (8 * (s.cur.srcE a).toNat)
      match s.spillBad s.focus off 32 with
      | some j => s.spillUe (BitVec.ofNat 64 (2 ^ 60 + 8 * (s.cur.srcE a).toNat + j)) none
      | none => s.issueCodebook (.load k.toNat ((s.cur.srcE b).setWidth 8) ((List.range 4).map (fun i =>
          s.readWord .spill s.focus (off + 8 * i))))) s

/-- `CBINV` (R287). -/
def execCbinv (g : Guard) (k : BitVec 2) (a : Src) (s : State) : Out :=
  runOp .e g (fun s => (Checks.reads (s.cur.unsetE a)).withOwn
      (if 256 < wfld (s.cur.srcE a) 8 9 then some (.bound, s.cur.srcE a) else none))
    (fun s => s.issueCodebook (.invalidate k.toNat ((s.cur.srcE a).setWidth 8) (wfld (s.cur.srcE a) 8 9))) s

end Sys2Proof.Machine
end

