-- ==== Sys2Proof/Machine/EngineRun.lean ====
section
/-! DEFINITION. The matrix engine's passes and their arithmetic (spec/02 R79 to R81, spec/09 R270 to R275, spec/17 R423), its
swap-in and its completion. -/

namespace Sys2Proof.Machine

/-! Arithmetic -/

/-- A value's sign and exact magnitude as a signed multiple of 2^lo, for `lo` at most its exponent. -/
def scaledInt (lo : Int) : FVal → Int
  | .fin neg m e => let x : Int := (m <<< (e - lo).toNat : Nat); if neg then -x else x
  | _ => 0

/-- The exponent of a finite value; of others 0. -/
def FVal.expo : FVal → Int
  | .fin _ _ e => e
  | _ => 0

/-- Whether a value is an infinity of a sign, or finite and not zero. -/
def FVal.isInf (neg : Bool) : FVal → Bool
  | .inf n => n == neg
  | _ => false
def FVal.nonzero : FVal → Bool
  | .fin _ m _ => m != 0
  | _ => false

/-- The weight exponent of the highest bit of a nonzero value (R80). -/
def FVal.top : FVal → Int
  | .fin _ m e => (bitLen m : Int) - 1 + e
  | _ => 0

/-- A finite product truncated toward zero to a multiple of 2^k (R80). -/
def FVal.truncTo (k : Int) : FVal → FVal
  | .fin n m e => if k ≤ e then .fin n m e else .fin n (m >>> (k - e).toNat) k
  | v => v

/-- The exact sum of finite values: zero takes the sign of R79. -/
def exactSum (ps : List FVal) : FVal :=
  let lo := ps.foldl (fun m p => min m p.expo) (ps.headD (.fin false 0 0)).expo
  let x := ps.foldl (fun acc p => acc + scaledInt lo p) 0
  if x = 0 then .fin (ps.all (fun p => match p with
    | .fin n m _ => n && m == 0
    | _ => false)) 0 0
  else .fin (decide (x < 0)) x.natAbs lo

/-- One chunk's sum as binary64 with its flags (R79 to R81). DEDUCED (log entry 111): a NaN input beside infinite products of
both signs sets no ENV. -/
def chunkSum (bf16 : Bool) (xs : List (FVal × FVal)) : Nat × BitVec 7 :=
  let ps := xs.map (fun x => x.1.mul x.2)
  let vs := ps.map (fun p => p.1)
  let inv := ps.any (fun p => p.2)
  let nan := vs.any (fun v => v.isNaN)
  let pinf := vs.any (fun v => v.isInf false)
  let ninf := vs.any (fun v => v.isInf true)
  let f0 : BitVec 7 := if inv || (!nan && pinf && ninf) then flagNV else 0
  if nan || (pinf && ninf) then ((specFp64.canonNaN).getD 0, f0)
  else if pinf then (specFp64.withSign false ((specFp64.infMag).getD 0), f0)
  else if ninf then (specFp64.withSign true ((specFp64.infMag).getD 0), f0)
  else
    let exact := exactSum vs
    let nz := vs.filter (fun v => v.nonzero)
    let summed :=
      if bf16 ∧ nz.isEmpty = false then
        exactSum (vs.map (fun v => if v.nonzero then v.truncTo
          (nz.foldl (fun m v => max m v.top) (nz.headD (.fin false 0 0)).top - 95) else v))
      else exact
    let y := match summed, exact with
      | .fin _ 0 _, .fin _ (_ + 1) _ => FVal.fin false 0 0
      | v, _ => v
    let q := specFp64.finish rne (y, false)
    (q.1, f0 ||| (q.2 &&& ~~~flagNX) ||| (if (specFp64.decode q.1).eq exact then 0 else flagNX))

/-- A chunk added to a binary64 accumulator (R79, R81). -/
def addChunk (acc : Nat) (c : Nat × BitVec 7) : Nat × BitVec 7 :=
  let q := specFp64.finish rne ((specFp64.decode acc).add rne (specFp64.decode c.1))
  (q.1, c.2 ||| q.2)

/-- The four chunks of 32 of a list of 128. -/
def chunks {α : Type} (xs : List α) : List (List α) := (List.range 4).map (fun i => (xs.drop (32 * i)).take 32)

/-- One pass on a floating entry (R79). -/
def dotFloat (bf16 : Bool) (acc : Nat) (xs : List (FVal × FVal)) : Nat × BitVec 7 :=
  (chunks xs).foldl (fun a c =>
    let q := addChunk a.1 (chunkSum bf16 c)
    (q.1, a.2 ||| q.2)) (acc, 0)

/-- One pass on an integer entry (R79): saturating additions of exact chunk sums. -/
def dotInt (acc : Int) (xs : List (Int × Int)) : Int × BitVec 7 :=
  (chunks xs).foldl (fun a c =>
    let y := a.1 + c.foldl (fun s x => s + x.1 * x.2) 0
    if y < intMin true 64 then (intMin true 64, a.2 ||| flagSA)
    else if intMax true 64 < y then (intMax true 64, a.2 ||| flagSA)
    else (y, a.2)) (acc, 0)

/-! The array and the accumulators -/

/-- Consecutive values of sparse data. -/
def spDense {α : Type} (d : α) : Sparse α → Nat → Nat → List α
  | _, _, 0 => []
  | [], k, n + 1 => d :: spDense d [] (k + 1) n
  | (j, v) :: r, k, n + 1 => if j = k then v :: spDense d r (k + 1) n else d :: spDense d ((j, v) :: r) (k + 1) n

/-- `n` values of sparse data from key `k`. -/
def spRange {α : Type} (d : α) (m : Sparse α) (k n : Nat) : List α := spDense d (m.dropWhile (fun e => decide (e.1 < k))) k n

/-- Sparse data with consecutive values placed. -/
def spFill {α : Type} (m : Sparse α) (k : Nat) (vs : List α) : Sparse α :=
  m.filter (fun e => decide (e.1 < k)) ++ (vs.zipIdx).map (fun v => (k + v.2, v.1))
    ++ m.filter (fun e => decide (k + vs.length ≤ e.1))

/-- A row of an accumulator bank, by its key. -/
def accRow (zb row : Nat) : Nat := (zb * 128 + row) * 128

/-- The elements of a row of memory (R54). -/
def rowElems (bits : Nat) (bs : List Byte) : List Nat :=
  let n := bytesToNat bs
  (List.range 128).map (fun i => fld n (bits * i) bits)

/-- The 128 weights of each column of the array. -/
def Tile.columns (t : Tile) : List (List Nat) :=
  let rows := (List.range 128).map (fun k => (spRange (0 : BitVec 16) t.weights (128 * k) 128).map BitVec.toNat)
  (List.range 128).map (fun c => rows.map (fun r => r.getD c 0))

/-- An integer element. -/
def ElemFmt.toInt (f : ElemFmt) (c : Nat) : Int :=
  match f with
  | .int true b => sfld c 0 b
  | .int false b => fld c 0 b
  | _ => 0

/-- One pass on an entry by the kind of its inputs, and the entry's flags (R79). -/
def dotEntry (fa fw : ElemFmt) (bf16 : Bool) (acc : Word) (as ws : List Nat) : Word × BitVec 7 :=
  match fa with
  | .int _ _ =>
    let q := dotInt acc.toInt ((as.map fa.toInt).zip (ws.map fw.toInt))
    (BitVec.ofInt 64 q.1, q.2)
  | _ =>
    let q := dotFloat bf16 acc.toNat ((as.map fa.decode).zip (ws.map fw.decode))
    (BitVec.ofNat 64 q.1, q.2)

/-! Passes -/

/-- The passes an accumulator entry, a row or a unit takes part in: all of them, or, in an aborted operation, as many as the
model's free choice says (R274). 0 leaves it untouched. -/
def passLimit (abort : Option Nat) (total key : Nat) : Nat :=
  match abort with
  | none => total + 1
  | some k => Config.choice (k + key) % (total + 2)

/-- Where an operation's stream lies: SRAM, or the owner's tile register (Table 9.8). -/
def State.enginePlace (s : State) (r : TileRef) (o : ActiveOp) (off : Nat) : MemSpace × Nat :=
  match setTreg (s.tile r).active with
  | none => (.sram, off)
  | some n => (.treg, (s.tile r).tregOff o.slot n off)

/-- The expansion of a `LOADW` row of indices (R78): the weights, whether an entry was substituted, and whether one trapped. -/
def expandRow (ctl : Word) (bank bits nan : Nat) (banks : Sparse Word × List Nat) (raw : Nat) : List Nat × Bool × Bool :=
  let w := (cbWidth ctl).getD 2
  let xs := (List.range (128 / cbElems ctl)).map (fun j => cbIndex ctl bank bits nan banks (fld raw (j * w) w))
  let bad := xs.any (fun x => x.2.1)
  (xs.flatMap (fun x => x.1), bad, bad && cbPol ctl == 0)

/-- A `LOADW` pass (Table 9.8): the state, the error, the flags. -/
def State.loadwPass (s : State) (r : TileRef) (o : ActiveOp) (f : ElemFmt) (abort : Option Nat) (p b : Nat) :
    State × Nat × BitVec 7 :=
  let t := s.tile r
  let n := rowBytes t.active f.bits o.cbctl
  if s.poisonIn .sram r b n then (s, 6, 0)
  else
    let bs := s.readBytes .sram r b n
    let ctl := setReg t.active .mctl
    let x := if ctl.getLsbD 24 then expandRow o.cbctl (wfld ctl 25 2) f.bits f.nan (t.banks o.slot) (bytesToNat bs)
      else (rowElems f.bits bs, false, false)
    if x.2.2 then (s, 5, 0)
    else if passLimit abort 128 0 ≤ p + 1 ∧ abort.isSome = true then (s, 0, 0)
    else
      (s.modTile r (fun t => { t with weights := spFill t.weights (128 * p) (x.1.map (BitVec.ofNat 16)) }), 0,
        if x.2.1 then flagCV else 0)

/-- A `MAC` pass. -/
def State.macPass (s : State) (r : TileRef) (o : ActiveOp) (f fw : ElemFmt) (cols : List (List Nat)) (abort : Option Nat)
    (p a zrow : Nat) : State × Nat × BitVec 7 :=
  let t := s.tile r
  let at' := s.enginePlace r o a
  let n := 16 * f.bits
  if s.poisonIn at'.1 r at'.2 n then (s, 6, 0)
  else
    let as := rowElems f.bits (s.readBytes at'.1 r at'.2 n)
    let base := accRow (wfld (setReg t.active .mctl) 4 1) zrow
    let xs := ((spRange (0 : Word) t.acc base 128).zip cols).zipIdx.map (fun x =>
      if abort.isSome && decide (passLimit abort (setPasses t.active) (base + x.2) ≤ p + 1) then (x.1.1, (0 : BitVec 7))
      else dotEntry f fw (o.fmt == 0x0A) x.1.1 as x.1.2)
    (s.modTile r (fun t => { t with acc := spFill t.acc base (xs.map (fun x => x.1)) }), 0,
      xs.foldl (fun m x => m ||| x.2) 0)

/-- The units a row of an aborted `DRAIN` writes, each whole or not at all (R274): `k` chooses for each, for a unit that rows share once. -/
def State.drainUnits (s : State) (r : TileRef) (sp : MemSpace) (off : Nat) (bs : List Byte) (k p total : Nat) : State :=
  (unitPieces off (bs.length + 1) 0 bs.length).zipIdx.foldl (fun s q =>
    let i := if q.1.2 = 8 then 130 * p + q.2 else 130 * (total + 1) + (off + q.1.1) / 8 % 32768
    if Config.choice (k + 32768 + i) % 2 = 1 then
      (s.writeBytes sp r (off + q.1.1) ((bs.drop q.1.1).take q.1.2)).healWhole sp r (off + q.1.1) q.1.2
    else s) s

/-- The free values an aborted operation of so many passes takes. -/
def abortSpan (total : Nat) : Nat := 65536 + 130 * (total + 1)

/-- A `DRAIN` pass. With stochastic rounding it pops a word, also in an operation that is aborted, whose every pass pops one: DESIGN CHOICE
(log entry 109). -/
def State.drainPass (s : State) (r : TileRef) (o : ActiveOp) (f : ElemFmt) (abort : Option Nat) (p b zrow : Nat) :
    State × Nat × BitVec 7 :=
  let t := s.tile r
  let ctl := setReg t.active .mctl
  let rm := wfld ctl 8 3
  let pop := rngPop t.rng
  let base := accRow (wfld ctl 4 1) zrow
  let src : ElemFmt := if t.accFloat.getLsbD (wfld ctl 4 1) then .flt specFp64 64 else .int true 64
  let row := spRange (0 : Word) t.acc base 128
  let xs := row.zipIdx.map (fun x => convertElem f src ⟨rm, if rm = 4 then rngBits pop.1 x.2 else 0⟩ x.1.toNat)
  let bs := natToBytes (16 * f.bits) (packLanes f.bits (xs.map (fun x => x.1)))
  let at' := s.enginePlace r o b
  let s1 := match abort with
    | none => (s.writeBytes at'.1 r at'.2 bs).healWhole at'.1 r at'.2 bs.length
    | some k => s.drainUnits r at'.1 at'.2 bs k p (setPasses t.active)
  let s2 := s1.modTile r (fun t =>
    { t with rng := if rm = 4 then pop.2 else t.rng
             acc := if ctl.getLsbD 6 then
                 spFill t.acc base (row.zipIdx.map (fun x =>
                   if abort.isSome && decide (passLimit abort (setPasses t.active) (base + x.2) ≤ p + 1) then x.1 else 0))
               else t.acc })
  (s2, 0, xs.foldl (fun m x => m ||| x.2) 0)

/-- `MAC` with ZCLR = 1 clears its bank and sets its type (Table 9.6, R272). -/
def State.clearBank (s : State) (r : TileRef) (o : ActiveOp) (abort : Option Nat) : State :=
  let t := s.tile r
  let ctl := setReg t.active .mctl
  if o.kind = 2 ∧ ctl.getLsbD 5 = true then
    let zb := wfld ctl 4 1
    let fl := arrayKind o.fmt != some ArrayKind.int
    s.modTile r (fun t =>
      { t with acc := t.acc.filter (fun e => e.1 / 16384 != zb || (abort.isSome && passLimit abort (setPasses t.active) e.1 == 0))
               accVoid := t.accVoid &&& ~~~(1#2 <<< zb)
               accFloat := if fl then t.accFloat ||| (1#2 <<< zb) else t.accFloat &&& ~~~(1#2 <<< zb) })
  else s

/-- Passes from `p` on, at most `fuel` of them, until one fails (R270, Table 9.9): the state, the passes done, the error and
the flags. -/
def State.enginePasses (s : State) (r : TileRef) (o : ActiveOp) (f fw : ElemFmt) (cols : List (List Nat)) (abort : Option Nat) :
    Nat → Nat → BitVec 7 → State × Nat × Nat × BitVec 7
  | 0, p, fl => (s, p, 0, fl)
  | fuel + 1, p, fl =>
    let set := (s.tile r).active
    let idx := passIdx (setCounts set) p
    let st := setStream set
    let ad := (nestAt st.1 st.2 idx).toNat
    let zrow := (nestAt ((setReg set .mzbase).toNat) (setSZ set) idx).toNat
    let q := match o.kind.toNat with
      | 1 => s.loadwPass r o f abort p ad
      | 2 => s.macPass r o f fw cols abort p ad zrow
      | _ => s.drainPass r o f abort p ad zrow
    if q.2.1 ≠ 0 then (q.1, p, q.2.1, fl ||| q.2.2)
    else State.enginePasses q.1 r o f fw cols abort fuel (p + 1) (fl ||| q.2.2)

/-- The passes of the active operation run up to pass `upto`. -/
def State.runEngine (s : State) (r : TileRef) (o : ActiveOp) (abort : Option Nat) (upto : Nat) : State × Nat × Nat × BitVec 7 :=
  let t := s.tile r
  let f := (elemFmt o.fmts o.fmt).getD .e8m0
  let fw := (elemFmt o.fmts t.wtag).getD .e8m0
  let cols := if o.kind = 2 then t.columns else []
  (if o.passes = 0 then s.clearBank r o abort else s).enginePasses r o f fw cols abort (upto - o.passes) o.passes o.flags

/-- An engine operation's owner is told of its completion (R272, R275); its flags follow the completions of the owner's cycle (R73). -/
def Tile.engineReport (t : Tile) (o : ActiveOp) (err : Nat) (fl : BitVec 7) : Tile :=
  if o.orphan ∨ (t.ctx o.slot).serial ≠ o.serial ∨ t.psstat.getLsbD (48 + o.slot) = true then t
  else t.modCtx o.slot (fun c => { c with done := c.done + 1, err := BitVec.ofNat 4 err, eflags := c.eflags ||| fl })

/-- The record of a saved owner takes the count, the code and the flags of its operation (R386). -/
def State.reportSaved (s : State) (r : TileRef) (o : ActiveOp) (err : Nat) (fl : BitVec 7) : State :=
  let t := s.tile r
  if o.orphan ∨ (t.ctx o.slot).serial ≠ o.serial ∨ t.psstat.getLsbD (48 + o.slot) = false then s
  else
    let b := ctxRecBase o.slot
    let w := s.readWord .sram r (b + 0x28)
    (s.writeWord .sram r (b + 0x28) (setFld (setFld w 48 16 (wfld w 48 16 + 1)) 44 4 err)).writeWord .sram r (b + 0x78)
      (s.readWord .sram r (b + 0x78) ||| (fl.setWidth 64 <<< 8))

/-- Whether the accesses the active operation follows have been performed (R252). -/
def State.engineFree (s : State) (r : TileRef) (o : ActiveOp) : Bool :=
  ((s.tile r).ctx o.slot).queue.all (fun e => decide (o.seq < e.seq) || (match e.op with
    | .store us _ => us.all (fun u => homeScope ⟨r.node, r.tile, o.slot⟩ u.ptr != .t)
    | .atom _ _ u _ => homeScope ⟨r.node, r.tile, o.slot⟩ u.ptr != .t
    | _ => true))

/-- Whether the active operation is complete once this wall cycle has passed (R272). -/
def State.engineDue (s : State) (r : TileRef) : Bool :=
  match (s.tile r).op with
  | none => false
  | some o => !o.halted && decide (o.finish ≤ (s.tile r).wall + 1) && s.engineFree r o

/-- COMPLETION of the active operation (R272, R274, R423): its remaining passes, its writes, its flags and its code. -/
def State.completeEngine (s : State) (r : TileRef) : State :=
  match (s.tile r).op with
  | none => s
  | some o =>
    let set := (s.tile r).active
    let total := setPasses set
    let aborted := o.err = 4
    let refused := o.err ≠ 0 ∧ o.err ≠ 4
    let q := if refused then (s, 0, o.err.toNat, (0 : BitVec 7))
      else if aborted then
        let x := s.runEngine r o (some s.free) total
        ({ x.1 with free := s.free + abortSpan total }, x.2.1, 4, x.2.2.2)
      else s.runEngine r o none total
    let q1 : State × Nat := if q.2.2.1 = 6 ∧ o.kind = 2 then
        let x := s.runEngine r o (some s.free) q.2.1
        ({ x.1 with free := s.free + abortSpan total }, 6)
      else (q.1, q.2.2.1)
    (q1.1.reportSaved r o q1.2 q.2.2.2).modTile r (fun t =>
      { t.engineReport o q1.2 q.2.2.2 with
        op := none
        wval := if o.kind = 1 ∧ ¬refused then q1.2 == 0 else t.wval
        wtag := if o.kind = 1 ∧ q1.2 = 0 then o.fmt else t.wtag })

/-- The throttle factor of a tile's node: 1 to 8 (R435). -/
def State.throttle (s : State) (r : TileRef) : Nat := max 1 (s.node r.node).pwrstat.toNat

/-- A Ready set swaps in when the engine is idle, and the write held for it is applied (R275). -/
def Tile.swapTurn (t : Tile) (f : Nat) : Tile := (t.settleEngine.swapIn f).settleEngine

/-- The retired columns of a tile's array give way to its fallow ones (Table 17.2). -/
def State.swapColumns (s : State) (r : TileRef) : State :=
  let due := ((s.node r.node).units.filter (fun u => u.st == .retired && u.unit.cls == 2 && u.unit.tile == r.tile)).map (fun u => u.unit)
  (s.modNode r.node (fun x => due.foldl Node.takeOver x)).modTile r (fun t => { t with columnsRetired := t.columnsRetired + due.length })

/-- A tile's swap turn; a `LOADW` swapped in is the occasion for its retired columns. -/
def State.swapTurn (s : State) (r : TileRef) : State :=
  let s1 := s.modTile r (fun t => t.swapTurn (s.throttle r))
  if (s.tile r).op.isNone && (s1.tile r).op.any (fun o => o.kind == 1) then s1.swapColumns r else s1

/-- `SHADOW_SWAP_IN` (R275). -/
def execShadowSwapIn (r : TileRef) (s : State) : Out := .next (s.swapTurn r)

/-- `ENGINE_COMPLETE` (R272). -/
def execEngineComplete (r : TileRef) (s : State) : Out := .next (if s.engineDue r then s.completeEngine r else s)

/-- The writes to the engine and the codebook banks whose cycle has come, before a cycle's bundle is judged by them (R273, R288). -/
def State.tickEngine (s : State) (r : TileRef) : State := s.modTile r (fun t => t.settleEngine.settleBanks)

/-- The end of a wall cycle, after its bundle (R275): a Ready set swaps in, and an operation that completes at the next wall cycle does its
work, so that the bundles of its completion cycle see it (R272). DESIGN CHOICE (log entry 109): a `DRAIN` pops its random words
here, all in the wall cycle before its completion and after that cycle's V-slot pop (R75). -/
def State.endCycle (s : State) (r : TileRef) : State :=
  let s1 := s.swapTurn r
  if s1.engineDue r then s1.completeEngine r else s1

end Sys2Proof.Machine
end

