-- ==== Sys2Proof/Machine/Tasks.lean ====
section
/-! DEFINITION. Trees, forks, joins and the end of a task (spec/07 R219, R224 to R230, spec/09 R283 to R286, spec/13 R360, R361,
R376), and the E slot's task instructions. -/

namespace Sys2Proof.Machine

/-! Trees -/

/-- The fields of a deque descriptor (Table 7.9). -/
def dqTree (d2 : Word) : BitVec 32 := BitVec.ofNat 32 (wfld d2 32 32)
def dqEntry (d2 : Word) : BitVec 12 := BitVec.ofNat 12 (wfld d2 20 12)
def dqPri (d2 : Word) : BitVec 2 := BitVec.ofNat 2 (wfld d2 18 2)
def dqJoin (d2 : Word) : Bool := d2.getLsbD 17
def dqParent (node : Nat) (d3 : Word) : CtxRef := ⟨node, wfld d3 56 8, wfld d3 53 3⟩
def dqSerial (d3 : Word) : Nat := wfld d3 0 48

/-- Whether a slot holds a task. -/
def Ctx.live (c : Ctx) : Bool := c.st != .free

/-- The operand of a join message: the serial of the parent's slot, and the tree of the child that has ended (R224, R229). -/
def joinOperand (serial : Nat) (tree : BitVec 32) : Nat := tree.toNat * 2 ^ 48 + serial % 2 ^ 48

/-- Whether a tree is live on a node (R224): a task in a slot or saved, a descriptor in a deque, or a join outstanding, whose message
is on its way. -/
def State.treeLive (s : State) (n : Nat) (id : BitVec 32) : Bool :=
  (s.node n).tiles.any (fun e => e.2.ctxs.toList.any (fun c => c.live && c.tree == id)
    || e.2.deque.any (fun d => dqTree d.d2 == id))
    || s.net.any (fun e => match e with
      | .joinMessage c k => c.node == n && k / 2 ^ 48 == id.toNat
      | _ => false)

/-- The id of a tree (R224). -/
def treeId (r : TileRef) (num : Nat) : BitVec 32 := BitVec.ofNat 32 (r.node % 4096 * 2 ^ 20 + r.tile % 256 * 2 ^ 12 + num % 4096)

/-- The next number of a tile that no live tree holds (R224). -/
def State.nextTree (s : State) (r : TileRef) : Option (BitVec 32) :=
  let last := (s.tile r).lastTree.toNat
  ((List.range 4096).find? (fun i => !s.treeLive r.node (treeId r (last + 1 + i)))).map (fun i => treeId r (last + 1 + i))

/-- Whether a tile lies in the rectangle of a tile's stage. -/
def Tile.inStage (t : Tile) (tile : Nat) : Bool :=
  decide (t.origin % 16 ≤ tile % 16) && decide (tile % 16 < t.origin % 16 + max 1 t.width)
    && decide (t.origin / 16 ≤ tile / 16) && decide (tile / 16 < t.origin / 16 + max 1 t.height)

/-! Needs -/

/-- Whether the need of an entry is within the share (R360). -/
def Tile.needFits (t : Tile) (entry : BitVec 12) : Bool :=
  match t.need.toList.find? (fun w => w.getLsbD 63 && decide (wfld w 51 12 ≤ entry.toNat) && decide (entry.toNat ≤ wfld w 39 12)) with
  | some w => decide (wfld w 34 5 ≤ 16 / t.nsl) && decide (wfld w 27 7 ≤ 64 / t.nsl)
  | none => t.nsl == 1

/-- A field of 16 bits of a word counted up, saturating. -/
def bumpField (w : Word) (lo : Nat) : Word := if wfld w lo 16 = 0xFFFF then w else setFld w lo 16 (wfld w lo 16 + 1)

/-! Forks -/

/-- The operands of `TFORK` (R284). -/
def forkEntry (w : Word) : BitVec 12 := BitVec.ofNat 12 (wfld w 0 12)
def forkJoin (w : Word) : Bool := w.getLsbD 16
def forkNew (w : Word) : Bool := w.getLsbD 17

/-- What a fork does (R226, R361, R284): the answer and the state. -/
def State.fork (s : State) (a0 a1 w : Word) : Word × State :=
  let c := s.cur
  let t := s.here
  let tree := if forkNew w then s.nextTree s.focus else some c.tree
  if !t.needFits (forkEntry w) then (0, s.modHere (fun t => { t with schstat := bumpField t.schstat 32 }))
  else if 64 ≤ t.deque.length ∨ (forkJoin w = true ∧ 65535 ≤ c.jcnt) then (0, s)
  else match tree with
    | none => (0, s)
    | some id =>
      let d2 := BitVec.ofNat 64 (id.toNat * 2 ^ 32 + (forkEntry w).toNat * 2 ^ 20 + wfld w 12 2 * 2 ^ 18
        + (if forkJoin w then 2 ^ 17 else 0))
      let d3 := BitVec.ofNat 64 (s.me.tile % 256 * 2 ^ 56 + s.me.slot % 8 * 2 ^ 53 + c.serial % 2 ^ 48)
      let e : DequeEntry := ⟨a0, a1, d2, d3, if forkNew w then (s.node s.focus.node).tick.toNat else c.tick, t.wall, c.gen,
        s.ids⟩
      let s1 := s.modHere (fun t =>
        { t with deque := e :: t.deque, lastTree := if forkNew w then id.setWidth 12 else t.lastTree })
      (1, if forkJoin w then s1.modCur (fun c => { c with jcnt := c.jcnt + 1 }) else s1)

/-- `TFORK` (R284): `q` names e2q and e2q + 1. -/
def execTfork (g : Guard) (d : Dst) (q : BitVec 3) (b : Src) (s : State) : Out :=
  let n := 2 * q.toNat
  runOp .e g (fun s => Checks.reads (!s.cur.we.getLsbD n || !s.cur.we.getLsbD (n + 1) || s.cur.unsetE b))
    (fun s =>
      let x := s.fork (s.cur.regE n) (s.cur.regE (n + 1)) (s.cur.srcE b)
      x.2.resultWord .e .e 2 d x.1) s

/-- `TJOIN` (R285). -/
def execTjoin (g : Guard) (s : State) : Out :=
  runOp .e g (fun _ => Checks.reads false) (fun s => { s with issue := { s.issue with endBlock := some .join } }) s

/-- `TYIELD` (R285). -/
def execTyield (g : Guard) (s : State) : Out :=
  runOp .e g (fun _ => Checks.reads false) (fun s => { s with issue := { s.issue with endBlock := some .none } }) s

/-- `TEXIT` (R285): the task ends after its bundle retires. -/
def execTexit (g : Guard) (s : State) : Out :=
  runOp .e g (fun _ => Checks.reads false) (fun s => { s with issue := { s.issue with quit := true } }) s

/-! The end of a task -/

/-- What a tile's engine and pending writes do when a task of a slot ends (Table 9.10, R275). -/
def Tile.ownerGone (t : Tile) (slot : Nat) (cancel : Bool) (k : Nat) : Tile :=
  let serial := (t.ctx slot).serial
  { t with
    shadowSt := match t.shadowSt with
      | .filling o => if o = slot then .free else .filling o
      | .ready o q n => if o = slot ∧ n = serial ∧ cancel = true then .free else .ready o q n
      | .free => .free
    op := t.op.map (fun o =>
      if o.slot = slot ∧ o.serial = serial then
        (if cancel then { o.abort t.wall k with orphan := true } else { o with orphan := true })
      else o)
    pending := t.pending.filter (fun p => !(p.held && p.slot == slot)) }

/-- What an ended task keeps (R244, R285): its queued writes, and the releases behind them. -/
def Ctx.ended (c : Ctx) : Ctx :=
  { c with
    st := .ending
    results := []
    landings := []
    queue := c.queue.filter (fun e => match e.op with
      | .load _ => false
      | _ => true)
    cur := []
    opn := []
    wait := .none
    outer := none
    wound := none
    preempt := false
    late := []
    request := none
    entering := none
    capture := []
    returning := none
    reissue := []
    again := []
    resume := none
    waitEnd := false
    stuck := false
    fencing := false
    foldStop := false
    foldHeld := []
    asks := []
    locks := []
    granted := [] }

/-- A saved context of a slot is discarded (R230): its record is valid no more. -/
def State.discardSaved (s : State) (r : CtxRef) : State :=
  if (s.ctx r).st ≠ .saved then s
  else
    let o := ctxRecBase r.slot
    (s.writeWord .sram (tileOf r) o (s.readWord .sram (tileOf r) o &&& 0x7FFFFFFFFFFFFFFF)).modTile (tileOf r) (fun t =>
      { t with psstat := t.psstat &&& ~~~(0x0000000101010000#64 <<< (16 + r.slot)) })

/-- The writes of a context to control registers of its tile that have issued take effect (R133). -/
def Tile.finishTileWrites (t : Tile) (slot : Nat) : Tile :=
  (sortResults ((t.ctx slot).results.filter Result.onTile)).foldl (fun t r => t.complete slot r) t

/-- A TASK ENDS, by `TEXIT` or cancelled (R133, R219, R230, R244, R275, R285, R324). Its slot is Free once its writes are performed. -/
def State.endTask (s : State) (r : CtxRef) (cancel : Bool) : State :=
  let x := ((((s.discardSaved r).endPackets r).releaseAll r)).choose 16
  { x.2 with tainted := x.2.tainted.filter (fun k => k.2 != r) }.modTile (tileOf r) (fun t =>
    let t1 := (((t.finishTileWrites r.slot).ownerGone r.slot cancel x.1).modCtx r.slot (fun c =>
      let y := c.ended
      { y with queue := dropDone r [] y.queue })).settlePend
    if t.running = some r.slot then { t1 with running := none, freeze := none } else t1)

/-- A join message for a parent (R229). -/
def State.sendJoin (s : State) (p : CtxRef) (serial : Nat) (tree : BitVec 32) : State := s.send (.joinMessage p (joinOperand serial tree))

/-- A tree of a node that is live no more ends (R224, R313). -/
def State.endIfDead (s : State) (n : Nat) (tree : BitVec 32) : State :=
  if s.treeLive n tree then s else s.send (.treeCancel n tree)

/-- The slot of an ended task becomes Free when its queued writes have been performed (R244); a joining child tells its parent
(R229), and a tree without tasks ends. -/
def State.freeSlot (s : State) (r : CtxRef) : State :=
  let c := s.ctx r
  if c.st = .ending ∧ c.queue.isEmpty = true then
    let s1 := s.modCtx r (fun c => { c with st := .free })
    let s2 := match c.joining, c.parent with
      | true, some p => s1.sendJoin p c.parentSeq c.tree
      | _, _ => s1
    s2.endIfDead r.node c.tree
  else s

/-- `JOIN_MESSAGE` (R229): counted when the slot still has that serial. -/
def execJoinMessage (c : CtxRef) (k : Nat) (s : State) : Out :=
  s.taking (.joinMessage c k) (fun s =>
    (s.modCtx c (fun x => if x.live && x.serial % 2 ^ 48 == k % 2 ^ 48 then { x with jcnt := x.jcnt - 1 } else x)).endIfDead c.node
      (BitVec.ofNat 32 (k / 2 ^ 48)))

/-- The tasks and descriptors of a tree on a node end (R230). -/
def State.haltTree (s : State) (n : Nat) (id : BitVec 32) : State :=
  let s1 := (s.node n).tiles.foldl (fun s e => (List.range 8).foldl (fun s k =>
    let c := s.ctx ⟨n, e.1, k⟩
    if c.live && c.st != .ending && c.tree == id then s.endTask ⟨n, e.1, k⟩ true else s) s) s
  (s1.node n).tiles.foldl (fun s e =>
    let gone := e.2.deque.filter (fun d => dqTree d.d2 == id)
    if gone.isEmpty then s
    else
      let s2 := gone.foldl (fun s d => if dqJoin d.d2 then s.sendJoin (dqParent n d.d3) (dqSerial d.d3) id else s) s
      s2.modTile ⟨n, e.1⟩ (fun t => { t with deque := t.deque.filter (fun d => dqTree d.d2 != id) })) s1

/-- `TCANCEL` (R286): a task that cancels its own tree issues no further bundle. -/
def execTcancel (g : Guard) (a : Src) (s : State) : Out :=
  runOp .e g (fun s =>
      let id := (s.cur.srcE a).setWidth 32
      { Checks.reads (s.cur.unsetE a) with
        priv := if s.cur.level = 0 ∧ ¬(wfld (id.setWidth 64) 20 12 = s.focus.node ∧ s.here.inStage (wfld (id.setWidth 64) 12 8) = true)
          then some (id.setWidth 64) else none })
    (fun s =>
      let id : BitVec 32 := (s.cur.srcE a).setWidth 32
      let s1 := s.send (.treeCancel s.focus.node id)
      if s.cur.tree = id then s1.modCur (fun c => { c with stuck := true }) else s1) s

/-- `TCMD_CANCEL` (R376): a host command cancels a tree. -/
def execTcmdCancel (n : Nat) (k : BitVec 32) (s : State) : Out :=
  .next (if (s.node n).answers then s.send (.treeCancel n k) else s)

end Sys2Proof.Machine
end

