-- ==== Sys2Proof/Machine/Copy.lean ====
section
/-! DEFINITION. The copy engine's descriptors and their checks (spec/09 R277 to R280), and the E slot's `CPY` and `CPYQ`. -/

namespace Sys2Proof.Machine

/-- The fields of a descriptor (Table 9.13). -/
def CopyDesc.rows (d : CopyDesc) : Nat := wfld d.strides 48 16 + 1
def CopyDesc.dstr (d : CopyDesc) : Int := sfld d.strides.toNat 24 24
def CopyDesc.sstr (d : CopyDesc) : Int := sfld d.strides.toNat 0 24
def CopyDesc.idx (d : CopyDesc) : Nat := wfld d.ctl 32 24
def CopyDesc.cnt (d : CopyDesc) : Bool := d.ctl.getLsbD 22
def CopyDesc.bar (d : CopyDesc) : Nat := wfld d.ctl 17 5
def CopyDesc.es (d : CopyDesc) : Nat := 2 ^ wfld d.ctl 15 2
def CopyDesc.mode (d : CopyDesc) : Nat := wfld d.ctl 13 2
def CopyDesc.rowb (d : CopyDesc) : Nat := wfld d.ctl 0 13

/-- A pointer moved by a signed distance, modulo 2⁶⁴. -/
def ptrPlus (p : Word) (x : Int) : Word := p + BitVec.ofInt 64 x

/-- The index word of a row, as a local pointer (R278). -/
def CopyDesc.idxPtr (d : CopyDesc) (row : Nat) : Word := BitVec.ofNat 64 (d.idx + 4 * row)

/-- The source of a row whose index, for a gather, is `i` (R278). -/
def CopyDesc.srcPtr (d : CopyDesc) (row i : Nat) : Word :=
  ptrPlus d.src (d.sstr * (if d.mode = 2 then (i : Int) else (row : Int)))

/-- The destination accesses of a row (R278): pointer, size, place in the row. -/
def CopyDesc.dstAccs (d : CopyDesc) (row : Nat) : List (Word × Nat × Nat) :=
  if d.mode = 1 then
    (List.range (d.rowb / d.es)).map (fun (j : Nat) =>
      (ptrPlus d.dst (d.dstr * (j : Int) + ((row * d.es : Nat) : Int)), d.es, j * d.es))
  else [(ptrPlus d.dst (d.dstr * (row : Int)), d.rowb, 0)]

/-- The windows a copy accepts (R278). -/
def copyRefuses (w : Nat) : Bool := w != 0 && w != 2 && w != 3

/-- The check of a row's source (R278). -/
def copySrcFault (s : State) (r : CtxRef) (d : CopyDesc) (row i : Nat) : Option (Cause × Word) :=
  accessFault s r d.lvl (d.srcPtr row i) d.rowb (if d.mode = 1 then d.es else 1) false copyRefuses

/-- The checks of one row at issue (R278): its index word, or its source, then its destinations. -/
def copyRowFault (s : State) (r : CtxRef) (d : CopyDesc) (row : Nat) : Option (Cause × Word) :=
  (if d.mode = 2 then accessFault s r d.lvl (d.idxPtr row) 4 1 false (fun w => w != 0) else copySrcFault s r d row 0).or
    ((d.dstAccs row).findSome? (fun a =>
      accessFault s r d.lvl a.1 a.2.1 (if d.mode = 1 then d.es else 1) true copyRefuses))

/-- The checks of `CPY` (R278). -/
def copyFault (s : State) (r : CtxRef) (d : CopyDesc) : Option (Cause × Word) :=
  if wfld d.ctl 56 8 ≠ 0 ∨ wfld d.ctl 23 9 ≠ 0 ∨ d.mode = 3 ∨ d.rowb = 0 ∨ (d.mode = 1 ∧ d.rowb % d.es ≠ 0) then
    some (.bound, d.ctl)
  else (List.range d.rows).findSome? (copyRowFault s r d)

/-- The descriptor that registers e4q to e4q + 3 hold (R277). -/
def Ctx.copyDesc (c : Ctx) (q : BitVec 2) : CopyDesc :=
  let n := 4 * q.toNat
  ⟨c.regE n, c.regE (n + 1), c.regE (n + 2), c.regE (n + 3), 0, c.level⟩

/-- `CPY` (R277, R279): it enters the store queue. -/
def execCpy (g : Guard) (q : BitVec 2) (s : State) : Out :=
  runOp .e g (fun s => (Checks.reads ((List.range 4).any (fun i => !s.cur.we.getLsbD (4 * q.toNat + i)))).withOwn
      (copyFault s s.me (s.cur.copyDesc q)))
    (fun s =>
      let d := s.cur.copyDesc q
      let s1 := s.queueOp .e false true (.copy d)
      if d.cnt then s1.usesBarrier s.me d.bar else s1) s

/-- The copies of a context not yet complete (R280). -/
def Tile.copiesOf (t : Tile) (slot : Nat) : Nat :=
  let c := t.ctx slot
  (c.queue.filter (fun e => match e.op with
    | .copy _ => true
    | _ => false)).length + (t.copies.filter (fun j => j.slot == slot && j.serial == c.serial)).length

/-- `CPYQ` (R280). -/
def execCpyq (g : Guard) (d : Dst) (s : State) : Out :=
  runOp .e g (fun _ => Checks.reads false)
    (fun s => s.resultWord .e .e 3 d (BitVec.ofNat 64 (s.here.copiesOf s.slot % 64 + s.here.copies.length % 32 * 256))) s

end Sys2Proof.Machine
end

