-- ==== Sys2Proof/Machine/Bundle.lean ====
section
/-! DEFINITION. A bundle's words, its header and the legality of its extension bytes (spec/03 R88 to R92, R102, spec/05 R147,
R173): from sixteen bytes to the operations of its slots, or the first illegal word. -/

namespace Sys2Proof.Machine

/-- The fields of a header word (Table 3.2). -/
structure Header where
  cbb : BitVec 2
  cbp : BitVec 2
  xe : Byte
  xm : Byte
  xv : Byte
  deriving DecidableEq, Repr, Inhabited

/-- What a bundle without a header reads (R91). -/
def Header.zero : Header := ⟨0, 0, 0, 0, 0⟩

/-- Whether a slot-0 word is a header (R91). -/
def isHeader (w : BitVec 32) : Bool := w.extractLsb' 28 4 == 0xF

/-- The header in a word. -/
def Header.ofWord (w : BitVec 32) : Header :=
  ⟨w.extractLsb' 26 2, w.extractLsb' 24 2, w.extractLsb' 16 8, w.extractLsb' 8 8, w.extractLsb' 0 8⟩

/-- The major opcode of a slot word (Table 3.1). -/
def majorOf (w : BitVec 32) : Nat := (w.extractLsb' 26 6).toNat

/-- Whether a V word takes XV (Table 3.3): its major is one of Table 3.8, and not that of the K operations, `VRAND` and `VDCHK`. -/
def takesXv (op : Nat) : Bool :=
  (decide (1 ≤ op) && decide (op ≤ 0x14)) || (decide (0x18 ≤ op) && decide (op ≤ 0x1E)) || (decide (0x20 ≤ op) && decide (op ≤ 0x26))

/-- Whether a V word rounds by XV.RM (R147). -/
def rounds (w : BitVec 32) : Bool :=
  let op := majorOf w
  let f := (w.extractLsb' 0 2).toNat
  op == 0x18 || op == 0x19 || (op == 0x1A && f == 2) || op == 0x13 || (op == 0x14 && f == 0) || op == 0x1E || op == 0x20
    || op == 0x21 || op == 0x22

/-- Whether XV is refused for a V word (Table 3.3, R147). -/
def xvRefused (w : BitVec 32) (x : Byte) : Bool :=
  let op := majorOf w
  x != 0 && (!takesXv op || x.getLsbD 0
    || (x.extractLsb' 2 3 != 0 && !rounds w) || decide (5 ≤ (x.extractLsb' 2 3).toNat)
    || (x.getLsbD 1 && [0x12, 0x13, 0x14, 0x21, 0x22].contains op)
    || (x.extractLsb' 5 3 != 0 && [0x21, 0x22].contains op))

/-- Whether XM is refused for an M word (Table 3.3). -/
def xmRefused (w : BitVec 32) (x : Byte) : Bool :=
  let op := majorOf w
  let high := x.extractLsb' 5 3
  if x = 0 then false
  else if (1 ≤ op && op ≤ 8) || (0x14 ≤ op && op ≤ 0x18) || op == 0x1C || op == 0x1D || op == 0x0C || op == 0x0D then false
  else if op == 0x09 || op == 0x0A || op == 0x19 || op == 0x1A || (0x2C ≤ op && op ≤ 0x2E) then high != 0
  else if op == 0x0E || op == 0x0F then high != 0 || x.getLsbD 0
  else if op == 0x10 || op == 0x11 then high == 6
  else true

/-- The source field of a V word that CBP names. -/
def cbField (w : BitVec 32) (cbp : BitVec 2) : BitVec 6 := if cbp = 1 then w.extractLsb' 10 6 else w.extractLsb' 4 6

/-- The V opcodes whose S2 is a vector register (R102, R173). -/
def hasVecS2 (op : Nat) : Bool :=
  [0x01, 0x02, 0x03, 0x04, 0x05, 0x07, 0x09, 0x0A, 0x0D, 0x18, 0x19, 0x1A, 0x1C, 0x1E].contains op

/-- Whether CBP is refused for a V word (R102, R173). Beside a V word that is itself illegal, which of the two is reported is a DESIGN CHOICE
(log entry 45). -/
def cbpRefused (w : BitVec 32) (h : Header) : Bool :=
  if h.cbp = 0 then h.cbb != 0
  else
    let op := majorOf w
    h.cbp == 3 || w == 0 || [0x0B, 0x23, 0x24, 0x27, 0x28, 0x29].contains op || (h.cbp == 2 && !hasVecS2 op)
      || (cbField w h.cbp).getLsbD 5

/-- Whether a field of the header is refused, in itself or for another slot's word (R91, R92, R102, R147). No number that the E
slot's RI words name reaches its extended bits. -/
def headerRefused (h : Header) (v m : BitVec 32) : Bool :=
  cbpRefused v h || xvRefused v h.xv || xmRefused m h.xm || h.xe != 0

/-- What a bundle's four words stand for. -/
structure Bundle where
  words : Vector (BitVec 32) 4
  header : Header
  ops : List (Slot × Instr)
  deriving DecidableEq, Repr

/-- One slot's word as an operation; `NOP` gives none (R90). -/
def slotOp (sl : Slot) (w : BitVec 32) : Except Unit (List (Slot × Instr)) :=
  if w = 0 then .ok []
  else match decodeWord sl w with
    | .ok i => .ok [(sl, i)]
    | .error _ => .error ()

/-- The operations of slots in slot order, or the first whose word is illegal. -/
def slotOps : List (Slot × BitVec 32) → Except (BitVec 32 × Slot) (List (Slot × Instr))
  | [] => .ok []
  | (sl, w) :: rest =>
    match slotOp sl w with
    | .error _ => .error (w, sl)
    | .ok is => match slotOps rest with
      | .error e => .error e
      | .ok js => .ok (is ++ js)

/-- Whether an operation is `TRET`. -/
def isTret : Slot × Instr → Bool
  | (_, .tret _) => true
  | _ => false

/-- THE DECODING OF A BUNDLE (R88 to R92, R102): its operations, or the first illegal word and its slot. `TRET` stands alone
(R138). -/
def decodeBundle (a v m e : BitVec 32) : Except (BitVec 32 × Slot) Bundle :=
  let hd := isHeader a
  let h := if hd then Header.ofWord a else Header.zero
  if hd && headerRefused h v m then .error (a, .a)
  else match slotOps ((if hd then [] else [(.a, a)]) ++ [(.v, v), (.m, m), (.e, e)]) with
    | .error x => .error x
    | .ok ops =>
      if ops.any isTret && decide (ops.length ≠ 1) then .error (a, .a)
      else .ok ⟨#v[a, v, m, e], h, ops⟩

/-- The word of a slot of bundle `i` of a tile's instruction memory (R88, R104). -/
def State.imemWord (s : State) (r : TileRef) (i k : Nat) : BitVec 32 :=
  BitVec.ofNat 32 (bytesToNat (s.readBytes .imem r (16 * i + 4 * k) 4))

/-- The bundle at an index. -/
def State.bundleAt (s : State) (r : TileRef) (i : Nat) : Except (BitVec 32 × Slot) Bundle :=
  decodeBundle (s.imemWord r i 0) (s.imemWord r i 1) (s.imemWord r i 2) (s.imemWord r i 3)

end Sys2Proof.Machine
end

