-- ==== Sys2Proof/Machine/Reissue.lean ====
section
/-! DEFINITION. The re-issue of a trap frame's records after `TRET` (spec/06 R189, R196, spec/10 R309, R318): loads, queries,
fold transfers and stores enter their queues again, and a fault found then is a class 3 item. -/

namespace Sys2Proof.Machine

/-- Entries of a context's queues that have not been issued, by queue (R244). -/
def Ctx.loadsQueued (c : Ctx) : Nat := (c.queue.filter (fun e => e.inLoad && !e.issued)).length
def Ctx.storesQueued (c : Ctx) : Nat := (c.queue.filter (fun e => e.inStore && !e.issued)).length

/-- The fields of a timed M word (Table 3.6, class ML). -/
def mlFile (w : BitVec 32) : RFile := RFile.ofCode (w.extractLsb' 10 2)
def mlReg (w : BitVec 32) : BitVec 5 := w.extractLsb' 5 5

/-- How a re-issue record's access is made again: the kind of its landing, its segments, their size and alignment. -/
structure Again where
  kind : LandKind
  segs : List Word
  size : Nat
  align : Nat
  deriving DecidableEq, Repr, Inhabited

/-- The second M register of a re-issue as it stood at the `TRET`, and the one after it (R196). -/
def Record.second (x : Record) : Word := (x.pay.getD (0, 0)).1.setWidth 64
def Record.third (x : Record) : Word := ((x.pay.getD (0, 0)).1 >>> 64).setWidth 64

/-- The load a record stands for (Table 6.2). -/
def Record.again (x : Record) : Option Again :=
  match majorOf x.word with
  | 0x01 => some ⟨.load 1 true, [x.value], 1, 1⟩
  | 0x02 => some ⟨.load 2 true, [x.value], 2, 2⟩
  | 0x03 => some ⟨.load 4 true, [x.value], 4, 4⟩
  | 0x04 => some ⟨.load 8 true, [x.value], 8, 8⟩
  | 0x05 => some ⟨.load 1 false, [x.value], 1, 1⟩
  | 0x06 => some ⟨.load 2 false, [x.value], 2, 2⟩
  | 0x07 => some ⟨.load 4 false, [x.value], 4, 4⟩
  | 0x08 => some ⟨.vector, [x.value], 128, 32⟩
  | 0x09 => some ⟨.vector, strideAddrs x.value x.second, 32, 32⟩
  | 0x0A => some ⟨.vector, gatherAddrs x.value x.second, 32, 32⟩
  | _ => none

/-- A re-issued access takes a landing entry named for T′ + REM (R196): its number, and the state. -/
def State.reLand (s : State) (r : CtxRef) (x : Record) (kind : LandKind) (size earliest : Nat) (idem : Bool) : Nat × State :=
  let i := s.newId
  let t := s.tile (tileOf r)
  (i.1, i.2.modCtx r (fun c => { c with landings := c.landings ++ [
    { (default : Landing) with
      id := i.1, kind := kind, word := x.word, xm := x.aux, seq := t.restored x.seq
      file := RFile.ofCode x.file, reg := x.reg, named := x.due, pushes := !x.mark.silent, addr := x.value, opb := x.second, size := size
      issueWall := t.wall, earliest := earliest, base := earliest, idem := idem, rel := true }] }))

/-- A fault found at a re-issue (R196): against the bundle before which it is taken. -/
def State.reFault (s : State) (r : CtxRef) (f : Cause × Word) (access : Option Nat) (record : Option Record) : State :=
  s.detect r ⟨f.1, none, .m, f.2, 0, (s.tile (tileOf r)).restored 0, access, true, record, false⟩

/-- A load issued again. -/
def State.reLoad (s : State) (r : CtxRef) (x : Record) (a : Again) : State :=
  let t := s.tile (tileOf r)
  let early := a.segs.foldl (fun m p => max m (earliestLoad r p (a.size * a.segs.length) false)) 0
  let parts := s.loadParts r a.segs a.size
  let l := s.reLand r x a.kind (a.size * a.segs.length) early (parts.1.all (fun u => u.idem))
  match segFault s r (s.ctx r).level a.segs a.size a.align false with
  | some f => l.2.reFault r f (some l.1) none
  | none => match s.segBad r a.segs a.size with
  | some x => l.2.reFault r (.ue, x) (some l.1) none
  | none =>
    let s1 := l.2.modCtx r (fun c => c.modLanding l.1 (fun y =>
      if parts.1.isEmpty then
        { y with got := parts.2, value := some (a.kind.value (gotNat parts.2)), arrive := some (t.wall + 1) }
      else { y with got := parts.2 }))
    if parts.1.isEmpty then s1
    else s1.enqueue r ⟨l.1, none, t.restored x.seq, true, false, false, .load parts.1, (s.ctx r).level⟩

/-- An atomic issued again: one that had faulted (Table 6.2). -/
def State.reAtom (s : State) (r : CtxRef) (x : Record) (size : Nat) (cas : Bool) : State :=
  let t := s.tile (tileOf r)
  let l := s.reLand r x (.atom size) size (earliestLoad r x.value size true) false
  match memFault s r (s.ctx r).level x.value size size true atomRefuses with
  | some f => l.2.reFault r f (some l.1) none
  | none =>
    let op := if cas then AtomOp.cas (lowPart x.second size) else atomOp x.aux
    l.2.enqueue r ⟨l.1, none, t.restored x.seq, true, true, false,
      .atom true op (atomUnit x.value size) (lowPart (if cas then x.third else x.second) size), (s.ctx r).level⟩

/-- A packet read issued again (R261). -/
def State.rePacket (s : State) (r : CtxRef) (x : Record) (hdr : Bool) : State :=
  let file := RFile.ofCode x.file
  let l := s.reLand r x (if hdr then .header else .payload) (pktSize file) 4 true
  match pktFault (s.ctx r) hdr file x.value with
  | some f => l.2.reFault r f (some l.1) none
  | none =>
    match s.pktPoison r hdr file x.value with
    | some w => l.2.reFault r (.ue, w) (some l.1) none
    | none => l.2.modCtx r (fun c => c.modLanding l.1 (fun e => { e with value := some (s.pktRead r hdr file x.value) }))

/-- A walker query issued again (R305, R315 to R317). -/
def State.reQuery (s : State) (r : CtxRef) (x : Record) (kind : LandKind) (f : Option (Cause × Word)) : State :=
  let l := s.reLand r x kind 8 12 true
  match f with
  | some e => l.2.reFault r e (some l.1) none
  | none => l.2

/-- The check of `FPROBE` for a context (R317, R303). -/
def probeFault (t : Tile) (p op : Word) : Option (Cause × Word) :=
  if winOf p ≠ 4 ∨ (t.viewAt p).isNone = true then some (.window, p)
  else if 2 ≤ op.toNat then some (.bound, op)
  else none

/-- The units of a stored range whose bytes are all enabled, and single bytes elsewhere (Table 6.4, kind 0x6). -/
def storeUnits (p : Word) (size : Nat) (data : List Byte) (be : MaskReg) : List UnitAcc :=
  if (List.range size).all (fun i => be.getLsbD i) && (size ≤ 8 || size % 8 == 0) then accUnits p size 0 data false
  else (List.range size).filterMap (fun i =>
    if be.getLsbD i then some ⟨p + BitVec.ofNat 64 i, 1, [data.getD i 0], i, false, none⟩ else none)

/-- Where a record re-enters: ahead of every entry that the context's return has not put there itself. -/
def Ctx.enqueueHead (c : Ctx) (after : List Nat) (e : QEntry) : Ctx :=
  let mine := c.queue.filter (fun q => after.contains q.id)
  let rest := c.queue.filter (fun q => !after.contains q.id)
  { c with queue := mine ++ [e] ++ rest }

/-- A store performed again from its record, at the head of the store queue (R196, R318). -/
def State.reStore (s : State) (r : CtxRef) (x : Record) : State :=
  let t := s.tile (tileOf r)
  let size := x.aux.toNat % 128 + 1
  let pay := x.pay.getD (0, 0)
  match memFault s r (s.ctx r).level x.value size 1 true (fun _ => false) with
  | some f => s.reFault r f none (some { x with due := 0 })
  | none =>
    let i := s.newId
    i.2.modCtx r (fun c => { c.enqueueHead c.again
      ⟨i.1, none, t.restored x.seq, false, true, false, .store (storeUnits x.value size (vecBytes pay.1) pay.2) size, c.level⟩ with
      again := c.again ++ [i.1] })

/-- A fold transfer restarted at its recorded row (R309): it enters at the head of the context's fold queue, with its operands
as the registers stand, and counts for PEND with them (R302). -/
def State.reFold (s : State) (r : CtxRef) (x : Record) : State :=
  let t := s.tile (tileOf r)
  let c := s.ctx r
  let src := fun (b : BitVec 6) => match Src.ofBits b with
    | .ok q => c.srcM q
    | .error _ => 0
  let i := s.newId
  (i.2.modCtx r (fun c => { c.enqueueHead c.again
    ⟨i.1, none, t.restored x.seq, false, true, false,
      .fold ⟨(x.word.extractLsb' 0 4).toNat, (x.word.extractLsb' 16 4).toNat, src (x.word.extractLsb' 10 6),
        src (x.word.extractLsb' 4 6), x.word, wfld x.value 0 8, none, c.tree⟩, c.level⟩ with
    again := c.again ++ [i.1]
    foldHeld := c.foldHeld.eraseP (fun q => q.word == x.word) })).modTile (tileOf r) Tile.settlePend

/-- A record is issued again (R196); a word that no re-issue holds performs nothing. -/
def State.reissueRecord (s : State) (r : CtxRef) (x : Record) : State :=
  if x.kind = 6 then s.reStore r x
  else if x.kind = 5 then s.reFold r x
  else match x.again with
    | some a => s.reLoad r x a
    | none =>
      match majorOf x.word with
      | 0x0C => s.reAtom r x 4 false
      | 0x0D => s.reAtom r x 8 false
      | 0x0E => s.reAtom r x 4 true
      | 0x0F => s.reAtom r x 8 true
      | 0x24 => s.rePacket r x true
      | 0x25 => s.rePacket r x false
      | 0x2C => s.reQuery r x .foldView (fviewFault (s.node r.node) x.value x.second)
      | 0x2D => s.reQuery r x .foldSeq (fseqFault x.value x.second)
      | 0x2E => s.reQuery r x .foldProbe (probeFault (s.tile (tileOf r)) x.value x.second)
      | _ => s

/-- Whether a record's queue has room (R196). -/
def Ctx.roomFor (c : Ctx) (x : Record) : Bool :=
  let op := majorOf x.word
  if x.kind = 5 ∨ x.kind = 6 then decide (c.storesQueued < 16)
  else if op ≤ 0x0A then decide (c.loadsQueued < 16)
  else if op ≤ 0x0F then decide (c.loadsQueued < 16) && decide (c.storesQueued < 16)
  else true

/-- The re-issues of a return that fit their queues now, in record order: at most `fuel` of them. -/
def State.reissueAll (s : State) (r : CtxRef) : Nat → State
  | 0 => s
  | fuel + 1 =>
    match (s.ctx r).reissue with
    | [] => s
    | x :: rest =>
      if (s.ctx r).roomFor x then
        State.reissueAll ((s.modCtx r (fun c => { c with reissue := rest })).reissueRecord r x) r fuel
      else s

end Sys2Proof.Machine
end

