-- ==== Sys2Proof/Machine/Shepherd.lean ====
section
/-! DEFINITION. The shepherd (spec/07 R212 to R232, spec/13 R360 to R369): delivered packets, claims by `SWAIT`, triggers and
joins, admission and creation of tasks, steals, waits, and the choice of what issues. -/

namespace Sys2Proof.Machine

/-! Delivered packets -/

/-- Whether a generation tag is live for a drove on a node (R370); every tag where the node keeps no such drove. -/
def Node.genLive (n : Node) (drove : BitVec 32) (g : BitVec 4) : Bool :=
  match n.droves.find? (fun e => e.valid && e.drove == drove) with
  | none => true
  | some e => g == e.act || (g == e.stb && (e.gst == .verified || e.gst == .switched))

/-- The header of the packet in a receive buffer. -/
def State.bufHdr (s : State) (r : TileRef) (st i : Nat) : Word × Word :=
  let o := ((s.tile r).inS st).place i
  (s.readWord .port r o, s.readWord .port r (o + 8))

/-- Packets of a rejected entry counted (Table 13.4). -/
def Tile.countRejects (t : Tile) : Nat → Tile
  | 0 => t
  | k + 1 => Tile.countRejects { t with schstat := bumpField t.schstat 48 } k

/-- The delivered packets of a stream that no task has claimed, in the order of their delivery. -/
def InStream.delivered (x : InStream) : List Nat :=
  let put := fun (e : Nat × Nat) (l : List (Nat × Nat)) => l.filter (fun f => f.1 < e.1) ++ [e] ++ l.filter (fun f => e.1 ≤ f.1)
  ((x.bufs.zipIdx.filter (fun e => e.1.st == .ready || (e.1.st == .held && !e.1.tagHeld))).foldl (fun l e =>
    put (e.1.order, e.2) l) []).map (fun e => e.2)

/-- The pairs of a join, by its lower entry: the k-th packet delivered on one entry with the k-th delivered on the other (R217). -/
def Tile.pairs (t : Tile) (st : Nat) : List ((Nat × Nat) × (Nat × Nat)) :=
  let p := inPair (t.inS st).d0
  ((t.inS st).delivered.map (fun i => (st, i))).zip ((t.inS p).delivered.map (fun i => (p, i)))

/-- The later-received of two packets (R217). -/
def Tile.laterOf (t : Tile) (a b : Nat × Nat) : Nat × Nat :=
  if ((t.inS a.1).buf a.2).got < ((t.inS b.1).buf b.2).got then b else a

/-- Whether a packet is Ready. -/
def Tile.readyBuf (t : Tile) (a : Nat × Nat) : Bool := ((t.inS a.1).buf a.2).st == .ready

/-- A pair is rejected whole (R361). -/
def State.rejectPair (s : State) (r : TileRef) (q : (Nat × Nat) × (Nat × Nat)) : State :=
  ((s.freeBuffer r q.1.1 q.1.2).freeBuffer r q.2.1 q.2.2).modTile r (fun t => t.countRejects 2)

/-- A pair judged (R213, R217, R361): once both members are Ready it is a trigger, and a stamp of none becomes the ENTRY then in force. It is
rejected where its entry's need exceeded the share at the stamping, or where an abort has rejected a member (R371). -/
def State.settlePair (s : State) (r : TileRef) (q : (Nat × Nat) × (Nat × Nat)) : State :=
  let t := s.tile r
  let p := t.laterOf q.1 q.2
  let buf := fun (a : Nat × Nat) => (t.inS a.1).buf a.2
  if (buf q.1).doomed || (buf q.2).doomed then s.rejectPair r q
  else match (buf p).stamp with
  | some _ => if (buf p).beyond then s.rejectPair r q else s
  | none =>
    let e := inEntry (t.inS p.1).d0
    if !(t.readyBuf q.1 && t.readyBuf q.2) then s
    else if t.needFits e then s.modTile r (fun t => t.modIn p.1 (fun x => x.modBuf p.2 (fun b => { b with stamp := some e })))
    else s.rejectPair r q

/-- The pairs of a join judged. -/
def State.settlePairs (s : State) (r : TileRef) (st : Nat) : State :=
  let x := (s.tile r).inS st
  if inMode x.d0 = 2 then ((s.tile r).pairs (min st (inPair x.d0))).foldl (fun s q => s.settlePair r q) s else s

/-- A delivered packet waits for a binding or for its tag, or becomes Ready (R213, R214, R371). A packet of a triggered stream is then a
trigger: one stamped none is stamped now, and rejected where that entry's need exceeds the share (R361). One of a join is a trigger when its
pair is. -/
def State.settlePacket (s : State) (r : TileRef) (st i : Nat) : State :=
  let t := s.tile r
  let x := t.inS st
  let b := x.buf i
  let stamps := inMode x.d0 == 1 && b.stamp.isNone
  if b.st != .held || b.tagHeld then s
  else if !b.doomed && (inMode x.d0 == 0 || inValid x.d0) && (s.node r.node).genLive t.drove (hdrGen (s.bufHdr r st i).2) then
    if stamps && !t.needFits (inEntry x.d0) then (s.freeBuffer r st i).modTile r (fun t => t.countRejects 1)
    else (s.modTile r (fun t => t.modIn st (fun x => x.modBuf i (fun b =>
      { b with st := .ready, since := t.wall, stamp := if stamps then some (inEntry x.d0) else b.stamp })))).settlePairs r st
  else s.settlePairs r st

/-- Every packet of a stream that waits for a binding judged again. -/
def State.admitHeld (s : State) (r : TileRef) (st : Nat) : State :=
  (List.range ((s.tile r).inS st).bufs.length).foldl (fun s i => s.settlePacket r st i) s

/-- The oldest Ready packet of a stream (R210, R212). -/
def InStream.oldest (x : InStream) : Option Nat :=
  x.bufs.zipIdx.foldl (fun m e =>
    if e.1.st != .ready then m
    else match m with
      | none => some e.2
      | some j => if e.1.order < (x.buf j).order then some e.2 else m) none

/-- The slot whose `SWAIT` on a stream retired first (R218). -/
def Tile.firstWaiter (t : Tile) (st : Nat) : Option Nat :=
  (List.range 8).foldl (fun m k =>
    let c := t.ctx k
    if c.st != .waiting || c.wait != .stream st || (c.curBuf st).isSome then m
    else match m with
      | none => some k
      | some j => if c.waitSeq < (t.ctx j).waitSeq then some k else m) none

/-- Ready packets of a stream go to the tasks waiting on it, at most `fuel` of them (R218). -/
def Tile.claims (t : Tile) (st : Nat) : Nat → Tile
  | 0 => t
  | fuel + 1 =>
    let x := t.inS st
    if inMode x.d0 ≠ 0 ∧ inMode x.d0 ≠ 1 then t
    else match x.oldest, t.firstWaiter st with
      | some i, some k =>
        Tile.claims ((t.modIn st (fun x => x.modBuf i (fun b => { b with st := .current }))).modCtx k (fun c =>
          { c with cur := spPut c.cur st i })) st fuel
      | _, _ => t

/-- The claims on every stream a task of the tile waits on. -/
def Tile.allClaims (t : Tile) : Tile :=
  (List.range 8).foldl (fun t k => match (t.ctx k).wait with
    | .stream st => t.claims st 8
    | _ => t) t

/-! Candidates -/

/-- A candidate for admission: its source in the rotation (32 the deque), its own class, the wall cycle since when it is one, and
its packets. -/
structure Candidate where
  source : Nat
  pri : Nat
  since : Nat
  parts : List (Nat × Nat)
  deriving DecidableEq, Repr, Inhabited

/-- The packet that gives a task its stamp, its class and its header: the later-received of a pair (R217, R264, R367). -/
def Tile.lead (t : Tile) : List (Nat × Nat) → Nat × Nat
  | [] => (0, 0)
  | [a] => a
  | a :: b :: _ => t.laterOf a b

/-- The trigger or the pair a stream offers (R212, R217, R366). The pair of a join is offered by its lower entry. -/
def State.triggerOf (s : State) (r : TileRef) (st : Nat) : Option (List (Nat × Nat)) :=
  let t := s.tile r
  let x := t.inS st
  if !inValid x.d0 then none
  else match inMode x.d0 with
    | 1 => (x.oldest).map (fun i => [(st, i)])
    | 2 =>
      let p := inPair x.d0
      if p ≤ st then none
      else ((t.pairs st).find? (fun q => t.readyBuf q.1 && t.readyBuf q.2)).map (fun q => [q.1, q.2])
    | _ => none

/-- The entry a task of these packets starts at (R213, R217). -/
def Tile.entryOf (t : Tile) (parts : List (Nat × Nat)) : BitVec 12 :=
  let p := t.lead parts
  match ((t.inS p.1).buf p.2).stamp with
  | some e => e
  | none => inEntry (t.inS p.1).d0

/-- A trigger as a candidate: only while its tile can number one more tree (R224). -/
def State.triggerCandidate (s : State) (r : TileRef) (st : Nat) : Option Candidate :=
  match s.triggerOf r st with
  | none => none
  | some parts =>
    if (s.nextTree r).isNone then none
    else
      let t := s.tile r
      let p := t.lead parts
      some ⟨st, (hdrPri (s.bufHdr r p.1 p.2).2).toNat,
        parts.foldl (fun m q => max m ((t.inS q.1).buf q.2).since) 0, parts⟩

/-- Whether a descriptor's child may be created: its parent's accesses ahead of the fork have been performed (R250). -/
def State.childFree (s : State) (r : TileRef) (e : DequeEntry) : Bool :=
  let p := dqParent r.node e.d3
  (s.ctx p).serial % 2 ^ 48 != dqSerial e.d3 || s.aheadDone p e.gate .n

/-- The head of the deque as a candidate. -/
def State.dequeCandidate (s : State) (r : TileRef) : Option Candidate :=
  match (s.tile r).deque with
  | [] => none
  | e :: _ => if s.childFree r e then some ⟨32, (dqPri e.d2).toNat, e.since, []⟩ else none

/-- The free slots of a tile. -/
def Tile.freeSlots (t : Tile) : List Nat := (List.range t.slots).filter (fun k => (t.ctx k).st == .free)

/-- The slots other streams' reservations keep from a candidate of these streams (R365). -/
def Tile.reserved (t : Tile) (own : List Nat) : Nat :=
  (List.range 32).foldl (fun n st =>
    if own.contains st then n
    else n + ((t.inS st).reserve
      - ((List.range t.slots).filter (fun k => let c := t.ctx k; c.live && c.st != .ending && c.origin == some st)).length)) 0

/-- Whether a candidate of these streams may take a Free slot (R365). -/
def Tile.eligible (t : Tile) (own : List Nat) : Bool := decide (t.reserved own < t.freeSlots.length)

/-- The effective class of an item that waits since a wall cycle (R367). -/
def effClass (pri since wall : Nat) : Nat := min 3 (pri + (wall - since) / 4096)

/-- The candidates of a tile in the rotation counted on from the last source admitted (R366). -/
def State.candidates (s : State) (r : TileRef) : List Candidate :=
  let t := s.tile r
  ((List.range 33).map (fun i => (t.rotation + 1 + i) % 33)).filterMap (fun k =>
    (if k = 32 then s.dequeCandidate r else s.triggerCandidate r k).bind (fun c =>
      if t.eligible (c.parts.map (fun p => p.1)) then some c else none))

/-- The candidate admitted: the first of the highest effective class (R366). -/
def State.nextCandidate (s : State) (r : TileRef) : Option Candidate :=
  let w := (s.tile r).wall
  (s.candidates r).foldl (fun m c => match m with
    | none => some c
    | some d => if effClass d.pri d.since w < effClass c.pri c.since w then some c else some d) none

/-! Creation -/

/-- A slot allocated to a new task (R50, R212, R225, R358): cleared, with its tile's `XVEC` and the next serial. Its spill share
reads as zero. -/
def State.allocate (s : State) (r : TileRef) (slot : Nat) (f : Ctx → Ctx) : State :=
  let t := s.tile r
  let c : Ctx := { Ctx.reset with
    st := .ready
    xvec := t.xvec
    serial := t.serial + 1
    readySince := t.wall + 2
    fflags := 0 }
  ((s.zeroBytes .spill r (t.spillOff slot 0) t.spillShare).healWhole .spill r (t.spillOff slot 0) t.spillShare).modTile r (fun t => { t.setCtx slot (f c) with serial := t.serial + 1 })

/-- A task created by a packet or a pair (R212, R217, R224). -/
def State.createByPacket (s : State) (r : TileRef) (slot st : Nat) (parts : List (Nat × Nat)) : State :=
  match s.nextTree r with
  | none => s
  | some id =>
    let t := s.tile r
    let p := t.lead parts
    let h := s.bufHdr r p.1 p.2
    let s1 := s.allocate r slot (fun c =>
      { c with pc := t.entryOf parts, tree := id, tick := (s.node r.node).tick.toNat, pri := hdrPri h.2, hdr0 := h.1, hdr1 := h.2
               gen := hdrGen h.2, origin := some st
               cur := parts.foldl (fun m q => spPut m q.1 q.2) [] })
    s1.modTile r (fun t =>
      { parts.foldl (fun t q => t.modIn q.1 (fun x => x.modBuf q.2 (fun b => { b with st := .current }))) t with
        lastTree := id.setWidth 12 })

/-- A task created from a descriptor (R227, R228, R264). -/
def State.createChild (s : State) (r : TileRef) (slot : Nat) (e : DequeEntry) : State :=
  s.allocate r slot (fun c =>
    let c1 := { c with pc := dqEntry e.d2, tree := dqTree e.d2, tick := e.tick, pri := dqPri e.d2
                       hdr1 := (dqPri e.d2).setWidth 64 <<< 30, gen := e.gen, parent := some (dqParent r.node e.d3)
                       parentSeq := dqSerial e.d3, joining := dqJoin e.d2 }
    (c1.writeWord .a 0 false false e.d0).writeWord .a 1 false false e.d1)

/-- `TASK_ADMISSION` (R212, R227, R365, R366): at most one a wall cycle. -/
def State.admitTask (s : State) (r : TileRef) : State :=
  let t := s.tile r
  match t.freeSlots with
  | [] => s
  | k :: _ =>
    if t.admitted = t.wall + 1 then s
    else match s.nextCandidate r with
      | none => s
      | some c =>
        let s1 := s.modTile r (fun t => { t with rotation := c.source, admitted := t.wall + 1 })
        if c.source = 32 then
          match t.deque with
          | [] => s1
          | e :: rest => (s1.modTile r (fun t => { t with deque := rest })).createChild r k e
        else s1.createByPacket r k c.source c.parts

/-- `TASK_ADMISSION`. -/
def execTaskAdmission (r : TileRef) (s : State) : Out := .next (s.admitTask r)

/-! Steals -/

/-- The other tiles of a tile's stage in the order a thief probes them (R227). -/
def Tile.probeOrder (t : Tile) (tile : Nat) : List Nat :=
  let w := max 1 t.width
  let h := max 1 t.height
  let ox := t.origin % 16
  let oy := t.origin / 16
  let i := (tile / 16 - oy) * w + (tile % 16 - ox)
  (List.range (w * h - 1)).map (fun k =>
    let j := (i + 1 + k) % (w * h)
    (oy + j / w) * 16 + (ox + j % w))

/-- Whether a tile steals (R227): a Free slot it may fill, no trigger it could take, and an empty deque. -/
def State.steals (s : State) (r : TileRef) : Bool :=
  let t := s.tile r
  t.deque.isEmpty && t.eligible [] && (s.candidates r).isEmpty

/-- Whether a tile whose wall cycle has not ended pops the last entry of its deque in it (R227). -/
def State.pops (s : State) (r : TileRef) (wall : Nat) : Bool :=
  let t := s.tile r
  decide (t.wall ≤ wall) && t.deque.length == 1 && !t.freeSlots.isEmpty && t.admitted != t.wall + 1
    && (s.nextCandidate r).any (fun c => c.source == 32)

/-- The first tile of the probes with a non-empty deque, and its tail (R227); none while that tail cannot be taken: the accesses its
parent released with it have not been performed (R250), or its own tile pops it in this wall cycle. -/
def State.victim (s : State) (r : TileRef) : Option (Nat × DequeEntry) :=
  match ((s.tile r).probeOrder r.tile).find? (fun k => !(s.tile ⟨r.node, k⟩).deque.isEmpty) with
  | none => none
  | some k => match (s.tile ⟨r.node, k⟩).deque.getLast? with
    | some e => if s.childFree ⟨r.node, k⟩ e && !s.pops ⟨r.node, k⟩ (s.tile r).wall then some (k, e) else none
    | none => none

/-- A round of probes (R227, R228): one descriptor from the tail of the first tile that has one, admitted at once. -/
def State.stealRound (s : State) (r : TileRef) : State :=
  let t := s.tile r
  match t.freeSlots, s.victim r with
  | k :: _, some (v, e) =>
    if s.steals r && t.admitted != t.wall + 1 then
      ((s.modTile ⟨r.node, v⟩ (fun t => { t with deque := t.deque.dropLast })).modTile r (fun t =>
        { t with admitted := t.wall + 1 })).createChild r k e
    else s
  | _, _ => s

/-- `STEAL_ROUND`. -/
def execStealRound (r : TileRef) (s : State) : Out := .next (s.stealRound r)

/-- The admission and the steal of a wall cycle, at its end: an `SWAIT` that retires in it comes first (R218, R369). -/
def State.admissions (s : State) (r : TileRef) : State :=
  let t := s.tile r
  let s1 := if t.deque.isEmpty && t.ins.toList.all (fun x => x.bufs.all (fun b => b.st != .ready)) then s else s.admitTask r
  if t.deque.isEmpty && (s.node r.node).tiles.any (fun e => e.1 != r.tile && !e.2.deque.isEmpty) then s1.stealRound r else s1

/-! Waits -/

/-- Whether the condition of a context's wait holds (Table 7.7). -/
def State.waitMet (s : State) (r : CtxRef) : Bool :=
  let t := s.tile (tileOf r)
  let c := t.ctx r.slot
  match c.wait with
  | .none => true
  | .stream st => (c.curBuf st).isSome
  | .output st => !(t.outS st).blocked
  | .barrier b => (t.settleBarriers.barrier b).count == 0
  | .group code ep => s.episodeDone (tileOf r) code ep
  | .lock _ _ => false
  | .told _ _ => true
  | .join => c.jcnt == 0
  | .shadow => t.pending.all (fun p => match p.act with
      | .engine _ => !(p.held && p.slot == r.slot)
      | _ => true)
  | .codebook => t.pending.all (fun p => match p.act with
      | .codebook _ => !(p.held && p.slot == r.slot)
      | _ => true)

/-- R49: no result of earlier blocks is in flight, and every landing named for a cycle reached has been written (R34 counts those of an
offset of zero or less). A faulted one awaits its trap, not a write. -/
def Ctx.blockClear (c : Ctx) (core : Nat) : Bool :=
  c.results.isEmpty && c.landings.all (fun l => l.faulted || (!l.past && decide (core < l.named)))

/-- A fault of a fold transfer, its `UE` among them, makes a waiting context ready (R309, R310). -/
def Ctx.foldFault (c : Ctx) : Bool :=
  c.late.any (fun f => f.arrived && (f.cause == .foldMiss || f.cause == .foldPerm || f.cause == .foldNomem
    || (f.cause == .ue && f.record.any (fun x => x.kind == 5))))

/-- `WAIT_READY` (R49, R221, R310): a waiting context becomes Ready. A fault keeps the wait for the block's end (R198). -/
def State.waitReady (s : State) (r : CtxRef) : State :=
  let t := s.tile (tileOf r)
  let c := t.ctx r.slot
  if c.st != .waiting || !c.blockClear t.core then s
  else if s.waitMet r then
    s.modCtx r (fun c => { c with st := .ready, wait := .none, readySince := t.wall })
  else if c.foldFault then s.modCtx r (fun c => { c with st := .ready, readySince := t.wall })
  else s

/-- `WAIT_READY`. -/
def execWaitReady (c : CtxRef) (s : State) : Out := .next (s.waitReady c)

end Sys2Proof.Machine
end

