-- ==== Sys2Proof/Machine/Issue.lean ====
section
/-! DEFINITION. One wall cycle of a tile (spec/01 R19, R33 to R37, R41 to R49, spec/06 R182 to R198, spec/13 R368): what falls
due, the choice of the context that issues, boundaries and the traps taken there, freezes and holds, the checks of a bundle,
its execution and its retirement, and the steps these are made of. -/

namespace Sys2Proof.Machine

/-! The end of a block -/

/-- A context's results in flight from the end of its block on: they count wall cycles (R47) and push no latch entry (R26); a write of
a control register of the tile is in effect before the bundle that follows the block switch (R133). -/
def Ctx.leaveCore (c : Ctx) (core wall : Nat) : Ctx :=
  let c1 := c.silence.emptyLatches
  { c1 with results := c1.results.map (fun (r : Result) =>
      if r.wallClock then r
      else { r with wallClock := true, due := wall + (if r.onTile then min 2 (r.due - core) else r.due - core) }) }

/-- What the context will wait for once its block has ended; `SWAIT`s are served in the order they retire (R218). -/
def Ctx.awaits (c : Ctx) (w : Wait) (issued : Nat) : Ctx :=
  { c with
    wait := w
    waitSeq := match w with
      | .stream _ => issued
      | _ => c.waitSeq }

/-- A BLOCK ENDS (R26, R46, R47): the context waits for what it awaits, and its tile runs none. -/
def State.endBlock (s : State) (r : CtxRef) : State :=
  (s.modTile (tileOf r) (fun t =>
    { t.modCtx r.slot (fun c => { c.leaveCore t.core t.wall with st := .waiting, closing := false, blockStart := true }) with
      running := none
      freeze := none })).modTile (tileOf r) Tile.allClaims

/-! What falls due -/

/-- Writes outside a context that a tile's cycle brings into effect beside the engine's and the barriers': rebinds (R268) and
the crook's matrix (R343). -/
def State.settleOthers (s : State) (r : TileRef) : State :=
  let t := s.tile r
  let due := t.pending.filter (fun p => p.due t && (match p.act with
    | .bind _ _ => true
    | .matrix _ => true
    | _ => false))
  let s1 := s.modTile r (fun t => { t with pending := t.pending.filter (fun p => !due.contains p) })
  due.foldl (fun s p => match p.act with
    | .bind st v =>
      let s2 := (s.modTile r (fun t => t.rebind st v)).admitHeld r st
      (if inMode ((s2.tile r).inS st).d0 = 2 then s2.admitHeld r (inPair ((s2.tile r).inS st).d0) else s2).modTile r Tile.allClaims
    | .matrix v => s.setMatrix r.node v
    | _ => s) s1

/-- The class 3 item of a lost landing whose cycle has come (R189). -/
def Ctx.loseDue (c : Ctx) (core issued : Nat) : Ctx :=
  let lost := c.landings.filter (fun l => l.lost && !l.waited && !l.rel && decide (l.named ≤ core))
  { c with
    landings := c.landings.filter (fun l => !(l.lost && !l.waited && !l.rel && decide (l.named ≤ core)))
    late := c.late ++ lost.map (fun l =>
      (⟨.landingTimeout, none, .m, l.addr, 0, (issued - 1) * 256 + l.seq % 256, none, true, none, false⟩ : LateFault)) }

/-- What is due completes in every context but the running one (R37, R47). -/
def Tile.settleOthers (t : Tile) : Tile :=
  (List.range 8).foldl (fun t k => if t.running = some k then t else t.settleSlot k) t

/-- The slots of a tile. -/
def slotRefs (r : TileRef) : List CtxRef := (List.range 8).map (fun k => ⟨r.node, r.tile, k⟩)

/-- The beginning of a wall cycle of a tile: everything that falls due outside the running context. -/
def State.tick (s : State) (r : TileRef) : State :=
  let s1 := (s.modTile r (fun t => t.settleOthers.settleBarriers)).tickEngine r
  let s2 := s1.settleOthers r
  let s3 := s2.modTile r (fun t => (List.range 8).foldl (fun t k => t.modCtx k (fun c => c.loseDue t.core t.issued)) t)
  let s4 := (slotRefs r).foldl (fun s c => s.freeSlot c) s3
  (slotRefs r).foldl (fun s c => s.waitReady c) s4

/-- `RESULT_COMPLETION` (R20 to R24): what is due in the running context completes. -/
def execResultCompletion (r : TileRef) (s : State) : Out :=
  .next (s.modTile r (fun t => match t.running with
    | some k => t.settleSlot k
    | none => t))

/-- `LANDING_WRITE` (R30, R33, R37): the landings of a context whose cycle has come are written. -/
def execLandingWrite (c : CtxRef) (s : State) : Out := .next (s.modTile (tileOf c) (fun t => t.settleSlot c.slot))

/-! The choice of what issues -/

/-- The lowest interrupt line pending on a tile that a context takes (R187). -/
def Tile.takeableIrq (t : Tile) (c : Ctx) : Option Nat :=
  if c.tf || !c.xctl.getLsbD 1 then none
  else (List.range 16).find? (fun l => t.irq.getLsbD l && c.xctl.getLsbD (16 + l))

/-- Whether a context may be selected now: it is Ready, R49 still holds of it, and no halt awaits it (R393). -/
def Tile.isReady (t : Tile) (k : Nat) : Bool :=
  let c := t.ctx k
  c.st == .ready && decide (c.readySince ≤ t.wall) && c.blockClear t.core && !c.preempt

/-- The Ready context of highest effective class, first after the slot selected last; one that takes a pending interrupt first
(R187, R367, R368). -/
def Tile.pick (t : Tile) : Option Nat :=
  match (List.range 8).find? (fun k => t.isReady k && (t.takeableIrq (t.ctx k)).isSome) with
  | some k => some k
  | none =>
    ((List.range 8).map (fun i => (t.lastSlot + 1 + i) % 8)).foldl (fun m k =>
      if !t.isReady k then m
      else
        let e := fun k => let c := t.ctx k; effClass c.pri.toNat c.readySince t.wall
        match m with
        | none => some k
        | some j => if e j < e k then some k else m) none

/-- The restore of a saved context at its first selection (R391): its frame as by `TRET`, a deferred trap of it included (R186), its
copies at the head of its queue. -/
def State.resumeFirst (s : State) (r : CtxRef) (ds : List CopyDesc) : State :=
  let copy := s.frameWord r 8
  let u := s.modTile (tileOf r) (fun t => { t with issued := t.issued + 1 })
  let s0 := if (s.frameWord r 0).getLsbD 52 then
      (u.modCtx r (fun c => { c with xstat := BitVec.ofNat 64 (0x80 + c.level * 17), xpc := copy })).takeDeferred r
    else u.restoreFrame r (BitVec.ofNat 12 (wfld copy 0 12))
  let s1 := s0.modCtx r (fun c => { c with resume := none, blockStart := false })
  ds.foldl (fun s d =>
    let i := s.newId
    i.2.modCtx r (fun c => { c.enqueueHead c.again
      ⟨i.1, none, (s.tile (tileOf r)).restored 0, false, true, false, .copy d, d.lvl⟩ with again := c.again ++ [i.1] })) s1

/-- `SHEPHERD_SELECT` (R47, R368): on a tile that runs no context, the one chosen runs; it issues after the block switch. -/
def State.blockSwitch (s : State) (r : TileRef) : State :=
  let t := s.tile r
  match t.running, t.pick with
  | none, some k =>
    let c := t.ctx k
    let s1 := s.modTile r (fun t =>
      { t.modCtx k (fun c => { c with st := .running, blockStart := c.began, issueAt := t.core }) with
        running := some k, lastSlot := k, switchUntil := some (t.wall + 2), freeze := none })
    match c.resume with
    | some ds => s1.resumeFirst ⟨r.node, r.tile, k⟩ ds
    | none => s1
  | _, _ => s

/-- `BLOCK_SWITCH`. -/
def execBlockSwitch (r : TileRef) (s : State) : Out := .next (s.blockSwitch r)

/-! Boundaries -/

/-- The arrived class 3 item of a context whose bundle issued earliest (R184, R186). -/
def Ctx.firstLate (c : Ctx) : Option LateFault :=
  (c.late.filter (fun f => f.arrived)).foldl (fun m f => match m with
    | none => some f
    | some g => if f.seq < g.seq then some f else m) none

/-- Whether a wound may be taken: outside a freeze, or once a landing has arrived in it since the wound came (Table 11.5a). -/
def Tile.woundNow (t : Tile) (c : Ctx) : Bool :=
  c.wound.isSome && !c.tf && (match t.freeze with
    | none => true
    | some w => c.landings.any (fun l => match l.arrive with
      | some a => decide (max w c.woundSince ≤ a)
      | none => false))

/-- Whether a running context takes `PREEMPT` at its next boundary (R378): at a checkpoint save it goes on to the end of its block, unless
its block switch was in progress (R393). -/
def Tile.preempts (t : Tile) (k : Nat) : Bool :=
  (t.ctx k).preempt && (t.save.all (fun o => !o.word.getLsbD 60) || t.switchUntil == some t.wall)

/-- Whether some trap is to be taken at the boundary of a running context now (R185). `PREEMPT` is the save's (R378). -/
def Tile.boundaryTrap (t : Tile) (k : Nat) : Bool :=
  let c := t.ctx k
  (t.freeze.isNone && (t.takeableIrq c).isSome) || t.woundNow c || c.firstLate.isSome || c.request.isSome

/-- A trap at a boundary. At the boundary that ends a block it records WAITEND = 1, and the wait of that block is kept for the
`TRET` (R198). -/
def State.takeAt (s : State) (r : CtxRef) (q : TrapReq) : State :=
  let c := s.ctx r
  let between := (c.blockStart || c.closing) && q.cls != 5
  let s1 := s.takeTrap r q c.pc.toNat between
  if c.tf then s1
  else s1.modCtx r (fun c => { c with
    closing := false
    outer := if between then some (c.wait, c.waitSeq) else none
    wait := if between then .none else c.wait })

/-- The class 3 item or the class 4 request of a boundary is taken (R185, R186). -/
def State.takeLate (s : State) (r : CtxRef) : State :=
  let c := s.ctx r
  match c.firstLate with
  | some f =>
    let kept := match f.record, f.stored with
      | some x, false => [x]
      | _, _ => []
    (s.modCtx r (fun c => { c with late := c.late.erase f, capture := c.capture ++ kept })).takeAt r
      ⟨f.cause, 3, slotIdx f.slot, f.fpc.getD c.pc.toNat, f.xaddr, f.xprog⟩
  | none =>
    match c.request with
    | some (k, fpc, _) => (s.modCtx r (fun c => { c with request := none })).takeAt r ⟨k, 4, 0, fpc, 0, 0⟩
    | none => s

/-- THE TRAP OF LOWEST CLASS AT A BOUNDARY (R182, R185 to R187, R332). -/
def State.boundary (s : State) (r : CtxRef) : State :=
  let t := s.tile (tileOf r)
  let c := t.ctx r.slot
  match (if t.freeze.isNone then t.takeableIrq c else none), c.wound with
  | some l, _ =>
    (s.modTile (tileOf r) (fun t => { t with irq := t.irq &&& ~~~(1#16 <<< l) })).takeAt r
      ⟨.interrupt (BitVec.ofNat 4 l), 1, 0, c.pc.toNat, 0, 0⟩
  | none, some w =>
    if t.woundNow c then
      ((s.modCtx r (fun c => { c with wound := none })).takeAt r ⟨.wound, 2, 0, c.pc.toNat, w, 0⟩).releaseWounded r
    else s.takeLate r
  | none, none => s.takeLate r

/-- Whether a running context stands at a boundary: no switch, trap entry, return or bubble in progress. -/
def Tile.atBoundary (t : Tile) (k : Nat) : Bool :=
  let c := t.ctx k
  (match t.switchUntil with
    | some w => decide (w ≤ t.wall)
    | none => true) && c.entering.isNone && c.returning.isNone && !c.stuck && decide (c.issueAt ≤ t.core)

/-- `TRAP_ENTRY` (R185, R188): the trap of a boundary is taken. -/
def execTrapEntry (r : TileRef) (s : State) : Out :=
  let t := s.tile r
  .next (match t.running with
    | some k => if t.atBoundary k && !t.preempts k then s.boundary ⟨r.node, r.tile, k⟩ else s
    | none => s)

/-- `HANDLER_ENTRY` (R188, R190): the frame is written once every value the entry waits for has come. -/
def execHandlerEntry (r : TileRef) (s : State) : Out :=
  .next (match (s.tile r).running with
    | some k => s.enterHandler ⟨r.node, r.tile, k⟩
    | none => s)

/-- `LOST_LANDING` (R189): a value a trap entry waits for has not come within 16,384 wall cycles of the boundary. -/
def execLostLanding (c : CtxRef) (k : Nat) (s : State) : Out :=
  let x := s.ctx c
  .next (match x.entering with
    | some (_, w) =>
      if w + 16384 ≤ (s.tile (tileOf c)).wall then
        s.modCtx c (fun x => x.modLanding k (fun l => if l.waited ∧ ¬l.settled then { l with lost := true } else l))
      else s
    | none => s)

/-- The lost landings of a trap entry that has waited 16,384 wall cycles. -/
def State.loseWaited (s : State) (r : CtxRef) : State :=
  match (s.ctx r).entering with
  | some (_, w) =>
    if w + 16384 ≤ (s.tile (tileOf r)).wall then
      s.modCtx r (fun c => { c with landings := c.landings.map (fun (l : Landing) =>
        if l.waited ∧ ¬l.settled then { l with lost := true } else l) })
    else s
  | none => s

/-- A block ends and the shepherd selects anew (R46, R47, R368). -/
def State.reselect (s : State) (r : CtxRef) : State := ((s.endBlock r).waitReady r).blockSwitch (tileOf r)

/-- The wait of the block a trap interrupted at its end stands again (R198); a status that has come for it meanwhile is written (R339). -/
def Ctx.resumeWait (c : Ctx) : Ctx :=
  let o := c.outer.getD (c.wait, c.waitSeq)
  let c1 := { c with waitEnd := false, outer := none, wait := o.1, waitSeq := o.2 }
  match o.1 with
  | .told d v => { c1.writeDst d v with wait := .none }
  | _ => c1

/-- A return with WAITEND = 1 ends the block: its context waits for what it waited for when the trap was taken (R198). -/
def State.closeReturn (s : State) (r : CtxRef) : State :=
  (s.modCtx r Ctx.resumeWait).reselect r

/-- The return of a trap as far as it has come (R196, R198): re-issues enter their queues, and once the restore has ended the
records are placed for the return bundle, or the block ends. -/
def State.continueReturn (s : State) (r : CtxRef) : State :=
  let s1 := s.reissueAll r 512
  let t := s1.tile (tileOf r)
  let c := t.ctx r.slot
  if c.returnReady t.core t.wall (t.preempts r.slot) then
    let stopped := fun (c : Ctx) => c.late.filterMap (fun f => (f.record.filter (fun x => x.kind == 5)).map (fun x => x.word))
    let s2 := (s1.modCtx r (fun c => { c.placeReturn t.core t.issued with
      issueAt := t.core, again := [], foldStop := !(stopped c).isEmpty
      foldHeld := c.foldHeld.filter (fun q => (stopped c).contains q.word) })).modTile (tileOf r) Tile.settlePend
    if c.waitEnd then s2.closeReturn r else s2
  else s1

/-- `RETURN_BUNDLE_ISSUE` (R196, R197). -/
def execReturnBundleIssue (r : TileRef) (s : State) : Out :=
  .next (match (s.tile r).running with
    | some k => if ((s.tile r).ctx k).returning.isSome then s.continueReturn ⟨r.node, r.tile, k⟩ else s
    | none => s)

/-! Freezes -/

/-- A landing named for the core cycle reached that has not come (R33). -/
def Ctx.missing (c : Ctx) (core wall : Nat) : Option Landing :=
  (c.landings.filter (fun l => !l.rel && !l.waited && !l.lost && decide (l.named ≤ core) && (!l.held wall || l.faulted))).head?

/-- A freeze that has lasted 16,384 wall cycles (R35). -/
def Tile.freezeLate (t : Tile) : Bool :=
  match t.freeze with
  | some w => decide (w + 16384 ≤ t.wall)
  | none => false

/-- The class 3 item of such a freeze (R35, Table 6.1): raised at the frozen bundle and reported against the bundle that issued the oldest late
landing, whose address it has. -/
def State.freezeTimeout (s : State) (r : CtxRef) : State :=
  let t := s.tile (tileOf r)
  match t.freezeLate, (t.ctx r.slot).missing t.core t.wall with
  | true, some l =>
    s.modTile (tileOf r) (fun t =>
      { t.modCtx r.slot (fun c =>
          { c with issueAt := min c.issueAt t.core
                   late := c.late ++ [⟨.landingTimeout, l.fpc, .m, l.addr, 0, l.seq, none, true, none, false⟩] }) with
        freeze := some t.wall })
  | _, _ => s

/-- `LANDING_TIMEOUT` (R35). -/
def execLandingTimeout (r : TileRef) (s : State) : Out :=
  .next (match (s.tile r).running with
    | some k => s.freezeTimeout ⟨r.node, r.tile, k⟩
    | none => s)

/-! The cycle -/

/-- A wall cycle passes: with core time, or with core time standing still (R19). -/
def State.pass (s : State) (r : TileRef) : State :=
  ((s.endCycle r).admissions r).modTile r (fun t => { t with core := t.core + 1, wall := t.wall + 1 })
def State.stand (s : State) (r : TileRef) : State :=
  ((s.endCycle r).admissions r).modTile r (fun t => { t with wall := t.wall + 1 })

/-- A wall cycle of a freeze (R33). -/
def State.frozen (s : State) (r : CtxRef) : State :=
  ((s.modTile (tileOf r) (fun t => { t with freeze := some (t.freeze.getD t.wall) })).freezeTimeout r).stand (tileOf r)

/-- The bundle at the boundary is read and decoded: one with an illegal word traps, another is left for its checks (R102, R103).
DESIGN CHOICE (log entry 107): the bundle read is the one instruction memory holds in the cycle of its issue; nothing is
fetched ahead, so that of the old and the new contents R139 allows without an `IFENCE` it is always the new. -/
def State.fetch (s : State) (r : CtxRef) : State :=
  let c := s.ctx r
  match s.bundleAt (tileOf r) c.pc.toNat with
  | .error (w, sl) => s.takeAt r ⟨.illegal, 5, slotIdx sl, c.pc.toNat, illegalAddr w (slotIdx sl), 0⟩
  | .ok b =>
    { s with
      focus := tileOf r
      issue := { Issue.idle with
        mode := .probe, words := b.words, xv := b.header.xv, xm := b.header.xm, xe := b.header.xe, cbb := b.header.cbb
        cbp := b.header.cbp, ops := b.ops } }

/-- Whether a queue of a context is full (R47, R244). -/
def Ctx.queueFull (c : Ctx) : Bool := decide (16 ≤ c.loadsQueued) || decide (16 ≤ c.storesQueued)

/-- Whether a context stands at the entry of the firmware's default node-supervisor code (R359). -/
def Tile.atFirmware (t : Tile) (c : Ctx) : Bool := t.firmware && c.tf && c.level == 2 && c.pc.toNat == wfld t.xvec 0 12

/-- What the firmware's default node-supervisor code does (R359): for an interrupt it returns at once; for every other cause it cancels
the context's tree and makes a notice with reason 4 (R376, R398). -/
def State.runFirmware (s : State) (r : CtxRef) : State :=
  let c := s.ctx r
  if wfld c.xcause 4 4 = 8 then
    { s with focus := tileOf r, issue := { Issue.idle with mode := .probe, ops := [(.a, .tret ⟨false, 0⟩)] } }
  else (((s.modCtx r (fun c => { c with stuck := true })).notice c.tree 4 r).send (.treeCancel r.node c.tree)).pass (tileOf r)

/-- A boundary that no trap takes: a freeze, a hold, a bundle with an uncorrectable word, which does not reach issue (R188, R422), or the
bundle (R33, R45, R47). -/
def State.atIssue (s : State) (r : CtxRef) : State :=
  let t := s.tile (tileOf r)
  let c := t.ctx r.slot
  if (c.missing t.core t.wall).isSome then s.frozen r
  else if c.queueFull then s.stand (tileOf r)
  else if s.poisonIn .imem (tileOf r) (16 * c.pc.toNat) 16 then s.takeAt r ⟨.ue, 3, 0, c.pc.toNat, 0, 0⟩
  else if t.atFirmware c then (s.modTile (tileOf r) (fun t => t.settleSlot r.slot)).runFirmware r
  else (s.modTile (tileOf r) (fun t => t.settleSlot r.slot)).fetch r

/-! The halt of a save (R378 to R381) -/

/-- A slot of a save has halted or has ended: after the last one HALTT is known (Table 14.2). -/
def Tile.haltDone (t : Tile) (slot : Nat) : Tile :=
  match t.save with
  | none => t
  | some o =>
    let left := o.toHalt &&& ~~~(1#8 <<< slot)
    let last := left == 0 && o.halted.isNone
    { t with save := some { o with toHalt := left, halted := if last then some t.wall else o.halted }
             psstat := if last then setFld t.psstat 16 16 (min 0xFFFF (t.wall - o.accepted)) else t.psstat }

/-- A context under a live frame halts (R381): its results complete into their registers, its landings are waited for. -/
def Tile.nestHalt (t : Tile) (slot : Nat) : Tile :=
  let rs := (t.ctx slot).results
  ((sortResults rs).foldl (fun t r => t.complete slot r) (t.modCtx slot (fun c => { c with results := [] }))).modCtx slot (fun c =>
    { c with nest := true, entering := some (t.core, t.wall) })

/-- A context halts: Ready (1), Waiting (2) or Running (3), as its record's STATE tells (R378, Table 14.4). One that has resumed and
has not run since keeps the frame it has. A wound that stands against it releases its locks here (R331). -/
def State.haltCtx (s : State) (r : CtxRef) (state : Nat) : State :=
  let running := state == 3
  let s1 := s.writeWord .sram (tileOf r) (ctxRecBase r.slot) (BitVec.ofNat 64 (state * 2 ^ 56))
  let s2 := s1.modTile (tileOf r) (fun t =>
    let c := t.ctx r.slot
    if c.tf then t.nestHalt r.slot
    else if c.resume.isSome then t
    else t.setCtx r.slot { c.captured t.core t.wall (!running) with waitEnd := !running || c.blockStart || c.closing })
  let s3 := if (s2.ctx r).wound.isSome then s2.releaseWounded r else s2
  s3.modTile (tileOf r) (fun t =>
    let t1 := (t.modCtx r.slot (fun c =>
      { c with st := .saved, preempt := false, closing := false, blockStart := false, issueAt := 0, holdUntil := 0, fencing := false })).haltDone r.slot
    if t1.running = some r.slot then { t1 with running := none, freeze := none } else t1)

/-- Whether a pending class 4 request alone is to be taken at the boundary of a context that stands before a bundle (R185). -/
def Tile.requestOnly (t : Tile) (k : Nat) : Bool :=
  let c := t.ctx k
  c.request.isSome && !c.closing && !(t.freeze.isNone && (t.takeableIrq c).isSome) && !t.woundNow c && c.firstLate.isNone
    && (c.missing t.core t.wall).isNone

/-- A boundary with such a request: an uncorrectable word of the bundle is a class 3 fault and goes before it (R182, R422), and where some
register or latch has bad parity the bundle is left for that check, which does too (R424). -/
def State.beforeRequest (s : State) (r : CtxRef) : State :=
  let c := s.ctx r
  if s.poisonIn .imem (tileOf r) (16 * c.pc.toNat) 16 then s.takeAt r ⟨.ue, 3, 0, c.pc.toNat, 0, 0⟩
  else match c.bad.isEmpty, s.bundleAt (tileOf r) c.pc.toNat with
    | false, .ok _ => s.fetch r
    | _, _ => s.boundary r

/-- A cycle of the running context beyond its switch, its trap entry and its return. DESIGN CHOICE (log entry 108): a freeze that falls
in the bubble cycle of a taken transfer, where no bundle is to issue, and meets a late fault, a timeout or a pre-emption ends with
the bubble cut short, and T of the capture is the bubble's core cycle. -/
def State.runCycle (s : State) (r : CtxRef) : State :=
  let t := s.tile (tileOf r)
  let c := t.ctx r.slot
  if t.core < c.issueAt then
    if (c.missing t.core t.wall).isSome then
      if c.firstLate.isSome ∨ t.preempts r.slot = true then
        s.modCtx r (fun c => { c with issueAt := t.core })
      else s.frozen r
    else (s.modTile (tileOf r) (fun t => { t.settleSlot r.slot with freeze := none })).pass (tileOf r)
  else if t.preempts r.slot then (s.haltCtx r (if t.switchUntil = some t.wall then 2 else 3)).stand (tileOf r)
  else if t.wall < c.holdUntil ∨ (c.fencing = true ∧ t.imemBusy ≠ 0) then s.stand (tileOf r)
  else if t.requestOnly r.slot then s.beforeRequest r
  else if t.boundaryTrap r.slot then s.boundary r
  else if c.closing then (s.reselect r).stand (tileOf r)
  else (s.modCtx r (fun c => { c with fencing := false, holdUntil := 0 })).atIssue r

/-- A cycle of a context that returns (R196, R197): what the handler left in flight completes, a landing of it that has not come
freezes the core unless a fault ends the freeze (R36) or a pre-emption abandons it (R379), and the return goes on. -/
def State.returnCycle (s0 : State) (r : CtxRef) : State :=
  let t := s0.tile (tileOf r)
  let s := if (t.ctx r.slot).returnReady t.core t.wall (t.preempts r.slot) then s0 else s0.modTile (tileOf r) (fun t => t.settleSlot r.slot)
  let ends := (s.ctx r).waitEnd
  let s1 := s.continueReturn r
  if (s1.ctx r).returning.isNone then (if ends then s1.stand (tileOf r) else s1.runCycle r)
  else if ((s1.ctx r).missing t.core t.wall).isSome && (s1.ctx r).firstLate.isNone && !t.preempts r.slot then s1.frozen r
  else (s1.modTile (tileOf r) (fun t => { t with freeze := none })).pass (tileOf r)

/-- ONE WALL CYCLE OF A TILE, up to the checks of the bundle that issues in it. -/
def State.cycle (s0 : State) (r : TileRef) : State :=
  let s := (s0.tick r).blockSwitch r
  let t := s.tile r
  match t.running with
  | none => s.pass r
  | some k =>
    let me : CtxRef := ⟨r.node, r.tile, k⟩
    let c := t.ctx k
    if (match t.switchUntil with
      | some w => decide (t.wall < w)
      | none => false) then s.stand r
    else if c.stuck then s.pass r
    else if c.entering.isSome then ((s.loseWaited me).enterHandler me).pass r
    else if c.returning.isSome then s.returnCycle me
    else s.runCycle me

/-- `BUNDLE_ISSUE` (R45): a wall cycle of a tile. Its bundle's operations stand in the issue record, and the same step runs
them. -/
def execBundleIssue (r : TileRef) (s : State) : Out :=
  .next (let s1 := { s with focus := r, issue := Issue.idle }
    if (s.node r.node).failed then s1 else s1.cycle r)

/-! The bundle -/

/-- The failure reported among those a bundle's checks found (R184). -/
def firstFailure : List Failure → Option Failure
  | [] => none
  | f :: fs => match firstFailure fs with
    | none => some f
    | some g => if g.step < f.step ∨ (g.step = f.step ∧ slotIdx g.slot < slotIdx f.slot) then some g else some f

/-- Operations run one after another. -/
def runOps (run : Instr → State → Out) : List (Slot × Instr) → State → Out
  | [], s => .next s
  | (_, i) :: rest, s =>
    match run i s with
    | .next s1 => runOps run rest s1
    | o => o

/-- Where control goes after bundle `i` (R41, R42, R125, R129). A skipped loop's bundle applies the test of its end alone: DESIGN CHOICE (log
entry 140). -/
def Ctx.goOn (c : Ctx) (i : Nat) : Retire → Ctx
  | .next => c.retireAt i
  | .jump t leaves => { (if leaves then c.leaveLoops t.toNat 4 4 else c) with pc := t }
  | .skip last => c.retireAt last

/-- A loop started by the bundle stands in its register, and a pending write of that register that is due by then is
overtaken (R128). -/
def Ctx.beginLoop (c : Ctx) (core : Nat) : Option (BitVec 2 × Word) → Ctx
  | none => c
  | some (n, w) =>
    { c.setLoopReg n.toNat w with results := c.results.filter (fun r => match r.effect with
        | .creg (.lc k) _ => !(k == n && decide (r.due ≤ core + 1))
        | _ => true) }

/-- RETIREMENT of the bundle that has executed (R41, R46, R48, R137, R138, R285). A trap pending then is taken at the boundary that
ends its block, before the context waits (R198). The slot of a `TEXIT` is free from the next wall cycle on (R369). -/
def State.retire (s : State) : State :=
  let q := s.issue
  let r := s.me
  let t := s.here
  let s1 := { s with issue := Issue.idle }.modHere (fun t => { t with freeze := none, issued := t.issued + 1 })
  let s2 := s1.modCtx r (fun c => { c with blockStart := false, began := true })
  if q.tret then s2.pass s.focus
  else
    let s3 := s2.modCtx r (fun c =>
      let c1 := (c.goOn c.pc.toNat q.retire).beginLoop t.core q.loop
      { c1 with
        issueAt := t.core + 1 + q.bubbles
        request := match q.trap with
          | some k => some (.trap k, c.pc.toNat, t.issued * 256)
          | none => c.request })
    if q.quit then (((s3.endTask r false).blockSwitch s.focus).pass s.focus).freeSlot r
    else match q.endBlock with
      | some w =>
        let s4 := s3.modCtx r (fun c => c.awaits w t.issued)
        if s4.here.preempts r.slot = true ∨ s4.here.boundaryTrap r.slot = true then (s4.modCtx r (fun c => { c with closing := true })).pass s.focus
        else (s4.reselect r).pass s.focus
      | none => s3.pass s.focus

/-- A bundle that does not issue ends its block before it (R222). -/
def State.stayBlock (s : State) : State :=
  let w := s.issue.endBlock.getD .none
  (({ s with issue := Issue.idle }.modCtx s.me (fun c => c.awaits w s.here.issued)).reselect s.me).stand s.focus

/-! Parity (R424) -/

/-- `XADDR` of a parity `UE` (R424). A mask is told as a predicate is (log entry 110). -/
def Cell.xaddr : Cell → Word
  | .reg f n => BitVec.ofNat 64 ((fileCode f).toNat * 256 + n.toNat)
  | .latch f k => BitVec.ofNat 64 (2 ^ 63 + (fileCode f).toNat * 256 + k.toNat)
  | .pred n => BitVec.ofNat 64 (2 ^ 63 + n.toNat)
  | .mask n => BitVec.ofNat 64 (2 ^ 63 + n.toNat)

/-- A latch file in which every latch but one, if any, holds an entry. -/
def latchBut {α : Type} (z : α) (q : Vector (Option α) 4) (k : Option (BitVec 2)) : Vector (Option α) 4 :=
  Vector.ofFn (fun i => if k = some (BitVec.ofNat 2 i.val) then none else some (((q[i.val]?).getD none).getD z))

/-- A context in which everything counts as set but one cell, and a read of that one is told: the reads of R52 are those whose parity
is checked. -/
def Ctx.setBut (c : Ctx) (x : Cell) : Ctx :=
  let but := fun (w : Nat) (n : Option Nat) => BitVec.ofNat w (2 ^ w - 1 - (match n with
    | some i => 2 ^ i
    | none => 0))
  let reg := fun (f : RFile) => match x with
    | .reg g n => if g = f then some n.toNat else none
    | _ => none
  let lat := fun (f : RFile) => match x with
    | .latch g k => if g = f then some k else none
    | _ => none
  { c with
    wa := but 32 (reg .a), wm := but 32 (reg .m), we := but 16 (reg .e), wv := but 32 (reg .v)
    wp := but 8 (match x with
      | .pred n => some n.toNat
      | _ => none)
    wk := but 8 (match x with
      | .mask n => some n.toNat
      | _ => none)
    qa := latchBut 0 c.qa (lat .a), qm := latchBut 0 c.qm (lat .m), qe := latchBut 0 c.qe (lat .e), qv := latchBut 0 c.qv (lat .v)
    xctl := c.xctl ||| 1 }

/-- The slot of the bundle that reads a cell, as a guard or as an operand. -/
def State.readsCell (run : Instr → State → Out) (s : State) (x : Cell) : Option Slot :=
  let guards := (s.issue.ops.find? (fun o => match x with
    | .pred n => n != 0 && (s.slotWord o.1).extractLsb' 22 3 == n
    | _ => false)).map (fun o => o.1)
  guards.or (match runOps run s.issue.ops (s.modCur (fun c => c.setBut x)) with
    | .next u => (u.issue.fails.find? (fun f => f.cause == .uninit)).map (fun f => f.slot)
    | _ => none)

/-- The first cell of bad parity that the bundle's operands name, with the slot that reads it (R424). -/
def State.badRead (run : Instr → State → Out) (s : State) : Option (Cell × Slot) :=
  s.cur.bad.findSome? (fun x => (s.readsCell run x).map (fun sl => (x, sl)))

/-- The class 3 trap of a parity error: the bundle has reached issue, does not execute, and is the return bundle (R188, R424). -/
def State.parityTrap (s : State) (x : Cell) (sl : Slot) : State :=
  let c := s.cur
  { s.takeTrap s.me ⟨.ue, 3, slotIdx sl, c.pc.toNat, x.xaddr, 0⟩ c.pc.toNat false with issue := Issue.idle }

/-- The bundle in the issue record where a class 4 request is pending at its boundary: a parity error of its operands goes before the request,
which is taken otherwise (R182, R185, R424). -/
def State.runRequest (run : Instr → State → Out) (s : State) : State :=
  let u := s.modHere (fun t => t.settleSlot s.slot)
  match u.badRead run with
  | some (x, sl) => u.parityTrap x sl
  | none => { s with issue := Issue.idle }.boundary s.me

/-- Whether the entries of the bundle that has executed do not fit a queue of their context (R47, R244). -/
def Ctx.overfull (c : Ctx) : Bool := decide (16 < c.loadsQueued) || decide (16 < c.storesQueued)

/-- THE BUNDLE IN THE ISSUE RECORD, checked whole and then executed whole (R12, R45, R142, R184), unless its operands have bad parity
(R424); a bundle whose entries do not all fit the queues is held, as by a full queue (R47, R244; log entry 128). `run` is the meaning of an
operation. -/
def State.runBundle (run : Instr → State → Out) (s : State) : Out :=
  if s.issue.mode ≠ .probe then .next s
  else if s.cur.request.isSome then .next (s.runRequest run)
  else match s.badRead run with
  | some (x, sl) => .next (s.parityTrap x sl)
  | none => match runOps run s.issue.ops s with
    | .next s1 =>
      match firstFailure s1.issue.fails with
      | some f => .next { s1.issueTrap f with issue := Issue.idle }
      | none =>
        if s1.issue.stay then .next s1.stayBlock
        else match runOps run s.issue.ops { s with issue := { s.issue with mode := .commit } } with
          | .next s2 => .next (if s2.cur.overfull then { s with issue := Issue.idle }.stand s.focus else s2.retire)
          | o => o
    | o => o

end Sys2Proof.Machine
end

