-- ==== Sys2Proof/Machine/Queues.lean ====
section
/-! DEFINITION. The order of a context's queued accesses (spec/08 R242 to R254): heads, what stands ahead, which accesses wait for
which, and the orderings that have been satisfied. -/

namespace Sys2Proof.Machine

/-! The handler's own accesses, and fold transfers in the unit -/

/-- Whether an access numbered `seq` in the order of issue is one of a context's trap handler (R310). -/
def Ctx.ofHandler (c : Ctx) (seq : Nat) : Bool := c.tf && decide (c.trapSeq ≤ seq / 256)

/-- Whether a task of a slot has been halted for a save (R384, R385). -/
def Tile.halts (t : Tile) (slot serial : Nat) : Bool := let c := t.ctx slot; c.st == .saved && c.serial == serial

/-- Whether two transfers are of one task. -/
def FoldJob.mate (i j : FoldJob) : Bool := i.slot == j.slot && i.serial == j.serial

/-- Whether a context's queue holds a restart that has not been dispatched. -/
def Ctx.restartsQueued (c : Ctx) : Bool :=
  c.queue.any (fun e => e.fpc.isNone && (match e.op with
    | .fold _ => true
    | _ => false))

/-- Whether a dispatched transfer waits behind a fault of its context (R309); a handler's own transfers go on (R310). -/
def Tile.stopped (t : Tile) (j : FoldJob) : Bool :=
  let c := t.ctx j.slot
  c.serial == j.serial && j.fpc.isSome && !j.own && (c.foldStop || c.restartsQueued)

/-- Whether a fold transfer ahead of a queue entry has not completed (R250): a release waits for it. A handler's own waits for none that a
fault has stopped, nor does that of a halted context, whose stopped transfers go to its frame (R309, R385; log entry 129). -/
def Tile.foldsAhead (t : Tile) (slot : Nat) (e : QEntry) : Bool :=
  let c := t.ctx slot
  let own := c.ofHandler e.seq || t.halts slot c.serial
  (c.foldStop && !own) || t.fold.any (fun j => j.slot == slot && j.serial == c.serial && j.req.fn != 5 && !j.finished
    && (decide (j.id < e.id) || j.fpc.isNone) && !(own && t.stopped j))

/-! Units -/

/-- Where a byte of a fold view is found in SRAM now, if its page is here. -/
def State.viewPlace (s : State) (r : CtxRef) (p : Word) : Option (TileRef × Nat) :=
  ((s.tile (tileOf r)).viewOf p).bind (fun v =>
    ((s.walk r.node v.seqId.toNat v.layer.toNat v.head.toNat (ptrPos p / pppOf (s.region r.node))).pd).bind (fun d =>
      let st := s.pdState r.node d
      if st = stResident ∨ st = stShared then some (s.rowPlace r.node d (ptrPos p) (ptrByte p)) else none))

/-- The unit of SRAM that an access touches, by whatever window it names it. -/
def State.unitPlace (s : State) (r : CtxRef) (p : Word) : Option (TileRef × Nat) :=
  let q := p &&& 0xFFFFFFFFFFFFFFF8
  match winOf p with
  | 4 => s.viewPlace r q
  | 0 | 2 | 3 => some (targetTile r q, ptrOff q)
  | _ => none

/-- The unit an access touches: node, tile and unit of a tile's bytes, or the place a fold view names (R242). -/
def State.unitKey (s : State) (r : CtxRef) (u : UnitAcc) : List Nat :=
  match winOf u.ptr with
  | 4 => match (s.tile (tileOf r)).viewOf u.ptr with
    | some v => [1, v.seqId.toNat, v.layer.toNat, v.head.toNat, ptrPos u.ptr, ptrByte u.ptr / 8]
    | none => [2, ptrHandle u.ptr, ptrPos u.ptr, ptrByte u.ptr / 8]
  | 5 => [3, ptrOff u.ptr / 8]
  | _ =>
    let g := targetTile r u.ptr
    [0, g.node, g.tile, ptrOff u.ptr / 8]

/-- Whether two accesses of a context touch one unit (R242, R245): by one name of it, or in one place of SRAM. -/
def State.sameUnit (s : State) (r : CtxRef) (u v : UnitAcc) : Bool :=
  s.unitKey r u == s.unitKey r v
    || ((winOf u.ptr == 4 || winOf v.ptr == 4) && (s.unitPlace r u.ptr).isSome && s.unitPlace r u.ptr == s.unitPlace r v.ptr)

/-! What waits for what -/

/-- Whether a unit of entry `e` waits for an entry ahead of it (R245, R247, R248). -/
def State.waitsFor (s : State) (r : CtxRef) (e : QEntry) (u : UnitAcc) (f : QEntry) : Bool :=
  match f.op with
  | .mark => e.op.reads && homeScope r u.ptr == .t
  | .fence sc => Scope.within (homeScope r u.ptr) sc
  | _ =>
    ((e.op.reads && f.op.reads) || (e.op.writes && f.op.writes))
      && f.op.units.any (fun v => s.sameUnit r v u)

/-- The entries ahead of an entry. -/
def Ctx.ahead (c : Ctx) (id : Nat) : List QEntry := c.queue.takeWhile (fun e => e.id != id)

/-- Whether an earlier segment of the same store writes a unit too: the segments of a store are writes in ascending order (R258). -/
def State.segmentAhead (s : State) (r : CtxRef) (e : QEntry) (u : UnitAcc) : Bool :=
  e.op.writes && (e.op.units.takeWhile (fun v => v.pos != u.pos)).any (fun v => s.sameUnit r v u)

/-- Whether a unit of an entry may be performed now. -/
def State.clear (s : State) (r : CtxRef) (e : QEntry) (u : UnitAcc) : Bool :=
  ((s.ctx r).ahead e.id).all (fun f => !s.waitsFor r e u f) && !s.segmentAhead r e u

/-- Whether every access ahead of a release has been performed, fold transfers among them (R250). -/
def State.allAhead (s : State) (r : CtxRef) (e : QEntry) : Bool :=
  ((s.ctx r).ahead e.id).all (fun f => (f.scopes r).isEmpty) && !(s.tile (tileOf r)).foldsAhead r.slot e

/-- Whether every write ahead of an entry has been performed. -/
def Ctx.writesAhead (c : Ctx) (id : Nat) : Bool := (c.ahead id).all (fun e => !e.op.writes)

/-- Whether no `FENCE` ahead of an entry still orders it: an access homed on the tile lies within every scope (R248). -/
def Ctx.noFence (c : Ctx) (id : Nat) : Bool := (c.ahead id).all (fun e => match e.op with
  | .fence _ => false
  | _ => true)

/-- Whether a release of the interrupted code waits for a stopped transfer, which only the handler's return restarts (R250, R309). -/
def Ctx.heldBack (c : Ctx) (e : QEntry) : Bool :=
  c.tf && c.foldStop && c.st != .saved && !c.ofHandler e.seq && (match e.op with
    | .sclose _ _ => true
    | .barr _ _ => true
    | .release _ => true
    | _ => false)

/-- The head of a queue (R244). Behind a release held back so, the handler's own first entry stands for it: what resolves the fault must
reach its home (R310; log entry 129). -/
def Ctx.headOf (c : Ctx) (q : QueueSel) : Option QEntry :=
  match c.queue.filter (fun e => !e.issued && (match q with
    | .load => e.inLoad
    | .store => e.inStore)) with
  | [] => none
  | e :: rest => if c.heldBack e then rest.find? (fun f => c.ofHandler f.seq) else some e

/-- Whether an entry is at the head of every queue it entered. -/
def Ctx.atHead (c : Ctx) (e : QEntry) : Bool :=
  !e.issued && (!e.inLoad || (c.headOf .load).map (fun f => f.id) == some e.id)
    && (!e.inStore || (c.headOf .store).map (fun f => f.id) == some e.id)

/-! Changes -/

/-- An entry of a context's queues replaced, or removed. -/
def Ctx.setEntry (c : Ctx) (id : Nat) (e : Option QEntry) : Ctx :=
  { c with queue := c.queue.filterMap (fun f => if f.id = id then e else some f) }

/-- An entry that acts at the head of the store queue leaves it. -/
def State.leaveQueue (s : State) (r : CtxRef) (id : Nat) : State := (s.modCtx r (fun c => c.setEntry id none)).settleOrderings r

end Sys2Proof.Machine
end

