-- ==== Sys2Proof/Machine/Port.lean ====
section
/-! DEFINITION. The stream ports (spec/07 R200 to R220, R267): the launch of a packet, its arrival in a buffer, port faults, tag order,
credits, and the stores a port window takes. -/

namespace Sys2Proof.Machine

/-! Sending -/

/-- The egress queue bound to an output stream (R414), by its key among the node's queues. -/
def Node.egressOf (n : Node) (tile st : Nat) : Option Nat :=
  (n.queues.find? (fun e => decide (8192 ≤ e.1) && (match e.2.binding with
    | some b => b.out && b.tile == tile && b.stream == st
    | none => false))).map (fun e => e.1)

/-- A header with its check and its wire length (R202, R203). -/
def sealHeader (h0 h1 : Word) (wlen : Nat) : Word :=
  let w := setFld (h1 &&& 0x0000FFFFFFFFFFFF) 0 14 wlen
  let bs := wordBytes h0 ++ wordBytes w
  setFld w 48 16 (headerCrc (bs.take 14)).toNat

/-- The number of wire bytes that the first flit of a packet carries; PART counts these, and not the header's: DESIGN CHOICE (log entry
142). -/
def firstFlitBytes : Nat := 48

/-- A packet put on its way (R200, R404): within its node it travels whole, to another node as flits. -/
def State.sendPacket (s : State) (p : NetPacket) (src : Nat) : State :=
  if p.dest.node = src then { s with packets := s.packets ++ [{ p with transit := false, whole := true }] }
  else match routeBundle s src p.dest.node with
    | none => s
    | some b =>
      let bs := wordBytes p.hdr0 ++ wordBytes p.hdr1 ++ p.wire
      let fs := messageFlits 1 p.dest.node p.dest.tile (hdrStream p.hdr0) (bs.take 64) (bs.drop 64)
      { (s.sendStream src b fs) with
        packets := s.packets ++ [{ p with wire := [], transit := true, whole := false }] }

/-- A closed packet starts (R267): encoded, checked, and gone from its staging buffer. -/
def State.launch (s : State) (r : CtxRef) (st i : Nat) : State :=
  let t := s.tile (tileOf r)
  let x := t.outS st
  let o := x.place i
  let h0 := s.readWord .port (tileOf r) o
  let h1 := s.readWord .port (tileOf r) (o + 8)
  let wire := encodePayload (hdrEnc h1) (s.readBytes .port (tileOf r) (o + 16) (hdrElen h1))
  let id := s.newId
  let dest : TileRef := match (s.node r.node).egressOf r.tile st with
    | some q => ⟨r.node, 256 + q⟩
    | none => ⟨outNode x.d0, outTile x.d0⟩
  let s1 := id.2.sendPacket ⟨id.1, dest, h0, sealHeader h0 h1 wire.length, wire, ⟨r.node, r.tile, st⟩,
    (x.poison.filter (fun p => p.1 == i)).map (fun p => p.2), false, false⟩ r.node
  s1.modTile (tileOf r) (fun t => t.modOut st (fun x =>
    { x with opened := x.opened.filter (fun p => p.1 != i), poison := x.poison.filter (fun p => p.1 != i) }))

/-- Whether an `SCLOSE` at the head of its queue may start its packet (R250, R267): the packets that any task of the tile closed on
the stream before it have started (R210). -/
def State.launches (s : State) (r : CtxRef) : Option (Nat × Nat × Nat) :=
  let c := s.ctx r
  match c.headOf .store with
  | some e => match e.op with
    | .sclose st i =>
      if s.allAhead r e = true ∧ (((s.tile (tileOf r)).outS st).opened.find? (fun p => p.2)).any (fun p => p.1 == i) = true then some (e.id, st, i)
      else none
    | _ => none
  | none => none

/-- `PACKET_LAUNCH` (R267). -/
def execPacketLaunch (c : CtxRef) (s : State) : Out :=
  .next (match s.launches c with
    | some (id, st, i) => (s.launch c st i).leaveQueue c id
    | none => s)

/-! Credits -/

/-- `CREDIT_ARRIVAL` (R207, R208). -/
def execCreditArrival (t : TileRef) (st : BitVec 5) (k : Nat) (s : State) : Out :=
  s.taking (.creditArrival t st k) (fun s => s.modTile t (fun t => t.modOut st.toNat (fun x => { x with free := x.free + k })))

/-! Port faults -/

/-- A fault of R205 recorded at its port, with interrupt line 0 (R415). -/
def State.portFault (s : State) (r : TileRef) (port code sid : Nat) : State :=
  (s.modTile r (fun t =>
    let w := (t.port[port]?).getD 0
    { t with port := if w.getLsbD 63 then t.port
               else t.port.setIfInBounds port (BitVec.ofNat 64 (2 ^ 63 + code % 8 * 2 ^ 60 + sid % 65536 * 2 ^ 44)) })).raiseLine r 0

/-- The input entry a packet's STREAM names on a tile. -/
def Tile.entryFor (t : Tile) (sid : Nat) : Option Nat :=
  (List.range 32).find? (fun st => inMode (t.inS st).d0 != 3 && inSid (t.inS st).d0 == sid)

/-! Delivery -/

/-- A wholly received packet is delivered: it leaves tag order, takes its place among the stream's packets, and is settled
(R210, R213, R214). -/
def State.deliver (s : State) (r : TileRef) (st i : Nat) : State :=
  (s.modTile r (fun t =>
    { t.modIn st (fun x => x.modBuf i (fun b => { b with st := .held, tagHeld := false, order := t.orders })) with
      orders := t.orders + 1 })).settlePacket r st i

/-- The distance of a tag from NEXT (R220). -/
def InStream.dist (x : InStream) (tag : BitVec 32) : Nat := (tag - x.next).toNat

/-- A field of 16 bits counted up, saturating. -/
def bump16 (v : BitVec 16) : BitVec 16 := if v = 0xFFFF then v else v + 1

/-- The held packet of tag order that is to be delivered now: a stale one, or the one that is next; in ascending tag order (R220). -/
def InStream.nextHeld (x : InStream) : Option Nat :=
  x.bufs.zipIdx.foldl (fun m e =>
    let d := x.dist e.1.tag
    if e.1.st != .held || !e.1.tagHeld || (d != 0 && decide (d < 2 ^ 31)) then m
    else match m with
      | none => some e.2
      | some j => if e.1.tag.toNat < (x.buf j).tag.toNat then some e.2 else m) none

/-- Held packets delivered one after another, at most `fuel` of them (R220). -/
def State.deliverHeld (s : State) (r : TileRef) (st : Nat) : Nat → State
  | 0 => s
  | fuel + 1 =>
    let x := (s.tile r).inS st
    match x.nextHeld with
    | none => s
    | some i =>
      let s1 := s.modTile r (fun t => t.modIn st (fun x =>
        if x.dist (x.buf i).tag = 0 then { x with next := x.next + 1 } else { x with stale := bump16 x.stale }))
      State.deliverHeld (s1.deliver r st i) r st fuel

/-- Whether the port skips (R220): every buffer is held by tag order. -/
def InStream.skips (x : InStream) : Bool := !x.bufs.isEmpty && x.bufs.all (fun b => b.st == .held && b.tagHeld)

/-- The held packet of least distance. -/
def InStream.nearest (x : InStream) : Option Nat :=
  x.bufs.zipIdx.foldl (fun m e =>
    if e.1.st != .held || !e.1.tagHeld then m
    else match m with
      | none => some e.2
      | some j => if x.dist e.1.tag < x.dist (x.buf j).tag then some e.2 else m) none

/-- Tag order judged, with the skip it may bring (R220). -/
def State.judgeTags (s : State) (r : TileRef) (st : Nat) : State :=
  let s1 := s.deliverHeld r st 64
  let x := (s1.tile r).inS st
  if !x.skips then s1
  else match x.nearest with
    | none => s1
    | some i =>
      (s1.modTile r (fun t => t.modIn st (fun x => { x with next := (x.buf i).tag, skip := bump16 x.skip }))).deliverHeld r st 64

/-! Arrival -/

/-- A packet on its way to a tile, by its number. -/
def State.packetAt (s : State) (r : TileRef) (k : Nat) : Option NetPacket := s.packets.find? (fun p => p.id == k && p.dest == r)

/-- A packet off its way. -/
def State.dropPacket (s : State) (k : Nat) : State := { s with packets := s.packets.filter (fun p => p.id != k) }

/-- Whether a packet's first flit has come. -/
def NetPacket.started (p : NetPacket) : Bool := p.whole || !p.wire.isEmpty

/-- Whether a packet already holds a buffer on its tile. -/
def Tile.holds (t : Tile) (k : Nat) : Bool := t.ins.toList.any (fun x => x.bufs.any (fun b => b.st == .receiving && b.pkt == k))

/-- Whether a tile whose shared state stands saved holds its packets back (R428): every context is saved, with a tile record. -/
def State.heldBack (s : State) (r : TileRef) : Bool :=
  let cs := (s.tile r).ctxs.toList
  cs.any (fun c => c.st == .saved) && cs.all (fun c => c.st == .saved || c.st == .free)
    && (s.readWord .sram r saveBase).getLsbD 63

/-- A packet of the tile's own node comes flit by flit: one more is decoded, and PART counts it (Table 7.3, R206). -/
def State.nextFlit (s : State) (r : TileRef) (p : NetPacket) : State :=
  if p.transit then s
  else s.modTile r (fun t => { t with ins := t.ins.map (fun x => { x with bufs := x.bufs.map (fun b =>
    if b.st = .receiving ∧ b.pkt = p.id then { b with wire := min (b.wire + 64) p.wire.length } else b) }) })

/-- A first flit takes a buffer (R205, R207, R211). A packet whose STREAM names no entry is recorded at port 0, and one whose header
check fails at the port of the entry that its STREAM happens to name: DESIGN CHOICE (log entry 116). -/
def State.firstFlit (s : State) (r : TileRef) (k : Nat) : State :=
  match s.packetAt r k with
  | none => s
  | some p =>
    let t := s.tile r
    if !p.started || s.heldBack r then s
    else if t.holds k then s.nextFlit r p
    else
      let good := headerCrc ((wordBytes p.hdr0 ++ wordBytes p.hdr1).take 14) == BitVec.ofNat 16 (wfld p.hdr1 48 16)
      match t.entryFor (hdrStream p.hdr0) with
      | none => (s.dropPacket k).portFault r 0 (if good then 2 else 1) (hdrStream p.hdr0)
      | some st =>
        let x := t.inS st
        if !good then (s.dropPacket k).portFault r (inPort x.d0) 1 (hdrStream p.hdr0)
        else match x.bufs.findIdx? (fun b => b.st == .free) with
          | none => s
          | some i =>
            let o := x.place i
            ((s.writeWord .port r o p.hdr0).writeWord .port r (o + 8) p.hdr1).modTile r (fun t =>
              { t.modIn st (fun x => x.setBuf i { (default : Buf) with
                  st := .receiving, pkt := k, sender := p.sender, tag := hdrTag p.hdr0, order := t.orders
                  wire := if p.transit then p.wire.length else min firstFlitBytes p.wire.length, poison := p.poison }) with
                orders := t.orders + 1 })

/-- `PACKET_FIRST_FLIT` (R211, R205). -/
def execPacketFirstFlit (t : TileRef) (k : Nat) (s : State) : Out := .next (s.firstFlit t k)

/-- Whether a packet is the first of its sender's on their way to a tile: those of one sender and stream are delivered in the order
they were closed in (R210). -/
def State.isNext (s : State) (p : NetPacket) : Bool :=
  ((s.packets.find? (fun q => q.sender == p.sender && q.dest == p.dest)).map (fun q => q.id)) == some p.id

/-- A packet of a triggered stream whose stamp's need exceeds the share is rejected when it is stamped (R361); its tag is counted
first (R214, R220). -/
def State.rejectStamped (s : State) (r : TileRef) (st i : Nat) : State :=
  let x := (s.tile r).inS st
  let d := x.dist (x.buf i).tag
  let s1 := if !inTord x.d0 then s
    else s.modTile r (fun t => t.modIn st (fun x =>
      if d = 0 then { x with next := x.next + 1 } else if 2 ^ 31 ≤ d then { x with stale := bump16 x.stale } else x))
  let s2 := (s1.freeBuffer r st i).modTile r (fun t => t.countRejects 1)
  if inTord x.d0 then s2.judgeTags r st else s2

/-- A packet wholly received (R205, R211, R213, R220): decoded, stamped, judged by tag order, and delivered. Of a fault of code 3 and one
of code 4 the latter is recorded: DESIGN CHOICE (log entry 117). -/
def State.received (s : State) (r : TileRef) (st k : Nat) : State :=
  let t := s.tile r
  let x := t.inS st
  match s.packetAt r k, x.bufs.findIdx? (fun b => b.st == .receiving && b.pkt == k) with
  | some p, some i =>
    if !p.whole || s.heldBack r || !s.isNext p || decide ((x.buf i).wire < p.wire.length) then s
    else
      let s1 := s.dropPacket k
      let elen := hdrElen p.hdr1
      let fault := fun (code : Nat) => (s1.portFault r (inPort x.d0) code (hdrStream p.hdr0)).freeBuffer r st i
      if inBsize x.d0 < elen ∨ 8192 < hdrWlen p.hdr1 then fault 4
      else match decodePayload (hdrEnc p.hdr1) elen p.wire with
        | none => fault 3
        | some bs =>
          let b := x.binding t.wall
          let s2 := ({ s1 with tainted := untaint s1.tainted (memKey .port r (x.place i)) (bs.length + 23) }.writeBytes .port r (x.place i + 16) bs).modTile r (fun t =>
            { t.modIn st (fun x => x.modBuf i (fun q =>
                { q with st := .held, tagHeld := inTord x.d0, got := t.orders, wire := p.wire.length
                         stamp := if inValid b then some (inEntry b) else none, beyond := inValid b && !t.needFits (inEntry b) })) with
              orders := t.orders + 1 })
          (if inMode x.d0 = 1 ∧ inValid b = true ∧ t.needFits (inEntry b) = false then s2.rejectStamped r st i
            else if inTord x.d0 then s2.judgeTags r st
            else s2.deliver r st i).modTile r Tile.allClaims
  | _, _ => s

/-- `PACKET_RECEIVED` (R211, R213, R220). -/
def execPacketReceived (t : TileRef) (st : BitVec 5) (k : Nat) (s : State) : Out := .next (s.received t st.toNat k)

/-- A store to NEXT (R220): held packets are judged again. -/
def State.writeNext (s : State) (r : TileRef) (st : Nat) (v : BitVec 32) : State :=
  ((s.modTile r (fun t => t.modIn st (fun x => { x with next := v }))).judgeTags r st).modTile r Tile.allClaims

/-- `NEXT_WRITE` (R220). -/
def execNextWrite (t : TileRef) (st : BitVec 5) (v : BitVec 32) (s : State) : Out := .next (s.writeNext t st.toNat v)

/-! The port window -/

/-- The writable bits of a window descriptor's dwords (Table 8.3). -/
def windowMask (i : Nat) : Word :=
  match i with
  | 0 => 0xE00FFFFFFC000000
  | 1 => 0xFFFFFF
  | 2 => 0xFFFFFF
  | _ => 0

/-- A store of a dword to a descriptor, a port status or the window table (R206, R238): fields that are read-only keep their
value. -/
def State.portStore (s : State) (r : TileRef) (off : Nat) (w : Word) : State :=
  if off < 0x40400 then
    (if (off - 0x40000) / 8 % 4 = 2 then s.writeNext r ((off - 0x40000) / 32) (w.extractLsb' 32 32) else s)
  else if off < 0x40800 then s
  else if off < 0x40810 then
    s.modTile r (fun t =>
      let i := (off - 0x40800) / 8
      { t with port := t.port.setIfInBounds i ((t.port[i]?).getD 0 &&& ~~~(w &&& 0x8000000000000000)) })
  else if 0x40C00 ≤ off ∧ off < 0x40E00 then
    s.modTile r (fun t =>
      let i := (off - 0x40C00) / 32
      let j := (off - 0x40C00) / 8 % 4
      { t with windows := t.windows.setIfInBounds i (((t.windows[i]?).getD (Vector.replicate 4 0)).setIfInBounds j (w &&& windowMask j)) })
  else s

end Sys2Proof.Machine
end

