-- ==== Sys2Proof/Machine/Banks.lean ====
section
/-! DEFINITION. The banks of a tile's SRAM and what performs there (spec/08 R240 to R243, spec/17 R423, spec/15 R410): loads, stores,
atomics and reductions of one unit, the mailbox registers among the bytes, and the counting of watched writes. -/

namespace Sys2Proof.Machine

/-! The mailbox -/

/-- The offsets of the mailbox (R410). -/
def mailboxFirst : Nat := 0xAF7000
def mailboxEnd : Nat := 0xAF7018

/-- Whether a range meets the mailbox. -/
def meetsMailbox (off n : Nat) : Bool := decide (off < mailboxEnd) && decide (mailboxFirst < off + n)

/-- The bytes of the mailbox registers. -/
def Tile.mailboxBytes (t : Tile) : List Byte := wordBytes t.mbreq ++ wordBytes t.mbdata ++ wordBytes t.mbstat

/-- Bytes written over a register's, from a byte of it on. -/
def overBytes (old : Word) (at' : Nat) (bs : List Byte) : Word :=
  bytesWord ((wordBytes old).zipIdx.map (fun b => if at' ≤ b.2 ∧ b.2 < at' + bs.length then bs.getD (b.2 - at') 0 else b.1))

/-- A write of part of a mailbox register (Table 15.5). A write of GO starts an access, or is refused while one is in progress. -/
def State.writeMailbox (s : State) (r : TileRef) (off : Nat) (bs : List Byte) : State :=
  let t := s.tile r
  let b := off % 8
  match (off - mailboxFirst) / 8 with
  | 0 =>
    let w := overBytes (t.mbreq &&& 0x7FFFFFFFFFFFFFFF) b bs &&& 0xC000000003FFFFFF
    if t.mbreq.getLsbD 63 then
      (if w.getLsbD 63 then s.modTile r (fun t => { t with mbstat := t.mbstat ||| 0x4000000000000000 }) else s)
    else
      let s1 := s.modTile r (fun t => { t with mbreq := w })
      if w.getLsbD 63 then s1.send (.mailboxAccess r w) else s1
  | 1 => s.modTile r (fun t => { t with mbdata := overBytes t.mbdata b bs })
  | _ => s.modTile r (fun t => { t with mbstat := t.mbstat &&& ~~~(overBytes 0 b bs &&& 0xC000000000000000) })

/-! Bytes of a tile -/

/-- SRAM bytes of a tile inside one unit, as a bank reads them. -/
def State.bankBytes (s : State) (r : TileRef) (off n : Nat) : List Byte :=
  if meetsMailbox off n then (((s.tile r).mailboxBytes).drop (off - mailboxFirst)).take n else s.readBytes .sram r off n

/-- SRAM bytes of a tile inside one unit written by a party on tile `from'` (R241, R423, R281); none where a poisoned unit would be
written only in part. `bad` poisons the unit. A write from another tile counts where a barrier watches it. -/
def State.bankWrite (s : State) (from' r : TileRef) (off : Nat) (bs : List Byte) (bad : Bool) : Option State :=
  let whole := bs.length == 8 && off % 8 == 0
  let key := memKey .sram r (off / 8 * 8)
  let watched := fun (s : State) => if from' = r then s else s.modTile r (fun t => t.watchWrite off bs.length)
  if meetsMailbox off bs.length then some (watched (s.writeMailbox r off bs))
  else if s.poisoned r off && !whole then none
  else
    let s1 := s.writeBytes .sram r off bs
    let others := s1.poison.filter (fun k => k != key)
    some (watched { s1 with
      poison := if bad then key :: others else others
      tainted := if whole then s1.tainted.filter (fun k => k.1 != key) else s1.tainted })

/-- An atomic or a reduction at a bank (R243): the value read, and the state; none where the unit is poisoned. `bad` says that its
operand is. -/
def State.bankAtom (s : State) (from' r : TileRef) (off size : Nat) (op : AtomOp) (operand : Nat) (bad : Bool) : Option (List Byte × State) :=
  if s.poisoned r off then none
  else
    let old := s.bankBytes r off size
    (s.bankWrite from' r off (natToBytes size (atomNew op size (bytesToNat old) operand)) bad).map (fun s1 => (old, s1))

/-- A range written unit by unit: the state, and the units discarded, as a mask over the range's units. -/
def State.writeRange (s : State) (from' r : TileRef) (off : Nat) (bs : List Byte) (bad : Nat → Bool) : State × Nat :=
  (unitPieces off (bs.length + 1) 0 bs.length).foldl (fun acc p =>
    match acc.1.bankWrite from' r (off + p.1) ((bs.drop p.1).take p.2) (bad p.1) with
    | some s1 => (s1, acc.2)
    | none => (acc.1, acc.2 ||| 2 ^ ((off + p.1) / 8 - off / 8))) (s, 0)

/-! The home's own checks (R239) -/

/-- Whether a window of a node's record covers a range of a tile, with the right asked for. -/
def Export.covers (x : Export) (tile first last : Nat) (wr : Bool) : Bool :=
  windowMatches #v[x.d0, x.d1, x.d2, 0] (wfld x.d0 40 12) tile first last && (!wr || x.d0.getLsbD 62)

/-- Whether the home of an access through window 0x2 or 0x3 refuses it (R236, R239), by the node's own record of its drove's
windows and the reserved regions; `lvl` is the level that issued it. -/
def State.homeBars (s : State) (g : TileRef) (drove : BitVec 32) (lvl off size : Nat) (wr : Bool) : Bool :=
  let n := s.node g.node
  let last := off + size - 1
  if lvl = 0 then
    !n.exports.any (fun x => x.drove == drove && x.covers g.tile off last wr) || n.fold.any (fun f => inFold f g.tile off last)
  else decide (lvl = 1) && inReserved n g.tile off last

/-- Whether the home of a unit on the issuing node refuses it. -/
def State.unitBarred (s : State) (r : CtxRef) (lvl : Nat) (p : Word) (size : Nat) (wr : Bool) : Bool :=
  (winOf p == 2 || winOf p == 3) && s.homeBars (targetTile r p) (s.tile (tileOf r)).drove lvl (ptrOff p) size wr

/-! One unit of an access -/

/-- The first byte of the unit a pointer lies in. -/
def unitPtr (p : Word) : Word := p &&& 0xFFFFFFFFFFFFFFF8

/-- The first byte of the access a unit of a load belongs to. -/
def Landing.accPtr (l : Landing) (u : UnitAcc) : Word :=
  if majorOf l.word = 0x09 ∨ majorOf l.word = 0x0A then u.ptr - BitVec.ofNat 64 (u.pos % 32) else l.addr

/-- Whether the value of a unit of SRAM reaches a context poisoned (R423). -/
def State.readsBad (s : State) (r : CtxRef) (g : TileRef) (off : Nat) : Bool :=
  s.poisoned g off || s.taints r (memKey .sram g off)

/-- A unit of a load performed (R241, R318, R423): its bytes, or the fault and its `XADDR`. -/
def State.unitRead (s : State) (r : CtxRef) (id : Nat) (acc : Word) (u : UnitAcc) : Except (Cause × Word) (List Byte × State) :=
  match winOf u.ptr with
  | 4 =>
    match (s.tile (tileOf r)).viewOf u.ptr with
    | none => .error (.window, acc)
    | some v => match s.findRead (tileOf r) v u.ptr (ptrPos u.ptr) id true with
      | .error (.ue, _) => .error (.ue, unitPtr u.ptr)
      | .error (c, _) => .error (c, acc)
      | .ok (none, _, s1) => .ok (List.replicate u.size 0, s1)
      | .ok (some p, _, s1) =>
        if s1.readsBad r p.1 p.2 then .error (.ue, unitPtr u.ptr) else .ok (s1.readBytes .sram p.1 p.2 u.size, s1)
  | 5 =>
    let t := s.tile (tileOf r)
    let off := ptrOff u.ptr
    if 0x40000 ≤ off then .ok (wordBytes (t.portDword off), s)
    else if t.portBad off || s.taints r (memKey .port (tileOf r) off) then .error (.ue, unitPtr u.ptr)
    else .ok (s.readBytes .port (tileOf r) off u.size, s)
  | _ =>
    let g := targetTile r u.ptr
    let off := ptrOff u.ptr
    if s.readsBad r g off then .error (.ue, unitPtr u.ptr) else .ok (s.bankBytes g off u.size, s)

/-- Bytes of packet memory written (R423): none where a poisoned unit would be written only in part. -/
def State.portBytes (s : State) (t : TileRef) (off : Nat) (bs : List Byte) (bad : Bool) : Option State :=
  let whole := bs.length == 8 && off % 8 == 0
  if (s.tile t).portBad off && !whole then none
  else
    let s1 := (s.writeBytes .port t off bs).modTile t (fun x =>
      let y := if whole then x.portHeal off else x
      if bad then y.portSpoil off else y)
    some (if whole then { s1 with tainted := untaint s1.tainted (memKey .port t off) 8 } else s1)

/-- A unit of a store performed (R241, R301, R318, R423), or the fault and its `XADDR`; `bad` says that its data is poisoned. -/
def State.unitWrite (s : State) (r : CtxRef) (acc : Word) (u : UnitAcc) (bad : Bool) : Except (Cause × Word) State :=
  let done := fun (x : Option State) => match x with
    | some s1 => Except.ok s1
    | none => .error (Cause.ue, unitPtr u.ptr)
  match winOf u.ptr with
  | 4 =>
    match (s.tile (tileOf r)).viewOf u.ptr with
    | none => .error (.window, acc)
    | some v => match s.findWrite (tileOf r) v u.ptr (ptrPos u.ptr) false with
      | .error (.ue, _) => .error (.ue, unitPtr u.ptr)
      | .error (c, _) => .error (c, acc)
      | .ok (p, _, s1) => done (s1.bankWrite (tileOf r) p.1 p.2 u.bytes bad)
  | 5 =>
    if 0x40000 ≤ ptrOff u.ptr then .ok (s.portStore (tileOf r) (ptrOff u.ptr) (bytesWord u.bytes))
    else done (s.portBytes (tileOf r) (ptrOff u.ptr) u.bytes bad)
  | _ => done (s.bankWrite (tileOf r) (targetTile r u.ptr) (ptrOff u.ptr) u.bytes bad)

/-! What a performed unit does to its entry -/

/-- Whether an entry's access has a landing, which a trap captures as a record of its own. -/
def QEntry.lands (e : QEntry) : Bool :=
  match e.op with
  | .load _ => true
  | .atom returns _ _ _ => returns
  | _ => false

/-- A late fault of an entry's access (R182): the first one counts. -/
def State.entryFault (s : State) (r : CtxRef) (e : QEntry) (f : Cause × Word) (x : Option Record) : State :=
  let known := match (s.ctx r).landings.find? (fun l => l.id == e.id) with
    | some l => l.faulted
    | none => (s.ctx r).late.any (fun g => g.seq == e.seq && g.cause == f.1 && x.isNone)
  if known then s
  else s.detect r ⟨f.1, e.fpc, .m, f.2, 0, e.seq, if e.lands then some e.id else none, false, x, false⟩

/-- Whether a queue entry's contents have an uncorrected error: what it delivers is poisoned (R422). -/
def State.entryBad (s : State) (r : CtxRef) (e : QEntry) : Bool := (s.ctx r).badQueue.contains e.id

/-- A load's units after one has been read; the value of an entry in error reaches its landing poisoned (R422, R423). -/
def State.loadTook (s : State) (r : CtxRef) (e : QEntry) (rest : List UnitAcc) (pos : Nat) (bs : List Byte) : State :=
  let s1 := s.modCtx r (fun c =>
    (c.modLanding e.id (fun l => l.take pos bs rest.isEmpty)).setEntry e.id
      (if rest.isEmpty then none else some { e with op := .load rest }))
  if !s.entryBad r e then s1
  else match (s.ctx r).landings.find? (fun l => l.id == e.id) with
    | some l => s1.entryFault r e (.ue, unitPtr l.addr) none
    | none => s1

/-- A load or store without some of its units. -/
def State.keepUnits (s : State) (r : CtxRef) (e : QEntry) (rest : List UnitAcc) : State :=
  s.modCtx r (fun c => c.setEntry e.id (if rest.isEmpty then none else some { e with op := match e.op with
    | .load _ => .load rest
    | .store _ n => .store rest n
    | o => o }))

/-- The record a fold-view store leaves (Table 6.4 kind 0x6): the units of one access not yet performed. -/
def storeRecord (acc : Word) (us : List UnitAcc) (seg seq : Nat) : Record :=
  let data := us.foldl (fun (m : List Byte) u => m.zipIdx.map (fun b =>
    if u.pos % seg ≤ b.2 ∧ b.2 < u.pos % seg + u.bytes.length then u.bytes.getD (b.2 - u.pos % seg) 0 else b.1)) (List.replicate 128 0)
  let be := us.foldl (fun m u => m + (2 ^ u.bytes.length - 1) * 2 ^ (u.pos % seg)) 0
  ⟨6, 0, 0, false, 0, BitVec.ofNat 8 (seg - 1), 0, acc, some (bytesVec data, BitVec.ofNat 128 be), default, seq⟩

/-- A store's unit that cannot be performed (R318, R423): a discarded write, or a record of what its access has left to do. -/
def State.storeFault (s : State) (r : CtxRef) (e : QEntry) (us : List UnitAcc) (seg k : Nat) (u : UnitAcc) (f : Cause × Word) : State :=
  if f.1 = .ue ∨ f.1 = .window then (s.entryFault r e f none).keepUnits r e (us.eraseIdx k)
  else
    let mine := fun (v : UnitAcc) => v.pos / seg == u.pos / seg
    (s.entryFault r e f (some (storeRecord f.2 (us.filter mine) seg e.seq))).keepUnits r e (us.filter (fun v => !mine v))

/-- A unit of a local or node-window access performed (R241 to R243), or refused by its home (R239). -/
def State.performUnit (s : State) (r : CtxRef) (e : QEntry) (k : Nat) (u : UnitAcc) : State :=
  let barred := s.unitBarred r e.level u.ptr u.size e.op.writes
  match e.op with
  | .load us =>
    let acc := match (s.ctx r).landings.find? (fun l => l.id == e.id) with
      | some l => l.accPtr u
      | none => u.ptr
    if barred then (s.entryFault r e (.window, acc) none).keepUnits r e (us.eraseIdx k)
    else match s.unitRead r e.id acc u with
    | .ok (bs, s1) => s1.loadTook r e (us.eraseIdx k) u.pos bs
    | .error f => (s.entryFault r e f none).keepUnits r e (us.eraseIdx k)
  | .store us seg =>
    let acc := u.ptr - BitVec.ofNat 64 (u.pos % seg)
    if barred then s.storeFault r e us seg k u (.window, acc)
    else match s.unitWrite r acc u (s.entryBad r e) with
    | .ok s1 => s1.keepUnits r e (us.eraseIdx k)
    | .error f => s.storeFault r e us seg k u f
  | .atom returns op v operand =>
    let refused := fun (f : Cause × Word) => (s.entryFault r e f none).modCtx r (fun c => c.setEntry e.id none)
    if barred then refused (.window, v.ptr)
    else match s.bankAtom (tileOf r) (targetTile r v.ptr) (ptrOff v.ptr) v.size op operand.toNat (s.entryBad r e) with
    | some (old, s1) => if returns then s1.loadTook r e [] 0 old else s1.modCtx r (fun c => c.setEntry e.id none)
    | none => refused (.ue, unitPtr v.ptr)
  | _ => s

/-! Conflicts at a bank (Table 1.4) -/

/-- What a bank remembers of an access of the current cycle: who made it, the bank, and whether it is one of 128 bytes and a write. -/
def bankMark (id bank : Nat) (wide wr : Bool) : Nat := ((id * 256 + bank) * 2 + (if wide then 1 else 0)) * 2 + (if wr then 1 else 0)

/-- The cycles by which the accesses that came to a bank before it in the same cycle delay an access of its own tile (Table 1.4): one
for each under a scalar load, four for each other one of 128 bytes under `LDV`, one for each beat of 32 bytes beyond four in the bank
under `LDVS` and `LDVG`, of which `own` are its own, one for each write ahead of an atomic. -/
def Landing.bankDelay (l : Landing) (ms : List Nat) (bank own : Nat) : Nat :=
  let here := ms.filter (fun m => m / 4 % 256 == bank && m / 1024 != 2 * l.id)
  let wide := (here.filter (fun m => m / 2 % 2 == 1)).length
  match l.kind with
  | .load _ _ => here.length
  | .vector => if majorOf l.word = 0x08 then 4 * wide else own + here.length + 3 * wide - 4
  | .atom _ => (here.filter (fun m => m % 2 == 1)).length
  | _ => 0

/-- The accesses that a tile's banks have taken in the current wall cycle. -/
def Tile.bankNow (t : Tile) : List Nat := if t.bankWall = t.wall then t.bankUse else []

/-- A bank remembers an access of the current cycle: `id` is twice the number of a queue entry or a copy, or an odd number for a
request of another node. -/
def State.markBank (s : State) (g : TileRef) (off id : Nat) (wide wr : Bool) : State :=
  s.modTile g (fun t =>
    let m := bankMark id (off / 65536) wide wr
    { t with bankWall := t.wall, bankUse := if t.bankNow.contains m then t.bankNow else t.bankNow ++ [m] })

/-- The beats of 32 bytes that a vector load has in the bank of a unit: its segments that lie there. -/
def QEntry.beatsIn (e : QEntry) (r : CtxRef) (u : UnitAcc) : Nat :=
  let at' := fun (v : UnitAcc) => (targetTile r v.ptr, ptrOff v.ptr / 65536)
  ((e.op.units.filter (fun v => at' v == at' u)).map (fun v => v.pos / 32)).eraseDups.length

/-- A unit of an entry comes to its bank, which remembers it for the cycle; a landing of the bank's own tile is delayed by what came
before it (R38, Table 1.4). -/
def State.useBank (s : State) (r : CtxRef) (e : QEntry) (u : UnitAcc) : State :=
  if winOf u.ptr = 4 ∨ winOf u.ptr = 5 then s
  else
    let g := targetTile r u.ptr
    let bank := ptrOff u.ptr / 65536
    let wide := match e.op with
      | .store _ seg => decide (32 ≤ seg)
      | _ => ((s.ctx r).landings.find? (fun l => l.id == e.id)).any (fun l => l.size == 128)
    let s1 := s.markBank g (ptrOff u.ptr) (2 * e.id) wide e.op.writes
    if g ≠ tileOf r then s1
    else s1.modCtx r (fun c => c.modLanding e.id (fun l =>
      { l with earliest := max l.earliest (l.base + l.bankDelay (s.tile g).bankNow bank (e.beatsIn r u)) }))

/-! `SWR` -/

/-- The next part of an `SWR`'s source, up to the end of a unit of the packet, read into it (R266); a poisoned unit of the packet that would
be written only in part keeps its value (R423). -/
def State.swrPart (s : State) (r : CtxRef) (e : QEntry) (st i : Nat) (src : Word) (off len : Nat) : State :=
  let k := min len (8 - off % 8)
  let t := tileOf r
  let from' := ptrOff src
  let ps := unitPieces from' (k + 1) 0 k
  let bad := ps.any (fun p => s.poisoned t (from' + p.1)) || s.entryBad r e
  let place := ((s.tile t).outS st).place i + 16 + off
  let s0 := ps.foldl (fun s p => s.markBank t (from' + p.1) (2 * e.id) false false) s
  let s1 := (s0.portBytes t place (ps.flatMap (fun p => s.bankBytes t (from' + p.1) p.2)) bad).getD
    (s0.entryFault r e (.ue, BitVec.ofNat 64 (5 * 2 ^ 60 + place / 8 * 8)) none)
  if len ≤ k then s1.leaveQueue r e.id
  else s1.modCtx r (fun c => c.setEntry e.id (some { e with op := .swr st i (src + BitVec.ofNat 64 k) (off + k) (len - k) }))

/-! `BANK_ACCEPT` -/

/-- Whether a unit's home is another node (R404). -/
def remoteUnit (r : CtxRef) (u : UnitAcc) : Bool := winOf u.ptr == 3 && (targetTile r u.ptr).node != r.node

/-- The context whose queues hold an entry. -/
def State.ownerOf (s : State) (id : Nat) : Option CtxRef :=
  s.nodes.findSome? (fun n => n.2.tiles.findSome? (fun t => (List.range 8).findSome? (fun k =>
    if (t.2.ctx k).queue.any (fun e => e.id == id) then some ⟨n.1, t.1, k⟩ else none)))

/-- Unit `k` of an entry performed where nothing it waits for is left (R244, R245). -/
def State.accept (s : State) (r : CtxRef) (e : QEntry) (k : Nat) : State :=
  match e.op with
  | .swr st i src off len =>
    if (s.ctx r).atHead e && (s.ctx r).writesAhead e.id && (s.ctx r).noFence e.id then s.swrPart r e st i src off len else s
  | _ => match e.op.units[k]? with
    | none => s
    | some u =>
      if e.issued && !remoteUnit r u && s.clear r e u then
        let s1 := ((s.useBank r e u).performUnit r e k u).settleOrderings r
        if winOf u.ptr = 4 then s1.releaseRetained r.node else s1
      else s

/-- `BANK_ACCEPT` (R241 to R243): unit k mod 64 of the entry numbered k / 64 is performed at its bank. -/
def execBankAccept (k : Nat) (s : State) : Out :=
  .next (match s.ownerOf (k / 64) with
    | none => s
    | some r => match (s.ctx r).queue.find? (fun e => e.id == k / 64) with
      | some e => s.accept r e (k % 64)
      | none => s)

/-! `BARR_APPLY` -/

/-- `BARR_APPLY` (R282): the count falls once every access ahead has been performed. -/
def execBarrApply (c : CtxRef) (s : State) : Out :=
  .next (match (s.ctx c).headOf .store with
    | some e => match e.op with
      | .barr b n =>
        if s.allAhead c e then (s.modTile (tileOf c) (fun t => t.countOn b n)).leaveQueue c e.id else s
      | _ => s
    | none => s)

end Sys2Proof.Machine
end

