-- ==== Sys2Proof/Machine/Remote.lean ====
section
/-! DEFINITION. The queues' issue to their homes and the requests between nodes (spec/08 R239, R244, spec/11 R334, spec/15 R402, R406,
R407), landings as they arrive (spec/01 R32, spec/10 R305), and late faults (spec/06 R182, R186). -/

namespace Sys2Proof.Machine

/-! Requests -/

/-- Whether two neighbouring units of an access travel in one request (R402). -/
def joins (u v : UnitAcc) : Bool :=
  v.ptr == u.ptr + BitVec.ofNat 64 u.size && ptrOff u.ptr / 128 == ptrOff v.ptr / 128

/-- Units grouped into requests of at most one aligned block of 128 bytes. -/
def groupUnits : List UnitAcc → List (List UnitAcc)
  | [] => []
  | u :: us => match groupUnits us with
    | (v :: vs) :: gs => if joins u v then (u :: v :: vs) :: gs else [u] :: (v :: vs) :: gs
    | gs => [u] :: gs

/-- The sub-operation code of an atomic (R100), and the other way. -/
def AtomOp.code : AtomOp → Nat
  | .add => 0
  | .min => 1
  | .max => 2
  | .and => 3
  | .or => 4
  | .xor => 5
  | .swap => 6
  | .fadd => 7
  | .cas _ => 0

/-- The message of a request for units of an entry (Table 15.2a). PMASK names the units of the target range that the data of an entry in
error brings poison to (R422, R423); a load brings none. -/
def requestEvent (r : CtxRef) (e : QEntry) (g : List UnitAcc) (id : Nat) (bad : Bool) : Event :=
  let u := g.headD default
  let h := targetTile r u.ptr
  let n := g.foldl (fun n v => n + v.size) 0
  let mask := (List.range ((ptrOff u.ptr + n + 7) / 8 - ptrOff u.ptr / 8)).foldl (fun m i => m ||| 1#16 <<< i) 0
  let q : RemoteReq := ⟨h.node, h.tile, ptrOff u.ptr, n, r.node, r.tile, 0, if bad then mask else 0, [], id⟩
  match e.op with
  | .store _ _ => .remoteStore { q with data := g.flatMap (fun v => v.bytes) }
  | .atom _ (.cas x) _ v => .remoteAtomCas { q with data := wordBytes x ++ wordBytes v }
  | .atom true op _ v => .remoteAtom { q with sub := BitVec.ofNat 3 op.code, data := wordBytes v }
  | .atom false op _ v => .remoteRed { q with sub := BitVec.ofNat 3 op.code, data := wordBytes v }
  | _ => .remoteLoad { q with pmask := 0 }

/-- A request id that no outstanding request of a node uses. -/
def Node.freeReq (n : Node) : Nat := ((List.range (n.requests.length + 1)).find? (fun i => !spHas n.requests i)).getD 0

/-- An entry with the units of a group marked as sent. -/
def QEntry.markSent (e : QEntry) (g : List UnitAcc) (id : Nat) : QEntry :=
  let mark := fun (u : UnitAcc) => if g.any (fun v => v.pos == u.pos) then { u with sent := some id } else u
  { e with op := match e.op with
    | .load us => .load (us.map mark)
    | .store us n => .store (us.map mark) n
    | .atom a b u v => .atom a b (mark u) v
    | o => o }

/-- A group of units sent to its home (R406). -/
def State.sendGroup (s : State) (r : CtxRef) (id : Nat) (g : List UnitAcc) : State :=
  match (s.ctx r).queue.find? (fun e => e.id == id) with
  | none => s
  | some e =>
    let q := (s.node r.node).freeReq
    ((s.modNode r.node (fun n => { n with requests := spPut n.requests q (r, id) })).modCtx r (fun c =>
      c.setEntry id (some (e.markSent g q)))).post r.node (requestEvent r e g q (s.entryBad r e))

/-- Request messages that wait in a bundle's queue. -/
def Link.queuedRequests (l : Link) : Nat := (l.request.filter (fun f => f.ctl.getLsbD 4)).length

/-- Whether the bundles of a node grant its requests, one to each of some nodes (R406). -/
def State.creditsAt (s : State) (n : Nat) (homes : List Nat) : Bool :=
  let bs := (homes.filter (fun m => m != n)).filterMap (routeBundle s n)
  bs.all (fun b =>
    let l := (s.node n).link b
    decide ((bs.filter (fun x => x == b)).length + l.queuedRequests ≤ l.reqCredits))

/-- Whether the bundles of some groups grant their requests. -/
def State.creditsFor (s : State) (r : CtxRef) (gs : List (List UnitAcc)) : Bool :=
  s.creditsAt r.node (gs.map (fun g => (targetTile r (g.headD default).ptr).node))

/-- The access a unit of an entry belongs to, by its first byte. -/
def State.accOf (s : State) (r : CtxRef) (e : QEntry) (u : UnitAcc) : Word :=
  match e.op with
  | .store _ seg => u.ptr - BitVec.ofNat 64 (u.pos % seg)
  | _ => match (s.ctx r).landings.find? (fun l => l.id == e.id) with
    | some l => l.accPtr u
    | none => u.ptr

/-- Units of an entry that can never be performed leave it, with a late fault (R407). -/
def State.refuseUnits (s : State) (r : CtxRef) (e : QEntry) (us : List UnitAcc) (c : Cause) : State :=
  let s1 := s.entryFault r e (c, s.accOf r e (us.headD default)) none
  match e.op with
  | .atom _ _ _ _ => s1.modCtx r (fun c => c.setEntry e.id none)
  | _ => s1.keepUnits r e (e.op.units.filter (fun u => !us.any (fun v => v.pos == u.pos)))

/-- An entry leaves the heads of its queues. -/
def State.markIssued (s : State) (r : CtxRef) (id : Nat) : State :=
  s.modCtx r (fun c => { c with queue := c.queue.map (fun e => if e.id = id then { e with issued := true } else e) })

/-- An access at the head of its queues issues to its homes (R244): one with remote units once they may be sent. Segments of one store
that name one unit follow one another (R258). -/
def State.issueAccess (s : State) (r : CtxRef) (e : QEntry) : State :=
  let far := e.op.units.filter (fun u => remoteUnit r u && u.sent.isNone)
  let lost := far.filter (fun u => !canReach s r.node (targetTile r u.ptr).node)
  if !lost.isEmpty then (s.refuseUnits r e lost .window).settleOrderings r
  else
    let wave := far.filter (fun u => !s.segmentAhead r e u)
    let gs := groupUnits wave
    if !(wave.all (fun u => s.clear r e u) && s.creditsFor r gs) then s
    else
      let s1 := gs.foldl (fun s g => s.sendGroup r e.id g) s
      if wave.length = far.length then s1.markIssued r e.id else s1

/-- The head of a queue issues (R244, R247, R248, R334). -/
def State.issueHead (s : State) (r : CtxRef) (q : QueueSel) : State :=
  let c := s.ctx r
  match c.headOf q with
  | none => s
  | some e =>
    if !c.atHead e then s
    else match e.op with
      | .load _ | .store _ _ | .atom _ _ _ _ => s.issueAccess r e
      | .mark | .fence _ => (s.markIssued r e.id).settleOrderings r
      | .release names =>
        if s.allAhead r e = true ∧ s.creditsAt r.node (names.map lockHome) = true then
          ((names.foldl (fun s w => s.post r.node (.crookReleaseMsg (crookMsg r w .is c.tick 0))) s).leaveQueue r e.id).sendAsks r
        else s
      | _ => s

/-- `QUEUE_ISSUE` (R244). -/
def execQueueIssue (c : CtxRef) (q : QueueSel) (s : State) : Out := .next (s.issueHead c q)

/-! At the home -/

/-- The level at which the access of a request was issued, by the requester's table of requests in flight. -/
def State.requestLevel (s : State) (q : RemoteReq) : Nat :=
  match (s.node q.srcNode).requests.find? (fun x => x.1 == q.id) with
  | none => 0
  | some (_, r, id) => match (s.ctx r).queue.find? (fun e => e.id == id) with
    | some e => e.level
    | none => (((s.tile (tileOf r)).copies.find? (fun j => j.id == id)).map (fun j => j.desc.lvl)).getD 0

/-- The status with which a home refuses a request (Table 15.2b, R234, R236, R239): beyond the tile, misaligned, or outside the windows
that its node's record gives the drove. -/
def State.homeRefuses (s : State) (q : RemoteReq) (align : Nat) (wr : Bool) : Option (BitVec 8) :=
  if 0xC00000 < q.offset + q.size ∨ 128 < q.size then some 2
  else if q.offset % align ≠ 0 then some 3
  else if s.homeBars ⟨q.home, q.tile⟩ (s.tile ⟨q.srcNode, q.srcTile⟩).drove (s.requestLevel q) q.offset q.size wr then some 1
  else none

/-- A response sent (R402). -/
def State.respond (s : State) (q : RemoteReq) (status : BitVec 8) (pmask : Nat) (data : List Byte) : State :=
  s.post q.home (.remoteResponse ⟨q.srcNode, q.srcTile, status, BitVec.ofNat 16 pmask, data, q.id⟩)

/-- The poisoned units of a range, as a mask (R423). -/
def State.poisonMask (s : State) (r : TileRef) (off n : Nat) : Nat :=
  (List.range ((off + n + 7) / 8 - off / 8)).foldl (fun m u => if s.poisoned r (off / 8 * 8 + 8 * u) then m + 2 ^ u else m) 0

/-- A request served at its home, whose banks remember it for the cycle (Table 1.4), or refused. -/
def State.serve (s : State) (q : RemoteReq) (align : Nat) (wr : Bool) (f : State → State) : State :=
  match s.homeRefuses q align wr with
  | some st => s.respond q st 0 []
  | none => f (s.markBank ⟨q.home, q.tile⟩ q.offset (2 * (q.srcNode * 65536 + q.id) + 1) (q.size == 128) wr)

/-- `REMOTE_LOAD` (R402, R423). -/
def execRemoteLoad (q : RemoteReq) (s : State) : Out :=
  s.taking (.remoteLoad q) (fun s => s.serve q 1 false (fun s =>
    let r : TileRef := ⟨q.home, q.tile⟩
    let m := s.poisonMask r q.offset q.size
    s.respond q (if m = 0 then 0 else 4) m ((unitPieces q.offset (q.size + 1) 0 q.size).flatMap (fun p =>
      s.bankBytes r (q.offset + p.1) p.2))))

/-- `REMOTE_STORE` (R402, R423). -/
def execRemoteStore (q : RemoteReq) (s : State) : Out :=
  s.taking (.remoteStore q) (fun s => s.serve q 1 true (fun s =>
    let x := s.writeRange ⟨q.srcNode, 256⟩ ⟨q.home, q.tile⟩ q.offset (q.data.take q.size) (fun p =>
      q.pmask.getLsbD ((q.offset + p) / 8 - q.offset / 8))
    x.1.respond q (if x.2 = 0 then 0 else 4) x.2 []))

/-- An atomic or a reduction at its home. -/
def State.serveAtom (s : State) (q : RemoteReq) (op : AtomOp) (operand : Nat) (returns : Bool) : State :=
  s.serve q q.size true (fun s =>
    match s.bankAtom ⟨q.srcNode, 256⟩ ⟨q.home, q.tile⟩ q.offset q.size op operand (q.pmask.getLsbD 0) with
    | some (old, s1) => s1.respond q 0 0 (if returns then old else [])
    | none => s.respond q 4 1 [])

/-- The operand of a request, in its size. -/
def reqOperand (q : RemoteReq) (i : Nat) : Nat := wfld (payWord q.data i) 0 (8 * q.size)

/-- `REMOTE_ATOM` (R402). -/
def execRemoteAtom (q : RemoteReq) (s : State) : Out :=
  s.taking (.remoteAtom q) (fun s => s.serveAtom q (atomOp (q.sub.setWidth 8 <<< 5)) (reqOperand q 0) true)

/-- `REMOTE_ATOM_CAS` (R402). -/
def execRemoteAtomCas (q : RemoteReq) (s : State) : Out :=
  s.taking (.remoteAtomCas q) (fun s => s.serveAtom q (.cas (BitVec.ofNat 64 (reqOperand q 0))) (reqOperand q 1) true)

/-- `REMOTE_RED` (R402). -/
def execRemoteRed (q : RemoteReq) (s : State) : Out :=
  s.taking (.remoteRed q) (fun s => s.serveAtom q (atomOp (q.sub.setWidth 8 <<< 5)) (reqOperand q 0) false)

/-- `REMOTE_UNKNOWN_OPERATION` (Table 15.2a): nothing is performed, and STATUS 0x05 answers. -/
def execRemoteUnknownOperation (q : RemoteReq) (s : State) : Out :=
  s.taking (.remoteUnknownOperation q) (fun s => s.respond q 5 0 [])

/-! At the requester -/

/-- The cause of a status (R402). -/
def statusCause (st : BitVec 8) : Cause :=
  match st.toNat with
  | 2 => .bound
  | 3 => .align
  | 4 => .ue
  | _ => .window

/-- The lowest bit of a mask of poisoned units; bit 0 where none is set. -/
def lowBit (m : BitVec 16) : Nat := ((List.range 16).find? (fun i => m.getLsbD i)).getD 0

/-- A response to an entry of a context's queues (R406, R423). -/
def State.entryResponse (s : State) (r : CtxRef) (id : Nat) (q : RemoteResp) : State :=
  match (s.ctx r).queue.find? (fun e => e.id == id) with
  | none => s
  | some e =>
    let mine := e.op.units.filter (fun u => u.sent == some q.id)
    let rest := e.op.units.filter (fun u => u.sent != some q.id)
    let u := mine.headD default
    let s1 :=
      if q.status ≠ 0 then
        let at' := if q.status = 4 then unitPtr u.ptr + BitVec.ofNat 64 (8 * lowBit q.pmask) else s.accOf r e u
        let s2 := s.entryFault r e (statusCause q.status, at') none
        (match e.op with
        | .atom _ _ _ _ => s2.modCtx r (fun c => c.setEntry e.id none)
        | _ => s2.keepUnits r e rest)
      else match e.op with
        | .load _ => s.loadTook r e rest u.pos q.data
        | .atom true _ _ _ => s.loadTook r e [] 0 q.data
        | .atom false _ _ _ => s.modCtx r (fun c => c.setEntry e.id none)
        | _ => s.keepUnits r e rest
    s1.settleOrderings r

/-! Landings and late faults -/

/-- Whether every fold transfer of a context issued before a query has completed (R305). A query of a trap handler is served past those a
fault has stopped, which its return restarts (R310). -/
def Tile.foldsBefore (t : Tile) (slot seq : Nat) : Bool :=
  let c := t.ctx slot
  let own := c.ofHandler seq
  (own || !c.foldStop)
    && c.queue.all (fun e => decide (seq ≤ e.seq) || (match e.op with
      | .fold _ => own && !c.ofHandler e.seq && c.foldStop
      | _ => true))
    && t.fold.all (fun j => !(j.slot == slot && j.serial == c.serial) || (own && t.stopped j) || decide (seq ≤ j.seq))

/-- Whether a walker query meets a record in error (R293). -/
def State.queryBad (s : State) (r : CtxRef) (l : Landing) : Bool :=
  let o := s.foldOrigin r.node
  if s.poison.isEmpty then false
  else match l.kind with
    | .foldProbe => match (s.tile (tileOf r)).viewAt l.addr with
      | some v => (s.walk r.node v.seqId.toNat v.layer.toNat v.head.toNat (ptrPos l.addr / pppOf (s.region r.node))).ue
      | none => false
    | .foldView => l.opb != 2 && (s.rangePoisoned o (seqBucket (keySeq l.addr)) 128
        || s.rangePoisoned o (rootBucket (keySeq l.addr) (keyLayer l.addr)) 256)
    | _ => s.rangePoisoned o (seqBucket (keySeq l.addr)) 128

/-- A walker query served (R305, R315 to R317). -/
def State.serveQuery (s : State) (r : CtxRef) (l : Landing) : State :=
  if s.queryBad r l then
    s.detect r ⟨.ue, l.fpc, .m, l.addr, 0, l.seq, some l.id, false, none, false⟩
  else
    let x := match l.kind with
      | .foldView => s.serveView r l.addr l.opb
      | .foldSeq => s.serveSeq r l.addr l.opb
      | _ => s.serveProbe r l.addr l.opb
    x.2.modCtx r (fun c => c.modLanding l.id (fun y => y.deliver x.1))

/-- Whether a landing is a walker query. -/
def LandKind.isQuery : LandKind → Bool
  | .foldView | .foldSeq | .foldProbe => true
  | _ => false

/-- A landing's value reaches the landing buffer (R32), no earlier than its path allows (R38). -/
def State.arriveLanding (s : State) (r : CtxRef) (k : Nat) : State :=
  let t := s.tile (tileOf r)
  match (t.ctx r.slot).landings.find? (fun l => l.id == k && l.arrive.isNone && !l.faulted && !l.lost) with
  | none => s
  | some l =>
    if t.wall + 1 < l.issueWall + l.earliest then s
    else
      let s1 := if l.kind.isQuery && l.value.isNone && t.foldsBefore r.slot l.seq then s.serveQuery r l else s
      s1.modCtx r (fun c => c.modLanding k (fun l => if l.value.isSome ∧ ¬l.faulted then { l with arrive := some t.wall } else l))

/-- `LANDING_ARRIVAL` (R32, R38, R305): the landing numbered k. -/
def execLandingArrival (c : CtxRef) (k : Nat) (s : State) : Out := .next (s.arriveLanding c k)

/-- A late fault's response arrives (R182): it is pending, or joins the frame that is live (R186). -/
def State.arriveFault (s : State) (r : CtxRef) (k : Nat) : State :=
  let c := s.ctx r
  match c.late[k]? with
  | none => s
  | some f =>
    if f.arrived then s
    else if c.tf && c.entering.isNone && decide (f.seq / 256 < c.trapSeq) then
      (s.modCtx r (fun c => { c with late := c.late.eraseIdx k })).deferItem r (wfld c.xpc 0 12) { f with arrived := true }
    else s.modCtx r (fun c => { c with late := c.late.set k { f with arrived := true } })

/-- `LATE_FAULT` (R182, R186, R310): the k-th fault detected for a context and not yet taken. -/
def execLateFault (c : CtxRef) (k : Nat) (s : State) : Out := .next (s.arriveFault c k)

end Sys2Proof.Machine
end

