-- ==== Sys2Proof/Machine/CopyRun.lean ====
section
/-! DEFINITION. The copy engine at work (spec/08 R251, spec/09 R278, R279, R281, spec/15 R402, spec/17 R423): dispatch, the rows of a
copy piece by piece, and the responses to requests between nodes. -/

namespace Sys2Proof.Machine

/-- The dispatched copies of a task. -/
def Tile.copiesFor (t : Tile) (slot serial : Nat) : List CopyJob := t.copies.filter (fun j => j.slot == slot && j.serial == serial)

/-- Whether a copy stands between rows with nothing on its way and nothing still to write. -/
def CopyJob.rests (j : CopyJob) : Bool := j.stage == 0 && !j.waits && j.held.isEmpty

/-- Whether a halted task's oldest copy goes on: its record holds 16 copies, and another still waits at the head of its queue. -/
def Tile.mustMove (t : Tile) (j : CopyJob) : Bool :=
  decide (16 ≤ (t.copiesFor j.slot j.serial).length) && ((t.copiesFor j.slot j.serial).head?.map (fun i => i.id)) == some j.id
    && (t.ctx j.slot).queue.any (fun e => match e.op with
      | .copy _ => true
      | _ => false)

/-- Whether a copy has stopped for a save (R384). -/
def Tile.copyHalts (t : Tile) (j : CopyJob) : Bool := t.halts j.slot j.serial && !t.mustMove j

/-- `CPY_DISPATCH` (R251, R279, R383): a copy at the head of the store queue, once every write ahead of it has been performed and the
engine moves fewer than 16 copies; those a save has stopped are with their records. -/
def execCpyDispatch (c : CtxRef) (s : State) : Out :=
  let t := s.tile (tileOf c)
  let x := t.ctx c.slot
  .next (match x.headOf .store with
    | some e => match e.op with
      | .copy d =>
        if x.writesAhead e.id ∧ (t.copies.filter (fun j => !(t.copyHalts j && j.rests))).length < 16
            ∧ (t.copiesFor c.slot x.serial).length < 16 then
          (s.modTile (tileOf c) (fun t => { t with
            copies := t.copies ++ [⟨e.id, c.slot, x.serial, e.fpc, e.seq, d, [], [], 0, 0, false, [], false,
              x.badQueue.contains e.id⟩] })).leaveQueue c e.id
        else s
      | _ => s
    | none => s)

/-- A copy of a tile changed, or gone. -/
def State.setCopy (s : State) (r : TileRef) (id : Nat) (f : CopyJob → Option CopyJob) : State :=
  s.modTile r (fun t => { t with copies := t.copies.filterMap (fun j => if j.id = id then f j else some j) })

/-- A late fault of a copy's row against its bundle (R278); a task that has ended takes none. -/
def State.copyFaults (s : State) (r : TileRef) (j : CopyJob) (f : Cause × Word) : State :=
  let c := (s.tile r).ctx j.slot
  if c.serial = j.serial ∧ c.live = true ∧ c.st ≠ .ending then
    s.detect ⟨r.node, r.tile, j.slot⟩ ⟨f.1, j.fpc, .e, f.2, 0, j.seq, none, false, none, false⟩
  else s

/-- A copy stops at a row with a fault (R278): of what it has read it writes the rows before it, and it ends. -/
def State.stopCopy (s : State) (r : TileRef) (j : CopyJob) (f : Cause × Word) : State :=
  (if j.stopped then s else s.copyFaults r j f).setCopy r j.id (fun j =>
    if j.held.isEmpty then none else some { j with fetched := [], bad := [], waits := false, stopped := true })

/-! Rows -/

/-- The copy's source bytes of the current row that come next: pointer and length, inside one aligned block of 128. -/
def CopyJob.srcPiece (j : CopyJob) : Word × Nat :=
  let p := ptrPlus (j.desc.srcPtr j.desc.rowsDone j.index) j.fetched.length
  (p, min (j.desc.rowb - j.fetched.length) (128 - ptrOff p % 128))

/-- A row begins (R278): a gather reads its index and checks its source. -/
def State.beginRow (s : State) (r : TileRef) (j : CopyJob) : State :=
  let me : CtxRef := ⟨r.node, r.tile, j.slot⟩
  if j.desc.mode ≠ 2 then s.setCopy r j.id (fun j => some { j with stage := 1 })
  else
    let o := j.desc.idx + 4 * j.desc.rowsDone
    let i := bytesToNat (s.readBytes .sram r o 4)
    if s.poisoned r o || s.poisoned r (o + 3) then s.stopCopy r j (.ue, unitPtr (j.desc.idxPtr j.desc.rowsDone))
    else match copySrcFault s me j.desc j.desc.rowsDone i with
      | some f => s.stopCopy r j f
      | none => s.setCopy r j.id (fun j => some { j with stage := 1, index := i })

/-- The destination of byte `i` of the current row (R278). -/
def CopyJob.dstByte (j : CopyJob) (i : Nat) : Nat :=
  let d := j.desc
  (ptrPlus d.dst (if d.mode = 1 then d.dstr * ((i / d.es : Nat) : Int) + ((d.rowsDone * d.es + i % d.es : Nat) : Int)
    else d.dstr * (d.rowsDone : Int) + (i : Int))).toNat

/-- A row that has come whole stands with the bytes that wait to be written; a later row's byte takes the place of an earlier one's. -/
def CopyJob.fill (j : CopyJob) : CopyJob :=
  let row := j.fetched.map (fun b => (j.dstByte b.1, b.2, j.spoilt || j.bad.contains b.1))
  { j with held := j.held.filter (fun b => !row.any (fun x => x.1 == b.1)) ++ row, fetched := [], bad := [], stage := 2 }

/-- Source bytes that have come. -/
def CopyJob.took (j : CopyJob) (bs : List Byte) (bad : List Nat) : CopyJob :=
  let n := j.fetched.length
  let got := j.fetched ++ bs.zipIdx.map (fun b => (n + b.2, b.1))
  let k := { j with fetched := got, bad := j.bad ++ bad.map (fun i => n + i), waits := false, stage := 1 }
  if j.desc.rowb ≤ got.length then k.fill else k

/-- Whether a row still to come writes bytes of the unit at a pointer (R251). -/
def CopyJob.awaits (j : CopyJob) (u : Nat) : Bool :=
  (List.range (j.desc.rows - (j.desc.rowsDone + 1))).any (fun k => (j.desc.dstAccs (j.desc.rowsDone + 1 + k)).any (fun a =>
    decide (a.1.toNat < u + 8) && decide (u < a.1.toNat + a.2.1)))

/-- The bytes written next, in ascending order of their pointers inside one aligned block of 128, with whatever gaps the copy leaves: all it
writes of their units, of which no later row writes a part (R251); with `all`, whatever waits. -/
def CopyJob.piece (j : CopyJob) (all : Bool) : List (Nat × Byte × Bool) :=
  let ready := if all then j.held else j.held.filter (fun b => !j.awaits (b.1 / 8 * 8))
  match ready with
  | [] => []
  | b :: bs =>
    let p := bs.foldl (fun m x => min m x.1) b.1
    (List.range (128 - p % 128)).filterMap (fun i => ready.find? (fun x => x.1 == p + i))

/-- The runs of neighbouring bytes inside one unit that such bytes form: each its pointer, its bytes and whether one is poisoned. -/
def unitRuns : List (Nat × Byte × Bool) → List (Nat × List Byte × Bool)
  | [] => []
  | b :: bs => match unitRuns bs with
    | r :: rs => if r.1 = b.1 + 1 ∧ r.1 / 8 = b.1 / 8 then (b.1, b.2.1 :: r.2.1, b.2.2 || r.2.2) :: rs else (b.1, [b.2.1], b.2.2) :: r :: rs
    | [] => [(b.1, [b.2.1], b.2.2)]

/-- The bytes up to the first gap. -/
def firstRun : List (Nat × Byte × Bool) → List (Nat × Byte × Bool)
  | b :: c :: bs => if c.1 = b.1 + 1 then b :: firstRun (c :: bs) else [b]
  | bs => bs

/-- A request of a copy sent to another node, where its bundle grants one (R406). -/
def State.askCopy (s : State) (r : TileRef) (j : CopyJob) (p : Word) (e : RemoteReq → Event) (n : Nat) (data : List Byte)
    (pmask : Nat) (f : CopyJob → CopyJob) : State :=
  let me : CtxRef := ⟨r.node, r.tile, j.slot⟩
  let g := targetTile me p
  match routeBundle s r.node g.node with
  | none => (s.setCopy r j.id (fun j => some (f j))).stopCopy r (f j) (.window, p)
  | some b =>
    let l := (s.node r.node).link b
    if l.reqCredits ≤ l.queuedRequests then s
    else
      let id := (s.node r.node).freeReq
      ((s.modNode r.node (fun x => { x with requests := spPut x.requests id (me, j.id) })).setCopy r j.id (fun j =>
        some { f j with waits := true })).post r.node
        (e ⟨g.node, g.tile, ptrOff p, n, r.node, r.tile, 0, BitVec.ofNat 16 pmask, data, id⟩)

/-- The next source bytes of a row fetched (R241, R423), or refused by their home (R239). -/
def State.fetchPiece (s : State) (r : TileRef) (j : CopyJob) : State :=
  let me : CtxRef := ⟨r.node, r.tile, j.slot⟩
  let p := j.srcPiece
  let g := targetTile me p.1
  if g.node ≠ r.node then s.askCopy r j p.1 .remoteLoad p.2 [] 0 id
  else if s.unitBarred me j.desc.lvl p.1 p.2 false then s.stopCopy r j (.window, p.1)
  else
    let off := ptrOff p.1
    let ps := unitPieces off (p.2 + 1) 0 p.2
    let bs := ps.flatMap (fun q => s.bankBytes g (off + q.1) q.2)
    let bad := ps.flatMap (fun q => if s.poisoned g (off + q.1) then (List.range q.2).map (fun i => q.1 + i) else [])
    (s.markBank g off (2 * j.id) (p.2 == 128) false).setCopy r j.id (fun j => some (j.took bs bad))

/-- Destination bytes are done: those performed count on the copy's barrier (R279, R281). -/
def State.wrotePiece (s : State) (r : TileRef) (j : CopyJob) (counted : Nat) : State :=
  (if j.desc.cnt then s.modTile r (fun t => t.countOn j.desc.bar counted) else s).setCopy r j.id (fun j =>
    some { j with fetched := [], waits := false })

/-- A copy without the bytes now written. -/
def CopyJob.drop (j : CopyJob) (bs : List (Nat × Byte × Bool)) : CopyJob :=
  { j with held := j.held.filter (fun b => !bs.any (fun x => x.1 == b.1)) }

/-- The bytes of a piece written to a tile of the copy's own node, each unit at one instant: the state, the bytes performed, and the first
unit discarded. Where a unit is written in several runs and takes poison, the last of them brings it. -/
def State.writeRuns (s : State) (r g : TileRef) (rs : List (Nat × List Byte × Bool)) : State × Nat × Option Nat :=
  rs.zipIdx.foldl (fun acc q =>
    let unit := rs.filter (fun x => x.1 / 8 == q.1.1 / 8)
    let last := !(rs.drop (q.2 + 1)).any (fun x => x.1 / 8 == q.1.1 / 8)
    match acc.1.bankWrite r g (q.1.1 % 2 ^ 24) q.1.2.1 (last && unit.any (fun x => x.2.2)) with
    | some s1 => (s1, acc.2.1 + q.1.2.1.length, acc.2.2)
    | none => (acc.1, acc.2.1, acc.2.2.or (some q.1.1))) (s, 0, none)

/-- Destination bytes written (R241, R251, R423), or refused by their home (R239). A request to another node carries one run of bytes
(Table 15.2a; log entry 131). -/
def State.writePiece (s : State) (r : TileRef) (j : CopyJob) (bs : List (Nat × Byte × Bool)) : State :=
  let me : CtxRef := ⟨r.node, r.tile, j.slot⟩
  let p : Word := BitVec.ofNat 64 (bs.headD default).1
  let g := targetTile me p
  let off := ptrOff p
  if g.node ≠ r.node then
    let run := firstRun bs
    s.askCopy r j p .remoteStore run.length (run.map (fun b => b.2.1))
      ((unitRuns run).foldl (fun m q => if q.2.2 then m ||| 2 ^ (q.1 % 2 ^ 24 / 8 - off / 8) else m) 0)
      (fun j => { j.drop run with fetched := run.map (fun b => (b.1, b.2.1)) })
  else
    let rs := unitRuns bs
    match rs.find? (fun q => s.unitBarred me j.desc.lvl (BitVec.ofNat 64 q.1) q.2.1.length true) with
    | some q => (s.setCopy r j.id (fun j => some (j.drop bs))).stopCopy r (j.drop bs) (.window, BitVec.ofNat 64 q.1)
    | none =>
      let x := (s.markBank g off (2 * j.id) (bs.length == 128) true).writeRuns r g rs
      ((match x.2.2 with
        | some k => x.1.copyFaults r j (.ue, unitPtr (BitVec.ofNat 64 k))
        | none => x.1).setCopy r j.id (fun j => some (j.drop bs))).wrotePiece r j x.2.1

/-- A row is done: the copy stands before the next, or is complete. -/
def State.endRow (s : State) (r : TileRef) (j : CopyJob) : State :=
  s.setCopy r j.id (fun j =>
    if j.desc.rows ≤ j.desc.rowsDone + 1 then none
    else some { j with index := 0, stage := 0, desc := { j.desc with rowsDone := j.desc.rowsDone + 1 } })

/-- `COPY_ROW` (R251, R278, R279, R384): the copy numbered k begins a row, fetches part of it, or writes part of what it has fetched; one
that a save or a fault stops writes what waits. -/
def execCopyRow (t : TileRef) (k : Nat) (s : State) : Out :=
  .next (match (s.tile t).copies.find? (fun j => j.id == k) with
    | none => s
    | some j =>
      if j.waits then s
      else if j.stopped ∨ (j.stage = 0 ∧ (s.tile t).copyHalts j = true) then
        (match j.piece true with
        | [] => if j.stopped then s.setCopy t j.id (fun _ => none) else s
        | bs => s.writePiece t j bs)
      else match j.stage with
        | 0 => s.beginRow t j
        | 1 => s.fetchPiece t j
        | _ => match j.piece false with
          | [] => s.endRow t j
          | bs => s.writePiece t j bs)

/-- A response to a request of a copy (R402, R423): of a store whose home discarded parts of poisoned units, the rest counts. -/
def State.copyResponse (s : State) (r : TileRef) (j : CopyJob) (q : RemoteResp) : State :=
  if j.stage = 1 && !j.stopped then
    (if q.status = 0 ∨ q.status = 4 then
      let o := ptrOff j.srcPiece.1
      let bad := (List.range q.data.length).filter (fun i => q.pmask.getLsbD ((o + i) / 8 - o / 8))
      s.setCopy r j.id (fun j => some (j.took q.data bad))
    else s.stopCopy r j (statusCause q.status, j.srcPiece.1))
  else
    let p : Word := BitVec.ofNat 64 (j.fetched.headD default).1
    let o := ptrOff p
    let n := j.fetched.length
    if q.status = 0 then s.wrotePiece r j n
    else if q.status = 4 then
      (s.copyFaults r j (.ue, unitPtr p + BitVec.ofNat 64 (8 * lowBit q.pmask))).wrotePiece r j
        ((List.range n).filter (fun i => !q.pmask.getLsbD ((o + i) / 8 - o / 8))).length
    else (s.setCopy r j.id (fun j => some { j with waits := false })).stopCopy r j (statusCause q.status, p)

/-- `REMOTE_RESPONSE` (R402, R406): to a context's access or to a copy; one that answers nothing any more is dropped. -/
def execRemoteResponse (q : RemoteResp) (s : State) : Out :=
  s.taking (.remoteResponse q) (fun s =>
    match (s.node q.node).requests.find? (fun e => e.1 == q.id) with
    | none => s
    | some (_, r, id) =>
      let s1 := s.modNode q.node (fun n => { n with requests := spDel n.requests q.id })
      match (s1.tile (tileOf r)).copies.find? (fun j => j.id == id) with
      | some j => s1.copyResponse (tileOf r) j q
      | none => s1.entryResponse r id q)

end Sys2Proof.Machine
end

