-- ==== Sys2Proof/Machine/FoldRun.lean ====
section
/-! DEFINITION. The fold unit and the walker at work (spec/10 R297 to R314, R319, spec/15 R402): dispatch, rows, record operations,
hints, moves between nodes, and completions. -/

namespace Sys2Proof.Machine

/-! Dispatch -/

/-- The transfers of a tile with one more: a restart goes ahead of its context's waiting ones (R309). -/
def insertJob (j : FoldJob) : List FoldJob → List FoldJob
  | [] => [j]
  | i :: is => if j.fpc.isNone && i.mate j && i.fpc.isSome then j :: i :: is else i :: insertJob j is

/-- Whether a transfer of a halted context goes on (R385): a record operation or a hint, and a row transfer with one of those behind it in
its context, which begins after it has completed (R253, R305), or with a release behind it (R250, R383). -/
def Tile.goesOn (t : Tile) (j : FoldJob) : Bool :=
  decide (2 ≤ j.req.fn) || (t.fold.dropWhile (fun i => i.id != j.id)).any (fun i => i.mate j && decide (2 ≤ i.req.fn))
    || (t.ctx j.slot).queue.any (fun e => match e.op with
      | .fold q => decide (2 ≤ q.fn)
      | .sclose _ _ => true
      | .barr _ _ => true
      | .release _ => true
      | _ => false)

/-- Whether a transfer has one of the unit's eight places (R305): one stopped behind a fault leaves its place (R309), and so does one that
a halt stops (R385). -/
def Tile.inUnit (t : Tile) (j : FoldJob) : Bool := !t.stopped j && (!t.halts j.slot j.serial || t.goesOn j)

/-- `FOLD_DISPATCH` (R305, R307): the transfer at the head of the store queue, once every write ahead of it has been performed. -/
def execFoldDispatch (c : CtxRef) (s : State) : Out :=
  let t := s.tile (tileOf c)
  let x := t.ctx c.slot
  .next (match x.headOf .store with
    | some e => match e.op with
      | .fold q =>
        if x.writesAhead e.id ∧ (t.fold.filter t.inUnit).length < 8 then
          let j : FoldJob := ⟨e.id, x.ofHandler e.seq, c.slot, x.serial, e.fpc, e.seq, { q with shape := if q.fn < 2 then some (x.shape q.treg) else none }, false,
            x.badQueue.contains e.id, []⟩
          (s.modTile (tileOf c) (fun t => { t with fold := insertJob j t.fold })).leaveQueue c e.id
        else s
      | _ => s
    | none => s)

/-- The transfers ahead of one that have a place. -/
def Tile.foldAhead (t : Tile) (j : FoldJob) : List FoldJob := (t.fold.filter t.inUnit).takeWhile (fun i => i.id != j.id)

/-- Whether an `FFORK` of a trap handler waits for an `FAPP` of its context on the source, which a fault has stopped (R253). -/
def Tile.forkHeld (t : Tile) (j : FoldJob) : Bool :=
  let on := fun (q : FoldReq) => q.fn == 1 && t.viewsSeq q.opa (keySeq j.req.opa)
  j.req.fn == 2 && ((t.ctx j.slot).foldHeld.any on || (t.fold.takeWhile (fun i => i.id != j.id)).any (fun i => i.mate j && !i.finished && on i.req)
    || (t.ctx j.slot).queue.any (fun e => e.fpc.isNone && (match e.op with
      | .fold q => on q
      | _ => false)))

/-- Whether a transfer may be performed now: it has one of the unit's eight places, and those of its task before it that have not
stopped have completed, `FLDK`s overlapping (R305, R309, R310, R385). -/
def Tile.mayRun (t : Tile) (j : FoldJob) : Bool :=
  t.inUnit j && !j.finished && !t.forkHeld j && decide ((t.foldAhead j).length < 8)
    && ((t.foldAhead j).filter (fun i => i.mate j)).all (fun i => i.req.fn == 0 && j.req.fn == 0)

/-- Whether the accesses issued ahead of a transfer have been performed: its completion is a release at scope p (R306). -/
def State.behindAll (s : State) (r : TileRef) (j : FoldJob) : Bool :=
  ((s.tile r).ctx j.slot).serial != j.serial || s.aheadDone ⟨r.node, r.tile, j.slot⟩ j.id .p

/-- A transfer of a tile changed, or gone. -/
def State.setJob (s : State) (r : TileRef) (id : Nat) (f : FoldJob → Option FoldJob) : State :=
  s.modTile r (fun t => { t with fold := t.fold.filterMap (fun j => if j.id = id then f j else some j) })

/-- A transfer counts on its barrier (R306). -/
def State.countJob (s : State) (r : TileRef) (j : FoldJob) (n : Nat) : State :=
  if ctlCnt j.req.opb then s.modTile r (fun t => t.countOn (ctlBar j.req.opb) n) else s

/-! Faults -/

/-- `XPROG` of a fold fault (Table 10.6). -/
def foldProg (fn state rows : Nat) : Word := BitVec.ofNat 64 (2 ^ 63 + fn % 8 * 2 ^ 60 + state % 8 * 2 ^ 57 + rows % 256)

/-- A transfer stops with a fault (R309): it leaves the fold unit with its record, and its task's others wait. An `FAPP` keeps its PEND
until it is restarted or given up (R302). One of a task that has ended leaves nothing. -/
def State.stopJob (s : State) (r : TileRef) (j : FoldJob) (c : Cause) (at' : Word) (state rows : Nat) : State :=
  let s1 := (s.setJob r j.id (fun _ => none)).modTile r Tile.settlePend
  let x := (s.tile r).ctx j.slot
  if x.serial = j.serial ∧ x.live = true ∧ x.st ≠ .ending then
    let prog := foldProg j.req.fn state rows
    let rec5 : Record := ⟨5, 0, 0, false, 0, 0, j.req.word, prog, none, default, j.seq⟩
    ((s1.modCtx ⟨r.node, r.tile, j.slot⟩ (fun c => { c with
      foldStop := true
      foldHeld := if j.req.fn = 1 then c.foldHeld ++ [j.req] else c.foldHeld })).modTile r Tile.settlePend).detect ⟨r.node, r.tile, j.slot⟩
      ⟨c, j.fpc, .m, at', prog, j.seq, none, false, some rec5, false⟩
  else s1

/-! Rows -/

/-- The bytes of a transfer's row in its tile register: rows are packed (R54). -/
def FoldJob.rowBytes (j : FoldJob) : Nat := shapeBytes (j.req.shape.getD 0)
def FoldJob.rows (j : FoldJob) : Nat := shapeRows (j.req.shape.getD 0)
def Tile.rowOff (t : Tile) (j : FoldJob) : Nat := t.tregOff j.slot j.req.treg (j.req.rowsDone * j.rowBytes)

/-- A row done: counted, and the transfer finished after its last. -/
def State.rowDone (s : State) (r : TileRef) (j : FoldJob) (done : Nat) : State :=
  (s.countJob r j ((done - j.req.rowsDone) * j.rowBytes)).setJob r j.id (fun i =>
    some { i with req := { i.req with rowsDone := done }, finished := decide (i.rows ≤ done) })

/-- A row of an `FLDK` (R307, R309). -/
def State.loadRow (s : State) (r : TileRef) (j : FoldJob) (v : View) : State :=
  let pos := ptrPos j.req.opa + j.req.rowsDone
  let n := j.rowBytes
  let fail := fun (c : Cause) (st : Nat) => s.stopJob r j c (setPos j.req.opa pos) st j.req.rowsDone
  match s.findRead r v j.req.opa pos j.id false with
  | .error (c, st) => fail c st
  | .ok (none, st, _) => fail .foldMiss st
  | .ok (some p, st, s1) =>
    if s1.poisonIn .sram p.1 p.2 n then fail .ue st
    else
      let off := (s.tile r).rowOff j
      let s2 := (s1.writeBytes .treg r off (s1.readBytes .sram p.1 p.2 n)).healWhole .treg r off n
      (if j.spoilt then s2.spoilRange .treg r off n else s2).rowDone r j (j.req.rowsDone + 1)

/-- The lengths a performed `FAPP` row leaves, and the readable limits that follow (R302, R307). -/
def State.growTo (s : State) (n : Nat) (v : View) (upto : Nat) : State :=
  match s.rootOf n v, s.findSeq n v.seqId.toNat with
  | some o, some q =>
    let w := s.foldRec n o
    let fill := max (recLen w) upto
    let w' := s.foldRec n q
    (((s.setFoldRec n o (setFld w 0 25 fill)).setFoldRec n q (setFld w' 0 25 (max (recLen w') fill)))).updateViews n v.seqId.toNat
  | _, _ => s

/-- A row of an `FAPP` (R307 to R309): discarded with the rest past the readable end, else written. -/
def State.appendRow (s : State) (r : TileRef) (j : FoldJob) (v : View) : State :=
  let pos := ptrPos j.req.opa + j.req.rowsDone
  let n := j.rowBytes
  let fail := fun (c : Cause) (st : Nat) => s.stopJob r j c (setPos j.req.opa pos) st j.req.rowsDone
  let frozen := match s.findSeq r.node v.seqId.toNat with
    | some o => recRo (s.foldRec r.node o)
    | none => false
  if !frozen && decide (s.efw r.node (s.rootOf r.node v) < pos) then
    if !s.behindAll r j then s
    else (s.modTile r (fun t =>
      let i := ptrHandle j.req.opa % 32
      let x := { (t.views[i]?).getD default with cut := true }
      { t with views := t.views.setIfInBounds i x })).rowDone r j j.rows
  else match s.findWrite r v j.req.opa pos true with
    | .error (c, st) => fail c st
    | .ok (p, st, s1) =>
      let x := s1.writeRange r p.1 p.2 (s1.readBytes .treg r ((s.tile r).rowOff j) n) (fun _ => j.spoilt)
      if x.2 ≠ 0 ∨ s1.poisonIn .treg r ((s.tile r).rowOff j) n = true then fail .ue st
      else (x.1.growTo r.node v (pos + 1)).rowDone r j (j.req.rowsDone + 1)

/-- `FOLD_ROW` (R307, R385): one row of the transfer numbered k. -/
def execFoldRow (t : TileRef) (k : Nat) (s : State) : Out :=
  .next (match (s.tile t).fold.find? (fun j => j.id == k) with
    | none => s
    | some j =>
      if 2 ≤ j.req.fn ∨ (s.tile t).mayRun j = false ∨ (j.rows ≤ j.req.rowsDone + 1 ∧ s.behindAll t j = false) then s
      else match (s.tile t).viewOf j.req.opa with
        | none => s.stopJob t j .foldMiss j.req.opa stInvalid j.req.rowsDone
        | some v => if j.req.fn = 0 then s.loadRow t j v else s.appendRow t j v)

/-- `FOLD_WALK` (R299, R300): the walker resolves page k of a view into the tile's TLB. -/
def execFoldWalk (t : TileRef) (v : BitVec 5) (k : Nat) (s : State) : Out :=
  let x := ((s.tile t).views[v.toNat]?).getD default
  .next (if !x.opened then s
    else match (s.walk t.node x.seqId.toNat x.layer.toNat x.head.toNat k).pd with
      | none => s
      | some d =>
        let st := s.pdState t.node d
        if st = stResident ∨ st = stShared then s.modTile t (fun t => t.enterTlb v.toNat k d) else s)

/-- `FOLD_TRANSFER_COMPLETE` (R302, R305): a finished transfer leaves the fold unit. -/
def execFoldTransferComplete (t : TileRef) (k : Nat) (s : State) : Out :=
  .next (match (s.tile t).fold.find? (fun j => j.id == k && j.finished) with
    | none => s
    | some j =>
      let s1 := (s.setJob t k (fun _ => none)).releaseRetained t.node
      if j.req.fn = 1 then s1.modTile t Tile.settlePend else s1)

/-! Moves between nodes -/

/-- A move of a node found by its descriptor and phase: 0 fetch out for another node, 1 offer out, 2 data sent, 3 receiving an offer,
4 refused, 5 a fetch served, 6 fetched data written, 7 offered data written; of a hint that has not been answered for all its pages, 8 an offer
accepted, 9 a fetch out, 10 fetched data held; 11 a fetch for another node refused. -/
def Node.mover (n : Node) (p : Nat × Nat × Nat → Bool) : Option (Nat × Nat × Nat) := n.movers.find? p
def State.setMover (s : State) (n : Nat) (old : Nat × Nat × Nat) (new : Option (Nat × Nat × Nat)) : State :=
  s.modNode n (fun x => { x with movers := x.movers.erase old ++ new.toList })

/-- The state of a page that a move leaves in a frame of this node, and its freeing where it has lost its last reference (R298). -/
def State.settleMoved (s : State) (n d : Nat) : State :=
  let s1 := s.setPd n d (setFld (setFld (s.pd0 n d) 61 3 stResident) 44 1 0) 0
  if s.pdRelp n d then s1.freePage n d else s1.settlePd n d

/-- A frame and a descriptor for a page that comes (R402): the descriptor, moving and not yet counted. -/
def State.roomForPage (s : State) (n ref from' rpd : Nat) : Option (Nat × State) :=
  (s.takeFrame n).bind (fun a => (a.2.takeDesc n).map (fun b =>
    let p := frameOf (s.region n) a.1
    (b.1, b.2.setPd n b.1 (mkPd0 stMoving ref p.1 p.2) (mkPd1 from' rpd 0))))

/-- A remote page is fetched (R314, R402): none where there is no room for it, or no way to its holder (R404). `phase` is 9 for a hint's. -/
def State.fetchPage (s : State) (n d phase : Nat) : Option State :=
  if !canReach s n (s.pdNode n d) then none
  else (s.roomForPage n 0 (s.pdNode n d) (s.pdRpd n d)).map (fun a =>
    ((a.2.setPdState n d stMoving).setMover n (d, 0, 4) (some (d, a.1, phase))).post n
      (.foldFetchMsg ⟨s.pdNode n d, n, s.pdRpd n d, a.1, []⟩))

/-- A page is offered to another node, which its descriptor names (R296, R314, R402). -/
def State.offerPage (s : State) (n d dst : Nat) : State :=
  (((s.flushPage n d).setPd n d (setFld (s.pd0 n d) 61 3 stMoving) (mkPd1 dst 0 0)).setMover n (d, 0, 4) (some (d, dst, 1))).post n (.foldOfferMsg ⟨dst, n, 0, d, []⟩)

/-- A message of the net is taken if its receiver is ready for it. -/
def State.takingIf (s : State) (e : Event) (f : State → Option State) : Out :=
  .next (if s.net.contains e then (f { s with net := s.net.erase e }).getD s else s)

/-- `FOLD_RELEASE_MSG` (R298): the receiver drops one reference. -/
def execFoldReleaseMsg (m : FoldMsg) (s : State) : Out := s.taking (.foldReleaseMsg m) (fun s => s.pdDec m.dest m.rpd)

/-- A fetch at the holder (R402): the page's data, or a refusal. A page that is not here is brought here first; where that is refused, so is
the fetch. -/
def State.serveFetch (s : State) (m : FoldMsg) : Option State :=
  let n := m.dest
  let st := s.pdState n m.rpd
  let refuse := fun (s : State) => s.post n (.foldRefuseMsg ⟨m.src, n, m.lpd, m.rpd, []⟩)
  let send := fun (s : State) => (s.modNode n (fun x => { x with movers := x.movers ++ [(m.rpd, m.src, 5)] })).post n
    (.foldPageDataMsg ⟨m.src, n, m.lpd, m.rpd, s.readBytes .sram ⟨n, s.pdTile n m.rpd⟩ (s.pdOff n m.rpd) 32768⟩)
  if st = stResident ∨ st = stShared then some (send s)
  else if st = stCompressed then (match s.promotePage n m.rpd with
    | .ok s1 => some (send s1)
    | .error _ => some (refuse s))
  else if st = stRemote then
    if (s.node n).movers.contains (m.rpd, 0, 11) then some (refuse (s.setMover n (m.rpd, 0, 11) none))
    else (match s.fetchPage n m.rpd 0 with
    | some s1 => some (s1.send (.foldFetchMsg m))
    | none => some (refuse s))
  else if st = stMoving then none
  else some (refuse s)

/-- `FOLD_FETCH_MSG` (R402). -/
def execFoldFetchMsg (m : FoldMsg) (s : State) : Out := s.takingIf (.foldFetchMsg m) (fun s => s.serveFetch m)

/-- `FOLD_OFFER_MSG` (R402): accepted where there is a descriptor and a frame. -/
def execFoldOfferMsg (m : FoldMsg) (s : State) : Out :=
  s.taking (.foldOfferMsg m) (fun s =>
    let n := m.dest
    let room := if (s.node n).fold.isNone then none else s.roomForPage n 1 m.src m.lpd
    match room with
    | none => s.post n (.foldRefuseMsg ⟨m.src, n, m.lpd, 0, []⟩)
    | some (e, s1) => (s1.modNode n (fun x => { x with movers := x.movers ++ [(e, m.src, 3)] })).post n
        (.foldAcceptMsg ⟨m.src, n, m.lpd, e, []⟩))

/-- `FOLD_ACCEPT_MSG` (R402): the page's data follows once every page of the hint has been accepted (R309). -/
def execFoldAcceptMsg (m : FoldMsg) (s : State) : Out :=
  s.taking (.foldAcceptMsg m) (fun s =>
    let n := m.dest
    match (s.node n).mover (fun x => x.1 == m.rpd && x.2.2 == 1) with
    | none => s
    | some x =>
      (s.setMover n x (some (x.1, m.lpd, 8))).setFoldRec n (pdPlace m.rpd + 8) (mkPd1 m.src m.lpd 0))

/-- The frame and the descriptor given for a page that comes are free again. -/
def State.giveRoom (s : State) (n e : Nat) : State :=
  (s.giveFrame n (frameAt (s.region n) (s.pdTile n e) (s.pdOff n e))).giveDesc n e

/-- A page whose fetch has come to nothing is remote as before (R402), and freed where it has lost its last reference (R298). -/
def State.unfetched (s : State) (n d e : Nat) : State :=
  let s1 := (s.giveRoom n e).setPdState n d stRemote
  if s.pdRelp n d then s1.freePage n d else s1

/-- `FOLD_REFUSE_MSG` (R402): the page keeps its state, and what asked for it learns of it; or the other node gives up what it had asked or
offered, since its hint performs nothing (R309; log entry 121). -/
def execFoldRefuseMsg (m : FoldMsg) (s : State) : Out :=
  s.taking (.foldRefuseMsg m) (fun s =>
    let n := m.dest
    match (s.node n).mover (fun x => (x.1 == m.rpd && (x.2.2 == 1 || x.2.2 == 3 || (x.2.2 == 5 && x.2.1 == m.src)))
        || (x.2.1 == m.rpd && (x.2.2 == 0 || x.2.2 == 9))) with
    | none => s
    | some x =>
      let next := fun (m : Option (Nat × Nat × Nat)) => s.setMover n x m
      match x.2.2 with
      | 1 => (next (some (x.1, 0, 4))).settleMoved n x.1
      | 3 => (next none).giveRoom n x.1
      | 5 => next none
      | 0 => (next (some (x.1, 0, 11))).unfetched n x.1 x.2.1
      | _ => (next (some (x.1, 0, 4))).unfetched n x.1 x.2.1)

/-- `FOLD_PAGE_DATA_MSG` (R402): the page is written into its frame. -/
def execFoldPageDataMsg (m : FoldMsg) (s : State) : Out :=
  s.taking (.foldPageDataMsg m) (fun s =>
    let n := m.dest
    match (s.node n).mover (fun x => (x.1 == m.rpd && x.2.2 == 3) || (x.2.1 == m.rpd && (x.2.2 == 0 || x.2.2 == 9))) with
    | none => s
    | some x =>
      ((s.writeBytes .sram ⟨n, s.pdTile n m.rpd⟩ (s.pdOff n m.rpd) (m.data.take 32768)).healWhole
        .sram ⟨n, s.pdTile n m.rpd⟩ (s.pdOff n m.rpd) 32768).setMover n x
        (some (x.1, x.2.1, if x.2.2 = 3 then 7 else if x.2.2 = 9 then 10 else 6)))

/-- A page has come whole (R297, R402): its descriptor takes the frame, and the sender is told. -/
def State.moveDone (s : State) (n k : Nat) : State :=
  match (s.node n).mover (fun x => x.1 == k && (x.2.2 == 6 || x.2.2 == 7)) with
  | none => s
  | some x =>
    let e := if x.2.2 = 6 then x.2.1 else x.1
    let from' := s.pdNode n e
    let rpd := s.pdRpd n e
    let s1 := s.setMover n x none
    let s2 := if x.2.2 = 6 then
        (s1.setPd n k (setFld (setFld (s.pd0 n k) 24 8 (s.pdTile n e)) 0 24 (s.pdOff n e)) 0).giveDesc n e
      else s1.setFoldRec n (pdPlace k + 8) 0
    (s2.settleMoved n k).post n (.foldMoveCompleteMsg ⟨from', n, rpd, e, []⟩)

/-- `PAGE_MOVE_COMPLETE` (R297): the page whose descriptor is k has come whole. -/
def execPageMoveComplete (n k : Nat) (s : State) : Out := .next (s.moveDone n k)

/-- `FOLD_MOVE_COMPLETE_MSG` (R297, R314, R402): a page sent away is remote; a page fetched loses the fetcher's reference. -/
def execFoldMoveCompleteMsg (m : FoldMsg) (s : State) : Out :=
  s.taking (.foldMoveCompleteMsg m) (fun s =>
    let n := m.dest
    match (s.node n).mover (fun x => x.1 == m.rpd && (x.2.2 == 2 || (x.2.2 == 5 && x.2.1 == m.src))) with
    | none => s
    | some x =>
      let s1 := s.setMover n x none
      if x.2.2 = 5 then s1.pdDec n m.rpd
      else
        let s2 := (s1.giveFrame n (frameAt (s1.region n) (s1.pdTile n m.rpd) (s1.pdOff n m.rpd))).setPdState n m.rpd stRemote
        if s.pdRelp n m.rpd then s2.freePage n m.rpd else s2)

/-! Record operations and hints -/

/-- A record operation is done, or fails (R305, R306, R309). -/
def State.opDone (s : State) (r : TileRef) (j : FoldJob) : State :=
  (s.countJob r j 1).setJob r j.id (fun i => some { i with finished := true })
def State.opFails (s : State) (r : TileRef) (j : FoldJob) (c : Cause) (state : Nat) : State :=
  (s.stopJob r j c j.req.opa state 0).countJob r j 1

/-- The transfers through views of a sequence that are in some fold unit of a node, each with its tile and with the record operations
ahead of it in its context, which it begins after (R305). -/
def State.transfersOn (s : State) (n seq : Nat) : List (Tile × FoldJob × List FoldJob) :=
  (s.node n).tiles.flatMap (fun e =>
    (e.2.fold.filter (fun j => (decide (j.req.fn < 2) || j.req.fn == 5) && !j.finished && e.2.viewsSeq j.req.opa seq)).map (fun j =>
      (e.2, j, (e.2.fold.takeWhile (fun i => i.id != j.id)).filter (fun i =>
        i.mate j && !i.finished && decide (2 ≤ i.req.fn) && decide (i.req.fn < 5)))))

/-- Whether an `FFREE` waits for a transfer that stands behind operation `j` in its context, be it by way of other `FFREE`s: `j` must go
first. -/
def State.freeNeeds (s : State) (n : Nat) : Nat → FoldJob → FoldJob → Bool
  | 0, _, _ => false
  | fuel + 1, f, j => (s.transfersOn n (keySeq f.req.opa)).any (fun x =>
      x.2.2.any (fun m => m.id == j.id || (m.req.fn == 4 && m.id != f.id && s.freeNeeds n fuel m j)))

/-- Whether an `FFREE` waits (R313): for a transfer dispatched through a view of its sequence that may still complete before it. One
behind the `FFREE` itself in its context, or behind another that waits for this one, may not, nor may one of its context that a fault has stopped
(R305, R309; log entry 130). -/
def State.freeWaits (s : State) (r : TileRef) (j : FoldJob) : Bool :=
  (s.transfersOn r.node (keySeq j.req.opa)).any (fun x =>
    !(j.own && x.2.1.mate j && (s.tile r).stopped x.2.1 && (s.tile r).fold.contains x.2.1)
      && !x.2.2.any (fun m => m.id == j.id || (m.req.fn == 4 && s.freeNeeds r.node 8 m j)))

/-- Whether an operation gives way to an `FFREE` that has come to the walker and waits (R313, R319): in arrival order it does, unless that
`FFREE` waits for a transfer behind it (log entry 130). -/
def State.givesWay (s : State) (r : TileRef) (j : FoldJob) : Bool :=
  (s.node r.node).tiles.any (fun e => e.2.fold.any (fun i =>
    i.req.fn == 4 && i.req.shape.isSome && !i.finished && i.id != j.id && !s.freeNeeds r.node 8 i j))

/-! Records in error (R293) -/

/-- Whether a record of the buckets in which a sequence and its root entries are looked up is in error. -/
def State.bucketsBad (s : State) (n seq : Nat) : Bool :=
  s.seqBad n seq || (List.range (max 1 (s.region n).layers)).any (fun l => s.rootsBad n seq l)

/-- The level-1 blocks of a root entry. -/
def State.rootLocs (s : State) (n root : Nat) : List Nat :=
  ([s.rootLoc n root 0, s.rootLoc n root (2 ^ 18)]).filter locValid

/-- Whether a record below a root entry is in error: blocks that hold pages from `first` on and those pages' descriptors; below a shared
block only where `all` says that it is copied (R301), and then every count and descriptor that the block names. -/
def State.pathsBad (s : State) (n root first : Nat) (all : Bool) : Bool :=
  [0, 1].any (fun h =>
    let l1 := s.rootLoc n root (h * 2 ^ 18)
    let lone1 := decide (s.blockCount n l1 ≤ 1)
    locValid l1 && decide (first < (h + 1) * 2 ^ 18) && (s.blockBad n l1 || (all && !lone1 && s.countsBad n l1)
      || ((all || lone1) && (List.range 512).any (fun i =>
        let l2 := wfld (s.dirEntry n l1 i) 0 32
        let lone2 := decide (s.blockCount n l2 ≤ 1)
        locValid l2 && decide (first < h * 2 ^ 18 + (i + 1) * 512) && (s.blockBad n l2 || (all && !(lone1 && lone2) && s.descsBad n l2)
          || ((all || lone2) && (List.range 512).any (fun k =>
            let e := s.dirEntry n l2 k
            e.getLsbD 63 && decide (first ≤ h * 2 ^ 18 + i * 512 + k)
              && s.rangePoisoned (s.foldOrigin n) (pdPlace (wfld e 0 18)) 16)))))))

/-- Whether a record that an `FFORK`, `FTRUNC` or `FFREE` reads is in error. -/
def State.recordsBad (s : State) (n : Nat) (q : FoldReq) : Bool :=
  let seq := keySeq q.opa
  !s.poison.isEmpty && (s.bucketsBad n seq || (match q.fn with
    | 2 => s.seqBad n (keyFork q.opa) || (s.rootsOf n seq).any (fun o =>
        s.rootsBad n (keyFork q.opa) (wfld (s.foldRec n o) 33 8) || (s.rootLocs n o).any (fun l => s.countBad n l))
    | 3 => decide (keyLen q.opa < s.seqLen n seq) && (s.rootsOf n seq).any (fun o =>
        s.pathsBad n o ((keyLen q.opa + pppOf (s.region n) - 1) / pppOf (s.region n)) true)
    | _ => (s.rootsOf n seq).any (fun o => s.pathsBad n o 0 false)))

/-! Hints -/

/-- One page of a hint at its instant (R314): the state, or the fault with the page's state. -/
def State.hintPage (s : State) (n d : Nat) (opb : Word) : Except (Cause × Nat) State :=
  let st := s.pdState n d
  match ctlOp opb with
  | 0 =>
    if st = stCompressed then (match s.promotePage n d with
      | .ok s1 => .ok s1
      | .error c => .error (c, st))
    else if st = stRemote then (match s.fetchPage n d 9 with
      | some s1 => .ok s1
      | none => .error (.foldNomem, st))
    else .ok s
  | 1 => .ok (s.compressPage n d)
  | _ =>
    let dst := ctlNode opb
    if dst = n ∨ (st ≠ stResident ∧ st ≠ stShared) then .ok s
    else if !canReach s n dst then .error (.foldNomem, st)
    else .ok (s.offerPage n d dst)

/-- The walk of the page numbered `k` of a hint. -/
def State.hintWalk (s : State) (r : TileRef) (j : FoldJob) (v : View) (k : Nat) : Walk :=
  s.walk r.node v.seqId.toNat v.layer.toNat v.head.toNat (ptrPos j.req.opa / pppOf (s.region r.node) + k)

/-- All pages of a hint, in ascending order (R314): it takes effect at one instant (R385), and a fault performs nothing (R309). The state,
and the pages that begin to move. -/
def State.hintPages (s : State) (r : TileRef) (j : FoldJob) (v : View) : Except (Cause × Nat) (State × List Nat) :=
  (List.range (ctlNpg j.req.opb + 1)).foldl (fun acc k => match acc with
    | .error e => .error e
    | .ok (s, ds) =>
      let w := s.hintWalk r j v k
      if w.ue then .error (.ue, s.walkState r.node w)
      else match w.pd with
        | none => .ok (s, ds)
        | some d => match s.hintPage r.node d j.req.opb with
          | .error e => .error e
          | .ok s1 => .ok (s1, if s.pdState r.node d ≠ stMoving ∧ s1.pdState r.node d = stMoving then ds ++ [d] else ds)) (.ok (s, []))

/-- A page of a hint, all of whose pages the other nodes have granted, goes or stays here (R297, R402). -/
def State.commitMove (s : State) (n : Nat) (x : Nat × Nat × Nat) : State :=
  if x.2.2 = 8 then
    (s.setMover n x (some (x.1, x.2.1, 2))).post n (.foldPageDataMsg ⟨s.pdNode n x.1, n, x.2.1, x.1,
      s.readBytes .sram ⟨n, s.pdTile n x.1⟩ (s.pdOff n x.1) 32768⟩)
  else s.setMover n x (some (x.1, x.2.1, 6))

/-- A page of a hint of which another page was refused keeps its state: the other node, which has granted it, is told (R309, R402). -/
def State.undoMove (s : State) (n : Nat) (x : Nat × Nat × Nat) : State :=
  let s1 := s.setMover n x none
  match x.2.2 with
  | 8 => (s1.settleMoved n x.1).post n (.foldRefuseMsg ⟨s.pdNode n x.1, n, x.2.1, x.1, []⟩)
  | 10 => (s1.unfetched n x.1 x.2.1).post n (.foldRefuseMsg ⟨s.pdNode n x.2.1, n, s.pdRpd n x.2.1, x.2.1, []⟩)
  | _ => s1

/-- A hint waits until the other nodes have answered for each of its pages: one refused fails it, and it performs nothing (R309, R402);
otherwise the pages move, and it is done once they have reached their new state (R305). -/
def State.hintWait (s : State) (r : TileRef) (j : FoldJob) : State :=
  let n := r.node
  let ms := j.pages.filterMap (fun d => (s.node n).mover (fun x => x.1 == d && [1, 2, 4, 6, 8, 9, 10].contains x.2.2))
  if ms.any (fun x => x.2.2 == 1 || x.2.2 == 9) then s
  else match ms.find? (fun x => x.2.2 == 4) with
  | some x => (ms.foldl (fun s x => s.undoMove n x) s).opFails r j .foldNomem (s.pdState n x.1)
  | none =>
    let granted := ms.filter (fun x => x.2.2 == 8 || x.2.2 == 10)
    if !granted.isEmpty then granted.foldl (fun s x => s.commitMove n x) s
    else if ms.isEmpty then s.opDone r j
    else s

/-- A hint's instant, or its wait (R314). -/
def State.hintStep (s : State) (r : TileRef) (j : FoldJob) : State :=
  if j.req.shape.isSome then s.hintWait r j
  else match (s.tile r).viewOf j.req.opa with
  | none => s.opDone r j
  | some v => match s.hintPages r j v with
      | .error (c, st) => s.opFails r j c st
      | .ok (s1, ds) => s1.setJob r j.id (fun i => some { i with pages := ds, req := { i.req with shape := some 1 } })

/-- A record operation at its instant (R311 to R313, R319). -/
def State.recordOp (s : State) (r : TileRef) (j : FoldJob) : State :=
  let n := r.node
  let seq := keySeq j.req.opa
  if j.req.fn = 5 then s.hintStep r j
  else if s.givesWay r j then s
  else if s.recordsBad n j.req then s.opFails r j .ue 0
  else match j.req.fn with
  | 2 => match s.forkSeq n seq (keyFork j.req.opa) (ctlTie j.req.opb) j.req.tree with
    | .ok s1 => s1.opDone r j
    | .error c => s.opFails r j c 0
  | 3 =>
    let upto := s.ids
    match s.truncSeq n seq (keyLen j.req.opa) (fun l h _ =>
      if s.readersBelow n seq upto then some ⟨seq, l, h, 0, 0, upto, keyLen j.req.opa⟩ else none) with
    | .ok s1 => s1.opDone r j
    | .error c => s.opFails r j c 0
  | _ =>
    if (s.findSeq n seq).isNone then s.opFails r j .foldPerm 0
    else if s.freeWaits r j then
      s.setJob r j.id (fun i => some { i with req := { i.req with shape := some 1 } })
    else (s.removeSeq n seq).opDone r j

/-- `FOLD_RECORD_OP` (R306, R311 to R314): the operation numbered k at its instant, or one step of a hint's wait. -/
def execFoldRecordOp (t : TileRef) (k : Nat) (s : State) : Out :=
  .next (match (s.tile t).fold.find? (fun j => j.id == k) with
    | none => s
    | some j => if j.req.fn < 2 ∨ (s.tile t).mayRun j = false ∨ s.behindAll t j = false then s else s.recordOp t j)

end Sys2Proof.Machine
end

