-- ==== Sys2Proof/Machine/TreeEnd.lean ====
section
/-! DEFINITION. The end of a tree: its cancellation and what goes with it on its node (spec/07 R230, spec/10 R292, R313, spec/13 R376). -/

namespace Sys2Proof.Machine

/-- The sequences of a node tied to a tree (R313): found among the record area's written cells. -/
def State.tiedSeqs (s : State) (n : Nat) (id : BitVec 32) : List Nat :=
  let base := memKey .sram (s.foldOrigin n) 0x1F0000
  let recs := (s.mem.filter (fun c => decide (base ≤ c.1) && decide (c.1 < base + 0x100000))).map (fun c => (c.1 - base) / 16)
  (recs.eraseDups.filter (fun i =>
    let w := s.foldRec n (0x1F0000 + 16 * i)
    w.getLsbD 63 && recTied w && BitVec.ofNat 32 (wfld (s.foldRec n (0x1F0000 + 16 * i + 8)) 32 32) == id)).map (fun i =>
      wfld (s.foldRec n (0x1F0000 + 16 * i)) 39 22)

/-- Whether a fold transfer of a tree is still in some fold unit of a node. -/
def State.treeFolds (s : State) (n : Nat) (id : BitVec 32) : Bool :=
  (s.node n).tiles.any (fun e => e.2.fold.any (fun j => j.req.tree == id))

/-- Whether a tree has ended on a node but for its views and its tied sequences. -/
def State.treeQuiet (s : State) (n : Nat) (id : BitVec 32) : Bool :=
  !s.treeLive n id && !s.treeFolds n id && (s.tiedSeqs n id).all (fun q => (s.transfersOn n q).isEmpty)

/-- The views a tree opened are closed and the sequences tied to it are freed (R292, R313). -/
def State.endTree (s : State) (n : Nat) (id : BitVec 32) : State :=
  let s1 := s.closeViews n (fun v => v.tree == id)
  if (s.node n).fold.isNone then s1 else (s.tiedSeqs n id).foldl (fun s q => s.removeSeq n q) s1

/-- `TREE_CANCEL` (R230, R376): the tree's tasks, descriptors and fork bookkeeping end; its fold state goes once its writes have been
performed, and the cancellation stays on its way until then. -/
def execTreeCancel (n : Nat) (k : BitVec 32) (s : State) : Out :=
  let e := Event.treeCancel n k
  .next (if !s.net.contains e then s
    else
      let s1 := s.haltTree n k
      if s1.treeQuiet n k then { s1 with net := s1.net.erase e }.endTree n k else s1)

end Sys2Proof.Machine
end

