-- ==== Sys2Proof/Machine/Links.lean ====
section
/-! DEFINITION. The lanes between nodes (spec/15 R399 to R407): the flit that goes next, its receipt, acknowledgement and replay,
relays, whole messages at their node, request credits, the pasture tick and the membership map. -/

namespace Sys2Proof

open Machine

/-! Fields of a flit (Table 15.1) -/

def Flit.ty (f : Flit) : Nat := wfld f.ctl 60 4
def Flit.dnode (f : Flit) : Nat := wfld f.ctl 48 12
def Flit.dtile (f : Flit) : Nat := wfld f.ctl 40 8
def Flit.mid (f : Flit) : Nat := wfld f.ctl 24 16
def Flit.lseq (f : Flit) : Nat := wfld f.ctl 12 12
def Flit.plen (f : Flit) : Nat := wfld f.ctl 5 7
def Flit.isFirst (f : Flit) : Bool := f.ctl.getLsbD 4
def Flit.isLast (f : Flit) : Bool := f.ctl.getLsbD 3

/-- The message a flit is a part of. -/
def Flit.part (f : Flit) : Nat := flitPart f

/-- The payload bytes in use. -/
def Flit.bytes (f : Flit) : List Byte := (wordsBytes f.pay).take f.plen

/-- The CRC of a flit (R401). -/
def Flit.crc (f : Flit) : Nat := (flitCrc (wordBytes f.ctl ++ wordsBytes ((f.pay ++ List.replicate 8 0).take 8))).toNat

/-- Whether a flit is received whole (Tables 15.1, 15.2). -/
def Flit.good (f : Flit) : Bool := f.pay.length == 8 && wfld f.trail 32 32 == f.crc && decide (f.ty < 8)

/-- The class of a message by its first flit (Table 15.2). -/
def Flit.cls (f : Flit) : FlitClass :=
  match f.ty with
  | 1 => .stream
  | 2 => .credit
  | 3 => .request
  | 4 => .response
  | 5 => if wfld (f.pay.getD 0 0) 60 4 < 8 then .request else .response
  | 6 => if wfld (f.pay.getD 0 0) 60 4 ≤ 2 then .request else .response
  | _ => .credit

/-- A flit as it leaves: with its sequence number, the acknowledgement of the other direction, and its CRC (R401, R403). -/
def Flit.sealed (f : Flit) (seq : Nat) (ack : Option Nat) (nak : Bool) : Flit :=
  let f1 := { f with ctl := setFld f.ctl 12 12 seq }
  { f1 with trail := BitVec.ofNat 64 (f1.crc * 2 ^ 32 + ack.getD 0 % 4096 * 2 ^ 20 + (if ack.isSome then 2 ^ 19 else 0)
      + (if nak then 2 ^ 18 else 0)) }

/-- The idle flit (TYPE 0). -/
def Flit.idle : Flit := ⟨0, List.replicate 8 0, 0⟩

end Sys2Proof

namespace Sys2Proof.Machine

/-! Sending -/

/-- A packet's flits after its next one go behind the other streams' (R405), and stay ahead of the next packet of the same
stream. -/
def rotateStream (f : Flit) (rest : List Flit) : List Flit :=
  if f.isLast then rest
  else
    let same := fun (g : Flit) => g.part == f.part
    let cont := rest.takeWhile (fun g => same g && !g.isFirst)
    let after := rest.drop cont.length
    after.takeWhile (fun g => !same g) ++ cont ++ after.dropWhile (fun g => !same g)

/-- Whether the head of the request queue may go: a continuation, or a first flit with a credit (R406). -/
def Link.requestReady (l : Link) : Bool :=
  match l.request with
  | [] => false
  | f :: _ => !f.isFirst || decide (0 < l.reqCredits)

/-- The stream packets in transit in a queue: no two packets of one stream are in transit at once. -/
def Link.transits (l : Link) : Nat := (l.stream.map Flit.part).eraseDups.length

/-- The head of the request queue taken. -/
def Link.takeRequest (l : Link) : Option (Flit × Link) :=
  match l.request with
  | f :: rest =>
    if l.requestReady then
      some (f, { l with request := rest, turn := 0, reqCredits := if f.isFirst then l.reqCredits - 1 else l.reqCredits })
    else none
  | [] => none

/-- The next flit of the stream packets in transit taken. -/
def Link.takeStream (l : Link) : Option (Flit × Link) :=
  match l.stream with
  | f :: rest => some (f, { l with stream := rotateStream f rest, turn := l.turn + 1 })
  | [] => none

/-- The flit a slot takes from the class queues (R405): Credit, Response, then one flit of each stream packet in transit and of the
Request queue in turn; `turn` counts the stream flits since the last of the Request queue. -/
def Link.take (l : Link) : Option (Flit × Link) :=
  match l.credit, l.response with
  | f :: rest, _ => some (f, { l with credit := rest })
  | [], f :: rest => some (f, { l with response := rest })
  | [], [] => if l.transits ≤ l.turn then l.takeRequest.or l.takeStream else l.takeStream.or l.takeRequest

/-- The flit that goes next in a direction, and the link after it (R403, R405): one sent again, a new one where the replay buffer
has room, or an idle one. -/
def Link.next (l : Link) : Flit × Link :=
  let out := fun (f : Flit) (seq : Nat) => f.sealed seq l.ackOut l.nakOut
  let told := { l with nakOut := false }
  if 0 < l.resend then
    match l.replay[l.replay.length - l.resend]? with
    | some f => (out f f.lseq, { told with resend := l.resend - 1 })
    | none => (out Flit.idle 0, { told with resend := 0 })
  else if 1024 ≤ l.replay.length then (out Flit.idle 0, told)
  else match told.take with
    | none => (out Flit.idle 0, told)
    | some (f, l1) =>
      let g := out f l.txSeq
      (g, { l1 with replay := l1.replay ++ [g], txSeq := (l1.txSeq + 1) % 4096 })

/-- Whether a node's lanes work. -/
def Node.lanesUp (n : Node) : Bool := !n.failed && !n.silent

/-- `FLIT_SLOT` (R405): one flit leaves on bundle b of a node. A bundle that is down, or whose lane is being retrained, carries
none. -/
def execFlitSlot (n b : Nat) (s : State) : Out :=
  let l := (s.node n).link b
  .next (if l.down || l.replaying || !(s.node n).lanesUp then s
    else
      let m := neighbour n b
      match bundleTo m n with
      | none => s
      | some b' =>
        let x := l.next
        (s.modLink n b (fun _ => x.2)).send (.linkFlitReceive m b' x.1))

/-! Receiving -/

/-- The acknowledgement that a flit brings (R403): flits up to it leave the replay buffer, and a NAK sends the rest again. -/
def Link.acked (l : Link) (f : Flit) : Link :=
  if !f.trail.getLsbD 19 then (if f.trail.getLsbD 18 then { l with resend := l.replay.length } else l)
  else
    let a := wfld f.trail 20 12
    let kept := l.replay.filter (fun g => !decide ((a + 4096 - g.lseq) % 4096 < 2048))
    { l with replay := kept, resend := if f.trail.getLsbD 18 then kept.length else min l.resend kept.length }

/-- The node a packet from one node to another comes through last, within four hops (R404, R429). -/
def lastHop (s : State) (n : Nat) : Nat → Nat → Nat
  | 0, cur => cur
  | fuel + 1, cur =>
    match routeBundle s cur n with
    | none => cur
    | some b => if neighbour cur b = n then cur else lastHop s n fuel (neighbour cur b)

/-- The packet on its way that a first flit begins (R401): the first with its header not yet begun, of a sender whose route ends
in the bundle where there is one. -/
def State.packetOf (s : State) (n b : Nat) (f : Flit) : Option NetPacket :=
  let w := payWord f.bytes
  let fits := fun (p : NetPacket) =>
    p.transit && !p.started && !p.whole && p.dest == ⟨n, f.dtile⟩ && p.hdr0 == w 0 && p.hdr1 == w 1
  (s.packets.find? (fun p => fits p && lastHop s n 4 p.sender.node == neighbour n b)).or (s.packets.find? fits)

/-- Wire bytes of a packet that have come: PART of its stream counts them once it has its buffer (Table 7.3). -/
def State.packetTook (s : State) (id : Nat) (bs : List Byte) (last : Bool) : State :=
  let s1 : State := { s with packets := s.packets.map (fun p => if p.id = id then { p with wire := p.wire ++ bs, whole := last } else p) }
  match s1.packets.find? (fun p => p.id == id) with
  | none => s1
  | some p => if (s1.tile p.dest).holds id then
      s1.modTile p.dest (fun t => { t with ins := t.ins.map (fun x => { x with bufs := x.bufs.map (fun b =>
        if b.st = .receiving ∧ b.pkt = id then { b with wire := p.wire.length } else b) }) })
    else s1

/-- A stream flit at its destination: its packet's number stands in the place of its parts. -/
def State.streamFlit (s : State) (n b : Nat) (f : Flit) : State :=
  let id := if f.isFirst then (s.packetOf n b f).map (fun p => p.id)
    else ((s.node n).part b f.part).head?.map (fun g => g.ctl.toNat)
  match id with
  | none => s
  | some k =>
    (s.packetTook k (f.bytes.drop (if f.isFirst then 16 else 0)) f.isLast).modNode n (fun x =>
      x.setPart b f.part (if f.isLast then [] else [⟨BitVec.ofNat 64 k, [], 0⟩]))

/-- A whole message at a node: taken there, or passed on by a relay (R404); a request's credit falls due to the bundle it came on
(R406). -/
def State.wholeMessage (s : State) (n b : Nat) (fs : List Flit) : State :=
  match fs with
  | [] => s
  | f :: rest =>
    let s1 := if f.cls = .request then s.modLink n b (fun l => { l with owed := l.owed + 1 }) else s
    if f.dnode = n then
      s1.sendAll (decodeMessage n f.ty f.dtile f.mid f.bytes (rest.flatMap Flit.bytes))
    else match routeBundle s n f.dnode with
      | some b' => s1.modLink n b' (fun l => l.push f.cls fs)
      | none => s1

/-- The flits of a stream that a relay holds from a bundle sent on, and the bundle noted until the last of its packet (R404, R405). -/
def State.passOn (s : State) (n b p : Nat) : State :=
  match ((s.node n).part b p).getLast? with
  | none => s
  | some f =>
    let s1 := s.modNode n (fun x => x.setPart b p [])
    match routeBundle s n f.dnode with
    | none => s1
    | some b' => (s1.modLink n b' (fun l => l.push .stream ((s.node n).part b p))).modNode n (fun x =>
        x.setPart relayKey p (if f.isLast then [] else [⟨BitVec.ofNat 64 b, [], 0⟩]))

/-- The flits of a stream that waited for a packet of it, those of one bundle after another's. -/
def State.passWaiting (s : State) (n p : Nat) : State :=
  ((s.node n).partials.filter (fun e => e.2.1 == p && e.1 != relayKey)).reverse.foldl (fun s e =>
    if ((s.node n).relaying p).isSome then s else s.passOn n e.1 p) s

/-- A stream flit at a relay goes on at once (R405). Only the packets of one stream from two bundles take turns, since no flit but the first
tells them apart (log entry 71). -/
def State.relayFlit (s : State) (n b : Nat) (f : Flit) : State :=
  let s1 := s.modNode n (fun x => x.setPart b f.part (x.part b f.part ++ [f]))
  if ((s.node n).relaying f.part).any (fun c => c != b) then s1
  else (s1.passOn n b f.part).passWaiting n f.part

/-- An accepted flit: one of a stream goes to its packet, or on at a relay; another's message is taken once it is whole. -/
def State.acceptFlit (s : State) (n b : Nat) (f : Flit) : State :=
  if f.ty = 1 then (if f.dnode = n then s.streamFlit n b f else s.relayFlit n b f)
  else
    let fs := (if f.isFirst then [] else (s.node n).part b f.part) ++ [f]
    if f.isLast then (s.modNode n (fun x => x.setPart b f.part [])).wholeMessage n b fs
    else s.modNode n (fun x => x.setPart b f.part fs)

/-- The i-th lane of a bundle: where it has failed, its group's spare (R399). -/
def Node.bundleLane (x : Node) (b i : Nat) : Nat :=
  let u := b * 8 + i
  let lane := u / 63 * 64 + u % 63
  if x.laneFails.contains lane then lane / 64 * 64 + 63 else lane

/-- A flit whose CRC fails is replayed, a corrected error of one of its bundle's lanes (Table 17.1, R425); which lane is not told. -/
def State.badFlit (s : State) (n b : Nat) : State :=
  let i := s.choose 8
  (i.2.modLink n b (fun l => { l with nakOut := true })).send (.correctedError n ⟨1, 0, (s.node n).bundleLane b i.1⟩ 0)

/-- A flit at the end of a bundle (R401, R403). -/
def State.receiveFlit (s : State) (n b : Nat) (f : Flit) : State :=
  let l := (s.node n).link b
  let nak := fun (l : Link) => { l with nakOut := true }
  if !(s.node n).lanesUp || l.down || l.replaying then s
  else if !f.good then s.badFlit n b
  else
    let s1 := s.modLink n b (fun l => l.acked f)
    if f.ty = 0 then s1
    else if f.lseq = l.rxSeq then
      (s1.modLink n b (fun l => { l with rxSeq := (l.rxSeq + 1) % 4096, ackOut := some f.lseq, nakOut := false })).acceptFlit n b f
    else if (l.rxSeq + 4096 - f.lseq) % 4096 < 2048 then s1
    else s1.modLink n b nak

/-- `LINK_FLIT_RECEIVE` (R403): a flit on its way arrives; another is noise on the lanes, which the CRC tells. -/
def execLinkFlitReceive (n b : Nat) (fl : Flit) (s : State) : Out :=
  let e := Event.linkFlitReceive n b fl
  .next (if s.net.contains e then { s with net := s.net.erase e }.receiveFlit n b fl
    else if fl.good then s else s.receiveFlit n b fl)

/-- `REQUEST_CREDIT_RETURN` (R406): a credit owed to bundle b's other end is returned. -/
def execRequestCreditReturn (n b : Nat) (s : State) : Out :=
  let m := neighbour n b
  .next (match bundleTo m n with
    | some b' =>
      if 0 < ((s.node n).link b).owed then
        (s.modLink n b (fun l => { l with owed := l.owed - 1 })).modLink m b' (fun l => { l with reqCredits := l.reqCredits + 1 })
      else s
    | none => s)

/-! Credits -/

/-- One dword of a credit flit (Table 15.2). -/
def State.takeCredits (s : State) (n : Nat) (w : Word) : State :=
  if wfld w 52 12 = n then
    s.modTile ⟨n, wfld w 44 8⟩ (fun t => t.modOut (wfld w 39 5) (fun x => { x with free := x.free + wfld w 32 7 }))
  else s

/-- `CREDIT_FLIT` (R401, R207). -/
def execCreditFlit (n : Nat) (ws : List Word) (s : State) : Out :=
  s.taking (.creditFlit n ws) (fun s => ws.foldl (fun s w => s.takeCredits n w) s)

/-! The pasture tick -/

/-- Ticks of one hour and of one day: a tick is 16 cycles of 0.8 ns (R1, R330). -/
def ticksPerHour : Nat := 281250000000
def ticksPerDay : Nat := 24 * ticksPerHour

/-- A node tells its neighbours in the pasture its tick (R330, Table 15.2e). -/
def State.exchangeTick (s : State) (n : Nat) : State :=
  if (s.node n).members.isNone then s
  else (((List.range 126).map (neighbour n)).filter (isMember s n)).foldl (fun s m => s.post n (.tickExchangeMsg m (s.node n).tick)) s

/-- `PASTURE_TICK` (R330, R425): the tick advances, and every fourth one is told to the neighbours (log entry 72); an hour's end turns the corrected-error buckets. -/
def execPastureTick (n : Nat) (s : State) : Out :=
  let s1 := s.modNode n (fun x => { x with tick := x.tick + 1 })
  let s2 := if (s1.node n).tick.toNat % 4 = 0 then s1.exchangeTick n else s1
  .next (if (s2.node n).tick.toNat % ticksPerHour = 0 then s2.send (.counterHourBucket n) else s2)

/-- The ticks of a node's service (R425, log entry 133). -/
def Node.served (x : Node) : Nat := x.tickBase + x.tick.toNat

/-- `TICK_EXCHANGE_MSG` (R330, R425): a tick that lags a neighbour's follows it, and turns the corrected-error buckets for each hour's end it
passes (log entry 72); beyond the window of a counter there is none left to turn. -/
def execTickExchangeMsg (n : Nat) (k : BitVec 56) (s : State) : Out :=
  s.taking (.tickExchangeMsg n k) (fun s =>
    if k.toNat ≤ (s.node n).tick.toNat then s
    else
      let hours := k.toNat / ticksPerHour - (s.node n).tick.toNat / ticksPerHour
      (s.modNode n (fun x => { x with tick := k, tickBase := if x.served ≤ k.toNat then 0 else x.tickBase })).sendAll
        (List.replicate (min hours 255) (.counterHourBucket n)))

/-! Membership -/

/-- A word of the membership map replaced (Table 15.4, R407). -/
def Node.setMembers (x : Node) (self i : Nat) (w : Word) : Node :=
  let old : BitVec 4096 := match x.members with
    | some v => v
    | none => BitVec.ofNat 4096 (2 ^ self)
  let hole : BitVec 4096 := BitVec.ofNat 4096 ((2 ^ 64 - 1) * 2 ^ (64 * i))
  { x with members := some ((old &&& ~~~hole) ||| BitVec.ofNat 4096 (w.toNat * 2 ^ (64 * i))) }

/-- A word of the membership map. -/
def Node.membersWord (x : Node) (self i : Nat) : Word :=
  let v : BitVec 4096 := match x.members with
    | some v => v
    | none => BitVec.ofNat 4096 (2 ^ self)
  BitVec.ofNat 64 (v.toNat / 2 ^ (64 * i))

/-- `MEMBERSHIP_UPDATE_MSG` (R402, R407). -/
def execMembershipUpdateMsg (n : Nat) (k : BitVec 6) (w : Word) (s : State) : Out :=
  s.taking (.membershipUpdateMsg n k w) (fun s => s.modNode n (fun x => x.setMembers n k.toNat w))

end Sys2Proof.Machine
end

