-- ==== Sys2Proof/Machine/Ras.lean ====
section
/-! DEFINITION. Integrity, wear and power (spec/17 R422 to R429, R435, spec/11 R335, spec/06 R187): interrupt lines, the event log, corrected
and uncorrected errors, retirement to spares, the RAS configuration, throttling, failure and reset of a node. -/

namespace Sys2Proof.Machine

/-! Interrupt lines -/

/-- `INTERRUPT_PENDING` (R187, R415): a line that its source has raised becomes pending on its tile. -/
def execInterruptPending (t : TileRef) (l : BitVec 4) (s : State) : Out :=
  s.taking (.interruptPending t l) (fun s => s.modTile t (fun t => { t with irq := t.irq ||| (1#16 <<< l.toNat) }))

/-! The configuration and the log (Table 17.3) -/

def Node.thresh (x : Node) : Nat := max 1 (wfld x.rascfg 0 8)
def Node.window (x : Node) : Nat := max 1 (wfld x.rascfg 16 8)
def Node.retd (x : Node) : Nat := max 1 (wfld x.rascfg 24 8)
def Node.itile (x : Node) : Nat := wfld x.rascfg 32 8
def Node.locked (x : Node) : Bool := x.rascfg.getLsbD 63

/-- `RASSTAT` (Table 17.3). -/
def Node.rasstat (x : Node) : Word :=
  BitVec.ofNat 64 (x.nlog.toNat * 2 ^ 48 + x.fbank.toNat * 2 ^ 32 + x.ftile.toNat * 2 ^ 16 + x.flane.toNat)

/-- The interrupt line of a log entry's KIND (R426). -/
def kindLine (kind : Nat) : Option Nat :=
  match kind with
  | 2 => some 5
  | 3 => some 4
  | 4 => some 4
  | 5 => some 6
  | 6 => some 6
  | 7 => some 7
  | _ => none

/-- An event written to the log ring, with its interrupt (R426). -/
def State.rasLog (s : State) (n kind : Nat) (u : RasUnit) (addr count : Nat) : State :=
  let x := s.node n
  let tile := if u.cls = 1 ∨ 4 ≤ u.cls then 0 else u.tile % 256
  let d0 : Word := BitVec.ofNat 64 (kind * 2 ^ 60 + u.cls.toNat * 2 ^ 56 + tile * 2 ^ 48 + u.index % 65536 * 2 ^ 32)
  let s1 := s.setNode n { x with
    nlog := x.nlog + 1
    log := spPut x.log (x.nlog.toNat % 256) (d0, x.tick.setWidth 64, BitVec.ofNat 64 addr, BitVec.ofNat 64 (count % 256)) }
  match kindLine kind with
  | some l => s1.raiseLine ⟨n, x.itile⟩ l
  | none => s1

/-! Counting (R425) -/

/-- A unit's record. -/
def Node.unitRec (x : Node) (u : RasUnit) : UnitRec := (x.units.find? (fun r => r.unit == u)).getD ⟨u, .good, [0], 0⟩
def Node.setUnit (x : Node) (r : UnitRec) : Node := { x with units := r :: x.units.filter (fun q => q.unit != r.unit) }

/-- The corrected errors of the last WIN hours. -/
def UnitRec.count (r : UnitRec) (win : Nat) : Nat := (r.buckets.take win).foldl (fun a b => a + b) 0

/-- The lane group of a lane, the bundle that holds a lane: of a spare, the bundle of the lane it replaces (R399). -/
def laneGroup (lane : Nat) : Nat := lane / 64
def usedBundle (lane : Nat) : Option Nat :=
  let u := lane / 64 * 63 + lane % 64
  if lane % 64 = 63 ∨ 1008 ≤ u then none else some (u / 8)
def Node.laneBundle (x : Node) (lane : Nat) : Option Nat :=
  if lane % 64 = 63 then (x.laneFails.find? (fun k => k / 64 == lane / 64)).bind usedBundle else usedBundle lane

/-- Whether two units share one set of spares (Table 17.2). -/
def sharesSpare (u v : RasUnit) : Bool :=
  u.cls == v.cls && (match u.cls.toNat with
    | 0 => u.tile == v.tile
    | 1 => laneGroup u.index == laneGroup v.index
    | 2 => u.tile == v.tile
    | 3 => u.tile / 16 == v.tile / 16
    | _ => true)

/-- The spares of a unit's set (Table 17.2). -/
def spareCount (cls : BitVec 4) : Nat :=
  match cls.toNat with
  | 0 => 8
  | 2 => 2
  | _ => 1

/-- A unit is to go to its spare, or finds none left (R425, R427 to R429): a column goes at the next `LOADW`. -/
def State.retireUnit (s : State) (n : Nat) (u : RasUnit) (addr count : Nat) : State :=
  let x := s.node n
  let used := ((x.units.filter (fun r => r.st == .retired && r.unit != u)).map (fun r => r.unit) ++ x.replaced ++ [u]).countP (sharesSpare u)
  if used ≤ spareCount u.cls then
    let s1 := s.rasLog n 4 u addr count
    match u.cls.toNat with
    | 0 => s1.send (.bankRetirement ⟨n, u.tile⟩ u.index)
    | 1 => s1.send (.laneRetirement n u.index)
    | 3 => s1.send (.tileCoreRetirement ⟨n, u.tile⟩)
    | 4 => s1.modNode n (fun x => x.takeOver u)
    | _ => s1
  else if u.cls = 1 then
    match x.laneBundle u.index with
    | some b => s.send (.bundleDown n b)
    | none => s
  else s.rasLog n 5 u addr count

/-- A suspect unit is scrubbed (Table 17.2): a lane is retrained while its bundle replays. -/
def State.scrub (s : State) (n : Nat) (u : RasUnit) : State :=
  match u.cls.toNat, (s.node n).laneBundle u.index with
  | 1, some b => s.modLink n b (fun l => { l with replaying := true })
  | _, _ => s

/-- Errors counted against a unit; one that crosses becomes suspect, or goes to its spare (R425). -/
def State.countErrors (s : State) (n : Nat) (u : RasUnit) (amount addr : Nat) : State :=
  let x := s.node n
  let r := x.unitRec u
  let bs := match r.buckets with
    | [] => [amount]
    | b :: rest => (b + amount) :: rest
  let c := ({ r with buckets := bs } : UnitRec).count x.window
  if r.st = .retired then s
  else if c < x.thresh then s.modNode n (fun x => x.setUnit { r with buckets := bs })
  else if r.st = .suspect ∧ x.served - r.crossed < x.retd * ticksPerDay then
    (s.modNode n (fun x => x.setUnit { r with buckets := [0], st := .retired })).retireUnit n u addr c
  else
    ((s.modNode n (fun x => x.setUnit { r with buckets := [0], st := .suspect, crossed := x.served })).rasLog n 3 u addr c).scrub n u

/-- `CORRECTED_ERROR` (R425): `k` is the unit's address. -/
def execCorrectedError (n : Nat) (u : RasUnit) (k : Nat) (s : State) : Out :=
  let c := ((s.node n).unitRec u).count (s.node n).window + 1
  .next (({ s with net := s.net.erase (.correctedError n u k) }.rasLog n 1 u k c).countErrors n u 1 k)

/-- `SUSPECT_REVERSION` (R425): a suspect unit that has not crossed again within RETD days becomes good. -/
def execSuspectReversion (n : Nat) (u : RasUnit) (s : State) : Out :=
  let x := s.node n
  let r := x.unitRec u
  .next (if r.st = .suspect ∧ x.retd * ticksPerDay ≤ x.served - r.crossed then
      s.modNode n (fun x => x.setUnit { r with st := .good })
    else s)

/-- `COUNTER_HOUR_BUCKET` (R425): at an hour of the pasture tick every counter opens a bucket and drops those past its window. -/
def execCounterHourBucket (n : Nat) (s : State) : Out :=
  s.taking (.counterHourBucket n) (fun s => s.modNode n (fun x =>
    { x with units := x.units.map (fun r => { r with buckets := 0 :: r.buckets.take (x.window - 1) }) }))

/-- `BACKGROUND_SCRUB` (R425): every unit is rewritten with its corrected value, which is the one it reads as. -/
def execBackgroundScrub (_ : Nat) (s : State) : Out := .next s

/-! Uncorrected errors -/

/-- The state of a lock object ends (R335): its holders and waiters are wounded, its entry is cleared, the error is logged. -/
def State.clearLock (s : State) (n : Nat) (w : Word) (bank : Nat) : State :=
  let o := (s.node n).lockObj w
  let s1 := (o.holders ++ o.queue).foldl (fun s c => s.wound n c.ctx w c.tick) s
  let u : RasUnit := ⟨4, 0, bank⟩
  ((s1.modNode n (fun x => x.setLockObj ⟨w, [], []⟩)).rasLog n 2 u 0 ((s.node n).unitRec u |>.count (s.node n).window)).countErrors n u
    (s.node n).thresh 0

/-- `CROOK_UE` (R335): the bank that erred is not told. -/
def execCrookUe (n : Nat) (w : Word) (s : State) : Out :=
  let b := s.choose 64
  .next (b.2.clearLock n w b.1)

/-- The cell a number names: its number in [4:0], its file in [9:8] (DF codes), its kind in [17:16] (log entry 2). -/
def cellOf (k : Nat) : Cell :=
  let f := RFile.ofCode (BitVec.ofNat 2 (k / 256))
  match k / 65536 % 4 with
  | 0 => .reg f (BitVec.ofNat 5 k)
  | 1 => .latch f (BitVec.ofNat 2 k)
  | 2 => .pred (BitVec.ofNat 3 k)
  | _ => .mask (BitVec.ofNat 3 k)

/-- A cell of a context slot has an error its parity tells (R424): a bundle that reads it meets it, until it is rewritten. -/
def State.parityError (s : State) (r : TileRef) (k : Nat) : State :=
  s.modTile r (fun t => t.modCtx (k / 2 ^ 20 % 8) (fun c => { c with bad := cellOf k :: c.bad.filter (fun x => x != cellOf k) }))

/-- The unit of memory that the first byte of a landing's access lies in; a fold view's as it is now found. -/
def State.landingKey (s : State) (r : CtxRef) (l : Landing) : Option Nat :=
  let u := unitPtr l.addr
  match l.kind with
  | .load _ _ | .vector | .atom _ => match winOf u with
    | 1 => some (memKey .spill (tileOf r) ((s.tile (tileOf r)).spillOff r.slot (ptrOff u)))
    | 4 => (((s.tile (tileOf r)).viewOf u).bind (fun v => (s.walk r.node v.seqId.toNat v.layer.toNat v.head.toNat
        (ptrPos u / pppOf (s.region r.node))).pd)).map (fun d =>
          let p := s.rowPlace r.node d (ptrPos u) (ptrByte u)
          memKey .sram p.1 p.2)
    | 5 => some (memKey .port (tileOf r) (ptrOff u))
    | _ => some (memKey .sram (targetTile r u) (ptrOff u))
  | .header | .payload => some (memKey .port (tileOf r) (s.pktPlace r (l.kind == .header) l.addr))
  | _ => none

/-- A landing's value is delivered poisoned (R422, R423): its access meets the error again until its unit is rewritten whole. -/
def State.poisonLanding (s : State) (r : TileRef) (id : Nat) : State :=
  (List.range 8).foldl (fun s k =>
    let me : CtxRef := ⟨r.node, r.tile, k⟩
    match (s.ctx me).landings.find? (fun l => l.id == id && !l.faulted && !l.lost) with
    | some l =>
      let s1 := match s.landingKey me l with
        | some key => { s with tainted := (key / 8 * 8, me) :: s.tainted.filter (fun x => x != (key / 8 * 8, me)) }
        | none => s
      s1.detect me ⟨.ue, l.fpc, .m, unitPtr l.addr, 0, l.seq, some l.id, false, none, false⟩
    | none => s) s

/-- An entry of a load or store queue has an uncorrected error: what it delivers is poisoned (R422). -/
def State.poisonQueue (s : State) (id : Nat) : State :=
  match s.ownerOf id with
  | some r => s.modCtx r (fun c => { c with badQueue := id :: c.badQueue.filter (fun i => i != id) })
  | none => s

/-- A unit of a port buffer is poisoned (R422, R423): `k` names the unit (1,024 and 1,025 the header's), the buffer, and the stream, from 32
on an output stream's staging buffer. -/
def State.poisonPacket (s : State) (r : TileRef) (k : Nat) : State :=
  let u := k % 2048
  let i := k / 2048 % 64
  let st := k / 131072 % 64
  s.modTile r (fun t =>
    if st < 32 then t.modIn st (fun x => x.modBuf i (fun b => { b with poison := u :: b.poison.filter (fun j => j != u) }))
    else t.modOut (st - 32) (fun x => { x with poison := (i, u) :: x.poison.filter (fun p => p != (i, u)) }))

/-- What an uncorrected error does to its unit (Table 17.1, R423, R424). An SRAM unit is named by its offset; in a tile core, a
register by its `XADDR`, and past 2⁶⁴ a byte of instruction memory, a landing, a unit of a port buffer, or a queue entry (log entry 2). -/
def State.spoil (s : State) (n : Nat) (u : RasUnit) (k : Nat) : State :=
  let r : TileRef := ⟨n, u.tile⟩
  let mark := fun (key : Nat) => { s with poison := key :: s.poison.filter (fun j => j != key) }
  match u.cls.toNat, k / 2 ^ 64 with
  | 0, _ => mark (memKey .sram r (k % 2 ^ 24 / 8 * 8))
  | 3, 0 => s.parityError r k
  | 3, 1 => mark (memKey .imem r (k % 65536 / 8 * 8))
  | 3, 2 => s.poisonLanding r (k % 2 ^ 64)
  | 3, 3 => s.poisonPacket r (k % 2 ^ 64)
  | 3, _ => s.poisonQueue (k % 2 ^ 64)
  | _, _ => s

/-- `UNCORRECTED_ERROR` (R423, R424, R425): it counts as THRESH corrected ones. -/
def execUncorrectedError (n : Nat) (u : RasUnit) (k : Nat) (s : State) : Out :=
  let x := s.node n
  .next (if u.cls = 4 then s.clearLock n (BitVec.ofNat 64 k) u.index
    else ((s.spoil n u k).rasLog n 2 u (k % 2 ^ 64) ((x.unitRec u).count x.window)).countErrors n u x.thresh k)

/-! Spares -/

/-- `BANK_RETIREMENT` (R427): a fallow bank has taken over bank k; every unit reads as before, poison included. -/
def execBankRetirement (t : TileRef) (k : Nat) (s : State) : Out :=
  s.taking (.bankRetirement t k) (fun s =>
    (s.modTile t (fun x => { x with banksRetired := k :: x.banksRetired })).modNode t.node (fun n =>
      { n.takeOver ⟨0, t.tile, k⟩ with fbank := n.fbank - 1 }))

/-- Whether every context of a tile is saved or free (R428). -/
def Tile.allSaved (t : Tile) : Bool := t.ctxs.toList.all (fun c => c.st == .free || c.st == .saved)

/-- Whether every context of a tile has been saved with TILE = 1: the save is done, and the tile record stands (R428). -/
def State.tileSaved (s : State) (r : TileRef) : Bool :=
  (s.tile r).allSaved && (s.tile r).save.isNone && (s.readWord .sram r saveBase).getLsbD 63

/-- `TILE_CORE_RETIREMENT` (R428): the row's fallow tile takes the tile's id and its SRAM, once a save with TILE = 1 of every context is
done. -/
def execTileCoreRetirement (t : TileRef) (s : State) : Out :=
  let e := Event.tileCoreRetirement t
  let row := t.tile / 16
  .next (if s.net.contains e && s.tileSaved t && (s.node t.node).ftile.getLsbD row then
      { s with net := s.net.erase e }.modNode t.node (fun n => { (n.takeOver ⟨3, t.tile, 0⟩) with
        ftile := n.ftile &&& ~~~(1#16 <<< row), fallowRows := row :: n.fallowRows })
    else s)

/-- Whether a bundle replays, in one direction or the other (R403). -/
def State.replays (s : State) (n b : Nat) : Bool :=
  let busy := fun (l : Link) => l.replaying || decide (0 < l.resend) || l.nakOut
  busy ((s.node n).link b) || (match bundleTo (neighbour n b) n with
    | some b' => busy ((s.node (neighbour n b)).link b')
    | none => false)

/-- `LANE_RETIREMENT` (R425, R429): a lane's group's spare takes its place at a replay of its bundle (Table 17.2). -/
def execLaneRetirement (n k : Nat) (s : State) : Out :=
  if ((s.node n).laneBundle k).any (fun b => !s.replays n b) then .next s
  else s.taking (.laneRetirement n k) (fun s =>
    s.modNode n (fun x => { (x.takeOver ⟨1, 0, k⟩) with flane := x.flane &&& ~~~(1#16 <<< (k / 64)), laneFails := k :: x.laneFails }))

/-- `LANE_RETRAINED` (R425): the bundle stops replaying; what is not acknowledged is sent again (R403). -/
def execLaneRetrained (n k : Nat) (s : State) : Out :=
  .next (match (s.node n).laneBundle k with
    | some b => s.modLink n b (fun l => if l.replaying then { l with replaying := false, resend := l.replay.length } else l)
    | none => s)

/-- A flit sent on by the route that now carries it. -/
def State.pushFlit (s : State) (n : Nat) (f : Flit) : State :=
  match routeBundle s n f.dnode with
  | some b => s.modLink n b (fun l => l.push f.cls [f])
  | none => s

/-- One direction of a bundle leaves service (R429): what its other end has not accepted goes by the new route, and what that end
holds of messages not yet whole stands under the bundle the rest will come on. -/
def State.leaveBundle (s : State) (n b : Nat) : State :=
  let m := neighbour n b
  let l := (s.node n).link b
  match bundleTo m n with
  | none => s
  | some b' =>
    let rx := ((s.node m).link b').rxSeq
    let fs := l.replay.filter (fun f => decide ((f.lseq + 4096 - rx) % 4096 < 2048)) ++ l.credit ++ l.response ++ l.stream ++ l.request
    let via := (linkTo s n m).bind (fun c => bundleTo m (neighbour n c))
    let s1 := s.modNode m (fun x => { x with partials := x.partials.map (fun e =>
      if e.1 = b' then (via.getD b', e.2.1, e.2.2)
      else if e.1 = relayKey then (e.1, e.2.1, e.2.2.map (fun f => if f.ctl.toNat = b' then { f with ctl := BitVec.ofNat 64 (via.getD b') } else f))
      else e) })
    fs.foldl (fun s f => s.pushFlit n f) (s1.modLink n b (fun _ =>
      { Link.reset with down := true, owed := l.owed, rxSeq := l.rxSeq }))

/-- The lane a failed bundle is logged under (R426, log entry 122): the one that crossed, else its first. -/
def Node.failedLane (x : Node) (b : Nat) : Nat :=
  ((x.units.find? (fun r => r.st == .retired && r.unit.cls == 1 && x.laneBundle r.unit.index == some b)).map (fun r => r.unit.index)).getD
    (b * 8 / 63 * 64 + b * 8 % 63)

/-- `BUNDLE_DOWN` (R429): a bundle leaves service in both directions. -/
def execBundleDown (n k : Nat) (s : State) : Out :=
  s.taking (.bundleDown n k) (fun s =>
    let m := neighbour n k
    match bundleTo m n with
    | none => s
    | some k' =>
      let down := fun (l : Link) => { l with down := true }
      let s1 := (s.rasLog n 6 ⟨1, 0, (s.node n).failedLane k⟩ 0 0).modLink n k down |>.modLink m k' down
      (s1.leaveBundle n k).leaveBundle m k')

/-! Configuration -/

/-- `RASCFG_LOCK` (R426): a write of `RASCFG`, discarded once locked. -/
def execRascfgLock (n : Nat) (w : Word) (s : State) : Out :=
  .next (s.modNode n (fun x => if x.locked || !x.answers then x else { x with rascfg := w &&& 0x800000FFFFFF00FF }))

/-- `PWRCAP_WRITE` (R435): held between 600 and 1,200 W, discarded once locked. -/
def execPwrcapWrite (n : Nat) (w : Word) (s : State) : Out :=
  .next (s.modNode n (fun x => if x.locked || !x.answers then x else { x with pwrcap := BitVec.ofNat 16 (max 600 (min 1200 (wfld w 0 16))) }))

/-- `THROTTLE_STEP` (R435): f falls by one where a limit is exceeded, else rises by one, from 1 to 8. -/
def execThrottleStep (n : Nat) (x' : Bool) (s : State) : Out :=
  .next (s.modNode n (fun x => { x with pwrstat := BitVec.ofNat 4 (if x' then max 1 (x.pwrstat.toNat - 1) else min 8 (x.pwrstat.toNat + 1)) }))

/-! Failure -/

/-- What a node holds of messages that were coming on a bundle from a node that fails or is reset is dropped; a stream that it was
passing on is free for the next packet. -/
def State.forgetBundle (s : State) (m b : Nat) : State :=
  let mine := fun (e : Nat × Nat × List Flit) => e.1 == b || (e.1 == relayKey && e.2.2.head?.any (fun f => f.ctl.toNat == b))
  ((s.node m).partials.filter (fun e => e.1 == relayKey && mine e)).foldl (fun s e => s.passWaiting m e.2.1)
    (s.modNode m (fun x => { x with partials := x.partials.filter (fun e => !mine e) }))

/-- The same at every neighbour of a node. -/
def State.forgetNode (s : State) (n : Nat) : State :=
  s.nodes.foldl (fun s e => match bundleTo e.1 n with
    | some b => s.forgetBundle e.1 b
    | none => s) s

/-- A context's requests to a home that has failed are answered (R433): a wait and an `LKTRY` with NOHOME, an `LKQRY` as an object without an
entry (log entry 14). -/
def State.answerHomeless (s : State) (r : CtxRef) (home : Nat) : State :=
  let c := s.ctx r
  let q := fun (w : Word) (k : Nat) => { crookMsg r w .is c.tick k with dest := r.node }
  let nohome := fun (w : Word) (k : Nat) => Event.crookStatusMsg { q w k with result := lockStatus 4 7 }
  (s.sendAll ((c.lockWaits.filter (fun x => lockHome x.1 == home)).map (fun x => nohome x.1 x.2.2))).sendAll
    (c.landings.filterMap (fun l => match l.kind with
      | .lockTry w => if lockHome w = home ∧ l.value = none then some (nohome w l.id) else none
      | .lockQuery => if lockHome l.addr = home ∧ l.value = none then some (.crookQueryResultMsg (q l.addr l.id)) else none
      | _ => none))

/-- Every context's. -/
def State.answerAll (s : State) (home : Nat) : State :=
  s.nodes.foldl (fun s e => if e.1 = home then s else e.2.tiles.foldl (fun s t =>
    (List.range 8).foldl (fun s k => if (t.2.ctx k).st = .free then s else s.answerHomeless ⟨e.1, t.1, k⟩ home) s) s) s

/-- A node fails (R431, R433): it issues nothing more, its lanes are silent, packets in flight to it are lost, and the requests its crook
held are answered. -/
def State.failNode (s : State) (n : Nat) : State :=
  if (s.node n).failed then s
  else
    let s1 := (s.modNode n (fun x => { x with failed := true, silent := true })).forgetNode n
    ({ s1 with packets := s1.packets.filter (fun p => p.dest.node != n) }).answerAll n

/-- `LANE_SILENCE` (R431). -/
def execLaneSilence (n : Nat) (s : State) : Out := .next (s.failNode n)

/-- `THERMAL_TRIP` (R435): KIND 7 is logged, and the node fails. -/
def execThermalTrip (n : Nat) (s : State) : Out := .next ((s.rasLog n 7 ⟨0, 0, 0⟩ 0 0).failNode n)

/-- `POWER_LOSS` (R431). -/
def execPowerLoss (n : Nat) (s : State) : Out := .next (s.failNode n)

/-- Whether a message is under way to or on a node: a flit, or a line of one of its tiles. -/
def Event.flitOf (e : Event) (n : Nat) : Bool :=
  match e with
  | .linkFlitReceive m _ _ => m == n
  | .interruptPending t _ => t.node == n
  | _ => false

/-- What a module keeps across a reset (Table 0.2): error counters, retired marks, fallow mapping, parity shares, firmware. -/
def Node.acrossReset (x : Node) : Node :=
  { Node.reset with
    tickBase := x.served, shares := x.shares
    units := x.units, replaced := x.replaced, fbank := x.fbank, ftile := x.ftile, flane := x.flane
    fallowRows := x.fallowRows, laneFails := x.laneFails, fwHash := x.fwHash, fwVersion := x.fwVersion
    tiles := (x.tiles.filter (fun t => !t.2.banksRetired.isEmpty || t.2.columnsRetired != 0)).map (fun t =>
      (t.1, { Tile.reset with banksRetired := t.2.banksRetired, columnsRetired := t.2.columnsRetired })) }

/-- `RESET` (R10): every register of a node takes its reset value, but what lasts until the module is replaced (R4); its bytes of SRAM stay
as they are (log entry 9). Instruction memory, spill memory, tile registers and port memory read as after reset, and both ends of
its bundles begin anew. -/
def execReset (n : Nat) (s0 : State) : Out :=
  let s := s0.forgetNode n
  .next { s with
    nodes := spPut ((spDel s.nodes n).map (fun e => match bundleTo e.1 n with
      | some b => (e.1, { e.2 with links := spDel e.2.links b })
      | none => e)) n (s.node n).acrossReset
    mem := s.mem.filter (fun c => c.1 / 2 ^ 32 % 4096 != n || decide (c.1 / 2 ^ 44 = 0))
    poison := s.poison.filter (fun k => k / 2 ^ 32 % 4096 != n || decide (k / 2 ^ 44 = 0))
    tainted := s.tainted.filter (fun x => x.2.node != n)
    net := s.net.filter (fun e => !e.flitOf n)
    packets := s.packets.filter (fun p => p.dest.node != n || p.transit) }

end Sys2Proof.Machine
end

