-- ==== Sys2Proof/Machine/Save.lean ====
section
/-! DEFINITION. Pre-emption and context save (spec/14 R377 to R398): the commands of `PSCTL`, the halt, quiesce, the context and tile records,
and resumption in place or from another tile. -/

namespace Sys2Proof.Machine

/-! Commands -/

/-- The fields of a command (Table 14.1). -/
def cmdOp (w : Word) : Nat := wfld w 62 2
def cmdTile (w : Word) : Bool := w.getLsbD 61
def cmdCkpt (w : Word) : Bool := w.getLsbD 60
def cmdCtx (w : Word) : BitVec 8 := BitVec.ofNat 8 (wfld w 48 8)
def cmdSrct (w : Word) : Nat := wfld w 40 8

/-- The bits of `PSSTAT` (Table 14.2). -/
def psBusy : Word := 0x8000000000000000
def psDone : Word := 0x4000000000000000
def psErr : Word := 0x2000000000000000
def psUef : Word := 0x1000000000000000

/-- Whether a slot holds a valid context record. -/
def Tile.savedBit (t : Tile) (k : Nat) : Bool := t.psstat.getLsbD (48 + k)

/-- Whether a context can be named by a save: its slot is neither Free nor Saved. The slot of a task that has ended counts as Free. -/
def Ctx.savable (c : Ctx) : Bool := c.st == .ready || c.st == .running || c.st == .waiting

/-- The slots of a mask. -/
def maskSlots (m : BitVec 8) : List Nat := (List.range 8).filter (fun k => m.getLsbD k)

/-- A refused command (R377). -/
def State.cmdErr (s : State) (t : TileRef) : State := s.modTile t (fun x => { x with psstat := x.psstat ||| psErr })

/-- A save command is accepted or refused (R377, R378). -/
def State.beginSave (s : State) (r : TileRef) (w : Word) : State :=
  let t := s.tile r
  let named := cmdCtx w
  let live := fun k => (t.ctx k).savable
  let bad := if cmdTile w then (List.range 8).any (fun k => live k && !named.getLsbD k) else (maskSlots named).any (fun k => !live k)
  if bad then s.cmdErr r
  else
    let slots := (maskSlots named).filter live
    let m := slots.foldl (fun m k => m ||| (1#8 <<< k)) (0 : BitVec 8)
    s.modTile r (fun t => { t with
      psstat := setFld (t.psstat ||| psBusy) 16 16 0
      save := some ⟨w, m, t.wall, if slots.isEmpty then some t.wall else none⟩ })

/-! The halt -/

/-- The passes of the active operation that have begun by now, the one in progress included (R386). -/
def State.passesBy (s : State) (r : TileRef) (o : ActiveOp) : Nat :=
  let t := s.tile r
  let bits := ((elemFmt o.fmts o.fmt).map ElemFmt.bits).getD 8
  let z := if o.kind = 2 ∧ (setReg t.active .mctl).getLsbD 5 = true ∧ o.passes = 0 then 32 else 0
  let f := s.throttle r
  min (setPasses t.active) (o.passes + ((t.wall - o.start - z) * 2 * f) / (8 * passRate o.kind.toNat o.fmt bits) + 1)

/-- The engine stops at its next pass boundary (R386); one that meets an error there completes with it. -/
def State.haltEngine (s : State) (r : TileRef) : State :=
  match (s.tile r).op with
  | none => s
  | some o =>
    if o.halted || o.err != 0 then s
    else
      let p := if s.engineFree r o then s.passesBy r o else o.passes
      let x := s.runEngine r o none p
      if x.2.2.1 ≠ 0 then s.modTile r (fun t => { t with op := some { o with finish := min o.finish t.wall } })
      else x.1.modTile r (fun t => { t with op := some { o with passes := p, flags := x.2.2.2, halted := true } })

/-- The request of a save reaches its tile (R378, R393): contexts that do not run halt, and the running one has `PREEMPT` pending. -/
def State.preempt (s : State) (r : TileRef) : State :=
  match (s.tile r).save with
  | none => s
  | some o =>
    let s1 := if cmdTile o.word then s.haltEngine r else s
    (maskSlots o.toHalt).foldl (fun s k =>
      let me : CtxRef := ⟨r.node, r.tile, k⟩
      match (s.ctx me).st with
      | .ready => s.haltCtx me 1
      | .waiting => s.haltCtx me 2
      | .running => s.modCtx me (fun c => { c with preempt := true })
      | _ => s.modTile r (fun t => t.haltDone k)) s1

/-- `PREEMPT_HALT` (R378). -/
def execPreemptHalt (t : TileRef) (s : State) : Out := .next (s.preempt t)

/-- `NESTED_LANDING_LOST` (R381): a handler's landing that has not arrived within 16,384 wall cycles of the halt. -/
def execNestedLandingLost (c : CtxRef) (k : Nat) (s : State) : Out :=
  let x := s.ctx c
  .next (match x.entering with
    | some (_, w) =>
      if x.nest && w + 16384 ≤ (s.tile (tileOf c)).wall && x.landings.any (fun l => l.id == k && !l.settled) then
        s.modCtx c (fun x =>
          { x.modLanding k (fun l => { l with value := some 0, arrive := some w }) with hlost := true })
      else s
    | none => s)

/-! Quiesce -/

/-- The copies and the transfers of a context in its tile's units. -/
def Tile.copyJobs (t : Tile) (k : Nat) : List CopyJob := t.copies.filter (fun j => j.slot == k && j.serial == (t.ctx k).serial)
def Tile.foldJobs (t : Tile) (k : Nat) : List FoldJob := t.fold.filter (fun j => j.slot == k && j.serial == (t.ctx k).serial)

/-- Whether a halted context is quiet (R383 to R385, R189, R381). -/
def Tile.quiet (t : Tile) (k : Nat) : Bool :=
  let c := t.ctx k
  c.queue.isEmpty && c.landings.all Landing.settled && c.late.all (fun f => f.arrived)
    && (t.copyJobs k).all CopyJob.rests && (t.foldJobs k).all (fun j => !j.finished && (!t.goesOn j || t.stopped j || t.forkHeld j))

/-- The slots whose records a save writes. -/
def Tile.saveSlots (t : Tile) (o : SaveOp) : List Nat :=
  (maskSlots (cmdCtx o.word)).filter (fun k => (t.ctx k).st == .saved && !t.savedBit k)

/-- Whether a save may complete: every context it names is halted and quiet, and the engine has stopped where it stops it. -/
def Tile.saveReady (t : Tile) : Bool :=
  match t.save with
  | none => false
  | some o => o.toHalt == 0 && (t.saveSlots o).all t.quiet

/-! The context record (Table 14.4) -/

/-- A pointer as a record keeps it: one to the tile's own SRAM names the tile (R389). -/
def recordPtr (tile : Nat) (p : Word) : Word := if winOf p = 0 then BitVec.ofNat 64 (2 ^ 61 + tile * 2 ^ 32 + ptrOff p) else p

/-- A copy's remaining descriptor (Table 14.5). -/
def CopyDesc.remaining (d : CopyDesc) (tile : Nat) : List Word :=
  let n := d.rowsDone
  let src := if d.mode = 2 then d.src else ptrPlus d.src (d.sstr * (n : Int))
  let dst := if d.mode = 1 then d.dst + BitVec.ofNat 64 (n * d.es) else ptrPlus d.dst (d.dstr * (n : Int))
  [recordPtr tile src, recordPtr tile dst, setFld d.strides 48 16 (wfld d.strides 48 16 - n),
    (if d.mode = 2 then setFld d.ctl 32 24 (d.idx + 4 * n) else d.ctl) ||| 0x8000000000000000]

/-- The number and the object of a wait (Table 14.4 WAIT and WOBJ). -/
def Wait.code : Wait → Nat × Word
  | .none => (0, 0)
  | .stream s => (1, BitVec.ofNat 64 s)
  | .output s => (2, BitVec.ofNat 64 s)
  | .barrier b => (3, BitVec.ofNat 64 b)
  | .group c _ => (4, BitVec.ofNat 64 c)
  | .lock n _ => (5, n)
  | .join => (6, 0)
  | .shadow => (7, 0)
  | .codebook => (8, 0)
  | .told _ _ => (0, 0)

/-- The current and open packets (Table 14.4). -/
def packetWords (m : Sparse Nat) : List Byte :=
  (List.range 32).flatMap (fun st => natToBytes 2 (match m.find? (fun e => e.1 == st) with
    | some e => 0x8000 + e.2 % 64
    | none => 0))

/-- The lock set (Table 14.4). -/
def lockWords (ls : List LockEntry) : List Byte :=
  wordsBytes ((ls.take 32).flatMap (fun e =>
    [e.name, BitVec.ofNat 64 (2 ^ 63 + (if e.pending then 2 ^ 62 else 0) + modeCode e.mode * 2 ^ 59)]))

/-- Bytes brought to a length. -/
def padTo (n : Nat) (bs : List Byte) : List Byte := (bs ++ List.replicate (n - bs.length) 0).take n

/-- Latch entries as a record holds them. -/
def latchWords (q : Vector (Option Word) 4) : List Word := q.toList.map (fun x => x.getD 0)

/-- The bytes of a context record (Table 14.4); `state` is its STATE, `copies` its copy records. Nested fields are zero without
NEST. -/
def Tile.contextRecord (t : Tile) (slot state : Nat) (copies : List Word) : List Byte :=
  let c := t.ctx slot
  let w := c.wait.code
  let bit := fun (b : Bool) (i : Nat) => if b then 2 ^ i else 0
  let nest := fun (ws : List Word) => if c.nest then ws else ws.map (fun _ => 0)
  let head := [BitVec.ofNat 64 (2 ^ 63 + bit c.nest 62 + bit c.hlost 61 + state * 2 ^ 56 + w.1 * 2 ^ 48
      + (if c.nest then c.pc.toNat * 2 ^ 36 else 0) + c.buse.toNat),
    BitVec.ofNat 64 (c.tree.toNat * 2 ^ 32 + c.jcnt % 65536), BitVec.ofNat 64 (c.tick % 2 ^ 56), BitVec.ofNat 64 (c.serial % 2 ^ 48),
    w.2, BitVec.ofNat 64 (c.done.toNat * 2 ^ 48 + c.err.toNat * 2 ^ 44),
    c.xstat, c.xcause, c.xpc, c.xprog, c.xaddr, c.xvec, c.xctl, c.sbase, c.slim, c.fflags] ++ c.tshape.toList
  let written := natToBytes 16 (c.wa.toNat + c.wm.toNat * 2 ^ 32 + c.we.toNat * 2 ^ 64 + c.wv.toNat * 2 ^ 80 + c.wp.toNat * 2 ^ 112
    + c.wk.toNat * 2 ^ 120)
  let preds := wordBytes ((c.p ||| 1).setWidth 64)
  padTo 0x118 (wordsBytes head ++ written ++ preds)
    ++ padTo 0x28 (wordsBytes (nest c.lc.toList))
    ++ (List.range 8).flatMap (fun k => natToBytes 16 (c.mask k).toNat)
    ++ padTo 0x200 (lockWords c.locks) ++ packetWords c.cur ++ packetWords c.opn
    ++ wordsBytes c.a.toList ++ wordsBytes c.m.toList ++ wordsBytes c.e.toList
    ++ padTo 0x200 (wordsBytes copies)
    ++ wordsBytes (nest (latchWords c.qa ++ latchWords c.qm ++ latchWords c.qe))
    ++ padTo 0x60 (wordBytes (if c.nest then BitVec.ofNat 64 c.latv else 0))
    ++ padTo 0x680 ((List.range 4).flatMap (fun k => if c.nest then vecBytes (((c.qv[k]?).getD none).getD 0) else List.replicate 128 0))
    ++ c.v.toList.flatMap vecBytes

/-! Checkpoints (R393, R394) -/

/-- The checkpoint entry of a bundle (Table 14.7). -/
def State.checkpoint (s : State) (r : TileRef) (pc : Nat) : Option (List Word) :=
  ((List.range 1024).map (fun i => (List.range 4).map (fun j => s.readWord .sram r (ckptBase + 32 * i + 8 * j)))).find? (fun e =>
    let d := e.headD 0
    d.getLsbD 63 && wfld d 32 12 == pc)

/-- Registers, predicates and masks that an entry marks dead: zero, and unwritten. -/
def Ctx.deaden (c : Ctx) (e : List Word) : Ctx :=
  let d := fun i => e.getD i 0
  let la : BitVec 32 := (d 0).setWidth 32
  let lm : BitVec 32 := BitVec.ofNat 32 (wfld (d 1) 32 32)
  let lv : BitVec 32 := (d 1).setWidth 32
  let le : BitVec 16 := BitVec.ofNat 16 (wfld (d 2) 48 16)
  let lp : BitVec 8 := BitVec.ofNat 8 (wfld (d 2) 40 8)
  let lk : BitVec 8 := BitVec.ofNat 8 (wfld (d 2) 32 8)
  { c with
    a := Vector.ofFn (fun (i : Fin 32) => if la.getLsbD i then c.a[i] else 0)
    m := Vector.ofFn (fun (i : Fin 32) => if lm.getLsbD i then c.m[i] else 0)
    e := Vector.ofFn (fun (i : Fin 16) => if le.getLsbD i then c.e[i] else 0)
    v := Vector.ofFn (fun (i : Fin 32) => if lv.getLsbD i then c.v[i] else 0)
    k := Vector.ofFn (fun (i : Fin 8) => if lk.getLsbD i then c.k[i] else 0)
    p := c.p &&& lp
    wa := c.wa &&& la
    wm := c.wm &&& lm
    we := c.we &&& le
    wv := c.wv &&& lv
    wp := c.wp &&& lp
    wk := c.wk &&& lk }

/-- Tile registers and spill dwords that an entry marks dead, zeroed in a context's own memories: spill dwords from index LSP on,
but for the frame. -/
def State.deadenMemory (s : State) (r : CtxRef) (e : List Word) : State :=
  let t := s.tile (tileOf r)
  let lt := wfld (e.getD 2 0) 16 16
  let lsp := wfld (e.getD 2 0) 0 16
  let s1 := (List.range t.tregShare).foldl (fun s n =>
    if lt.testBit n then s else s.zeroBytes .treg (tileOf r) (t.tregOff r.slot n 0) 0x4000) s
  let n := t.spillShare - 512
  if n ≤ 8 * lsp then s1 else s1.zeroBytes .spill (tileOf r) (t.spillOff r.slot (8 * lsp)) (n - 8 * lsp)

/-! Writing the records -/

/-- The kind 0x5 records of a context's stopped transfers (R385). -/
def FoldJob.stopRecord (j : FoldJob) : Record := ⟨5, 0, 0, false, 0, 0, j.req.word, foldProg j.req.fn 0 j.req.rowsDone, none, default, j.seq⟩

/-- Items that reached a halted context go to its frame (R186, R383): those of an interrupted schedule, a nested context's own apart. -/
def State.deferAll (s : State) (r : CtxRef) : State :=
  let c := s.ctx r
  let mine := fun (f : LateFault) => c.nest && decide (c.trapSeq ≤ f.seq / 256)
  let items := c.late.filter (fun f => !mine f) ++ (match c.request with
    | some (k, fpc, seq) => if c.nest then [] else [(⟨k, some fpc, .a, 0, 0, seq, none, true, none, false⟩ : LateFault)]
    | none => [])
  items.foldl (fun s f => s.deferItem r (if c.nest then wfld c.xpc 0 12 else c.pc.toNat) f) (s.modCtx r (fun c =>
    { c with late := c.late.filter mine, request := if c.nest then c.request else none }))

/-- The frame of a halted context completed (R378): with the records of its landings, its transfers and the accesses that faulted. -/
def State.closeFrame (s : State) (r : CtxRef) : State :=
  let t := s.tile (tileOf r)
  let c := t.ctx r.slot
  let stops := (t.foldJobs r.slot).map FoldJob.stopRecord
  let held := ((t.foldJobs r.slot).filter (fun j => j.req.fn == 1)).map (fun j => j.req)
  let s0 := s.modTile (tileOf r) (fun t =>
    ({ t.modCtx r.slot (fun c => { c with foldHeld := c.foldHeld ++ held }) with
      fold := t.fold.filter (fun j => !(j.slot == r.slot && j.serial == c.serial)) }).settlePend)
  if c.nest then
    let s1 := s0.modTile (tileOf r) (fun t => (t.ctx r.slot).landings.foldl (fun t l =>
      if l.arrive.isSome && !l.faulted then t.complete r.slot { l.result with pushes := false } else t) t)
    let s2 := s1.modCtx r (fun c => { c with landings := [] })
    (stops.foldl (fun s x => s.appendRecord r x) s2).deferAll r
  else if c.entering.isNone then s0
  else
    let s1 := s0.modCtx r (fun c => { c.storeLate with capture := c.storeLate.capture ++ stops })
    let c1 := s1.ctx r
    let all := c1.capture ++ c1.waitedRecords
    let w := s1.writeFrame r 0x70 (BitVec.ofNat 64 (c1.pc.toNat * 2 ^ 16 + c1.pc.toNat)) c1.waitEnd
    let s2 := (w.1.modCtx r (fun c => { c.emptyLatches with
      lc := Vector.replicate 4 0, landings := [], capture := [], deferSeq := [], waitEnd := false })).deferAll r
    if 212 < all.length ∨ 48 < (all.filter (fun x => x.pay.isSome)).length then s2.doubleTrap r else s2

/-- A dword of a context record. -/
def State.recWord (s : State) (r : CtxRef) (off : Nat) : Word := s.readWord .sram (tileOf r) (ctxRecBase r.slot + off)

/-- Dwords of a context record. -/
def State.recWords (s : State) (r : CtxRef) (off n : Nat) : List Word :=
  let bs := s.slice .sram (tileOf r) (ctxRecBase r.slot + off) (8 * n)
  (List.range n).map (fun i => bytesWord ((bs.drop (8 * i)).take 8))

/-- The fields of a context record that other agents change while the context is saved: WAIT and BUSE, TREE and JCNT, TICK, PSEQ, WOBJ,
the lock set, the packets. -/
def State.recShared (s : State) (r : CtxRef) : List Word :=
  (s.recWord r 0 &&& 0x00FF0000FFFFFFFF) :: (s.recWords r 0x008 3 ++ s.recWords r 0x020 1 ++ s.recWords r 0x1C0 80)

/-- Whether the register part of a saved context is poisoned (R397): its record, its extension area, or its frame. -/
def State.recordPoisoned (s : State) (r : CtxRef) : Bool :=
  let t := tileOf r
  let sh := (s.tile t).spillShare
  s.poisonIn .sram t (ctxRecBase r.slot) 0x2000 || s.poisonIn .sram t (extBase r.slot) 0x4000
    || s.poisonIn .sram t (spillImage r.slot sh + sh - 512) 512

/-- Whether its scratch part is. -/
def State.scratchPoisoned (s : State) (r : CtxRef) : Bool :=
  let t := s.tile (tileOf r)
  s.poisonIn .sram (tileOf r) (spillImage r.slot t.spillShare) (t.spillShare - 512)
    || s.poisonIn .sram (tileOf r) (tregImage r.slot 0 t.nsl) (t.tregShare * 0x4000)

/-- The parts of a record that are in error are marked (R397, Tables 14.2 and 14.4): in its first dword, and in `PSSTAT`. -/
def State.markPoison (s : State) (r : CtxRef) (reg scr : Bool) : State :=
  let bit := fun (b : Bool) (i : Nat) => if b then 1#64 <<< i else 0#64
  (s.writeWord .sram (tileOf r) (ctxRecBase r.slot) ((s.recWord r 0 &&& 0xE7FFFFFFFFFFFFFF) ||| bit reg 60 ||| bit scr 59)).modTile
    (tileOf r) (fun t => { t with psstat :=
      (t.psstat &&& ~~~(0x0000000101000000#64 <<< (8 + r.slot))) ||| bit reg (40 + r.slot) ||| bit scr (32 + r.slot)
        ||| (if reg || scr then psUef else 0) })

/-- One context saved (R384, R388, R397, Table 14.3): frame, copy records, context record, spill image and tile registers; a register
in error makes the record's register part an error (R424). -/
def State.saveCtx (s : State) (r : CtxRef) (ckpt : Bool) : State :=
  let s0 := s.closeFrame r
  let t := s0.tile (tileOf r)
  let c := t.ctx r.slot
  let copies := ((t.copyJobs r.slot).map (fun j => j.desc.remaining r.tile)).flatten
    ++ ((c.resume.getD []).map (fun d => d.remaining r.tile)).flatten
  let state := wfld (s0.readWord .sram (tileOf r) (ctxRecBase r.slot)) 56 3
  let s1 := match (if ckpt then s0.checkpoint (tileOf r) c.pc.toNat else none) with
    | some e => (s0.deadenMemory r e).modCtx r (fun c => c.deaden e)
    | none => s0
  let t1 := s1.tile (tileOf r)
  let s2 := (s1.placeBytes .sram (tileOf r) (ctxRecBase r.slot) (t1.contextRecord r.slot state (copies.take 64))).healWhole
    .sram (tileOf r) (ctxRecBase r.slot) 0x2000
  let s3 := s2.moveBytes (memKey .spill (tileOf r) (t.spillOff r.slot 0)) (memKey .sram (tileOf r) (spillImage r.slot t.spillShare))
    t.spillShare
  let s4 := s3.moveBytes (memKey .treg (tileOf r) (t.tregOff r.slot 0 0)) (memKey .sram (tileOf r) (tregImage r.slot 0 t.nsl))
    (t.tregShare * 0x4000)
  let s5 := s4.markPoison r (s4.recordPoisoned r || !c.bad.isEmpty) (s4.scratchPoisoned r)
  s5.modTile (tileOf r) (fun t =>
    { t.modCtx r.slot (fun c => { c with
        entering := none, resume := none, capture := [], foldStop := false, fflags := 0, asSaved := s5.recShared r }) with
      copies := t.copies.filter (fun j => !(j.slot == r.slot && j.serial == c.serial))
      psstat := t.psstat ||| (1#64 <<< (48 + r.slot)) })

/-! The tile record (Table 14.6) -/

/-- A descriptor of the deque as the record holds it. -/
def DequeEntry.words (e : DequeEntry) : List Word := [e.d0, e.d1, e.d2, e.d3]

/-- An entry of the view table as the record holds it: DESIGN CHOICE (log entry 15), the spec gives its size only. -/
def View.words (v : View) : List Word :=
  let bit := fun (b : Bool) (i : Nat) => if b then 2 ^ i else 0
  [BitVec.ofNat 64 (bit v.opened 63 + bit v.wr 62 + bit v.cut 61 + v.tag.toNat),
   BitVec.ofNat 64 (v.head.toNat * 2 ^ 30 + v.layer.toNat * 2 ^ 22 + v.seqId.toNat), v.tree.setWidth 64,
   BitVec.ofNat 64 (v.pend % 2 ^ 32 * 2 ^ 32 + v.ef % 2 ^ 32)]
def View.ofWords (ws : List Word) : View :=
  let d := fun (i : Nat) => ws.getD i 0
  ⟨(d 0).getLsbD 63, (d 0).setWidth 19, (d 1).setWidth 22, BitVec.ofNat 8 (wfld (d 1) 22 8), BitVec.ofNat 8 (wfld (d 1) 30 8), (d 0).getLsbD 62,
    (d 2).setWidth 32, wfld (d 3) 0 32, wfld (d 3) 32 32, (d 0).getLsbD 61⟩

/-- The dwords of the tile record's parts: offset and values. -/
def Tile.recordParts (t : Tile) (passes : Nat) : List (Nat × List Word) :=
  [(0x0000, [0x8000000000000000]), (0x0020, t.rng.toList),
   (0x0040, t.fmt.toList ++ t.ftab.toList ++ [t.ftctl] ++ t.cbctl.toList),
   (0x0200, t.active.toList), (0x0290, t.shadow.toList), (0x0318, [BitVec.ofNat 64 passes]),
   (0x0320, [t.mstat 8 &&& 0x00000FFFFFFFFFFF]),
   (0x0400, t.barriers.toList.flatMap (fun b => [BitVec.ofNat 64 ((if b.ovf then 2 ^ 32 else 0) + b.count.toNat), b.cfg])),
   (0x0600, t.deque.flatMap DequeEntry.words), (0x0E00, [0, BitVec.ofNat 64 t.deque.length]),
   (0x1000, t.views.toList.flatMap View.words),
   (0x1400, t.ins.toList.flatMap (fun x => [x.dword1, x.dword2])), (0x1600, t.outs.toList.map OutStream.dword1),
   (0x1700, t.port.toList),
   (0x2000, (List.range 1024).map (fun i => spGet 0 t.cbEntry i)),
   (0x4000, (List.range 16).map (fun i => BitVec.ofNat 64 ((List.range 64).foldl (fun m j =>
     if t.cbValid.contains (64 * i + j) then m + 2 ^ j else m) 0)))]

/-- Dwords of the tile record. -/
def State.tileWords (s : State) (r : TileRef) (off n : Nat) : List Word :=
  let bs := s.slice .sram r (saveBase + off) (8 * n)
  (List.range n).map (fun i => bytesWord ((bs.drop (8 * i)).take 8))

/-- The parts of the tile record that other agents change while the tile is saved: `MSTAT`, deque, view table, output dwords 1. -/
def State.tileShared (s : State) (r : TileRef) : List Word :=
  s.tileWords r 0x320 1 ++ s.tileWords r 0x600 258 ++ s.tileWords r 0x1000 128 ++ s.tileWords r 0x1600 32

/-- The poisoned units of a tile's port memory. -/
def Tile.portBadUnits (t : Tile) : List Nat :=
  t.ins.toList.flatMap (fun x => x.bufs.zipIdx.flatMap (fun b => b.1.poison.map (fun u => x.place b.2 + unitPlace u)))
    ++ t.outs.toList.flatMap (fun x => x.poison.map (fun p => x.place p.1 + unitPlace p.2))

/-- A saved context whose register part is poisoned cannot resume (R397): its tree is cancelled, with a notice. -/
def State.condemn (s : State) (r : CtxRef) (reason : Nat) : State :=
  let c := s.ctx r
  ((s.markPoison r true ((s.recWord r 0).getLsbD 59)).notice c.tree reason r).send (.treeCancel r.node c.tree)

/-- Every saved context of a tile treated so (R397). -/
def State.condemnTile (s : State) (r : TileRef) : State :=
  ((List.range 8).filter (fun k => (s.tile r).savedBit k)).foldl (fun s k => s.condemn ⟨r.node, r.tile, k⟩ 3) s

/-- The port memory image written (R390); its poison is the image's, and condemns the saved contexts of the tile (R397). -/
def State.savePort (s : State) (r : TileRef) : State :=
  let s1 := s.moveBytes (memKey .port r 0) (memKey .sram r portImage) 0x40000
  let bad := (s.tile r).portBadUnits
  if bad.isEmpty then s1
  else ((bad.foldl (fun s u => s.spoilRange .sram r (portImage + u) 8) s1).modTile r (fun t =>
    { t with psstat := t.psstat ||| psUef })).condemnTile r

/-- The tile's shared state saved (R386, R390): tile record, weights, accumulators, port image. -/
def State.saveTile (s : State) (r : TileRef) : State :=
  let t := s.tile r
  let passes := (t.op.map (fun o => o.passes)).getD 0
  let s1 := (t.recordParts passes).foldl (fun s p => s.placeBytes .sram r (saveBase + p.1) (wordsBytes p.2)) s
  let s3 := s1.placeBytes .sram r weightImage ((spRange (0 : BitVec 16) t.weights 0 16384).flatMap (fun w => natToBytes 2 w.toNat))
  let s4 := s3.placeBytes .sram r accImage (wordsBytes (spRange (0 : Word) t.acc 0 32768))
  let s5 := s4.savePort r
  let s6 := [(saveBase, 0x1800), (saveBase + 0x2000, 0x2080), (weightImage, 0x8000), (accImage, 0x40000)].foldl (fun s p =>
    s.healWhole .sram r p.1 p.2) s5
  s6.modTile r (fun t => { t with asSaved := s6.tileShared r })

/-- THE SAVE COMPLETES (R396): the records are written, and DONE is set. -/
def State.completeSave (s : State) (r : TileRef) : State :=
  match (s.tile r).save with
  | none => s
  | some o =>
    if !(s.tile r).saveReady then s
    else
      let s0 := if cmdTile o.word then s.haltEngine r else s
      if cmdTile o.word && (match (s0.tile r).op with
        | some a => !a.halted
        | none => false) then s0
      else
        let s1 := ((s0.tile r).saveSlots o).foldl (fun s k => s.saveCtx ⟨r.node, r.tile, k⟩ (cmdCkpt o.word)) s0
        let s2 := if cmdTile o.word then s1.saveTile r else s1
        s2.modTile r (fun t => { t with
          save := none
          psstat := setFld ((t.psstat &&& ~~~psBusy) ||| psDone) 0 16 (min 0xFFFF ((t.wall - o.accepted) / 16)) })

/-- `SAVE_COMPLETE` (R396). -/
def execSaveComplete (t : TileRef) (s : State) : Out := .next (s.completeSave t)

/-! Reading the records back -/

/-- The wait of a record's WAIT and WOBJ (Table 14.4); one that they name as it stands keeps what the record does not hold. -/
def Wait.ofCode (old : Wait) (k : Nat) (w : Word) : Wait :=
  if old.code = (k, w) then old
  else match k with
    | 1 => .stream (w.toNat % 32)
    | 2 => .output (w.toNat % 32)
    | 3 => .barrier (w.toNat % 32)
    | 4 => .group w.toNat 0
    | 5 => .lock w .drop
    | 6 => .join
    | 7 => .shadow
    | 8 => .codebook
    | _ => .none

/-- The packets of a record (Table 14.4). -/
def packetsOf (bs : List Byte) : Sparse Nat :=
  (List.range 32).filterMap (fun st =>
    let v := bytesToNat ((bs.drop (2 * st)).take 2)
    if 0x8000 ≤ v then some (st, v % 64) else none)

/-- The fields of a record that other agents change: where the record is as it was written they stand as those have left them, and one
that has been edited gives them (R391, log entry 16). -/
def State.readShared (s : State) (r : CtxRef) (c : Ctx) : Ctx :=
  let ws := s.recShared r
  if ws = c.asSaved then c
  else
    let d := fun (i : Nat) => ws.getD i 0
    { c with
      buse := (d 0).setWidth 32
      wait := c.wait.ofCode (wfld (d 0) 48 8) (d 4)
      tree := BitVec.ofNat 32 (wfld (d 1) 32 32), jcnt := wfld (d 1) 0 16, tick := wfld (d 2) 0 56, serial := wfld (d 3) 0 48
      locks := (List.range 32).filterMap (fun i =>
        let x := d (6 + 2 * i)
        if x.getLsbD 63 then some ⟨d (5 + 2 * i), modeOfCode (wfld x 59 3), x.getLsbD 62⟩ else none)
      cur := packetsOf (wordsBytes ((ws.drop 69).take 8)), opn := packetsOf (wordsBytes ((ws.drop 77).take 8)) }

/-- The registers of a context read back from its record. -/
def State.readBack (s : State) (r : CtxRef) (c0 : Ctx) : Ctx :=
  let c := s.readShared r c0
  let w := s.recWord r
  let ws := s.recWords r
  let as := ws 0x440 32
  let ms := ws 0x540 32
  let es := ws 0x640 16
  let ts := ws 0x80 16
  let vs := s.slice .sram (tileOf r) (ctxRecBase r.slot + 0x1000) 4096
  let ks := s.slice .sram (tileOf r) (ctxRecBase r.slot + 0x140) 128
  let wr := bytesToNat (s.slice .sram (tileOf r) (ctxRecBase r.slot + 0x100) 16)
  { c with
    xstat := w 0x30, xcause := w 0x38, xpc := w 0x40, xprog := w 0x48, xaddr := w 0x50, xvec := w 0x58, xctl := w 0x60
    sbase := w 0x68, slim := w 0x70, fflags := w 0x78
    done := BitVec.ofNat 16 (wfld (w 0x28) 48 16), err := BitVec.ofNat 4 (wfld (w 0x28) 44 4), bad := []
    tshape := Vector.ofFn (fun (i : Fin 16) => ts.getD i 0)
    wa := BitVec.ofNat 32 wr, wm := BitVec.ofNat 32 (wr / 2 ^ 32), we := BitVec.ofNat 16 (wr / 2 ^ 64)
    wv := BitVec.ofNat 32 (wr / 2 ^ 80), wp := BitVec.ofNat 8 (wr / 2 ^ 112), wk := BitVec.ofNat 8 (wr / 2 ^ 120)
    p := (w 0x110).setWidth 8
    k := Vector.ofFn (fun (i : Fin 8) => BitVec.ofNat 128 (bytesToNat ((ks.drop (16 * i)).take 16)))
    a := Vector.ofFn (fun (i : Fin 32) => as.getD i 0)
    m := Vector.ofFn (fun (i : Fin 32) => ms.getD i 0)
    e := Vector.ofFn (fun (i : Fin 16) => es.getD i 0)
    v := Vector.ofFn (fun (i : Fin 32) => bytesVec ((vs.drop (128 * i)).take 128)) }

/-- The copies of a record (Table 14.5), at the level of their task. -/
def State.copyRecords (s : State) (r : CtxRef) (lvl : Nat) : List CopyDesc :=
  ((List.range 16).map (fun i => s.recWords r (0x6C0 + 32 * i) 4)).filterMap (fun ws =>
    if (ws.getD 3 0).getLsbD 63 then
      some ⟨ws.getD 0 0, ws.getD 1 0, ws.getD 2 0, ws.getD 3 0 &&& 0x7FFFFFFFFFFFFFFF, 0, lvl⟩
    else none)

/-- The nested state of a record (R381, R391): the handler goes on at HPC. -/
def State.readNested (s : State) (r : CtxRef) (c : Ctx) : Ctx :=
  let ws := s.recWords r 0x8C0 12
  let lat := s.recWord r 0x920
  let q := fun (base bit k : Nat) => if lat.getLsbD (bit + k) then some (ws.getD (base + k) 0) else none
  let qv := fun (k : Nat) => if lat.getLsbD (4 + k) then
      some (bytesVec (s.slice .sram (tileOf r) (ctxRecBase r.slot + 0x980 + 128 * k) 128)) else none
  { c with
    qa := #v[q 0 0 0, q 0 0 1, q 0 0 2, q 0 0 3]
    qm := #v[q 4 8 0, q 4 8 1, q 4 8 2, q 4 8 3]
    qe := #v[q 8 12 0, q 8 12 1, q 8 12 2, q 8 12 3]
    qv := #v[qv 0, qv 1, qv 2, qv 3]
    lc := #v[s.recWord r 0x118, s.recWord r 0x120, s.recWord r 0x128, s.recWord r 0x130]
    pc := BitVec.ofNat 12 (wfld (s.recWord r 0) 36 12) }

/-- A saved context resumes in its slot (R391): its registers, spill share and tile registers are restored, and it is Ready; its frame
follows at its first selection. A nested one goes on in its handler, or in the wait its handler had reached. -/
def State.resumeCtx (s : State) (r : CtxRef) : State :=
  let t := s.tile (tileOf r)
  let nest := (s.recWord r 0).getLsbD 62
  let s1 := s.moveBytes (memKey .sram (tileOf r) (spillImage r.slot t.spillShare)) (memKey .spill (tileOf r) (t.spillOff r.slot 0))
    t.spillShare
  let s2 := s1.moveBytes (memKey .sram (tileOf r) (tregImage r.slot 0 t.nsl)) (memKey .treg (tileOf r) (t.tregOff r.slot 0 0))
    (t.tregShare * 0x4000)
  let c := s2.readBack r (s2.ctx r)
  let ds := s2.copyRecords r (wfld c.xstat 0 2)
  let c1 : Ctx :=
    if nest then { s2.readNested r c with st := if c.wait = .none then .ready else .waiting }
    else { c with st := .ready, resume := some ds }
  let s3 := s2.setCtx r { c1 with nest := false, hlost := false, readySince := t.wall + 1 }
  let s4 := if nest then
      ds.foldl (fun s d =>
        let i := s.newId
        i.2.enqueue r ⟨i.1, none, t.restored 0, false, true, false, .copy d, d.lvl⟩) s3
    else s3
  (s4.writeWord .sram (tileOf r) (ctxRecBase r.slot) (s4.recWord r 0 &&& 0x7FFFFFFFFFFFFFFF)).modTile (tileOf r) (fun t =>
    { t with psstat := t.psstat &&& ~~~(1#64 <<< (48 + r.slot)) })

/-- A context resumes, or is condemned; poison of its scratch part comes back with it (R397). -/
def State.tryResume (s : State) (r : CtxRef) : State :=
  if s.recordPoisoned r || (s.recWord r 0).getLsbD 60 then s.condemn r 1
  else (s.markPoison r false (s.scratchPoisoned r)).resumeCtx r

/-! Resuming the tile -/

/-- Sparse data from dense values, those equal to the default left out. -/
def spOf {α : Type} [DecidableEq α] (d : α) (vs : List α) : Sparse α := (vs.zipIdx.filter (fun v => v.1 != d)).map (fun v => (v.2, v.1))

/-- The wall cycles the rest of the active operation takes (R272, R435). -/
def State.restTime (s : State) (r : TileRef) (o : ActiveOp) : Nat :=
  let t := s.tile r
  let bits := ((elemFmt o.fmts o.fmt).map ElemFmt.bits).getD 8
  let f := s.throttle r
  let ctl := setReg t.active .mctl
  ((setPasses t.active - o.passes) * passRate o.kind.toNat o.fmt bits * 8 + 2 * f - 1) / (2 * f)
    + (match o.kind.toNat with
      | 1 => if ctl.getLsbD 24 then 17 else 16
      | 2 => 140
      | _ => 20)

/-- Whether a part of the tile record that nothing covers by a rule of its own is poisoned (R397). -/
def State.tileRecordPoisoned (s : State) (r : TileRef) : Bool :=
  s.poisonIn .sram r saveBase 0x2000 || s.poisonIn .sram r portImage 0x40000

/-- A deque descriptor of a record; one that stands in the deque keeps what the record does not hold. -/
def dequeOf (old : List DequeEntry) (ws : List Word) : DequeEntry :=
  (old.find? (fun e => e.words == ws)).getD ⟨ws.getD 0 0, ws.getD 1 0, ws.getD 2 0, ws.getD 3 0, 0, 0, 0, 0⟩

/-- The parts of the tile record that other agents change, by the same rule as a context's: `MSTAT`'s array and accumulator fields and
shadow state, the deque from head to tail, the view table, the output streams' FREE. -/
def State.readTileShared (s : State) (r : TileRef) (t : Tile) : Tile :=
  let ws := s.tileShared r
  if ws = t.asSaved then t
  else
    let d := fun (i : Nat) => ws.getD i 0
    let m := d 0
    let head := (d 257).toNat % 64
    { t with
      wval := m.getLsbD 29, wtag := BitVec.ofNat 5 (wfld m 24 5), accFloat := BitVec.ofNat 2 (wfld m 16 2)
      shadowSt := match wfld m 6 2, t.shadowSt with
        | 0, _ => .free
        | 1, _ => .filling (wfld m 8 3)
        | _, .ready k a b => if k = wfld m 8 3 then .ready k a b else .ready (wfld m 8 3) a (t.ctx (wfld m 8 3)).serial
        | _, _ => .ready (wfld m 8 3) t.issued (t.ctx (wfld m 8 3)).serial
      deque := ((List.range (min 64 ((d 258).toNat - (d 257).toNat))).map (fun i =>
        dequeOf t.deque ((ws.drop (1 + 4 * ((head + i) % 64))).take 4)))
      views := Vector.ofFn (fun (i : Fin 32) => View.ofWords ((ws.drop (259 + 4 * i)).take 4))
      outs := Vector.ofFn (fun (i : Fin 32) => { t.outs[i] with free := wfld (d (387 + i)) 57 7 }) }

/-- Shared state restored from the tile record (R390, R391, R397). The engine goes on from its recorded pass. -/
def State.resumeTile (s : State) (r : TileRef) : State :=
  let ws := s.tileWords r
  let ctl := ws 0x40 37
  let act := ws 0x200 17
  let sh := ws 0x290 17
  let bar := ws 0x400 64
  let cb := ws 0x2000 1024
  let va := ws 0x4000 16
  let seqs := ws 0x1400 64
  let rng := ws 0x20 4
  let port := ws 0x1700 2
  let wbs := s.slice .sram r weightImage 32768
  let badW := s.poisonIn .sram r weightImage 32768
  let badZ := fun z => s.poisonIn .sram r (accImage + 0x20000 * z) 0x20000
  let badC := s.poisonIn .sram r (saveBase + 0x2000) 0x2080
  let acc := (List.range 2).flatMap (fun z => if badZ z then List.replicate 16384 (0 : Word) else
    (let bs := s.slice .sram r (accImage + 0x20000 * z) 0x20000
     (List.range 16384).map (fun i => bytesWord ((bs.drop (8 * i)).take 8))))
  let s1 := s.moveBytes (memKey .sram r portImage) (memKey .port r 0) 0x40000
  let s2 := s1.modTile r (fun t0 =>
    let t := s1.readTileShared r t0
    { t with
    rng := Vector.ofFn (fun (i : Fin 4) => rng.getD i 0)
    fmt := Vector.ofFn (fun (i : Fin 16) => ctl.getD i 0)
    ftab := Vector.ofFn (fun (i : Fin 16) => ctl.getD (16 + i) 0)
    ftctl := ctl.getD 32 0
    cbctl := Vector.ofFn (fun (i : Fin 4) => ctl.getD (33 + i) 0)
    active := Vector.ofFn (fun (i : Fin 17) => act.getD i 0)
    shadow := Vector.ofFn (fun (i : Fin 17) => sh.getD i 0)
    barriers := Vector.ofFn (fun (i : Fin 32) =>
      ⟨(bar.getD (2 * i) 0).setWidth 32, (bar.getD (2 * i) 0).getLsbD 32, bar.getD (2 * i + 1) 0⟩)
    ins := Vector.ofFn (fun (i : Fin 32) =>
      let x := t.ins[i]
      let d := seqs.getD (2 * i + 1) 0
      { x with bufs := x.bufs.map (fun b => { b with poison := [] }), next := BitVec.ofNat 32 (wfld d 32 32), skip := BitVec.ofNat 16 (wfld d 16 16), stale := BitVec.ofNat 16 (wfld d 0 16) })
    outs := t.outs.map (fun x => { x with poison := [] })
    port := Vector.ofFn (fun (i : Fin 2) => port.getD i 0)
    cbEntry := if badC then [] else spOf 0 cb
    cbValid := if badC then [] else (List.range 1024).filter (fun i => (va.getD (i / 64) 0).getLsbD (i % 64))
    weights := spOf 0 ((List.range 16384).map (fun i => BitVec.ofNat 16 (bytesToNat ((wbs.drop (2 * i)).take 2))))
    wval := t.wval && !badW
    acc := spOf 0 acc
    accVoid := t.accVoid ||| (if badZ 0 then 1 else 0) ||| (if badZ 1 then 2 else 0)
    psstat := if badW || badC || badZ 0 || badZ 1 then t.psstat ||| psUef else t.psstat })
  let passes := ((ws 0x318 1).getD 0 0).toNat
  let s3 := s2.modTile r (fun t => { t with op := t.op.map (fun o =>
    if o.halted then { o with passes := passes, halted := false, start := t.wall, finish := t.wall + s2.restTime r { o with passes := passes } }
    else o) })
  s3.writeWord .sram r saveBase (s3.readWord .sram r saveBase &&& 0x7FFFFFFFFFFFFFFF)

/-- Resumption in place (R391); a command naming a slot without a record, or a tile record that is not there, is refused. -/
def State.resumeInPlace (s : State) (r : TileRef) (w : Word) : State :=
  let t := s.tile r
  let slots := maskSlots (cmdCtx w)
  if slots.any (fun k => !(t.savedBit k && (t.ctx k).st == .saved && (s.recWord ⟨r.node, r.tile, k⟩ 0).getLsbD 63))
      || (cmdTile w && !(s.readWord .sram r saveBase).getLsbD 63) then s.cmdErr r
  else
    let done := fun (s : State) => s.modTile r (fun t => { t with psstat := t.psstat ||| psDone })
    if cmdTile w && s.tileRecordPoisoned r then
      done (s.condemnTile r)
    else
      let s1 := if cmdTile w then s.resumeTile r else s
      done (slots.foldl (fun s k => s.tryResume ⟨r.node, r.tile, k⟩) s1)

/-! Resuming from another tile (R392) -/

/-- Whether a context may resume on another tile. -/
def State.mayMove (s : State) (r : TileRef) (from' k : Nat) : Bool :=
  let o : TileRef := ⟨r.node, from'⟩
  let here := s.tile r
  let there := s.tile o
  let c := there.ctx k
  let gather := (s.copyRecords ⟨r.node, from', k⟩ 0).any (fun d => d.mode == 2)
  let owns := (match there.op with
      | some a => a.slot == k && a.serial == c.serial && !a.orphan
      | none => false) || (match there.shadowSt with
      | .filling j => j == k
      | .ready j _ n => j == k && n == c.serial
      | .free => false)
  let barsFree := (List.range 32).all (fun b =>
    !c.buse.getLsbD b || ((here.barrier b).count == 0 && !(here.barrier b).cfg.getLsbD 63))
  (here.ctx k).st == .free && decide (k < here.slots) && there.savedBit k && c.st == .saved
    && here.drove == there.drove && here.stage == there.stage && here.slots == there.slots
    && c.cur.isEmpty && c.opn.isEmpty && !c.nest && !gather && !owns && barsFree

/-- A context's name changes where other parties hold it: lock claims, its children's, and messages on their way. -/
def State.renameCtx (s : State) (old new : CtxRef) : State :=
  let f := fun (c : CtxRef) => if c = old then new else c
  let claim := fun (c : Claim) => { c with ctx := f c.ctx }
  let dq := fun (e : DequeEntry) => if dqParent old.node e.d3 = old then
    { e with d3 := setFld (setFld e.d3 56 8 new.tile) 53 3 new.slot } else e
  { s with
    tainted := s.tainted.map (fun x => (x.1, f x.2))
    nodes := s.nodes.map (fun n => (n.1, { n.2 with
      locks := n.2.locks.map (fun o => { o with holders := o.holders.map claim, queue := o.queue.map claim })
      tiles := if n.1 ≠ old.node then n.2.tiles else n.2.tiles.map (fun t => (t.1, { t.2 with
        ctxs := t.2.ctxs.map (fun c => { c with parent := c.parent.map f })
        deque := t.2.deque.map dq })) }))
    net := s.net.map (fun e => match e with
      | .joinMessage c k => .joinMessage (f c) k
      | .woundDelivery c w => .woundDelivery (f c) w
      | .crookStatusMsg m => .crookStatusMsg { m with ctx := f m.ctx }
      | .crookWoundMsg m => .crookWoundMsg { m with ctx := f m.ctx }
      | e => e) }

/-- A context's record, memories and barriers move from another tile to the like slot here. -/
def State.moveCtx (s : State) (r : TileRef) (from' k : Nat) : State :=
  let o : TileRef := ⟨r.node, from'⟩
  let there := s.tile o
  let c := there.ctx k
  let mv := fun (s : State) (off n : Nat) => s.moveBytes (memKey .sram o off) (memKey .sram r off) n
  let s1 := mv (mv (mv (mv s (ctxRecBase k) 0x2000) (extBase k) 0x4000) (spillImage k there.spillShare) there.spillShare)
    (tregImage k 0 there.nsl) (there.tregShare * 0x4000)
  let s2 := (s1.writeWord .sram o (ctxRecBase k) 0).modTile o (fun t =>
    { t.setCtx k Ctx.reset with
      psstat := t.psstat &&& ~~~(1#64 <<< (48 + k))
      barriers := Vector.ofFn (fun (i : Fin 32) => let b := t.barriers[i]; if c.buse.getLsbD i then { b with count := 0, ovf := false } else b) })
  (s2.modTile r (fun t =>
    { t.setCtx k c with
      serial := max t.serial c.serial
      psstat := t.psstat ||| (1#64 <<< (48 + k))
      barriers := Vector.ofFn (fun (i : Fin 32) =>
        let b := t.barriers[i]
        if c.buse.getLsbD i then { b with count := (there.barrier i).count, ovf := (there.barrier i).ovf } else b) })).renameCtx
    ⟨r.node, from', k⟩ ⟨r.node, r.tile, k⟩

/-- Resumption from another tile (R392). -/
def State.resumeFrom (s : State) (r : TileRef) (w : Word) : State :=
  let slots := maskSlots (cmdCtx w)
  let src := cmdSrct w
  if cmdTile w || src == r.tile || slots.any (fun k => !s.mayMove r src k) then s.cmdErr r
  else
    let s1 := slots.foldl (fun s k => (s.moveCtx r src k).tryResume ⟨r.node, r.tile, k⟩) s
    s1.modTile r (fun t => { t with psstat := t.psstat ||| psDone })

/-- A write of `PSCTL` (R377). -/
def State.psWrite (s : State) (r : TileRef) (w : Word) : State :=
  if (s.tile r).psstat.getLsbD 63 then s.cmdErr r
  else match cmdOp w with
    | 1 => s.beginSave r w
    | 2 => s.resumeInPlace r w
    | 3 => s.resumeFrom r w
    | _ => s

/-- `PSCTL_SAVE` (R377, R378): the node accepts a save. -/
def execPsctlSave (t : TileRef) (w : Word) (s : State) : Out :=
  .next (if (s.node t.node).answers then s.psWrite t (setFld w 62 2 1) else s)

/-- `PSCTL_RESUME_IN_PLACE` (R391). -/
def execPsctlResumeInPlace (t : TileRef) (w : Word) (s : State) : Out :=
  .next (if (s.node t.node).answers then s.psWrite t (setFld w 62 2 2) else s)

/-- `PSCTL_RESUME_FROM_TILE` (R392). -/
def execPsctlResumeFromTile (t : TileRef) (w : Word) (s : State) : Out :=
  .next (if (s.node t.node).answers then s.psWrite t (setFld w 62 2 3) else s)

end Sys2Proof.Machine
end

