-- ==== Sys2Proof/Machine/HostQueues.lean ====
section
/-! DEFINITION. The host's work queues (spec/15 R411 to R414, spec/13 R361, R364, R372): control registers, ingress records and egress
packets. -/

namespace Sys2Proof.Machine

/-! Host memory -/

/-- The key of a byte of host memory, apart from every tile's bytes (log entry 10). -/
def hostKey (a : Nat) : Nat := 2 ^ 64 + a

/-- Bytes and dwords of host memory. -/
def State.hostRead (s : State) (a n : Nat) : List Byte := Memory.read s.hostMem (hostKey a) n
def State.hostWord (s : State) (a : Nat) : Word := bytesWord (s.hostRead a 8)
def State.hostWrite (s : State) (a : Nat) (bs : List Byte) : State := { s with hostMem := Memory.write s.hostMem (hostKey a) bs }

/-! Queue control (Table 15.6) -/

/-- A queue of a node: ingress q at q, egress q at 8,192 + q. -/
def Node.queue (n : Node) (k : Nat) : HostQueue := spGet HostQueue.reset n.queues k
def State.modQueue (s : State) (n k : Nat) (f : HostQueue → HostQueue) : State :=
  s.modNode n (fun x => { x with queues := spPut x.queues k (f (x.queue k)) })

def HostQueue.en (q : HostQueue) : Bool := q.cfg.getLsbD 63
def HostQueue.logn (q : HostQueue) : Nat := wfld q.cfg 16 4
def HostQueue.vec (q : HostQueue) : Nat := wfld q.cfg 0 11
def HostQueue.entries (q : HostQueue) : Nat := 2 ^ q.logn

/-- A refused control write (R411). -/
def HostQueue.refuse (q : HostQueue) (code : Nat) : HostQueue := { q with stat := setFld (setFld q.stat 63 1 1) 60 3 code }

/-- The credits on their way from an egress queue to its sender, and those the sender holds, taken back (R414). -/
def State.recall (s : State) (n k : Nat) (b : QueueBinding) : State :=
  let mine := fun (e : Event) => match e with
    | .creditArrival t st _ => t == ⟨n, b.tile⟩ && st == BitVec.ofNat 5 b.stream
    | _ => false
  let coming := (s.net.filter mine).foldl (fun a e => match e with
    | .creditArrival _ _ c => a + c
    | _ => a) 0
  let held := ((s.tile ⟨n, b.tile⟩).outS b.stream).free
  ({ s with net := s.net.filter (fun e => !mine e) }.modTile ⟨n, b.tile⟩ (fun t => t.modOut b.stream (fun x => { x with free := 0 }))).modQueue
    n k (fun q => { q with credits := q.credits - (coming + held) })

/-- A write of `QCFG` (R411, R414): LOGN is fixed while the queue is enabled; enabling is checked. An egress queue issues its credits
at its enable, up to its CAP, and takes back those unused when it is disabled (log entry 115). -/
def State.writeQcfg (s : State) (n k : Nat) (w : Word) : State :=
  let q := (s.node n).queue k
  let egress := decide (8192 ≤ k)
  let v : Word := w &&& 0x80000000000F07FF
  let cfg := if q.en then setFld v 16 4 q.logn else v
  let logn := wfld cfg 16 4
  let cap := (q.binding.map (fun b => b.cap)).getD 0
  if cfg.getLsbD 63 && (decide (logn < 6) || q.binding.isNone) then s.modQueue n k (fun q => q.refuse 1)
  else if cfg.getLsbD 63 && egress && decide (2 ^ logn < cap) then s.modQueue n k (fun q => q.refuse 3)
  else
    let s1 := s.modQueue n k (fun q => { q with cfg := cfg })
    match q.binding with
    | some b =>
      if egress && cfg.getLsbD 63 && decide (q.credits < cap) then
        (s1.modQueue n k (fun q => { q with credits := cap })).post n
          (.creditArrival ⟨n, b.tile⟩ (BitVec.ofNat 5 b.stream) (cap - q.credits))
      else if egress && q.en && !cfg.getLsbD 63 then s1.recall n k b
      else s1
    | none => s1

/-- A write of `QTAIL` (R411, R414): an index beyond the ring is refused; the entries that an egress write passes return their
credits, those of a disabled queue to the queue. -/
def State.writeQtail (s : State) (n k : Nat) (w : Word) : State :=
  let q := (s.node n).queue k
  let i : BitVec 16 := w.setWidth 16
  let egress := decide (8192 ≤ k)
  let span := (if egress then q.head - i else i - q.head).toNat
  if q.entries < span then s.modQueue n k (fun q => q.refuse 2)
  else
    let s1 := s.modQueue n k (fun q => { q with tail := i })
    let passed := (i - q.tail).toNat
    match egress && decide (0 < passed), q.binding with
    | true, some b =>
      if q.en then s1.post n (.creditArrival ⟨n, b.tile⟩ (BitVec.ofNat 5 b.stream) passed)
      else s1.modQueue n k (fun q => { q with credits := q.credits - passed })
    | _, _ => s1

/-- `QCFG_WRITE` (R411). -/
def execQcfgWrite (n k : Nat) (w : Word) (s : State) : Out := .next (if (s.node n).answers then s.writeQcfg n k w else s)

/-- `QTAIL_WRITE` (R411). -/
def execQtailWrite (n k : Nat) (w : Word) (s : State) : Out := .next (if (s.node n).answers then s.writeQtail n k w else s)

/-! Ingress -/

/-- The drove table's entry of a drove. -/
def Node.drove (n : Node) (d : BitVec 32) : Option DroveEntry := n.droves.find? (fun e => e.valid && e.drove == d)

/-- The dwords of the ingress record at a queue's head (Table 15.7). -/
def State.ingressRecord (s : State) (n k : Nat) : List Word :=
  let q := (s.node n).queue k
  let a := q.base.toNat + 64 * (q.head.toNat % q.entries)
  (List.range 8).map (fun i => s.hostWord (a + 8 * i))

def recInl (ws : List Word) : Bool := (ws.getD 0 0).getLsbD 12
def recHead (ws : List Word) : Bool := (ws.getD 0 0).getLsbD 13
def recDrove (ws : List Word) : BitVec 32 := BitVec.ofNat 32 (wfld (ws.getD 1 0) 32 32)
def recElen (ws : List Word) : Nat := wfld (ws.getD 1 0) 16 13

/-- Whether a record keeps to Table 15.7. -/
def recGood (ws : List Word) : Bool :=
  let d := fun i => ws.getD i 0
  decide (recElen ws ≤ 4096) && wfld (d 1) 29 3 == 0 && wfld (d 1) 0 16 == 0
    && (if recInl ws then decide (recElen ws ≤ 48)
      else wfld (d 2) 0 3 == 0 && (List.range 5).all (fun i => d (3 + i) == 0))

/-- The record at a queue's head is done: its status is written, and the head advances (R413). -/
def State.endRecord (s : State) (n k code : Nat) : State :=
  let q := (s.node n).queue k
  let tag := wfld ((s.ingressRecord n k).getD 0 0) 32 32
  let a := q.base.toNat + 64 * q.entries + 8 * (q.head.toNat % q.entries)
  (s.hostWrite a (wordBytes (BitVec.ofNat 64 (code * 2 ^ 56 + tag)))).modQueue n k (fun q =>
    { q with head := q.head + 1
             stat := if code = 0 ∨ wfld q.stat 0 32 = 2 ^ 32 - 1 then q.stat else setFld q.stat 0 32 (wfld q.stat 0 32 + 1) })

/-- The drove whose stage stands on a queue's tile. -/
def State.boundDrove (s : State) (n : Nat) (b : QueueBinding) : BitVec 32 := (s.tile ⟨n, b.tile⟩).drove

/-- Whether some handler of the stage on a tile, of a triggered stream or of a join, needs more than its share (R361). -/
def Tile.overNeed (t : Tile) : Bool :=
  t.ins.toList.any (fun x => (inMode x.d0 == 1 || inMode x.d0 == 2) && !t.needFits (inEntry x.d0))

/-- A record becomes a packet (R372, R413). -/
def State.ingressPacket (s : State) (n k : Nat) (b : QueueBinding) (ws : List Word) (act : BitVec 4) : State :=
  let q := (s.node n).queue k
  let x := (s.tile ⟨n, b.tile⟩).inS b.stream
  let d0 := ws.getD 0 0
  let elen := recElen ws
  let bytes := if recInl ws then (wordsBytes (ws.drop 2)).take elen else s.hostRead (ws.getD 2 0).toNat elen
  let gen := if recHead ws then act else q.lastGen.getD act
  let h0 : Word := BitVec.ofNat 64 (inSid x.d0 * 2 ^ 48 + wfld d0 32 32 * 2 ^ 16 + wfld d0 16 16)
  let h1 : Word := BitVec.ofNat 64 (gen.toNat * 2 ^ 44 + wfld d0 0 12 * 2 ^ 32 + wfld d0 14 2 * 2 ^ 30
    + (if recHead ws then 2 ^ 27 else 0) + elen * 2 ^ 14)
  let id := s.newId
  (id.2.modQueue n k (fun q => { q with
    credits := q.credits - 1, lastGen := if recHead ws then some act else q.lastGen })).sendPacket
    ⟨id.1, ⟨n, b.tile⟩, h0, sealHeader h0 h1 elen, bytes, ⟨n, 256 + k, 0⟩, [], false, false⟩ n

/-- Whether a queue's head record may be taken (R413): there is one, it is enabled, it holds a credit, and no hold stands (R430). -/
def HostQueue.ready (q : HostQueue) : Bool := q.en && q.tail != q.head && decide (0 < q.credits) && q.binding.isSome && !q.hold

/-- Whether a queue holds its record for a drove that is not Resident (R364). -/
def State.heldRecord (s : State) (n k : Nat) : Bool :=
  match (s.node n).drove (recDrove (s.ingressRecord n k)) with
  | some e => e.st != .resident
  | none => true

/-- The ingress queue whose turn it is: the first after the last one served that is ready (R413). -/
def State.ingressTurn (s : State) (n : Nat) : Option Nat :=
  let x := s.node n
  let ks := (x.queues.filter (fun e => decide (e.1 < 8192) && e.2.ready && !s.heldRecord n e.1)).map (fun e => e.1)
  (ks.find? (fun k => decide (x.lastQueue < k))).or ks.head?

/-- Whether the drove table has a place for a drove among its 256 entries (R409). -/
def Node.hasRoom (x : Node) (d : BitVec 32) : Bool :=
  x.droves.any (fun y => y.drove == d || (!y.valid && y.st == .absent)) || decide (x.droves.length < 256)

/-- The drove table's place of a drove: its own entry, one that waits for its load, or a new one. -/
def Node.setDrove (x : Node) (e : DroveEntry) : Node :=
  match x.droves.findIdx? (fun y => y.drove == e.drove) with
  | some k => { x with droves := x.droves.set k e }
  | none => match x.droves.findIdx? (fun y => !y.valid && y.st == .absent) with
    | some k => { x with droves := x.droves.set k e }
    | none => { x with droves := x.droves ++ [e] }

/-- Whether the loader of a node is at work (Table 15.4). -/
def Node.loads (x : Node) : Bool := x.droves.any (fun e => e.st == .loading || (e.valid && e.gst == .loading))

/-- A record that names an Absent drove wakes the loader (R364), if the drove table has a place for it. -/
def State.wakeLoader (s : State) (n : Nat) (d : BitVec 32) : State :=
  let x := s.node n
  if x.droves.any (fun e => e.drove == d && (e.valid || e.st != .absent)) ∨ x.hasRoom d = false then s
  else s.modNode n (fun x => x.setDrove ⟨false, d, .loading, 0, 0, .one, false, [], [], [], []⟩)

/-- The record at the head of a queue answered (R413): refused for its form, for a need, or for a payload that cannot be read, which
a free value tells of a read of host memory; or sent. -/
def State.answerRecord (s : State) (n k : Nat) (b : QueueBinding) : State :=
  let ws := s.ingressRecord n k
  let t := s.tile ⟨n, b.tile⟩
  if !recGood ws || recDrove ws != s.boundDrove n b || decide (inBsize (t.inS b.stream).d0 < recElen ws) then s.endRecord n k 3
  else if t.overNeed then s.endRecord n k 2
  else if recInl ws || recElen ws == 0 then
    (s.ingressPacket n k b ws ((((s.node n).drove (recDrove ws)).map (fun e => e.act)).getD 0)).endRecord n k 0
  else
    let s1 := { s with free := s.free + 1 }
    if Config.hostError s.free then s1.endRecord n k 4
    else (s1.ingressPacket n k b ws ((((s.node n).drove (recDrove ws)).map (fun e => e.act)).getD 0)).endRecord n k 0

/-- The record at the head of a queue taken (R413), or held for its drove, whose load it asks for (R364). -/
def State.takeRecord (s : State) (n k : Nat) : State :=
  let q := (s.node n).queue k
  if !q.en || q.tail == q.head then s
  else if s.heldRecord n k then s.wakeLoader n (recDrove (s.ingressRecord n k))
  else match q.binding with
  | none => s
  | some b =>
    if !q.ready || s.ingressTurn n != some k then s
    else (s.modNode n (fun x => { x with lastQueue := k })).answerRecord n k b

/-- `INGRESS_RECORD` (R413). -/
def execIngressRecord (n k : Nat) (s : State) : Out := .next (s.takeRecord n k)

/-- The records of one queue held for a drove whose load has failed, at most `fuel` of them, are refused (R364). -/
def State.refuseHeld (s : State) (n k : Nat) (d : BitVec 32) : Nat → State
  | 0 => s
  | fuel + 1 =>
    let q := (s.node n).queue k
    if q.en && q.tail != q.head && recDrove (s.ingressRecord n k) == d then State.refuseHeld (s.endRecord n k 1) n k d fuel
    else s

/-! Egress -/

/-- A dword of the MSI-X table; the vectors stand masked until the host writes them (log entry 89). -/
def Node.msixWord (x : Node) (i : Nat) : Word := spGet (if i % 2 = 1 then 0x100000000 else 0) x.msixTable i

/-- An MSI-X vector signalled (R414): sent, or pending while its entry masks it (Table 15.3, log entry 89). -/
def Node.signal (x : Node) (v : Nat) : Node :=
  if (x.msixWord (2 * v + 1)).getLsbD 32 then (if x.msixPend.contains v then x else { x with msixPend := v :: x.msixPend })
  else { x with msix := x.msix ++ [v] }

/-- A dword of the MSI-X table written: a pending vector that it unmasks is sent. -/
def Node.writeMsix (x : Node) (i : Nat) (w : Word) : Node :=
  let y := { x with msixTable := spPut x.msixTable i w }
  if x.msixPend.contains (i / 2) && !(y.msixWord (i / 2 * 2 + 1)).getLsbD 32 then
    { y with msixPend := x.msixPend.filter (fun v => v != i / 2), msix := x.msix ++ [i / 2] }
  else y

/-- A dword of the MSI-X pending-bit array. -/
def Node.msixBits (x : Node) (i : Nat) : Word :=
  x.msixPend.foldl (fun w v => if v / 64 = i then w ||| BitVec.twoPow 64 (v % 64) else w) 0

/-- The packet that an egress queue takes next (R414). -/
def State.egressNext (s : State) (n k : Nat) : Option NetPacket :=
  s.packets.find? (fun p => p.dest == ⟨n, 256 + 8192 + k⟩ && p.whole)

/-- A packet written to an egress ring (R414): payload, record, head, vector. -/
def State.egress (s : State) (n k : Nat) : State :=
  let q := (s.node n).queue (8192 + k)
  match s.egressNext n k with
  | none => s
  | some p =>
    if !q.en then s
    else
      let i := q.head.toNat
      let j := i % q.entries
      let elen := hdrElen p.hdr1
      let bytes := (decodePayload (hdrEnc p.hdr1) elen p.wire).getD []
      let d2 := BitVec.ofNat 64 ((if i.testBit q.logn then 2 ^ 63 else 0) + elen)
      let s1 := (s.dropPacket p.id).hostWrite (q.pbase.toNat + 4096 * j) bytes
      let s2 := s1.hostWrite (q.base.toNat + 64 * j) (wordsBytes ([p.hdr0, p.hdr1, d2] ++ List.replicate 5 0))
      (s2.modQueue n (8192 + k) (fun q => { q with head := q.head + 1 })).modNode n (fun x => x.signal q.vec)

/-- `EGRESS_PACKET` (R414). -/
def execEgressPacket (n k : Nat) (s : State) : Out := .next (s.egress n k)

end Sys2Proof.Machine
end

