-- ==== Sys2Proof/Machine/Sha3.lean ====
section
/-! DEFINITION. SHA3-256, the hash of manifests, segments, keys and firmware (spec/13 R362, spec/17 R434). The spec names the algorithm; its
steps are those of the standard (log entry 19). -/

namespace Sys2Proof.Machine

/-- The place of a lane among the 25 of the sponge's state; its coordinates count modulo 5. -/
def laneAt (x y : Nat) : Nat := x % 5 + 5 * (y % 5)

/-- The next state of the eight-bit register that gives the round constants, x⁸ + x⁶ + x⁵ + x⁴ + 1. -/
def rcStep (r : BitVec 8) : BitVec 8 := if r.msb then (r <<< 1) ^^^ 0x71 else r <<< 1

/-- The round constant whose bits the register gives from `r`, and the register after it: bit 2^j − 1 is its j-th output. -/
def roundConst (r : BitVec 8) : Word × BitVec 8 :=
  (List.range 7).foldl (fun (w, r) j => (if r.getLsbD 0 then w ||| BitVec.twoPow 64 (2 ^ j - 1) else w, rcStep r)) (0, r)

/-- The rotations along the walk (x, y) to (y, 2x + 3y) over the 24 lanes other than lane 0: each lane moves to the next place of
the walk, turned by the next triangular number. -/
def rhoPi : List (Nat × Nat × Nat) :=
  ((List.range 24).foldl (fun (ps, x, y) t =>
    ((laneAt x y, laneAt y (2 * x + 3 * y), (t + 1) * (t + 2) / 2 % 64) :: ps, y, (2 * x + 3 * y) % 5))
    (([] : List (Nat × Nat × Nat)), 1, 0)).1

/-- Each lane with the parities of the column before its own and of the column after it, turned by one. -/
def theta (a : List Word) : List Word :=
  let parity := fun x => (List.range 5).foldl (fun w y => w ^^^ a.getD (laneAt x y) 0) 0
  a.zipIdx.map (fun (w, i) => w ^^^ parity (i + 4) ^^^ (parity (i + 1)).rotateLeft 1)

/-- The lanes turned and moved. -/
def move (a : List Word) : List Word :=
  rhoPi.foldl (fun b (src, dst, n) => b.set dst ((a.getD src 0).rotateLeft n)) a

/-- Each lane with those after it in its row. -/
def chi (a : List Word) : List Word :=
  a.zipIdx.map (fun (w, i) => w ^^^ (a.getD (laneAt (i + 2) (i / 5)) 0 &&& ~~~a.getD (laneAt (i + 1) (i / 5)) 0))

/-- Rounds of the permutation, the register of the round constants at `r`. -/
def keccakRounds : Nat → BitVec 8 → List Word → List Word
  | 0, _, a => a
  | n + 1, r, a =>
    let c := roundConst r
    keccakRounds n c.2 ((chi (move (theta a))).modify 0 (· ^^^ c.1))

/-- The permutation. -/
def keccakF (a : List Word) : List Word := keccakRounds 24 1 a

/-- A block of 136 bytes absorbed. -/
def absorb (a : List Word) (block : List Byte) : List Word :=
  keccakF (a.zipIdx.map (fun w => if w.2 < 17 then w.1 ^^^ bytesWord ((block.drop (8 * w.2)).take 8) else w.1))

/-- Blocks absorbed, at most `fuel` of them. -/
def absorbAll : Nat → List Word → List Byte → List Word
  | 0, a, _ => a
  | fuel + 1, a, bs => if bs.isEmpty then a else absorbAll fuel (absorb a (bs.take 136)) (bs.drop 136)

/-- SHA3-256 of bytes. -/
def sha3 (bs : List Byte) : List Byte :=
  let n := 136 - bs.length % 136
  let pad : List Byte := if n = 1 then [0x86] else 0x06 :: (List.replicate (n - 2) 0 ++ [0x80])
  let a := absorbAll (bs.length / 136 + 1) (List.replicate 25 0) (bs ++ pad)
  (a.take 4).flatMap wordBytes

end Sys2Proof.Machine
end

