-- ==== Sys2Proof/Machine/Loader.lean ====
section
/-! DEFINITION. Placement and loading (spec/13 R355 to R364, R375): the loader's checks, the verification of an image, the tile
state a load writes, removal and withdrawal of a drove. -/

namespace Sys2Proof

open Sys2Proof.Machine

/-! The manifest (Tables 13.5, 13.6) -/

/-- A little-endian field of the manifest. -/
def manField (bs : List Byte) (off n : Nat) : Nat := bytesToNat ((bs.drop off).take n)

/-- Where segment record `i` stands. -/
def segRecordOff (i : Nat) : Nat := 0x40 + 48 * i

/-- Whether a segment agrees with its record, the length where its bytes are with the image. -/
def segMatches (man : List Byte) (i : Nat) (x : Segment) : Bool :=
  let o := segRecordOff i
  manField man o 8 == x.node % 4096 * 2 ^ 52 + x.tile % 256 * 2 ^ 44 + x.kind % 16 * 2 ^ 40 + x.gen.toNat * 2 ^ 36 + x.dest % 2 ^ 24
    && (x.bytes.isEmpty || manField man (o + 8) 4 == x.bytes.length)
    && (man.drop (o + 16)).take 32 == x.hash

/-- Whether a manifest keeps to Tables 13.5 and 13.6 and names the segments of its image: each lies behind the signature and within
the image's length, and kinds 8 to 15 are refused. -/
def DroveImage.manifestGood (im : DroveImage) : Bool :=
  let m := im.manifest
  let nseg := manField m 0x0E 2
  manField m 0 8 == 0x4C4D415A4E314D46 && manField m 8 4 == 1 && decide (1 ≤ nseg) && nseg == im.segments.length
    && manField m 0x30 4 == im.drove.toNat && manField m 0x34 4 == 0 && m.length == 0x40 + 48 * nseg
    && im.segments.zipIdx.all (fun x => segMatches m x.2 x.1 && decide (x.1.kind < 8)
      && decide (0x40 + 48 * nseg + 2452 ≤ manField m (segRecordOff x.2 + 12) 4 * 64)
      && decide (manField m (segRecordOff x.2 + 12) 4 * 64 + manField m (segRecordOff x.2 + 8) 4 ≤ manField m 0x38 8))

/-- The public key of an entry of the key table, zeros where nothing has been written (R434). -/
def Machine.DroveKey.public (k : DroveKey) : List Byte := (k.key ++ List.replicate 1312 0).take 1312

/-- The signature checked by a key of the node's table (R363, R434). -/
def Machine.Node.signedBy (x : Node) (im : DroveImage) : Bool :=
  x.keys.toList.any (fun k => k.valid && sha3 k.public == im.keyId
    && Config.mldsaVerify k.public (sha3 (im.manifest ++ im.keyId)) im.signature)

/-- The bytes of a segment: those with the image, or those the muster has brought to the node (R363). -/
def Machine.Node.segBytes (x : Node) (man : List Byte) (i : Nat) (g : Segment) : List Byte :=
  if g.bytes.isEmpty then (spGet [] x.muster (manField man (segRecordOff i + 12) 4 * 64)).take (manField man (segRecordOff i + 8) 4)
  else g.bytes

/-- The segments of an image with their bytes as a node holds them. -/
def Machine.Node.segments (x : Node) (im : DroveImage) : List Segment :=
  im.segments.zipIdx.map (fun e => { e.1 with bytes := x.segBytes im.manifest e.2 e.1 })

/-- Whether a segment's bytes are what was signed (R363). -/
def Segment.good (g : Segment) : Bool := sha3 g.bytes == g.hash

/-- Whether the tile state of a node's tiles is what the image's kind 3 segments carry, all of it (R358, R362, log entry 3). -/
def DroveImage.tilesSigned (im : DroveImage) (segs : List Segment) (n : Nat) : Bool :=
  im.tiles.all (fun i => i.node != n
    || segs.any (fun g => g.kind == 3 && g.node == n && g.tile == i.tile && Config.tileState g.bytes == i))
  && segs.all (fun g => g.kind != 3 || g.node != n
    || im.tiles.any (fun i => i.node == n && i.tile == g.tile && Config.tileState g.bytes == i))

/-- Segments written and read back (R363): one is valid once an attempt, the first or one of three retries, meets no error. The
attempts take fresh values of the counter. -/
def Machine.State.verify (s : State) (gs : List Segment) : Bool × State :=
  (gs.zipIdx.all (fun e => e.1.good && (List.range 4).any (fun k => !Config.loadError (s.free + 4 * e.2 + k))),
    { s with free := s.free + 4 * gs.length })

/-! The checks (Table 13.2) -/

/-- Whether a rectangle lies on the grid at a multiple of its size (code 1). -/
def TileInit.rectGood (i : TileInit) : Bool :=
  let x := i.origin % 16
  let y := i.origin / 16
  [1, 2, 4, 8, 16].contains i.width && [1, 2, 4, 8, 16].contains i.height && x % i.width == 0 && y % i.height == 0
    && decide (x + i.width ≤ 16) && decide (y + i.height ≤ 16)
    && decide (x ≤ i.tile % 16) && decide (i.tile % 16 < x + i.width) && decide (y ≤ i.tile / 16) && decide (i.tile / 16 < y + i.height)

/-- Whether a need is beyond the share of a slot (R360, Table 13.3). -/
def needOver (slots : Nat) (w : Word) : Bool :=
  w.getLsbD 63 && (decide (16 / max 1 slots < wfld w 34 5) || decide (64 / max 1 slots < wfld w 27 7))

/-- The port memory of a tile's buffers (R201). -/
def TileInit.portBytes (i : TileInit) : Nat :=
  i.instreams.foldl (fun a x => a + inNbuf x.2.1 * bufBytes (inBsize x.2.1)) 0
    + i.outstreams.foldl (fun a x => a + 2 * bufBytes (outBsize x.2.1)) 0

/-- The fields of a window descriptor (Table 8.3). -/
def winNode (d0 : Word) : Nat := wfld d0 40 12
def winX (d0 : Word) : Nat := wfld d0 32 4
def winY (d0 : Word) : Nat := wfld d0 36 4
def winW (d0 : Word) : Nat := 2 ^ wfld d0 29 3
def winH (d0 : Word) : Nat := 2 ^ wfld d0 26 3
def winHas (d0 : Word) (tile : Nat) : Bool :=
  d0.getLsbD 63 && decide (winX d0 ≤ tile % 16) && decide (tile % 16 < winX d0 + winW d0)
    && decide (winY d0 ≤ tile / 16) && decide (tile / 16 < winY d0 + winH d0)
def winBase (d1 : Word) : Nat := wfld d1 0 24
def windowEnd (d2 : Word) : Nat := wfld d2 0 24

/-- Whether two descriptors name a byte in common (R256). -/
def windowsMeet (v w : Word × Word × Word) : Bool :=
  v.1.getLsbD 63 && w.1.getLsbD 63 && winNode v.1 == winNode w.1
    && decide (winX v.1 < winX w.1 + winW w.1) && decide (winX w.1 < winX v.1 + winW v.1)
    && decide (winY v.1 < winY w.1 + winH w.1) && decide (winY w.1 < winY v.1 + winH v.1)
    && decide (winBase v.2.1 ≤ windowEnd w.2.2) && decide (winBase w.2.1 ≤ windowEnd v.2.2)

/-- The stage that declares a window of a tile's table: the one whose node and rectangle it names, else the tile's own (R357). -/
def DroveImage.declarer (im : DroveImage) (i : TileInit) (w : Word × Word × Word) : Nat :=
  ((im.tiles.find? (fun j => j.node == winNode w.1 && j.origin == winY w.1 * 16 + winX w.1 && j.width == winW w.1
    && j.height == winH w.1)).map (fun j => j.stage)).getD i.stage

/-- Whether a `.lockobj` or a stream edge relates a stage to another: it holds the other's windows (R357), or sends to it. -/
def DroveImage.relates (im : DroveImage) (a b : Nat) : Bool :=
  im.tiles.any (fun i => i.stage == a && i.windows.any (fun w => im.declarer i w == b)) || im.feeds a b

/-- Whether a writable window of one stage shares a byte with a window of another that nothing relates to it (R256, code 5). -/
def DroveImage.windowsOverlap (im : DroveImage) : Bool :=
  let ws := im.tiles.flatMap (fun i => i.windows.map (fun w => (im.declarer i w, w)))
  ws.any (fun v => v.2.1.getLsbD 62 && ws.any (fun w =>
    v.1 != w.1 && windowsMeet v.2 w.2 && !(im.relates v.1 w.1 || im.relates w.1 v.1)))

/-- How many frames of a fold region lie on a tile, and whether the tile lies in its rectangle (R294). -/
def FoldRegion.has (f : FoldRegion) (tile : Nat) : Bool :=
  decide (f.x ≤ tile % 16) && decide (tile % 16 < f.x + f.w) && decide (f.y ≤ tile / 16) && decide (tile / 16 < f.y + f.h)
def FoldRegion.framesOn (f : FoldRegion) (tile : Nat) : Nat :=
  let i := (tile / 16 - f.y) * f.w + (tile % 16 - f.x)
  (f.frames + f.w * f.h - 1 - i) / (f.w * f.h)

/-- The first byte of the fold region of a tile (R294). -/
def FoldRegion.bottom (f : FoldRegion) (tile : Nat) : Nat :=
  if tile = f.y * 16 + f.x then 0x1F0000 - 0x8000 * f.framesOn tile else 0xAF0000 - 0x8000 * f.framesOn tile

/-- Whether the pool of a region is one R294 allows on an aligned rectangle (code 10). -/
def FoldRegion.poolGood (f : FoldRegion) : Bool :=
  f.x % max 1 f.w == 0 && f.y % max 1 f.h == 0 && decide (64 ≤ f.frames) && decide (f.frames ≤ 32768)
    && (List.range 256).all (fun t => !f.has t || decide (f.framesOn t ≤ (if t = f.y * 16 + f.x then 62 else 350)))

/-- The fold region of a node in an image. -/
def DroveImage.foldOf (im : DroveImage) (n : Nat) : Option FoldRegion := (im.fold.find? (fun e => e.1 == n)).map (fun e => e.2)

/-- Whether a window of a tile passes its limits or meets a region kept from it, the image's own or one its node holds (code 4). -/
def Machine.State.windowBad (s : State) (im : DroveImage) (w : Word × Word × Word) : Bool :=
  let n := winNode w.1
  w.1.getLsbD 63 && (decide (saveBase ≤ windowEnd w.2.2)
    || ((im.foldOf n).or (s.node n).fold).any (fun f => (List.range 256).any (fun t =>
      winHas w.1 t && inFold f t (winBase w.2.1) (windowEnd w.2.2))))

/-- The bundles that code segments of a kind take on a tile. -/
def DroveImage.codeRanges (im : DroveImage) (i : TileInit) (kind : Nat) : List (Nat × Nat) :=
  (im.segments.zipIdx.filter (fun e => e.1.kind == kind && e.1.node == i.node && e.1.tile == i.tile)).map (fun e =>
    (e.1.dest, e.1.dest + (manField im.manifest (segRecordOff e.2 + 8) 4 + 15) / 16))

/-- Whether a word of a bundle is a fold instruction (R305, R314 to R317). -/
def foldWord (w : BitVec 32) : Bool :=
  match decodeWord .m w with
  | .ok i => (match i with
    | .fview _ _ _ _ _ | .fseq _ _ _ _ _ | .fprobe _ _ _ _ _ | .fldk _ _ _ _ | .fapp _ _ _ _ | .ffork _ _ _ | .ftrunc _ _ _
    | .ffree _ _ _ | .fhint _ _ _ => true
    | _ => false)
  | .error _ => false

/-- Whether a tile's stage has fold instructions in its code. -/
def foldsOn (segs : List Segment) (i : TileInit) : Bool :=
  segs.any (fun g => g.kind == 0 && g.node == i.node && g.tile == i.tile
    && (List.range (g.bytes.length / 16)).any (fun k =>
      foldWord (BitVec.ofNat 32 (bytesToNat ((g.bytes.drop (16 * k + 8)).take 4)))))

/-- Where node-supervisor code stands on a tile: its kind 7 segments, or the firmware's default (R359). -/
def DroveImage.supervisorRanges (im : DroveImage) (i : TileInit) : List (Nat × Nat) :=
  let l := im.codeRanges i 7
  if l.isEmpty then [(4096 - Config.defaultSupervisor.length, 4096)] else l

/-- Whether stage code and supervisor code overlap or run past bundle 4,095 (code 9). -/
def DroveImage.codeBad (im : DroveImage) (i : TileInit) : Bool :=
  let cs := im.codeRanges i 0
  let ns := im.supervisorRanges i
  (cs ++ ns).any (fun r => decide (4096 < r.2)) || cs.any (fun c => ns.any (fun n => decide (c.1 < n.2) && decide (n.1 < c.2)))

/-- The senders of an input stream of a tile. -/
def TileInit.sendersOf (i : TileInit) (st : Nat) : Nat := (i.senders.filter (fun x => x.1 == st)).length

/-- Whether the streams of a tile lack a partner, share a join in threes, or have too few buffers; whether a host queue is bound
twice or to a tile inside the grid (code 7, R412). -/
def DroveImage.streamsBad (im : DroveImage) (i : TileInit) : Bool :=
  let qs := im.queues
  i.instreams.any (fun x => i.sendersOf x.1 == 0 || decide (inNbuf x.2.1 < i.sendersOf x.1))
    || i.outstreams.any (fun x =>
      !(qs.any (fun q => q.out && q.node == i.node && q.tile == i.tile && q.stream == x.1)
        || im.tiles.any (fun j => j.node == outNode x.2.1 && j.tile == outTile x.2.1
          && j.instreams.any (fun y => inSid y.2.1 == outSid x.2.1))))
    || i.joinStreams.any (fun x => decide (2 < (i.joinStreams.filter (fun y => y.2 == x.2)).length))

def DroveImage.queuesBad (im : DroveImage) : Bool :=
  im.queues.any (fun q => !im.tiles.any (fun i => i.node == q.node && i.tile == q.tile
      && (if q.out then i.outstreams.any (fun x => x.1 == q.stream) else i.instreams.any (fun x => x.1 == q.stream && inMode x.2.1 != 3)))
    || decide (1 < (im.queues.filter (fun p => p.node == q.node && p.queue == q.queue && p.out == q.out)).length)
    || decide (8192 ≤ q.queue)
    || (!q.out && !(q.tile % 16 == 0 || q.tile % 16 == 15 || q.tile / 16 == 0 || q.tile / 16 == 15)))

/-- Whether an image binds a host queue of the node that a drove there has bound already (code 7). -/
def Machine.State.queueTaken (s : State) (n : Nat) (im : DroveImage) : Bool :=
  im.queues.any (fun q => q.node == n && ((s.node n).queue (if q.out then 8192 + q.queue else q.queue)).binding.isSome)

/-- Whether the reservations of a tile leave no slot, or name a stream that is not triggered (code 8). -/
def TileInit.reservesBad (i : TileInit) : Bool :=
  decide (i.slots ≤ i.reserves.foldl (fun a r => a + r.2) 0 && i.reserves.any (fun r => decide (0 < r.2)))
    || i.reserves.any (fun r => decide (0 < r.2) && !i.instreams.any (fun x => x.1 == r.1 && inMode x.2.1 == 1))

/-- Whether a record area of generations is not wholly in a read-only window of its stage (code 11). -/
def TileInit.gentabBad (i : TileInit) : Bool :=
  match i.gentab with
  | none => false
  | some g => !i.windows.any (fun w => winNode w.1 == i.node && winHas w.1 i.tile && !w.1.getLsbD 62
      && decide (winBase w.2.1 ≤ g) && decide (g + 511 ≤ windowEnd w.2.2))

/-- The refusal code of an image on a node, 0 for none (Table 13.2); `segs` are its segments as the node has them. Code 12 is the
placer's alone (R355). -/
def Machine.State.placementCode (s : State) (n : Nat) (im : DroveImage) (segs : List Segment) : Nat :=
  let ts := im.tiles
  let other := fun (i : TileInit) =>
    i.node == n && (let t := s.tile ⟨n, i.tile⟩
      t.slots != 0 && t.drove != im.drove)
  if ts.any (fun i => !i.rectGood || other i || decide (1 < (ts.filter (fun j => j.node == i.node && j.tile == i.tile)).length)) then 1
  else if ts.any (fun i => i.needs.any (needOver i.slots)) then 2
  else if ts.any (fun i => decide (32 < i.instreams.length) || decide (32 < i.outstreams.length) || decide (0x40000 < i.portBytes)) then 3
  else if ts.any (fun i => i.windows.any (s.windowBad im)) then 4
  else if im.windowsOverlap then 5
  else if ts.any (fun i => decide (16 < i.windows.length)) then 6
  else if ts.any im.streamsBad || im.queuesBad || s.queueTaken n im then 7
  else if ts.any TileInit.reservesBad then 8
  else if ts.any im.codeBad then 9
  else if ts.any (fun i => foldsOn segs i && (im.foldOf i.node).isNone) || im.fold.any (fun f => !f.2.poolGood
    || ((s.node f.1).fold.isSome && (s.node f.1).foldOwner != im.drove)) then 10
  else if ts.any TileInit.gentabBad then 11
  else 0

/-- `XVEC` as placed: without supervisor code of its own, the firmware's default stands at 4,096 less its length, and SENTRY follows
NENTRY where the image gives them alike (R355, R359). -/
def DroveImage.xvecOf (im : DroveImage) (i : TileInit) : Word :=
  if (im.codeRanges i 7).isEmpty then
    let p := 4096 - Config.defaultSupervisor.length
    setFld (if wfld i.xvec 16 12 = wfld i.xvec 0 12 then setFld i.xvec 16 12 p else i.xvec) 0 12 p
  else i.xvec

/-- The droves of a node after a first load. -/
def DroveImage.entry (im : DroveImage) (segs : List Segment) : DroveEntry where
  valid := true
  drove := im.drove
  st := .resident
  act := im.gen
  stb := 0
  gst := .one
  cmderr := false
  manifestHash := sha3 (im.manifest ++ im.keyId ++ im.signature)
  segs := segs
  tiles := im.tiles
  standby := segs.filter (fun g => (g.kind == 4 || g.kind == 5) && g.gen != im.gen)

/-- Whether a segment is written at the load: those of the node but the weights and records of another generation (R371). -/
def Segment.written (g : Segment) (n : Nat) (act : BitVec 4) : Bool :=
  g.node == n && !((g.kind == 4 || g.kind == 5) && g.gen != act)

end Sys2Proof

namespace Sys2Proof.Machine

/-! Writing -/

/-- Bytes written by the loader: they replace what was there, their poison with it (R363). -/
def State.load (s : State) (sp : MemSpace) (r : TileRef) (off : Nat) (bs : List Byte) : State :=
  let k := memKey sp r off
  { (s.placeBytes sp r off bs) with poison := s.poison.filter (fun u => !(decide (k ≤ u) && decide (u < k + bs.length))) }

/-- The words of bytes, eight at a time. -/
def wordsOf (bs : List Byte) : List Word := (List.range (bs.length / 8)).map (payWord bs)

/-- Codebook entries written from entry `k` on (R77, R358). -/
def Tile.loadCodebook (t : Tile) : Nat → List Word → Tile
  | _, [] => t
  | k, w :: ws => Tile.loadCodebook { t with cbEntry := spPut t.cbEntry k w, cbValid := if t.cbValid.contains k then t.cbValid else t.cbValid ++ [k] } (k + 1) ws

/-- A segment written to its tile (R362, R363). Kinds 3 and 6 write no memory of a tile: tile state is written with the tile, and
a parity share is kept. -/
def State.writeSegment (s : State) (g : Segment) : State :=
  let r : TileRef := ⟨g.node, g.tile⟩
  match g.kind with
  | 0 | 7 => s.load .imem r (16 * g.dest) g.bytes
  | 1 | 4 | 5 => s.load .sram r g.dest g.bytes
  | 2 => s.modTile r (fun t => t.loadCodebook g.dest (wordsOf g.bytes))
  | _ => s

/-- An input stream as placed, with its buffers where the tile already holds the same ones; a handler's binding is in force
(R364). -/
def placedIn (old : InStream) (x : Nat × Word × Word × Nat) (reserve : Nat) : InStream :=
  let d0 := if inMode x.2.1 = 1 ∨ inMode x.2.1 = 2 then x.2.1 ||| 0x8000000000000000 else x.2.1
  let same := inNbuf old.d0 == inNbuf d0 && inBsize old.d0 == inBsize d0 && inSid old.d0 == inSid d0 && old.base == x.2.2.2
    && !old.bufs.isEmpty
  if same then { old with d0 := d0, reserve := reserve, before := none }
  else ⟨d0, BitVec.ofNat 32 (wfld x.2.2.1 32 32), BitVec.ofNat 16 (wfld x.2.2.1 16 16), BitVec.ofNat 16 (wfld x.2.2.1 0 16),
    x.2.2.2, List.replicate (inNbuf d0) default, reserve, none⟩

/-- The tile state a load writes (R358). `egress` names the output streams bound to host queues, whose credits their queues issue;
`firmware` says that no node-supervisor code comes with the image (R359). The last tree number starts anew (R419). -/
def Tile.placed (t : Tile) (drove : BitVec 32) (xvec : Word) (firmware : Bool) (egress : List Nat) (i : TileInit) : Tile :=
  let ins := i.instreams.foldl (fun (v : Vector InStream 32) x =>
    v.setIfInBounds x.1 (placedIn (t.inS x.1) x (((i.reserves.find? (fun r => r.1 == x.1)).map (fun r => r.2)).getD 0))) Tile.reset.ins
  let outs := i.outstreams.foldl (fun (v : Vector OutStream 32) x =>
    v.setIfInBounds x.1 ⟨x.2.1, if egress.contains x.1 then 0 else outCap x.2.1, [], x.2.2, [], false⟩) Tile.reset.outs
  let wins := i.windows.zipIdx.foldl (fun (v : Vector (Vector Word 4) 16) w =>
    v.setIfInBounds w.2 #v[w.1.1, w.1.2.1, w.1.2.2, 0]) Tile.reset.windows
  let needs := i.needs.zipIdx.foldl (fun (v : Vector Word 16) w => v.setIfInBounds w.2 w.1) Tile.reset.need
  let t1 : Tile := { t with
    drove := drove, stage := i.stage, origin := i.origin, width := i.width, height := i.height, slots := i.slots, xvec := xvec
    gentab := i.gentab, firmware := firmware, ins := ins, outs := outs, port := Vector.replicate 2 0, windows := wins, need := needs, lastTree := 0xFFF }
  i.cregs.foldl (fun t c => match CReg.ofNumber (BitVec.ofNat 10 c.1) with
    | .ok q => if cregIsTile q then t.writeCReg 0 q c.2 else t
    | .error _ => t) t1

/-- A checkpoint entry put in its place by BUNDLE. -/
def insertCheckpoint (c : Word × Word × Word) : List (Word × Word × Word) → List (Word × Word × Word)
  | [] => [c]
  | d :: ds => if wfld c.1 32 12 ≤ wfld d.1 32 12 then c :: d :: ds else d :: insertCheckpoint c ds

/-- The checkpoint table of a tile (R394): entries of 32 bytes sorted by BUNDLE, the rest of its 32 KiB zero. -/
def checkpointBytes (cs : List (Word × Word × Word)) : List Byte :=
  ((cs.foldr insertCheckpoint []).flatMap (fun c => wordsBytes [c.1, c.2.1, c.2.2, 0])).take 0x8000

/-- A tile of the node loaded (R104, R358, R359): instruction memory is ones where no code stands. -/
def State.loadTile (s : State) (im : DroveImage) (i : TileInit) : State :=
  let r : TileRef := ⟨i.node, i.tile⟩
  let egress := (im.queues.filter (fun q => q.out && q.node == i.node && q.tile == i.tile)).map (fun q => q.stream)
  let s1 := (s.zeroBytes .imem r 0 0x10000).modTile r (fun t =>
    t.placed im.drove (im.xvecOf i) (im.codeRanges i 7).isEmpty egress i)
  let s2 := if (im.codeRanges i 7).isEmpty then
      s1.load .imem r (16 * (4096 - Config.defaultSupervisor.length)) (Config.defaultSupervisor.flatMap (fun b => natToBytes 16 b.toNat))
    else s1
  (s2.zeroBytes .sram r ckptBase 0x8000).load .sram r ckptBase (checkpointBytes i.checkpoints)

/-- The windows of a drove that name a node, as the node records them (R239). -/
def exportsOf (drove : BitVec 32) (n : Nat) (is : List TileInit) : List Export :=
  ((is.flatMap (fun i => i.windows)).filter (fun w => winNode w.1 == n && w.1.getLsbD 63)).eraseDups.map (fun w => ⟨drove, w.1, w.2.1, w.2.2⟩)

/-- A host queue bound (R412, R414): an ingress queue takes its credits as a sender of its stream. -/
def Node.bind (x : Node) (b : QueueBinding) : Node :=
  let k := if b.out then 8192 + b.queue else b.queue
  { x with queues := spPut x.queues k { x.queue k with binding := some b, credits := if b.out then 0 else b.cap } }

/-- The fold region of a node taken into use: its records and its pool empty (R294). -/
def State.openFold (s : State) (n : Nat) (d : BitVec 32) (f : FoldRegion) : State :=
  let s1 := s.modNode n (fun x => { x with fold := some f, foldOwner := d, framesUsed := [], framesCut := [], descUsed := [], runImages := [] })
  s1.zeroBytes .sram ⟨n, f.y * 16 + f.x⟩ 0x1F0000 0x900000

/-- `LDSTAT` after a load (Table 15.4). -/
def ldstatOf (code : Nat) (d : BitVec 32) : Word := BitVec.ofNat 64 (code % 16 * 2 ^ 59 + d.toNat)

/-- A load has failed (R356, R364): the drove is Absent, and the records held for it are refused. One that the node keeps Resident stays so,
and refuses none. -/
def State.loadFails (s : State) (n : Nat) (d : BitVec 32) (code : Nat) : State :=
  let s1 := s.modNode n (fun x => { x with
    ldstat := ldstatOf code d
    droves := x.droves.map (fun e => if e.drove == d && !e.valid then { e with st := .absent } else e) })
  if ((s.node n).drove d).isSome then s1
  else ((s1.node n).queues.filter (fun q => decide (q.1 < 8192))).foldl (fun s q => s.refuseHeld n q.1 d 65536) s1

/-- The muster of the segments of other nodes (R363). -/
def State.muster (s : State) (n : Nat) (im : DroveImage) : State :=
  (im.segments.zipIdx.filter (fun e => e.1.node != n && !e.1.bytes.isEmpty)).foldl (fun s e =>
    s.post n (.musterSegmentMsg e.1.node (manField im.manifest (segRecordOff e.2 + 12) 4 * 64) e.1.bytes)) s

/-- The packets of a tile that wait for a binding judged again (R214, R371). -/
def State.admitTile (s : State) (r : TileRef) : State :=
  ((List.range 32).foldl (fun s st => s.admitHeld r st) s).modTile r Tile.allClaims

/-- A verified image written as a new drove of the node, which is then Resident (R358, R364, R419). -/
def State.settleDrove (s : State) (n : Nat) (im : DroveImage) (segs : List Segment) : State :=
  let mine := im.tiles.filter (fun i => i.node == n)
  let s1 := mine.foldl (fun s i => s.loadTile im i) s
  let s2 := (segs.filter (fun g => g.written n im.gen)).foldl State.writeSegment s1
  let s3 := match im.foldOf n with
    | some f => s2.openFold n im.drove f
    | none => s2
  let s4 := s3.modNode n (fun x =>
    let y := (im.queues.filter (fun q => q.node == n)).foldl Node.bind ((x.setDrove (im.entry segs)).keepShare n im.drove segs)
    { y with ldstat := ldstatOf 0 im.drove, matrix := Node.reset.matrix
             exports := y.exports.filter (fun e => e.drove != im.drove) ++ exportsOf im.drove n im.tiles })
  mine.foldl (fun s i => s.admitTile ⟨n, i.tile⟩) s4

/-- The first need records of a tile that are not valid, filled (R375); none where there are too few. -/
def Tile.addNeeds (t : Tile) : List Word → Option Tile
  | [] => some t
  | w :: ws => match t.need.toList.findIdx? (fun v => !v.getLsbD 63) with
    | some k => Tile.addNeeds { t with need := t.need.setIfInBounds k w } ws
    | none => none

/-- The bundles a code segment takes. -/
def segRange (g : Segment) : Nat × Nat := (g.dest, g.dest + (g.bytes.length + 15) / 16)

/-- Whether the code an image adds to a resident drove meets code that stands on its tile or passes bundle 4,095, or its tile has too
few need records left (R375). -/
def State.extensionBad (s : State) (n : Nat) (im : DroveImage) (segs : List Segment) (e : DroveEntry) : Bool :=
  let codes := fun (gs : List Segment) (t : Nat) => (gs.filter (fun g => (g.kind == 0 || g.kind == 7) && g.node == n && g.tile == t)).map segRange
  let meets := fun (a b : Nat × Nat) => decide (a.1 < b.2) && decide (b.1 < a.2)
  segs.any (fun g => g.node == n && g.kind == 0 && (decide (4096 < (segRange g).2)
    || (codes e.segs g.tile ++ (if (s.tile ⟨n, g.tile⟩).firmware then [(4096 - Config.defaultSupervisor.length, 4096)] else [])).any
      (meets (segRange g))))
    || im.tiles.any (fun i => i.node == n && ((s.tile ⟨n, i.tile⟩).addNeeds i.needs).isNone)

/-- A verified image added to a resident drove (R375, R371): code, needs, and the segments of generations to come. -/
def State.extend (s : State) (n : Nat) (im : DroveImage) (segs : List Segment) (e : DroveEntry) : State :=
  let s1 := (segs.filter (fun g => g.node == n && g.kind == 0)).foldl State.writeSegment s
  let s2 := (im.tiles.filter (fun i => i.node == n)).foldl (fun s i =>
    s.modTile ⟨n, i.tile⟩ (fun t => (t.addNeeds i.needs).getD t)) s1
  s2.modNode n (fun x => { ((x.setDrove { e with
    segs := e.segs ++ segs
    standby := e.standby ++ segs.filter (fun g => (g.kind == 4 || g.kind == 5) && g.gen != e.act) }).keepShare n im.drove segs) with ldstat := ldstatOf 0 im.drove })

/-- The segments of an image that its load writes and verifies: the node's own, those of a generation to come excepted. -/
def written (segs : List Segment) (n : Nat) (act : BitVec 4) : List Segment := segs.filter (fun g => g.written n act)

/-- A drove image loaded on a node (R356, R363, R364, R375). Nothing is written before the signature and the placement have been
checked. A drove that is being removed is not loaded before it is gone (log entry 114). -/
def State.loadDrove (s : State) (n : Nat) (im : DroveImage) : State :=
  let x := s.node n
  if !x.booted || x.failed then s
  else
    let segs := x.segments im
    let e := x.drove im.drove
    if e.any (fun e => e.st == .removing) then s
    else if !im.manifestGood || !x.signedBy im || !im.tilesSigned segs n || !x.hasRoom im.drove then s.loadFails n im.drove 0
    else
      let code := match e with
        | some e => if s.extensionBad n im segs e then 9 else 0
        | none => s.placementCode n im segs
      if code ≠ 0 then s.loadFails n im.drove code
      else
        let v := (s.muster n im).verify (written segs n ((e.map (fun e => e.act)).getD im.gen))
        if !v.1 then v.2.loadFails n im.drove 0
        else match e with
          | some e => v.2.extend n im segs e
          | none => v.2.settleDrove n im segs

/-- `DROVE_LOAD` (R356, R363, R364, R375). -/
def execDroveLoad (n : Nat) (im : DroveImage) (s : State) : Out := .next (s.loadDrove n im)

/-- `MUSTER_SEGMENT_MSG` (R363): segment data at its place in the image. -/
def execMusterSegmentMsg (n k : Nat) (bs : List Byte) (s : State) : Out :=
  s.taking (.musterSegmentMsg n k bs) (fun s => s.modNode n (fun x => { x with muster := spPut x.muster k bs }))

/-! Removal -/

/-- The tiles of a drove on a node. -/
def State.droveTiles (s : State) (n : Nat) (d : BitVec 32) : List Nat :=
  (s.node n).tiles.filterMap (fun t => if t.2.slots != 0 && t.2.drove == d then some t.1 else none)

/-- The drove table's k-th entry, and the table with it replaced. -/
def State.droveAt (s : State) (n k : Nat) : Option DroveEntry := (s.node n).droves[k]?.filter (fun e => e.valid)
def State.modDrove (s : State) (n k : Nat) (f : DroveEntry → DroveEntry) : State :=
  s.modNode n (fun x => { x with droves := x.droves.modify k f })

/-- `DROVE_REMOVAL` (R364): the bindings of the drove's streams go, and packets then arriving are held. -/
def execDroveRemoval (n k : Nat) (s : State) : Out :=
  .next (match s.droveAt n k with
    | some e =>
      if e.st = .resident then
        (s.droveTiles n e.drove).foldl (fun s t => s.modTile ⟨n, t⟩ (fun t =>
          { t with ins := t.ins.map (fun x => { x with d0 := setFld x.d0 63 1 0 }) })) (s.modDrove n k (fun e => { e with st := .removing }))
      else s
    | none => s)

/-- Whether no task, packet or saved context of a tile remains (R364). -/
def Tile.empty (t : Tile) : Bool :=
  t.ctxs.toList.all (fun c => c.st == .free) && t.deque.isEmpty && t.ins.toList.all (fun x => x.bufs.all (fun b => b.st == .free))
    && t.outs.toList.all (fun x => x.opened.isEmpty)

/-- Whether a drove may be withdrawn from a node. -/
def State.withdrawable (s : State) (n : Nat) (e : DroveEntry) : Bool :=
  e.st == .removing && (s.droveTiles n e.drove).all (fun t => (s.tile ⟨n, t⟩).empty && s.packets.all (fun p => p.dest != ⟨n, t⟩))

/-- What a drove's removal ends on a tile (R364, Table 0.2): its placement, windows, bindings, weights, codebooks, formats and
checkpoints. -/
def Tile.unplaced (t : Tile) : Tile :=
  { t with
    drove := 0, slots := 0, xvec := 0, gentab := none, firmware := false
    ins := Tile.reset.ins, outs := Tile.reset.outs, windows := Tile.reset.windows, need := Tile.reset.need
    fmt := Tile.reset.fmt, ftab := Tile.reset.ftab, ftctl := 0, cbctl := Tile.reset.cbctl, cbEntry := [], cbValid := []
    wval := false, wtag := 0, weights := [] }

/-- The record of a tag on each tile that has records loses its V (R373). -/
def State.clearRecord (s : State) (n : Nat) (d : BitVec 32) (g : BitVec 4) : State :=
  (s.droveTiles n d).foldl (fun s t => match (s.tile ⟨n, t⟩).gentab with
    | some o => s.writeWord .sram ⟨n, t⟩ (o + 32 * g.toNat + 0x18) 0
    | none => s) s

/-- The records that a drove leaves in its tiles' SRAM lose their V: of the generations, and of a tile saved with TILE = 1 (Table 0.2). -/
def State.clearRecords (s : State) (n : Nat) (d : BitVec 32) : State :=
  (s.droveTiles n d).foldl (fun s t =>
    s.writeWord .sram ⟨n, t⟩ saveBase (s.readWord .sram ⟨n, t⟩ saveBase &&& 0x7FFFFFFFFFFFFFFF))
    ((List.range 16).foldl (fun s g => s.clearRecord n d (BitVec.ofNat 4 g)) s)

/-- A drove withdrawn (R364, Table 0.2): its tiles' state, its records, and its fold region with the sequences in it. -/
def State.withdraw (s0 : State) (n k : Nat) (e : DroveEntry) : State :=
  let s := s0.clearRecords n e.drove
  let ts := s.droveTiles n e.drove
  let s1 := ts.foldl (fun s t =>
    ((s.zeroBytes .imem ⟨n, t⟩ 0 0x10000).zeroBytes .sram ⟨n, t⟩ ckptBase 0x8000).modTile ⟨n, t⟩ Tile.unplaced) s
  let s2 := s1.modNode n (fun x => if x.fold.isSome && x.foldOwner == e.drove then
      { x with fold := none, foldOwner := 0, framesUsed := [], framesCut := [], descUsed := [], runImages := [], retained := [], movers := [] }
    else x)
  s2.modNode n (fun x => { x with
    droves := x.droves.modify k DroveEntry.gone
    exports := x.exports.filter (fun y => y.drove != e.drove)
    queues := x.queues.map (fun q => match q.2.binding with
      | some b => if ts.contains b.tile then (q.1, { q.2 with binding := none, credits := 0, hold := false }) else q
      | none => q) })

/-- `DROVE_WITHDRAWAL` (R364). -/
def execDroveWithdrawal (n k : Nat) (s : State) : Out :=
  .next (match s.droveAt n k with
    | some e => if s.withdrawable n e then s.withdraw n k e else s
    | none => s)

end Sys2Proof.Machine
end

