-- ==== Sys2Proof/Machine/Generations.lean ====
section
/-! DEFINITION. Generations (spec/13 R370 to R374): the commands of `DGCMD`, the verification of a standby generation, the switch, and
the end of the old one. -/

namespace Sys2Proof.Machine

/-- The code of a generation state (Table 13.7). -/
def GenState.code : GenState → Nat
  | .one => 0
  | .loading => 1
  | .verified => 2
  | .switched => 3
  | .failed => 4

/-- The tasks and the not-done packets of a drove on a node that carry a tag (R372, Table 13.7). -/
def State.tagCount (s : State) (n : Nat) (d : BitVec 32) (g : BitVec 4) : Nat :=
  (s.droveTiles n d).foldl (fun a k =>
    let r : TileRef := ⟨n, k⟩
    let t := s.tile r
    let tasks := (t.ctxs.toList.filter (fun c => c.st != .free && c.gen == g)).length + (t.deque.filter (fun e => e.gen == g)).length
    let packets := ((List.range 32).map (fun st => ((List.range (t.inS st).bufs.length).filter (fun i =>
      ((t.inS st).buf i).st != .free && hdrGen (s.bufHdr r st i).2 == g)).length)).foldl (fun a b => a + b) 0
    a + tasks + packets) 0

/-- `DGEN` (Table 13.7). -/
def State.dgen (s : State) (n : Nat) (e : DroveEntry) : Word :=
  let old := if e.gst = .switched then min 0xFFFF (s.tagCount n e.drove e.stb) else 0
  BitVec.ofNat 64 (e.act.toNat * 2 ^ 60 + e.stb.toNat * 2 ^ 56 + e.gst.code * 2 ^ 53 + (if e.cmderr then 2 ^ 52 else 0) + old * 2 ^ 36)

/-- A command not accepted (R371). -/
def State.genErr (s : State) (n k : Nat) : State := s.modDrove n k (fun e => { e with cmderr := true })

/-- A change of a drove's generation state, with line 3 on the origin tile of each of its stages (R371, Table 15.9). -/
def State.setGen (s : State) (n k : Nat) (e : DroveEntry) : State :=
  let origins := (s.droveTiles n e.drove).filter (fun t => (s.tile ⟨n, t⟩).origin == t)
  origins.foldl (fun s t => s.raiseLine ⟨n, t⟩ 3) (s.modDrove n k (fun _ => e))

/-- The packets of a drove on a node that wait for a tag to become live are judged again (R371). -/
def State.admitDrove (s : State) (n : Nat) (d : BitVec 32) : State :=
  (s.droveTiles n d).foldl (fun s t => s.admitTile ⟨n, t⟩) s

/-- The Held packets of a tile that carry a tag are rejected (R371, R361), those Held by tag order among them (Table 7.6). One delivered on a
stream of a join goes with the packet it is paired with, once that is delivered (R217; log entry 132). -/
def State.rejectTag (s : State) (r : TileRef) (g : BitVec 4) : State :=
  (List.range 32).foldl (fun s st => (List.range ((s.tile r).inS st).bufs.length).foldl (fun s i =>
    let b := ((s.tile r).inS st).buf i
    if b.st != .held || hdrGen (s.bufHdr r st i).2 != g then s
    else if inMode ((s.tile r).inS st).d0 == 2 && !b.tagHeld then
      (s.modTile r (fun t => t.modIn st (fun x => x.modBuf i (fun b => { b with doomed := true })))).settlePairs r st
    else (s.freeBuffer r st i).modTile r (fun t => t.countRejects 1)) s) s

/-- `DGCMD` LOAD (Table 13.8). -/
def State.genLoad (s : State) (n k : Nat) (g : BitVec 4) : State :=
  match s.droveAt n k with
  | none => s
  | some e =>
    if (e.gst = .one ∧ g ≠ e.act) ∨ (e.gst = .failed ∧ g = e.stb) then s.setGen n k { e with stb := g, gst := .loading }
    else s.genErr n k

/-- `DGCMD` SWITCH (Table 13.8): ACT and STB change places at one instant. -/
def State.genSwitch (s : State) (n k : Nat) : State :=
  match s.droveAt n k with
  | none => s
  | some e =>
    if e.gst = .verified then s.setGen n k { e with act := e.stb, stb := e.act, gst := .switched }
    else s.genErr n k

/-- `DGCMD` ABORT (Table 13.8). -/
def State.genAbort (s : State) (n k : Nat) : State :=
  match s.droveAt n k with
  | none => s
  | some e =>
    if e.gst = .loading ∨ e.gst = .verified ∨ e.gst = .failed then
      let s1 := s.clearRecord n e.drove e.stb
      ((s1.droveTiles n e.drove).foldl (fun s t => s.rejectTag ⟨n, t⟩ e.stb) s1).setGen n k { e with gst := .one }
    else s.genErr n k

/-- `DGCMD_LOAD` (R371). -/
def execDgcmdLoad (n k : Nat) (g : BitVec 4) (s : State) : Out := .next (if (s.node n).answers then s.genLoad n k g else s)

/-- `DGCMD_SWITCH` (R371). -/
def execDgcmdSwitch (n k : Nat) (s : State) : Out := .next (if (s.node n).answers then s.genSwitch n k else s)

/-- `DGCMD_ABORT` (R371). -/
def execDgcmdAbort (n k : Nat) (s : State) : Out := .next (if (s.node n).answers then s.genAbort n k else s)

/-- A write of `DGCMD` (Table 13.7): CMD 1, 2 and 4; every other value sets CMDERR. -/
def State.dgcmd (s : State) (n k : Nat) (w : Word) : State :=
  match wfld w 0 4 with
  | 1 => s.genLoad n k (BitVec.ofNat 4 (wfld w 4 4))
  | 2 => s.genSwitch n k
  | 4 => s.genAbort n k
  | _ => if (s.droveAt n k).isSome then s.genErr n k else s

/-- `DGCMD_INVALID` (R370, R371): a command word that no transition accepts. -/
def execDgcmdInvalid (n k : Nat) (w : Word) (s : State) : Out := .next (if (s.node n).answers then s.dgcmd n k w else s)

/-- The segments of the generation being loaded that are the node's own. -/
def DroveEntry.coming (e : DroveEntry) (n : Nat) : List Segment := e.standby.filter (fun g => g.gen == e.stb && g.node == n)

/-- Whether a generation being loaded has all its segments on the node. -/
def DroveEntry.genReady (e : DroveEntry) (n : Nat) : Bool := e.gst == .loading && !(e.coming n).isEmpty

/-- The records of a generation published last, each with V last of all (R373). -/
def recordsLast (gs : List Segment) : List Segment := gs.filter (fun g => g.kind != 5) ++ gs.filter (fun g => g.kind == 5)

/-- A standby generation verified, or failed after its retries (R363, R371, R373). -/
def State.verifyGeneration (s : State) (n k : Nat) : State :=
  match s.droveAt n k with
  | none => s
  | some e =>
    if !e.genReady n then s
    else
      let v := s.verify (e.coming n)
      if v.1 then
        (((recordsLast (e.coming n)).foldl State.writeSegment v.2).setGen n k { e with gst := .verified }).admitDrove n e.drove
      else (v.2.clearRecord n e.drove e.stb).setGen n k { e with gst := .failed }

/-- `GENERATION_VERIFIED` (R371, R373). -/
def execGenerationVerified (n k : Nat) (s : State) : Out := .next (s.verifyGeneration n k)

/-- `GENERATION_DRAINED` (R371, R373): nothing carries the old tag any more. -/
def execGenerationDrained (n k : Nat) (s : State) : Out :=
  .next (match s.droveAt n k with
    | some e =>
      if e.gst = .switched ∧ s.tagCount n e.drove e.stb = 0 then (s.clearRecord n e.drove e.stb).setGen n k { e with gst := .one }
      else s
    | none => s)

end Sys2Proof.Machine
end

