-- ==== Sys2Proof/Machine/Repair.lean ====
section
/-! DEFINITION. Repair and transhumance (spec/17 R430 to R433): the resynchronisation of a stream's credits, the move point, and the
rebuilding of a lost node's weights from parity. -/

namespace Sys2Proof.Machine

/-! Holds (R430) -/

/-- The input stream and the receiving tile that a hold names (Table 15.2e). -/
def holdStream (w : Word) : Nat := wfld w 8 5
def holdTile (w : Word) : Nat := wfld w 0 8
def holdWord (tile st : Nat) : Word := BitVec.ofNat 64 (st % 32 * 256 + tile % 256)

/-- The senders of an input stream as placement gives them: each a context reference of node, tile and output stream (a host
queue q is tile 256 + q), with its CAP (R357). -/
def State.sendersAt (s : State) (n : Nat) (r : TileRef) (st : Nat) : List (CtxRef × Nat) :=
  ((s.node n).droves.flatMap (fun e => e.tiles.filter (fun i => i.node == r.node && i.tile == r.tile))).flatMap (fun i =>
    (i.senders.filter (fun x => x.1 == st)).map (fun x => (⟨x.2.1, x.2.2.1, x.2.2.2.1⟩, x.2.2.2.2)))

/-- The output stream of a sender. -/
def State.senderOut (s : State) (c : CtxRef) : OutStream := (s.tile (tileOf c)).outS c.slot

/-- A sender has drained (R430): no packet of its stream is open, closed and unsent, or on its way. A host queue opens none. -/
def State.drained (s : State) (c : CtxRef) : Bool :=
  (decide (256 ≤ c.tile) || (s.senderOut c).opened.isEmpty) && s.packets.all (fun p => p.sender != c)

/-- A sender's hold, of an output stream or of a host queue: whether it stands, and set (R430). -/
def State.holding (s : State) (c : CtxRef) : Bool :=
  if c.tile < 256 then (s.senderOut c).hold else ((s.node c.node).queue (c.tile - 256)).hold
def State.setHold (s : State) (c : CtxRef) : State :=
  if c.tile < 256 then s.modTile (tileOf c) (fun t => t.modOut c.slot (fun x => { x with hold := true }))
  else s.modQueue c.node (c.tile - 256) (fun q => { q with hold := true })

/-- The senders on a node that a hold from another concerns, host queues among them. -/
def State.heldSenders (s : State) (n src : Nat) (w : Word) : List CtxRef :=
  ((s.sendersAt n ⟨src, holdTile w⟩ (holdStream w)).map (fun x => x.1)).filter (fun c => c.node == n)

/-- The node a hold is from: where it names none, the first one that repairs the stream it names and has senders here (log entry 13). -/
def State.holdSource (s : State) (n src : Nat) (w : Word) : Nat :=
  if src < unnamedNode then src
  else ((s.nodes.find? (fun e => (e.2.resync.any (fun q => q.tile == holdTile w && q.stream == holdStream w))
    && !(s.heldSenders n e.1 w).isEmpty)).map (fun e => e.1)).getD n

/-- The nodes on which a stream has senders on tiles. -/
def State.senderNodes (s : State) (r : TileRef) (st : Nat) : List Nat :=
  ((s.sendersAt r.node r st).filter (fun x => decide (x.1.tile < 256))).map (fun x => x.1.node) |>.eraseDups

/-- A hold sent to every sender of a stream (R430, R431); the one to the node itself reaches its host queues, and is answered where the
stream has no sender. -/
def State.sendHolds (s : State) (r : TileRef) (st : Nat) : State :=
  ((s.senderNodes r st).filter (fun m => m != r.node)).foldl (fun s m => s.post r.node (.holdMsg m r.node (holdWord r.tile st)))
    (s.send (.holdMsg r.node r.node (holdWord r.tile st)))

/-- A write of `CRESYNC` (R430): GO starts a repair where none is in progress. -/
def State.writeCresync (s : State) (n : Nat) (w : Word) : State :=
  let v : Word := w &&& 0x8000000000001FFF
  if (s.node n).resync.isSome then s
  else if v.getLsbD 63 then
    let r : TileRef := ⟨n, holdTile v⟩
    let st := holdStream v
    (s.modNode n (fun x => { x with cresync := v, resync := some ⟨r.tile, st, [], (s.sendersAt n r st).map (fun x => x.1)⟩ })).sendHolds r st
  else s.modNode n (fun x => { x with cresync := v })

/-- `CRESYNC` (R430). -/
def execCresync (n : Nat) (w : Word) (s : State) : Out := .next (if (s.node n).answers then s.writeCresync n w else s)

/-- `HOLD_MSG` (R430): the senders hold at once; the answers go when all of them have drained. -/
def execHoldMsg (n src : Nat) (w : Word) (s : State) : Out :=
  let e := Event.holdMsg n src w
  .next (if s.net.contains e then
      let src := s.holdSource n src w
      let cs := s.heldSenders n src w
      let s1 := cs.foldl State.setHold s
      if cs.all s1.drained then
        let s2 := { s1 with net := s1.net.erase e }
        if cs.isEmpty then (if src = n then s2.post n (.holdAnswerMsg src n w 256) else s2)
        else cs.foldl (fun s c => s.post n (.holdAnswerMsg src n w (BitVec.ofNat 64 c.tile))) s2
      else s1
    else s)

/-- Whether an input stream still takes a packet in, or has one on its way. -/
def State.streamBusy (s : State) (r : TileRef) (st : Nat) : Bool :=
  let x := (s.tile r).inS st
  x.bufs.any (fun b => b.st == .receiving) || s.packets.any (fun p => p.dest == r && hdrStream p.hdr0 == inSid x.d0)

/-- The buffers that hold a sender's packets (R430). -/
def InStream.holds (x : InStream) (c : CtxRef) : Nat := x.count (fun b => b.st != .free && b.sender == c)

/-- The repair's end (R430): each sender's FREE becomes CAP − o, and its hold ends. A host queue's credits are set here. -/
def State.endResync (s : State) (n : Nat) (q : Resync) : State :=
  let r : TileRef := ⟨n, q.tile⟩
  let x := (s.tile r).inS q.stream
  let s1 := s.modNode n (fun y => { y with resync := none, cresync := setFld y.cresync 63 1 0 })
  (s.sendersAt n r q.stream).foldl (fun s c =>
    let free := c.2 - x.holds c.1
    if c.1.tile < 256 then s.post n (.holdEndMsg c.1.node n (holdWord q.tile q.stream) (BitVec.ofNat 64 (c.1.tile * 256 + free)))
    else s.modQueue n (c.1.tile - 256) (fun h => { h with credits := free, hold := false })) s1

/-- `HOLD_ANSWER_MSG` (R430): the last answer waits until no buffer is Receiving. -/
def execHoldAnswerMsg (n src : Nat) (w v : Word) (s : State) : Out :=
  s.takingIf (.holdAnswerMsg n src w v) (fun s =>
    match (s.node n).resync with
    | none => some s
    | some q =>
      if q.tile ≠ holdTile w ∨ q.stream ≠ holdStream w then some s
      else
        let got := q.answers ++ (if src < unnamedNode then q.senders.filter (fun c => c.node == src && c.tile == v.toNat)
          else ((q.senders.find? (fun c => c.node != n && c.tile == v.toNat && !q.answers.contains c)).toList))
        if q.senders.all (fun c => got.contains c) then
          (if s.streamBusy ⟨n, q.tile⟩ q.stream then none else some (s.endResync n q))
        else some (s.modNode n (fun x => { x with resync := some { q with answers := got } })))

/-- The nodes that the placement facts of a node's droves name. -/
def Node.placedNodes (x : Node) : List Nat := (x.droves.flatMap (fun e => e.tiles.map (fun i => i.node))).eraseDups

/-- `HOLD_END_MSG` (R430): the new FREE of the sending tile it goes to, and the end of its hold. -/
def execHoldEndMsg (n src : Nat) (w v : Word) (s : State) : Out :=
  s.taking (.holdEndMsg n src w v) (fun s =>
    let from' := if src < unnamedNode then [src] else (s.node n).placedNodes.filter (fun m => m != n)
    ((from'.flatMap (fun m => s.heldSenders n m w)).filter (fun c => c.tile == wfld v 8 8 && s.holding c)).foldl (fun s c =>
      s.modTile (tileOf c) (fun t => t.modOut c.slot (fun x => { x with free := wfld v 0 7, hold := false }))) s)

/-! The move point (R431) -/

/-- A node's name replaced. -/
def moved (old new n : Nat) : Nat := if n = old then new else n
def movedRef (old new : Nat) (c : CtxRef) : CtxRef := { c with node := moved old new c.node }

/-- Placement facts with a node replaced. -/
def movedInit (old new : Nat) (i : TileInit) : TileInit :=
  { i with
    node := moved old new i.node
    outstreams := i.outstreams.map (fun x => (x.1, setFld x.2.1 52 12 (moved old new (outNode x.2.1)), x.2.2))
    senders := i.senders.map (fun x => (x.1, moved old new x.2.1, x.2.2))
    windows := i.windows.map (fun w => (setFld w.1 40 12 (moved old new (winNode w.1)), w.2)) }

def movedSeg (old new : Nat) (g : Segment) : Segment := { g with node := moved old new g.node }

def movedEntry (old new : Nat) (e : DroveEntry) : DroveEntry :=
  { e with tiles := e.tiles.map (movedInit old new), segs := e.segs.map (movedSeg old new), standby := e.standby.map (movedSeg old new) }

/-- A tile at the move point: output descriptors and windows that name the old node, and the ends of its holds. -/
def Tile.movePoint (t : Tile) (old new : Nat) : Tile :=
  { t with
    outs := t.outs.map (fun x => if outNode x.d0 = old then { x with d0 := setFld x.d0 52 12 new, hold := false } else x)
    ins := t.ins.map (fun x => { x with bufs := x.bufs.map (fun b => { b with sender := movedRef old new b.sender }) })
    windows := t.windows.map (fun w => w.setIfInBounds 0 (setFld ((w[0]?).getD 0) 40 12 (moved old new (winNode ((w[0]?).getD 0))))) }

/-- A node at the move point: at one instant its descriptors, its windows, its map and its placement facts (R431). -/
def Node.movePoint (x : Node) (self old new : Nat) : Node :=
  let old64 := x.membersWord self (old / 64) &&& ~~~(1#64 <<< (old % 64))
  let y := x.setMembers self (old / 64) old64
  let z := y.setMembers self (new / 64) (y.membersWord self (new / 64) ||| (1#64 <<< (new % 64)))
  { z with tiles := z.tiles.map (fun t => (t.1, t.2.movePoint old new))
           droves := z.droves.map (movedEntry old new) }

/-- `MOVE_POINT_MSG` (R431, Table 15.2e). -/
def execMovePointMsg (n : Nat) (w : Word) (s : State) : Out :=
  s.taking (.movePointMsg n w) (fun s => s.modNode n (fun x => x.movePoint n (wfld w 0 12) (wfld w 12 12)))

/-! Parity (R432) -/

/-- Bytes combined by exclusive or; the shorter padded with zeros. -/
def xorBytes : List Byte → List Byte → List Byte
  | [], bs => bs
  | as, [] => as
  | a :: as, b :: bs => (a ^^^ b) :: xorBytes as bs

/-- The weight and code segments of a node. -/
def DroveEntry.striped (e : DroveEntry) (n : Nat) : List Segment :=
  e.segs.filter (fun g => g.node == n && (g.kind == 0 || g.kind == 4 || g.kind == 7))

/-- The drove's entry on a node, and the image of that node's weight and code segments. -/
def State.entryOn (s : State) (n : Nat) (d : BitVec 32) : Option DroveEntry := (s.node n).drove d
def State.rowImage (s : State) (n : Nat) (d : BitVec 32) : List Byte :=
  ((s.entryOn n d).map (fun e => (e.striped n).flatMap (fun g => g.bytes))).getD []

/-- The parity share a node keeps. -/
def State.shareOf (s : State) (n : Nat) (d : BitVec 32) : Option (List Byte) :=
  ((s.node n).shares.find? (fun e => e.1 == d)).map (fun e => e.2)

/-- Whether a node's image or share can be had. -/
def State.lost (s : State) (n : Nat) : Bool := (s.node n).failed

/-- Chip `j` of a lost node, from the share it lies in and the seven other chips of that share; `len` is the chip length. -/
def State.rebuildChip (s : State) (n : Nat) (d : BitVec 32) (len j : Nat) : Option (List Byte) :=
  let node := fun (c : Nat) => n / 64 * 64 + c % 64
  let y := node (n % 64 + 64 * 2 - j - 1)
  let others := (List.range 8).filter (fun i => i != j)
  let named := fun (i : Nat) => node (y % 64 + i + 1)
  if s.lost y || others.any (fun i => s.lost (named i)) then none
  else (s.shareOf y d).map (fun p =>
    others.foldl (fun a i => xorBytes a (((s.rowImage (named i) d ++ List.replicate (8 * len) 0).drop (i * len)).take len)) (p.take len))

/-- The length of a chip: an eighth of the longest image of the row, padded to a multiple of 8 bytes. `lens` holds the lengths of the
row's images. -/
def chipLen (lens : List Nat) : Nat := (lens.foldl max 0 + 7) / 8

/-- The weight and code bytes of a lost node, rebuilt (R432); `lens` are the segments' lengths in image order. -/
def State.rebuild (s : State) (n : Nat) (d : BitVec 32) (own : Nat) : Option (List Byte) :=
  let row := (List.range 64).map (fun c => n / 64 * 64 + c)
  let len := chipLen (own :: row.map (fun m => if m = n then 0 else (s.rowImage m d).length))
  (List.range 8).foldl (fun acc j => match acc, s.rebuildChip n d len j with
    | some bs, some c => some (bs ++ c)
    | _, _ => none) (some [])

/-- Segments given their bytes from an image, in order. -/
def cutSegments : List (Segment × Nat) → List Byte → List Segment
  | [], _ => []
  | (g, n) :: gs, bs => { g with bytes := bs.take n } :: cutSegments gs (bs.drop n)

/-! Transhumance (R431) -/

/-- The nodes of the droves of a node, and the drove entries other nodes keep of a drove. -/
def State.droveNodes (s : State) (n : Nat) : List Nat :=
  ((s.node n).droves.flatMap (fun e => e.tiles.map (fun i => i.node))).eraseDups

/-- The tiles of a node that a stage or its fold region uses. -/
def State.usedTiles (s : State) (n : Nat) : List Nat :=
  (List.range 256).filter (fun t => (s.tile ⟨n, t⟩).slots != 0 || (match (s.node n).fold with
    | some f => f.has t
    | none => false))

/-- Whether a node may serve as a spare: it runs, and it places no stage. -/
def State.isSpare (s : State) (n k : Nat) : Bool :=
  n != k && (s.node k).booted && !(s.node k).failed && (s.node k).droves.all (fun e => !e.valid)
    && (s.node k).tiles.all (fun t => t.2.slots == 0)

/-- The move point sent to every other node of the droves, and made on the spare. -/
def State.announceMove (s : State) (n k : Nat) (nodes : List Nat) : State :=
  let w : Word := BitVec.ofNat 64 (n % 4096 + k % 4096 * 4096)
  (nodes.filter (fun m => m != n && m != k)).foldl (fun s m => s.post k (.movePointMsg m w))
    (s.modNode k (fun x => x.movePoint k n k))

/-- What a retiring node holds of its droves goes to the spare (R431): tiles, memories, fold state and host bindings. The droves
become Resident there, so its tree numbers start anew (R419). -/
def State.carryOver (s : State) (n k : Nat) : State :=
  let nodes := s.droveNodes n
  let ts := s.usedTiles n
  let s1 := ts.foldl (fun s t =>
    (s.moveBytes (memKey .sram ⟨n, t⟩ 0) (memKey .sram ⟨k, t⟩ 0) 0xC00000).moveBytes (memKey .imem ⟨n, t⟩ 0) (memKey .imem ⟨k, t⟩ 0) 0x10000) s
  let x := s.node n
  let s3 := s1.modNode k (fun y => { y with
    tiles := ts.foldl (fun m t => spPut m t { s.tile ⟨n, t⟩ with lastTree := 0xFFF }) y.tiles
    droves := x.droves
    exports := x.exports.map (fun e => { e with d0 := setFld e.d0 40 12 (moved n k (winNode e.d0)) })
    matrix := x.matrix, fold := x.fold, foldOwner := x.foldOwner, framesUsed := x.framesUsed
    framesCut := x.framesCut, descUsed := x.descUsed, runImages := x.runImages
    shares := x.shares ++ y.shares.filter (fun e => x.shares.all (fun v => v.1 != e.1))
    queues := x.queues.map (fun q => (q.1, { HostQueue.reset with
      binding := q.2.binding.map (fun b => { b with node := k }), credits := q.2.credits })) })
  let s4 := ts.foldl (fun s t => (s.zeroBytes .imem ⟨n, t⟩ 0 0x10000).setTile ⟨n, t⟩ Tile.reset)
    (s3.modNode n (fun y => { y with
      droves := [], exports := [], fold := none, foldOwner := 0, framesUsed := [], framesCut := [], descUsed := []
      runImages := []
      queues := y.queues.map (fun q => (q.1, { q.2 with binding := none, credits := 0, hold := false })) }))
  let claim := fun (c : Claim) => { c with ctx := movedRef n k c.ctx }
  let s5 : State := { s4 with nodes := s4.nodes.map (fun (e : Nat × Node) => (e.1, { e.2 with
    locks := e.2.locks.map (fun o => { o with holders := o.holders.map claim, queue := o.queue.map claim })
    tiles := if e.1 = k then e.2.tiles.map (fun t => (t.1, { t.2 with
      ctxs := t.2.ctxs.map (fun c => { c with parent := c.parent.map (movedRef n k) }) })) else e.2.tiles })) }
  s5.announceMove n k nodes

/-- The senders of a node's stage inputs, host queues among them; what its own tasks send moves with their save. -/
def State.inputSenders (s : State) (n : Nat) : List CtxRef :=
  ((s.usedTiles n).flatMap (fun t => (List.range 32).flatMap (fun st => (s.sendersAt n ⟨n, t⟩ st).map (fun x => x.1)))).filter (fun c =>
    c.node != n || decide (256 ≤ c.tile))

/-- Whether a retiring node is ready to be left (R431 steps 1 and 2): every sender of its inputs that works holds and has drained, every
context is saved, and no packet is in flight to it. -/
def State.mayLeave (s : State) (n : Nat) : Bool :=
  (s.inputSenders n).all (fun c => s.lost c.node || (s.holding c && s.drained c))
    && (s.usedTiles n).all (fun t => (s.tile ⟨n, t⟩).allSaved && (s.tile ⟨n, t⟩).save.isNone)
    && s.packets.all (fun p => p.dest.node != n) && (s.node n).movers.isEmpty

/-- The retirement of a node begins: every sender of its inputs holds, and a checkpoint save of every tile is commanded (R431). -/
def State.beginLeave (s : State) (n : Nat) : State :=
  let ts := (List.range 256).filter (fun t => (s.tile ⟨n, t⟩).slots != 0)
  ts.foldl (fun s t =>
    let ins := (List.range 32).filter (fun st => inMode ((s.tile ⟨n, t⟩).inS st).d0 != 3)
    (ins.foldl (fun s st => s.sendHolds ⟨n, t⟩ st) s).psWrite ⟨n, t⟩ 0x70FF000000000000) s

/-- A lost node's part of a drove rebuilt on the spare (R431, R432): tile state and the other segments from the image as the drove's
other nodes keep it, weights and code from parity; every segment is verified. -/
def State.rebuildDrove (s : State) (n k : Nat) (d : BitVec 32) : State :=
  let keeper := ((s.node n).droves.filter (fun e => e.drove == d)).flatMap (fun e => e.tiles.map (fun i => i.node))
  let fail := fun (s : State) => s.rasLog k 5 ⟨0, 0, 0⟩ 0 0
  match keeper.find? (fun m => m != n && !s.lost m && (s.entryOn m d).isSome) with
  | none => fail s
  | some m => match s.entryOn m d with
    | none => fail s
    | some e =>
      let mine := e.segs.filter (fun g => g.node == n)
      let lens := (e.striped n).map (fun g => (g, ((s.entryOn n d).bind (fun x => (x.segs.find? (fun h => h.hash == g.hash)).map
        (fun h => h.bytes.length))).getD g.bytes.length))
      match s.rebuild n d (lens.foldl (fun a g => a + g.2) 0) with
      | none => fail s
      | some bs =>
        let striped := cutSegments lens bs
        let others := mine.filter (fun g => g.kind != 0 && g.kind != 4 && g.kind != 7 && g.kind != 6)
        if !(striped ++ others).all Segment.good then fail s
        else
          let im : DroveImage := ⟨d, [], [], [], e.act, (striped ++ others).map (movedSeg n k), e.tiles.map (movedInit n k), [], []⟩
          let segs := im.segments
          let tiles := im.tiles.filter (fun i => i.node == k)
          let s1 := (segs.filter (fun g => g.written k e.act)).foldl State.writeSegment (tiles.foldl (fun s i => s.loadTile im i) s)
          s1.modNode k (fun x => { (x.setDrove { movedEntry n k e with standby := [] }) with
            exports := x.exports ++ exportsOf d k im.tiles })

/-- The drove leaves a failed node (R431, R432); what its tiles held is lost. -/
def State.leaveFailed (s : State) (n k : Nat) : State :=
  let nodes := s.droveNodes n
  let ds := (s.node n).droves.filter (fun e => e.valid)
  let s1 := ds.foldl (fun s e => s.rebuildDrove n k e.drove) s
  let fold := (s.node n).fold
  let s2 := match fold with
    | some f => s1.openFold k (s.node n).foldOwner f
    | none => s1
  s2.announceMove n k nodes

/-- `TRANSHUMANCE` (R431): a failed node is left at once; a retiring one once its senders hold, nothing is in flight to it, and its
contexts are saved. -/
def execTranshumance (n k : Nat) (s : State) : Out :=
  let e := Event.transhumance n k
  .next (if !s.isSpare n k || (s.node n).droves.all (fun e => !e.valid) then { s with net := s.net.filter (fun x => x != e) }
    else if (s.node n).failed then { s with net := s.net.filter (fun x => x != e) }.leaveFailed n k
    else if s.net.contains e then
      (if s.mayLeave n then { s with net := s.net.erase e }.carryOver n k else s)
    else (s.beginLeave n).send e)

end Sys2Proof.Machine
end

