-- ==== Sys2Proof/Machine/Boot.lean ====
section
/-! DEFINITION. Boot, recovery and attestation (spec/17 R434). -/

namespace Sys2Proof.Machine

/-- Whether the ROM accepts a firmware image (R434): its signature, its key's hash, and its version. -/
def firmwareGood (n : Nat) (im : FirmwareImage) : Bool :=
  Config.mldsaVerify im.key im.bytes im.signature && sha3 im.key == Config.fusedKeyHash n
    && decide (Config.fusedRollback n ≤ im.version.toNat)

/-- A node whose ROM has been given a firmware image: started, or in recovery. -/
def Node.started (x : Node) (n : Nat) (im : FirmwareImage) : Node :=
  if firmwareGood n im then { x with booted := true, recovery := false, fwHash := sha3 im.bytes, fwVersion := im.version }
  else { x with recovery := true }

/-- `BOOT` (R434): once after reset. -/
def execBoot (n : Nat) (im : FirmwareImage) (s : State) : Out :=
  .next (s.modNode n (fun x => if x.booted || x.recovery then x else x.started n im))

/-- A dword written to the recovery image window (R434): a node in recovery keeps it for its new image. -/
def Node.writeImage (x : Node) (off : Nat) (w : Word) : Node :=
  if x.recovery && !x.failed then { x with imageWindow := (off, w) :: x.imageWindow } else x

/-- `RECOVERY_IMAGE` (R434): a node in recovery takes the new image written through its window. -/
def execRecoveryImage (n : Nat) (im : FirmwareImage) (s : State) : Out :=
  .next (s.modNode n (fun x => if x.recovery && im == Config.imageWritten x.imageWindow then { x.started n im with imageWindow := [] } else x))

/-! Attestation -/

/-- The drove key table as bytes (R434): V in byte 0 of each entry. -/
def Node.keyTable (x : Node) : List Byte :=
  x.keys.toList.flatMap (fun k => (if k.valid then 1 else 0) :: List.replicate 7 0 ++ padTo 2040 k.key)

/-- The resident droves of an attestation report (Table 17.5). -/
def Node.reportDroves (x : Node) : List Byte :=
  padTo 640 (((x.droves.filter (fun e => e.valid && e.st == .resident)).take 16).flatMap (fun e =>
    natToBytes 4 e.drove.toNat ++ natToBytes 4 e.act.toNat ++ padTo 32 e.manifestHash))

/-- The bytes of a report that its signature covers (Table 17.5). -/
def Node.reportBody (x : Node) (n : Nat) : List Byte :=
  natToBytes 8 0x4C4D415A41545431 ++ natToBytes 8 (n % 4096 * 2 ^ 32 + x.fwVersion.toNat) ++ padTo 32 x.nonce ++ padTo 32 x.fwHash
    ++ sha3 x.keyTable ++ x.reportDroves ++ sha3 (Config.mldsaPublic (Config.fusedSeed n))

/-- The whole report. -/
def Node.reportBytes (x : Node) (n : Nat) : List Byte :=
  x.reportBody n ++ padTo 2420 (Config.mldsaSign (Config.fusedSeed n) (sha3 (x.reportBody n)))

/-- `ATTESTATION_REQUEST` (R434): the nonce, and 1 in the request. -/
def execAttestationRequest (n : Nat) (bs : List Byte) (s : State) : Out :=
  .next (s.modNode n (fun x => if x.answers then { x with nonce := padTo 32 bs, attReq := true } else x))

/-- `ATTESTATION_COMPLETE` (R434): the report stands, and the request reads 0. -/
def execAttestationComplete (n : Nat) (s : State) : Out :=
  .next (s.modNode n (fun x => if x.attReq then { x with report := x.reportBytes n, attReq := false } else x))

end Sys2Proof.Machine
end

