-- ==== Sys2Proof/Machine/Manage.lean ====
section
/-! DEFINITION. The management region (spec/15 R409 to R411, spec/13 R360, spec/14 R377, spec/17 R426, R434): every register of BAR0 read
and written by its access code, and the mailbox through which node supervisors reach it. -/

namespace Sys2Proof.Machine

/-! Where registers stand (Table 15.3) -/

/-- Whether an offset is listed in Table 15.3. -/
def barListed (off : Nat) : Bool :=
  decide (off < 0x14000) || (decide (0x100000 ≤ off) && decide (off < 0x200000))
    || (decide (0x1000000 ≤ off) && decide (off < 0x1100000)) || (decide (0x2000000 ≤ off) && decide (off < 0x2008100))

/-- The dword of bytes at a byte offset. -/
def wordAt (bs : List Byte) (off : Nat) : Word := bytesWord ((bs.drop off).take 8)

/-- Bytes with a dword written at a byte offset, within `n` bytes. -/
def putWord (n : Nat) (bs : List Byte) (off : Nat) (w : Word) : List Byte :=
  let p := padTo n bs
  (p.take off ++ wordBytes w ++ p.drop (off + 8)).take n

/-! The node block (Tables 15.4, 17.3, 17.5) -/

/-- What a dword of the node block reads as. -/
def State.readBlock (s : State) (n off : Nat) : Word :=
  let x := s.node n
  if off = 0 then BitVec.ofNat 64 (n % 4096)
  else if off = 0x8 then x.ldstat ||| (if x.loads then 0x8000000000000000 else 0)
  else if !x.answers then 0
  else if off = 0x20 then x.cresync
  else if 0x40 ≤ off ∧ off < 0x80 then (x.mbin[(off - 0x40) / 8]?).getD 0
  else if 0x100 ≤ off ∧ off < 0x300 then x.membersWord n ((off - 0x100) / 8)
  else if off = 0x400 then x.rascfg
  else if off = 0x408 then x.rasstat
  else if off = 0x410 then x.pwrstat.setWidth 64
  else if off = 0x418 then x.pwrcap.setWidth 64
  else if 0x800 ≤ off ∧ off < 0x2800 then
    let e := spGet (0, 0, 0, 0) x.log ((off - 0x800) / 32)
    match (off - 0x800) / 8 % 4 with
    | 0 => e.1
    | 1 => e.2.1
    | 2 => e.2.2.1
    | _ => e.2.2.2
  else if 0x2800 ≤ off ∧ off < 0x3484 then wordAt (padTo 0xC84 x.report) (off - 0x2800)
  else if 0x3800 ≤ off ∧ off < 0x3820 then wordAt (padTo 32 x.nonce) (off - 0x3800)
  else if off = 0x3820 then (if x.attReq then 1 else 0)
  else if 0x4000 ≤ off ∧ off < 0x8000 then wordAt x.keyTable (off - 0x4000)
  else if 0xC000 ≤ off then wordAt (padTo 0x4000 (Config.certificate n)) (off - 0xC000)
  else 0

/-- A drove key entry with a dword of it written (R434). -/
def DroveKey.write (k : DroveKey) (j : Nat) (w : Word) : DroveKey :=
  if j = 0 then { k with valid := w.getLsbD 0 } else { k with key := putWord 2040 k.key (j - 8) w }

/-- Whether a register locks with `RASCFG`.LCK (R426, R434, R435). -/
def blockLocks (off : Nat) : Bool := off == 0x400 || off == 0x418 || (decide (0x4000 ≤ off) && decide (off < 0x8000))

/-- A software interrupt (Table 15.4): line 2 on the tile named. -/
def State.swint (s : State) (n : Nat) (w : Word) : State := s.raiseLine ⟨n, wfld w 0 8⟩ 2

/-- A write of `MBIN7` (Table 15.4): line 1 on the tile that `MBIN0` names. -/
def State.mbin7 (s : State) (n : Nat) (w : Word) : State :=
  let s1 := s.modNode n (fun x => { x with mbin := x.mbin.setIfInBounds 7 w })
  s1.raiseLine ⟨n, wfld (((s1.node n).mbin[0]?).getD 0) 0 8⟩ 1

/-- A write of a dword of the node block. -/
def State.writeBlock (s : State) (n off : Nat) (w : Word) : State :=
  let x := s.node n
  if 0x8000 ≤ off ∧ off < 0xC000 then s.modNode n (fun x => x.writeImage (off - 0x8000) w)
  else if !x.answers || (x.locked && blockLocks off) then s
  else if off = 0x10 then s.send (.treeCancel n (w.setWidth 32))
  else if off = 0x18 then s.swint n w
  else if off = 0x20 then s.writeCresync n w
  else if off = 0x78 then s.mbin7 n w
  else if 0x40 ≤ off ∧ off < 0x78 then s.modNode n (fun x => { x with mbin := x.mbin.setIfInBounds ((off - 0x40) / 8) w })
  else if 0x100 ≤ off ∧ off < 0x300 then s.modNode n (fun x => x.setMembers n ((off - 0x100) / 8) w)
  else if off = 0x400 then s.modNode n (fun x => { x with rascfg := w &&& 0x800000FFFFFF00FF })
  else if off = 0x418 then s.modNode n (fun x => { x with pwrcap := BitVec.ofNat 16 (max 600 (min 1200 (wfld w 0 16))) })
  else if 0x3800 ≤ off ∧ off < 0x3820 then s.modNode n (fun x => { x with nonce := putWord 32 x.nonce (off - 0x3800) w })
  else if off = 0x3820 then s.modNode n (fun x => { x with attReq := x.attReq || w.getLsbD 0 })
  else if 0x4000 ≤ off ∧ off < 0x8000 then
    s.modNode n (fun x =>
      let e := (off - 0x4000) / 2048
      { x with keys := x.keys.setIfInBounds e (((x.keys[e]?).getD ⟨false, []⟩).write ((off - 0x4000) % 2048) w) })
  else s

/-! The drove table and the scheduler blocks -/

/-- What a dword of the drove table reads as. -/
def State.readDrove (s : State) (n off : Nat) : Word :=
  match s.droveAt n (off / 64), off % 64 with
  | some e, 0 => BitVec.ofNat 64 (2 ^ 63 + e.drove.toNat)
  | some e, 8 => s.dgen n e
  | _, _ => 0

/-- A write of a dword of the drove table: `DGEN`.CMDERR is cleared by a 1, `DGCMD` is a command. -/
def State.writeDrove (s : State) (n off : Nat) (w : Word) : State :=
  if (s.droveAt n (off / 64)).isNone then s
  else if off % 64 = 8 then (if w.getLsbD 52 then s.modDrove n (off / 64) (fun e => { e with cmderr := false }) else s)
  else if off % 64 = 0x10 then s.dgcmd n (off / 64) w
  else s

/-- What a dword of a scheduler block reads as; `PSCTL` is write-only. -/
def Tile.readSched (t : Tile) (off : Nat) : Word :=
  if off < 0x80 then (t.need[off / 8]?).getD 0
  else if off = 0x80 then t.schstat
  else if off = 0x108 then t.psstat
  else 0

/-- A write of a dword of a scheduler block. -/
def State.writeSched (s : State) (r : TileRef) (off : Nat) (w : Word) : State :=
  if off < 0x80 then s.modTile r (fun t => { t with need := t.need.setIfInBounds (off / 8) (w &&& 0xFFFFFFFFF8000000) })
  else if off = 0x80 then s.modTile r (fun t => { t with schstat := w &&& 0xFFFFFFFF00000000 })
  else if off = 0x100 then s.psWrite r w
  else if off = 0x108 then s.modTile r (fun t => { t with psstat := t.psstat &&& ~~~(w &&& 0x7000000000000000) })
  else s

/-! Queue control (Table 15.6) -/

/-- What a dword of a queue's control reads as. -/
def HostQueue.readReg (q : HostQueue) (off : Nat) : Word :=
  match off with
  | 0 => q.base
  | 8 => q.cfg
  | 0x10 => q.pbase
  | 0x18 => q.tail.setWidth 64
  | 0x20 => q.head.setWidth 64
  | 0x28 => q.stat
  | _ => 0

/-- A write of a dword of a queue's control; its bases are fixed while it is enabled (R411). -/
def State.writeQueue (s : State) (n k off : Nat) (w : Word) : State :=
  let page : Word := w &&& 0xFFFFFFFFFFFFF000
  match off with
  | 0 => if ((s.node n).queue k).en then s else s.modQueue n k (fun q => { q with base := page })
  | 8 => s.writeQcfg n k w
  | 0x10 => if ((s.node n).queue k).en then s else s.modQueue n k (fun q => { q with pbase := page })
  | 0x18 => s.writeQtail n k w
  | 0x28 => if w.getLsbD 63 then s.modQueue n k (fun q => { q with stat := setFld q.stat 63 1 0 }) else s
  | _ => s

/-! The region -/

/-- A dword of BAR0 read (R409): zero where nothing is listed. -/
def State.barRead (s : State) (n off : Nat) : Word :=
  if off < 0x10000 then s.readBlock n off
  else if !barListed off || !(s.node n).answers then 0
  else if off < 0x14000 then s.readDrove n (off - 0x10000)
  else if off < 0x200000 then (s.tile ⟨n, (off - 0x100000) / 0x1000⟩).readSched (off % 0x1000)
  else if off < 0x1100000 then ((s.node n).queue ((off - 0x1000000) / 64)).readReg (off % 64)
  else if off < 0x2008000 then (s.node n).msixWord ((off - 0x2000000) / 8)
  else (s.node n).msixBits ((off - 0x2008000) / 8)

/-- A dword of BAR0 written (R409): discarded where nothing is listed. -/
def State.barWrite (s : State) (n off : Nat) (w : Word) : State :=
  if off < 0x10000 then s.writeBlock n off w
  else if !barListed off || !(s.node n).answers then s
  else if off < 0x14000 then s.writeDrove n (off - 0x10000) w
  else if off < 0x200000 then s.writeSched ⟨n, (off - 0x100000) / 0x1000⟩ (off % 0x1000) w
  else if off < 0x1100000 then s.writeQueue n ((off - 0x1000000) / 64) (off % 64) w
  else if off < 0x2008000 then s.modNode n (fun x => x.writeMsix ((off - 0x2000000) / 8) w)
  else s

/-- `REGISTER_WRITE` (R8, R9, R409): a host write of a dword of BAR0. -/
def execRegisterWrite (n : Nat) (k : BitVec 26) (w : Word) (s : State) : Out := .next (s.barWrite n (k.toNat / 8 * 8) w)

/-- `SWINT` (R409). -/
def execSwint (n : Nat) (w : Word) (s : State) : Out := .next (s.barWrite n 0x18 w)

/-- `MBIN7_WRITE` (R409, R415). -/
def execMbin7Write (n : Nat) (w : Word) (s : State) : Out := .next (s.barWrite n 0x78 w)

/-! The mailbox (R410) -/

/-- `MAILBOX_ACCESS` (R410): the management controller accepts the access. -/
def execMailboxAccess (t : TileRef) (w : Word) (s : State) : Out :=
  s.taking (.mailboxAccess t w) (fun s => s.send (.mailboxComplete t))

/-- The access of a mailbox performed (R410, R8): ERR where the address is not listed, or the write met a locked field. -/
def State.mailboxDone (s : State) (r : TileRef) : State :=
  let t := s.tile r
  let off := wfld t.mbreq 0 26 / 8 * 8
  let wr := t.mbreq.getLsbD 62
  let bad := !barListed off || (wr && (s.node r.node).locked && blockLocks off)
  let s1 := if bad then s
    else if wr then s.barWrite r.node off t.mbdata
    else s.modTile r (fun t => { t with mbdata := s.barRead r.node off })
  s1.modTile r (fun t => { t with
    mbreq := t.mbreq &&& 0x7FFFFFFFFFFFFFFF
    mbstat := t.mbstat ||| (if bad then 0xC000000000000000 else 0x8000000000000000) })

/-- `MAILBOX_COMPLETE` (R410): the node's accepted accesses are performed in acceptance order. -/
def execMailboxComplete (t : TileRef) (s : State) : Out :=
  let ofNode := fun (e : Event) => match e with
    | .mailboxComplete r => r.node == t.node
    | _ => false
  if s.net.find? ofNode = some (.mailboxComplete t) then s.taking (.mailboxComplete t) (fun s => s.mailboxDone t) else .next s

end Sys2Proof.Machine
end

