-- ==== Sys2Proof/Machine/Run.lean ====
section
/-! DEFINITION. The steps the machine takes of itself, by the event that stands for each. -/

namespace Sys2Proof.Machine

/-- An event of the machine runs as the like-named step. -/
def runEvent (e : Event) (s : State) : Out :=
  match e with
  | .bundleIssue t => execBundleIssue t s
  | .resultCompletion t => execResultCompletion t s
  | .landingArrival c k => execLandingArrival c k s
  | .landingWrite c => execLandingWrite c s
  | .landingTimeout t => execLandingTimeout t s
  | .blockSwitch t => execBlockSwitch t s
  | .waitReady c => execWaitReady c s
  | .interruptPending t l => execInterruptPending t l s
  | .trapEntry t => execTrapEntry t s
  | .handlerEntry t => execHandlerEntry t s
  | .lateFault c k => execLateFault c k s
  | .lostLanding c k => execLostLanding c k s
  | .returnBundleIssue t => execReturnBundleIssue t s
  | .packetFirstFlit t k => execPacketFirstFlit t k s
  | .packetReceived t st k => execPacketReceived t st k s
  | .nextWrite t st v => execNextWrite t st v s
  | .creditArrival t st k => execCreditArrival t st k s
  | .packetLaunch c => execPacketLaunch c s
  | .taskAdmission t => execTaskAdmission t s
  | .stealRound t => execStealRound t s
  | .joinMessage c k => execJoinMessage c k s
  | .queueIssue c q => execQueueIssue c q s
  | .bankAccept k => execBankAccept k s
  | .barrApply c => execBarrApply c s
  | .cpyDispatch c => execCpyDispatch c s
  | .copyRow t k => execCopyRow t k s
  | .shadowSwapIn t => execShadowSwapIn t s
  | .engineComplete t => execEngineComplete t s
  | .foldDispatch c => execFoldDispatch c s
  | .foldRow t k => execFoldRow t k s
  | .foldWalk t v k => execFoldWalk t v k s
  | .foldTransferComplete t k => execFoldTransferComplete t k s
  | .foldRecordOp t k => execFoldRecordOp t k s
  | .pagePromotion n k => execPagePromotion n k s
  | .pageMoveComplete n k => execPageMoveComplete n k s
  | .woundDelivery c w => execWoundDelivery c w s
  | .woundReleaseTimeout c => execWoundReleaseTimeout c s
  | .crookUe n w => execCrookUe n w s
  | .pastureTick n => execPastureTick n s
  | .psctlSave t w => execPsctlSave t w s
  | .psctlResumeInPlace t w => execPsctlResumeInPlace t w s
  | .psctlResumeFromTile t w => execPsctlResumeFromTile t w s
  | .preemptHalt t => execPreemptHalt t s
  | .saveComplete t => execSaveComplete t s
  | .treeCancel n k => execTreeCancel n k s
  | .droveLoad n im => execDroveLoad n im s
  | .droveRemoval n k => execDroveRemoval n k s
  | .droveWithdrawal n k => execDroveWithdrawal n k s
  | .dgcmdLoad n k g => execDgcmdLoad n k g s
  | .dgcmdSwitch n k => execDgcmdSwitch n k s
  | .dgcmdAbort n k => execDgcmdAbort n k s
  | .dgcmdInvalid n k w => execDgcmdInvalid n k w s
  | .generationVerified n k => execGenerationVerified n k s
  | .generationDrained n k => execGenerationDrained n k s
  | .tcmdCancel n k => execTcmdCancel n k s
  | .swint n w => execSwint n w s
  | .mbin7Write n w => execMbin7Write n w s
  | .mailboxAccess t w => execMailboxAccess t w s
  | .mailboxComplete t => execMailboxComplete t s
  | .qtailWrite n k w => execQtailWrite n k w s
  | .qcfgWrite n k w => execQcfgWrite n k w s
  | .ingressRecord n k => execIngressRecord n k s
  | .egressPacket n k => execEgressPacket n k s
  | .cresync n w => execCresync n w s
  | .linkFlitReceive n b fl => execLinkFlitReceive n b fl s
  | .creditFlit n ws => execCreditFlit n ws s
  | .remoteLoad r => execRemoteLoad r s
  | .remoteStore r => execRemoteStore r s
  | .remoteAtom r => execRemoteAtom r s
  | .remoteAtomCas r => execRemoteAtomCas r s
  | .remoteRed r => execRemoteRed r s
  | .remoteUnknownOperation r => execRemoteUnknownOperation r s
  | .remoteResponse r => execRemoteResponse r s
  | .crookAcquireMsg m => execCrookAcquireMsg m s
  | .crookTryMsg m => execCrookTryMsg m s
  | .crookUpgradeMsg m => execCrookUpgradeMsg m s
  | .crookReleaseMsg m => execCrookReleaseMsg m s
  | .crookWithdrawMsg m => execCrookWithdrawMsg m s
  | .crookQueryMsg m => execCrookQueryMsg m s
  | .crookStatusMsg m => execCrookStatusMsg m s
  | .crookWoundMsg m => execCrookWoundMsg m s
  | .crookQueryResultMsg m => execCrookQueryResultMsg m s
  | .foldReleaseMsg m => execFoldReleaseMsg m s
  | .foldFetchMsg m => execFoldFetchMsg m s
  | .foldOfferMsg m => execFoldOfferMsg m s
  | .foldAcceptMsg m => execFoldAcceptMsg m s
  | .foldRefuseMsg m => execFoldRefuseMsg m s
  | .foldPageDataMsg m => execFoldPageDataMsg m s
  | .foldMoveCompleteMsg m => execFoldMoveCompleteMsg m s
  | .tickExchangeMsg n k => execTickExchangeMsg n k s
  | .holdMsg n src w => execHoldMsg n src w s
  | .holdAnswerMsg n src w v => execHoldAnswerMsg n src w v s
  | .holdEndMsg n src w v => execHoldEndMsg n src w v s
  | .musterSegmentMsg n k bs => execMusterSegmentMsg n k bs s
  | .membershipUpdateMsg n k w => execMembershipUpdateMsg n k w s
  | .movePointMsg n w => execMovePointMsg n w s
  | .correctedError n u k => execCorrectedError n u k s
  | .uncorrectedError n u k => execUncorrectedError n u k s
  | .suspectReversion n u => execSuspectReversion n u s
  | .counterHourBucket n => execCounterHourBucket n s
  | .backgroundScrub n => execBackgroundScrub n s
  | .bankRetirement t k => execBankRetirement t k s
  | .tileCoreRetirement t => execTileCoreRetirement t s
  | .laneRetirement n k => execLaneRetirement n k s
  | .bundleDown n k => execBundleDown n k s
  | .rascfgLock n w => execRascfgLock n w s
  | .laneSilence n => execLaneSilence n s
  | .transhumance n k => execTranshumance n k s
  | .boot n im => execBoot n im s
  | .recoveryImage n im => execRecoveryImage n im s
  | .attestationRequest n bs => execAttestationRequest n bs s
  | .attestationComplete n => execAttestationComplete n s
  | .throttleStep n x => execThrottleStep n x s
  | .pwrcapWrite n w => execPwrcapWrite n w s
  | .thermalTrip n => execThermalTrip n s
  | .powerLoss n => execPowerLoss n s
  | .reset n => execReset n s
  | .registerWrite n k w => execRegisterWrite n k w s
  | .nestedLandingLost c k => execNestedLandingLost c k s
  | .flitSlot n b => execFlitSlot n b s
  | .requestCreditReturn n b => execRequestCreditReturn n b s
  | .laneRetrained n k => execLaneRetrained n k s

end Sys2Proof.Machine
end

