-- ==== Sys2Proof/Machine/Auto.lean ====
section
/-! DEFINITION. What the machine does of itself between the bundles: the steps that are due, in one order among those the spec allows
(R7; log entry 4). The steps of the agenda choose other orders. -/

namespace Sys2Proof.Machine

/-- The node an event takes place on. -/
def Event.node : Event → Option Nat
  | .bundleIssue t => some t.node
  | .resultCompletion t => some t.node
  | .landingArrival c _ => some c.node
  | .landingWrite c => some c.node
  | .landingTimeout t => some t.node
  | .blockSwitch t => some t.node
  | .waitReady c => some c.node
  | .interruptPending t _ => some t.node
  | .trapEntry t => some t.node
  | .handlerEntry t => some t.node
  | .lateFault c _ => some c.node
  | .lostLanding c _ => some c.node
  | .returnBundleIssue t => some t.node
  | .packetFirstFlit t _ => some t.node
  | .packetReceived t _ _ => some t.node
  | .nextWrite t _ _ => some t.node
  | .creditArrival t _ _ => some t.node
  | .packetLaunch c => some c.node
  | .taskAdmission t => some t.node
  | .stealRound t => some t.node
  | .joinMessage c _ => some c.node
  | .queueIssue c _ => some c.node
  | .bankAccept _ => none
  | .barrApply c => some c.node
  | .cpyDispatch c => some c.node
  | .copyRow t _ => some t.node
  | .shadowSwapIn t => some t.node
  | .engineComplete t => some t.node
  | .foldDispatch c => some c.node
  | .foldRow t _ => some t.node
  | .foldWalk t _ _ => some t.node
  | .foldTransferComplete t _ => some t.node
  | .foldRecordOp t _ => some t.node
  | .pagePromotion n _ => some n
  | .pageMoveComplete n _ => some n
  | .woundDelivery c _ => some c.node
  | .woundReleaseTimeout c => some c.node
  | .crookUe n _ => some n
  | .pastureTick n => some n
  | .psctlSave t _ => some t.node
  | .psctlResumeInPlace t _ => some t.node
  | .psctlResumeFromTile t _ => some t.node
  | .preemptHalt t => some t.node
  | .saveComplete t => some t.node
  | .treeCancel n _ => some n
  | .droveLoad n _ => some n
  | .droveRemoval n _ => some n
  | .droveWithdrawal n _ => some n
  | .dgcmdLoad n _ _ => some n
  | .dgcmdSwitch n _ => some n
  | .dgcmdAbort n _ => some n
  | .dgcmdInvalid n _ _ => some n
  | .generationVerified n _ => some n
  | .generationDrained n _ => some n
  | .tcmdCancel n _ => some n
  | .swint n _ => some n
  | .mbin7Write n _ => some n
  | .mailboxAccess t _ => some t.node
  | .mailboxComplete t => some t.node
  | .qtailWrite n _ _ => some n
  | .qcfgWrite n _ _ => some n
  | .ingressRecord n _ => some n
  | .egressPacket n _ => some n
  | .cresync n _ => some n
  | .linkFlitReceive n _ _ => some n
  | .creditFlit n _ => some n
  | .remoteLoad r => some r.home
  | .remoteStore r => some r.home
  | .remoteAtom r => some r.home
  | .remoteAtomCas r => some r.home
  | .remoteRed r => some r.home
  | .remoteUnknownOperation r => some r.home
  | .remoteResponse r => some r.node
  | .crookAcquireMsg m => some m.dest
  | .crookTryMsg m => some m.dest
  | .crookUpgradeMsg m => some m.dest
  | .crookReleaseMsg m => some m.dest
  | .crookWithdrawMsg m => some m.dest
  | .crookQueryMsg m => some m.dest
  | .crookStatusMsg m => some m.dest
  | .crookWoundMsg m => some m.dest
  | .crookQueryResultMsg m => some m.dest
  | .foldReleaseMsg m => some m.dest
  | .foldFetchMsg m => some m.dest
  | .foldOfferMsg m => some m.dest
  | .foldAcceptMsg m => some m.dest
  | .foldRefuseMsg m => some m.dest
  | .foldPageDataMsg m => some m.dest
  | .foldMoveCompleteMsg m => some m.dest
  | .tickExchangeMsg n _ => some n
  | .holdMsg n _ _ => some n
  | .holdAnswerMsg n _ _ _ => some n
  | .holdEndMsg n _ _ _ => some n
  | .musterSegmentMsg n _ _ => some n
  | .membershipUpdateMsg n _ _ => some n
  | .movePointMsg n _ => some n
  | .correctedError n _ _ => some n
  | .uncorrectedError n _ _ => some n
  | .suspectReversion n _ => some n
  | .counterHourBucket n => some n
  | .backgroundScrub n => some n
  | .bankRetirement t _ => some t.node
  | .tileCoreRetirement t => some t.node
  | .laneRetirement n _ => some n
  | .bundleDown n _ => some n
  | .rascfgLock n _ => some n
  | .laneSilence n => some n
  | .transhumance n _ => some n
  | .boot n _ => some n
  | .recoveryImage n _ => some n
  | .attestationRequest n _ => some n
  | .attestationComplete n => some n
  | .throttleStep n _ => some n
  | .pwrcapWrite n _ => some n
  | .thermalTrip n => some n
  | .powerLoss n => some n
  | .reset n => some n
  | .registerWrite n _ _ => some n
  | .nestedLandingLost c _ => some c.node
  | .flitSlot n _ => some n
  | .requestCreditReturn n _ => some n
  | .laneRetrained n _ => some n

/-- The messages on their way to nodes that have not failed, in the order they were sent. -/
def State.messages (s : State) : List Event :=
  s.net.filter (fun e => match e.node with
    | some n => !(s.node n).failed
    | none => true)

/-- What may be due for one entry of a context's queues. -/
def QEntry.due (c : CtxRef) (e : QEntry) : List Event :=
  match e.op with
  | .load us => (List.range us.length).map (fun k => .bankAccept (e.id * 64 + k))
  | .store us _ => (List.range us.length).map (fun k => .bankAccept (e.id * 64 + k))
  | .atom _ _ _ _ => [.bankAccept (e.id * 64)]
  | .swr _ _ _ _ _ => [.bankAccept (e.id * 64)]
  | .sclose _ _ => [.packetLaunch c]
  | .copy _ => [.cpyDispatch c]
  | .barr _ _ => [.barrApply c]
  | .fold _ => [.foldDispatch c]
  | _ => []

/-- What may be due for one context. -/
def Ctx.due (r : CtxRef) (c : Ctx) : List Event :=
  (if c.queue.isEmpty then [] else c.queue.flatMap (QEntry.due r) ++ [.queueIssue r .load, .queueIssue r .store])
    ++ (c.landings.filter (fun l => l.arrive.isNone)).map (fun l => .landingArrival r l.id)
    ++ (c.late.zipIdx.filter (fun f => !f.1.arrived)).map (fun f => .lateFault r f.2)
    ++ (if c.nest then c.landings.map (fun l => .nestedLandingLost r l.id) else [])
    ++ (if c.wound.isSome then [.woundReleaseTimeout r] else [])

/-- What may be due on one tile. -/
def Tile.due (r : TileRef) (t : Tile) : List Event :=
  (t.ctxs.toList.zipIdx.flatMap (fun c => if c.1.st == .free then [] else c.1.due ⟨r.node, r.tile, c.2⟩))
    ++ t.copies.map (fun j => .copyRow r j.id)
    ++ t.fold.flatMap (fun j =>
      if j.finished then [.foldTransferComplete r j.id] else if j.req.fn < 2 then [.foldRow r j.id] else [.foldRecordOp r j.id])
    ++ (if t.save.isSome then [.preemptHalt r, .saveComplete r] else [])

/-- What may be due for a packet on its way. -/
def State.packetDue (s : State) (p : NetPacket) : List Event :=
  if p.dest.tile < 256 then
    [.packetFirstFlit p.dest p.id]
      ++ ((List.range 32).filter (fun st => ((s.tile p.dest).inS st).bufs.any (fun b => b.st == .receiving && b.pkt == p.id))).map (fun st =>
        .packetReceived p.dest (BitVec.ofNat 5 st) p.id)
  else [.egressPacket p.dest.node (p.dest.tile - 256 - 8192)]

/-- Whether a link's next slot carries something: a queued flit, one to be sent again, or an acknowledgement its other end lacks. -/
def State.linkDue (s : State) (n b : Nat) (l : Link) : Bool :=
  let m := neighbour n b
  !l.credit.isEmpty || !l.response.isEmpty || !l.stream.isEmpty || l.requestReady || decide (0 < l.resend) || l.nakOut
    || (match bundleTo m n with
      | some b' => ((s.node m).link b').replay.any (fun f => decide ((l.rxSeq + 4096 - f.lseq - 1) % 4096 < 2048))
      | none => false)

/-- What may be due on one node beside its tiles. -/
def State.nodeDue (s : State) (n : Nat) (x : Node) : List Event :=
  (x.links.flatMap (fun l =>
      (if s.linkDue n l.1 l.2 then [.flitSlot n l.1] else []) ++ (if 0 < l.2.owed then [.requestCreditReturn n l.1] else [])))
    ++ x.movers.map (fun m => .pageMoveComplete n m.1)
    ++ (x.queues.filter (fun q => decide (q.1 < 8192) && q.2.en && q.2.tail != q.2.head)).map (fun q => .ingressRecord n q.1)
    ++ x.droves.zipIdx.flatMap (fun e =>
      (if e.1.gst == .loading then [.generationVerified n e.2] else []) ++ (if e.1.gst == .switched then [.generationDrained n e.2] else [])
        ++ (if e.1.st == .removing then [.droveWithdrawal n e.2] else []))
    ++ (if x.attReq then [.attestationComplete n] else [])
    ++ (x.units.filter (fun u => u.st == .suspect)).map (fun u => .suspectReversion n u.unit)
    ++ (if x.tick.toNat < x.tiles.foldl (fun m t => max m (t.2.wall / 16)) 0 then [.pastureTick n] else [])

/-- Everything that may be due, messages first. -/
def State.due (s : State) : List Event :=
  let live := s.nodes.filter (fun e => !e.2.failed)
  s.messages
    ++ live.flatMap (fun e => e.2.tiles.flatMap (fun t => t.2.due ⟨e.1, t.1⟩))
    ++ s.packets.flatMap s.packetDue
    ++ live.flatMap (fun e => s.nodeDue e.1 e.2)

/-- The first of these steps that changes the machine. -/
def State.firstChange (s : State) : List Event → Option Out
  | [] => none
  | e :: es =>
    match runEvent e s with
    | .next t => if t = s then State.firstChange s es else some (.next t)
    | o => some o

/-- THE STEP THE MACHINE TAKES OF ITSELF: none where nothing is due. -/
def State.auto (s : State) : Option Out := s.firstChange s.due

/-- The tiles on which a stage is placed, in order of node and tile. -/
def State.placed (s : State) : List TileRef :=
  (s.nodes.filter (fun e => !e.2.failed)).flatMap (fun e => (e.2.tiles.filter (fun t => t.2.slots != 0)).map (fun t => ⟨e.1, t.1⟩))

/-- The order of tiles. -/
def tileOrder (r : TileRef) : Nat := r.node * 256 + r.tile

/-- The tile whose wall cycle comes next: the first placed one after the one in focus, round and round. -/
def State.nextFocus (s : State) : TileRef :=
  let ts := s.placed
  ((ts.find? (fun t => decide (tileOrder s.focus < tileOrder t))).or ts.head?).getD s.focus

end Sys2Proof.Machine
end

