-- ==== Sys2Proof/Machine/Dispatch.lean ====
section
/-! DEFINITION. The dispatch: one arm per constructor of `Instr`, each one direct call of its meaning. -/

namespace Sys2Proof.Machine

/-- The meaning of an instruction or a step. -/
def exec (i : Instr) (s : State) : Host.Outcome State Fault Refusal :=
  match i with
  | .nop => Sys2Proof.Machine.execNop s
  | .add g d a b => Sys2Proof.Machine.execAdd g d a b s
  | .sub g d a b => Sys2Proof.Machine.execSub g d a b s
  | .and g d a b => Sys2Proof.Machine.execAnd g d a b s
  | .or g d a b => Sys2Proof.Machine.execOr g d a b s
  | .xor g d a b => Sys2Proof.Machine.execXor g d a b s
  | .andn g d a b => Sys2Proof.Machine.execAndn g d a b s
  | .shl g d a b => Sys2Proof.Machine.execShl g d a b s
  | .shr g d a b => Sys2Proof.Machine.execShr g d a b s
  | .sar g d a b => Sys2Proof.Machine.execSar g d a b s
  | .rol g d a b => Sys2Proof.Machine.execRol g d a b s
  | .min g d a b => Sys2Proof.Machine.execMin g d a b s
  | .max g d a b => Sys2Proof.Machine.execMax g d a b s
  | .minu g d a b => Sys2Proof.Machine.execMinu g d a b s
  | .maxu g d a b => Sys2Proof.Machine.execMaxu g d a b s
  | .addx g d a b => Sys2Proof.Machine.execAddx g d a b s
  | .clz g d a => Sys2Proof.Machine.execClz g d a s
  | .ctz g d a => Sys2Proof.Machine.execCtz g d a s
  | .popc g d a => Sys2Proof.Machine.execPopc g d a s
  | .brev g d a => Sys2Proof.Machine.execBrev g d a s
  | .bswap g d a => Sys2Proof.Machine.execBswap g d a s
  | .sext g d a w => Sys2Proof.Machine.execSext g d a w s
  | .zext g d a w => Sys2Proof.Machine.execZext g d a w s
  | .mov g d a => Sys2Proof.Machine.execMov g d a s
  | .mul g d a b => Sys2Proof.Machine.execMul g d a b s
  | .mulh g d a b => Sys2Proof.Machine.execMulh g d a b s
  | .mulhu g d a b => Sys2Proof.Machine.execMulhu g d a b s
  | .div g d a b => Sys2Proof.Machine.execDiv g d a b s
  | .divu g d a b => Sys2Proof.Machine.execDivu g d a b s
  | .rem g d a b => Sys2Proof.Machine.execRem g d a b s
  | .remu g d a b => Sys2Proof.Machine.execRemu g d a b s
  | .extr g d a b => Sys2Proof.Machine.execExtr g d a b s
  | .insr g d a b => Sys2Proof.Machine.execInsr g d a b s
  | .sel g d a b v k => Sys2Proof.Machine.execSel g d a b v k s
  | .cmp g c q a b => Sys2Proof.Machine.execCmp g c q a b s
  | .pand g d a b => Sys2Proof.Machine.execPand g d a b s
  | .por g d a b => Sys2Proof.Machine.execPor g d a b s
  | .pnot g d a => Sys2Proof.Machine.execPnot g d a s
  | .addi g d a x => Sys2Proof.Machine.execAddi g d a x s
  | .subi g d a x => Sys2Proof.Machine.execSubi g d a x s
  | .andi g d a x => Sys2Proof.Machine.execAndi g d a x s
  | .ori g d a x => Sys2Proof.Machine.execOri g d a x s
  | .xori g d a x => Sys2Proof.Machine.execXori g d a x s
  | .shli g d a x => Sys2Proof.Machine.execShli g d a x s
  | .shri g d a x => Sys2Proof.Machine.execShri g d a x s
  | .sari g d a x => Sys2Proof.Machine.execSari g d a x s
  | .cmpi g c q a x => Sys2Proof.Machine.execCmpi g c q a x s
  | .movi g d x => Sys2Proof.Machine.execMovi g d x s
  | .movh1 g d x => Sys2Proof.Machine.execMovh1 g d x s
  | .movh2 g d x => Sys2Proof.Machine.execMovh2 g d x s
  | .movh3 g d x => Sys2Proof.Machine.execMovh3 g d x s
  | .br g x => Sys2Proof.Machine.execBr g x s
  | .jmp g a => Sys2Proof.Machine.execJmp g a s
  | .call g d x => Sys2Proof.Machine.execCall g d x s
  | .callr g d a => Sys2Proof.Machine.execCallr g d a s
  | .ret g a => Sys2Proof.Machine.execRet g a s
  | .loopi g l c => Sys2Proof.Machine.execLoopi g l c s
  | .loop g l a => Sys2Proof.Machine.execLoop g l a s
  | .mtcr g a r => Sys2Proof.Machine.execMtcr g a r s
  | .mfcr g d r => Sys2Proof.Machine.execMfcr g d r s
  | .trap g k => Sys2Proof.Machine.execTrap g k s
  | .tret g => Sys2Proof.Machine.execTret g s
  | .ifence g => Sys2Proof.Machine.execIfence g s
  | .dchk g a b => Sys2Proof.Machine.execDchk g a b s
  | .xmov g d a k y z => Sys2Proof.Machine.execXmov g d a k y z s
  | .vadd g d a b w z => Sys2Proof.Machine.execVadd g d a b w z s
  | .vsub g d a b w z => Sys2Proof.Machine.execVsub g d a b w z s
  | .vmul g d a b w => Sys2Proof.Machine.execVmul g d a b w s
  | .vmulh g d a b w => Sys2Proof.Machine.execVmulh g d a b w s
  | .vmulhU g d a b w => Sys2Proof.Machine.execVmulhU g d a b w s
  | .vand g d a b => Sys2Proof.Machine.execVand g d a b s
  | .vor g d a b => Sys2Proof.Machine.execVor g d a b s
  | .vxor g d a b => Sys2Proof.Machine.execVxor g d a b s
  | .vshl g d a b w => Sys2Proof.Machine.execVshl g d a b w s
  | .vshr g d a b w => Sys2Proof.Machine.execVshr g d a b w s
  | .vsar g d a b w => Sys2Proof.Machine.execVsar g d a b w s
  | .vshlImm g d a w c => Sys2Proof.Machine.execVshlImm g d a w c s
  | .vshrImm g d a w c => Sys2Proof.Machine.execVshrImm g d a w c s
  | .vsarImm g d a w c => Sys2Proof.Machine.execVsarImm g d a w c s
  | .vmin g d a b w => Sys2Proof.Machine.execVmin g d a b w s
  | .vmax g d a b w => Sys2Proof.Machine.execVmax g d a b w s
  | .vminU g d a b w => Sys2Proof.Machine.execVminU g d a b w s
  | .vmaxU g d a b w => Sys2Proof.Machine.execVmaxU g d a b w s
  | .vabs g d a w => Sys2Proof.Machine.execVabs g d a w s
  | .vneg g d a w => Sys2Proof.Machine.execVneg g d a w s
  | .vcmp g c q a b w => Sys2Proof.Machine.execVcmp g c q a b w s
  | .vsel g d a b k => Sys2Proof.Machine.execVsel g d a b k s
  | .vsplatImm g d w x => Sys2Proof.Machine.execVsplatImm g d w x s
  | .vsplatLane g d a l w => Sys2Proof.Machine.execVsplatLane g d a l w s
  | .vperm g d a b w => Sys2Proof.Machine.execVperm g d a b w s
  | .vrot g d a w c => Sys2Proof.Machine.execVrot g d a w c s
  | .vslide g d a w x c => Sys2Proof.Machine.execVslide g d a w x c s
  | .vcompress g d a w => Sys2Proof.Machine.execVcompress g d a w s
  | .vexpand g d a w => Sys2Proof.Machine.execVexpand g d a w s
  | .vredsum g d a w => Sys2Proof.Machine.execVredsum g d a w s
  | .vredmax g d a w => Sys2Proof.Machine.execVredmax g d a w s
  | .vredmin g d a w => Sys2Proof.Machine.execVredmin g d a w s
  | .vredsumF g d a t => Sys2Proof.Machine.execVredsumF g d a t s
  | .vredmaxF g d a t => Sys2Proof.Machine.execVredmaxF g d a t s
  | .vredminF g d a t => Sys2Proof.Machine.execVredminF g d a t s
  | .vscanF g d a t => Sys2Proof.Machine.execVscanF g d a t s
  | .vscanI g d a w => Sys2Proof.Machine.execVscanI g d a w s
  | .vfadd g d a b t => Sys2Proof.Machine.execVfadd g d a b t s
  | .vfsub g d a b t => Sys2Proof.Machine.execVfsub g d a b t s
  | .vfmul g d a b t => Sys2Proof.Machine.execVfmul g d a b t s
  | .vfma g d a b t => Sys2Proof.Machine.execVfma g d a b t s
  | .vfms g d a b t => Sys2Proof.Machine.execVfms g d a b t s
  | .vfnma g d a b t => Sys2Proof.Machine.execVfnma g d a b t s
  | .vfmax g d a b t => Sys2Proof.Machine.execVfmax g d a b t s
  | .vfmin g d a b t => Sys2Proof.Machine.execVfmin g d a b t s
  | .vfscale g d a b t => Sys2Proof.Machine.execVfscale g d a b t s
  | .vfabs g d a t => Sys2Proof.Machine.execVfabs g d a t s
  | .vfneg g d a t => Sys2Proof.Machine.execVfneg g d a t s
  | .vfclass g d a t => Sys2Proof.Machine.execVfclass g d a t s
  | .vfcmp g c q a b t => Sys2Proof.Machine.execVfcmp g c q a b t s
  | .vfrcp g d a t => Sys2Proof.Machine.execVfrcp g d a t s
  | .vfrsq g d a t => Sys2Proof.Machine.execVfrsq g d a t s
  | .vfexp2 g d a t => Sys2Proof.Machine.execVfexp2 g d a t s
  | .vflog2 g d a t => Sys2Proof.Machine.execVflog2 g d a t s
  | .vrope g d a b => Sys2Proof.Machine.execVrope g d a b s
  | .vcvt g d a o m => Sys2Proof.Machine.execVcvt g d a o m s
  | .vqblk g d a o m => Sys2Proof.Machine.execVqblk g d a o m s
  | .vdqblk g d a o m => Sys2Proof.Machine.execVdqblk g d a o m s
  | .vcbx g d a w k => Sys2Proof.Machine.execVcbx g d a w k s
  | .vcbq g d a t k => Sys2Proof.Machine.execVcbq g d a t k s
  | .vpack g d a c => Sys2Proof.Machine.execVpack g d a c s
  | .vunpack g d a c => Sys2Proof.Machine.execVunpack g d a c s
  | .vrand g d => Sys2Proof.Machine.execVrand g d s
  | .kand g d a b => Sys2Proof.Machine.execKand g d a b s
  | .kor g d a b => Sys2Proof.Machine.execKor g d a b s
  | .knot g d a => Sys2Proof.Machine.execKnot g d a s
  | .kmov g d a => Sys2Proof.Machine.execKmov g d a s
  | .vdchk g a b => Sys2Proof.Machine.execVdchk g a b s
  | .ldB g l x d b => Sys2Proof.Machine.execLdB g l x d b s
  | .ldH g l x d b => Sys2Proof.Machine.execLdH g l x d b s
  | .ldW g l x d b => Sys2Proof.Machine.execLdW g l x d b s
  | .ldD g l x d b => Sys2Proof.Machine.execLdD g l x d b s
  | .ldBu g l x d b => Sys2Proof.Machine.execLdBu g l x d b s
  | .ldHu g l x d b => Sys2Proof.Machine.execLdHu g l x d b s
  | .ldWu g l x d b => Sys2Proof.Machine.execLdWu g l x d b s
  | .ldv g l d b => Sys2Proof.Machine.execLdv g l d b s
  | .ldvs g l d b => Sys2Proof.Machine.execLdvs g l d b s
  | .ldvg g l d b => Sys2Proof.Machine.execLdvg g l d b s
  | .atomW g l x d b => Sys2Proof.Machine.execAtomW g l x d b s
  | .atomD g l x d b => Sys2Proof.Machine.execAtomD g l x d b s
  | .atomCasW g l x d b => Sys2Proof.Machine.execAtomCasW g l x d b s
  | .atomCasD g l x d b => Sys2Proof.Machine.execAtomCasD g l x d b s
  | .redW g b => Sys2Proof.Machine.execRedW g b s
  | .redD g b => Sys2Proof.Machine.execRedD g b s
  | .stB g d b => Sys2Proof.Machine.execStB g d b s
  | .stH g d b => Sys2Proof.Machine.execStH g d b s
  | .stW g d b => Sys2Proof.Machine.execStW g d b s
  | .stD g d b => Sys2Proof.Machine.execStD g d b s
  | .stv g d b => Sys2Proof.Machine.execStv g d b s
  | .stvs g d b => Sys2Proof.Machine.execStvs g d b s
  | .stvx g d b => Sys2Proof.Machine.execStvx g d b s
  | .ldsp g d x => Sys2Proof.Machine.execLdsp g d x s
  | .stsp g a x => Sys2Proof.Machine.execStsp g a x s
  | .mark g => Sys2Proof.Machine.execMark g s
  | .fence g z => Sys2Proof.Machine.execFence g z s
  | .shdr g l x d b => Sys2Proof.Machine.execShdr g l x d b s
  | .srd g l x d b => Sys2Proof.Machine.execSrd g l x d b s
  | .swait g z => Sys2Proof.Machine.execSwait g z s
  | .sdone g z => Sys2Proof.Machine.execSdone g z s
  | .sopen g z => Sys2Proof.Machine.execSopen g z s
  | .swr g z a b => Sys2Proof.Machine.execSwr g z a b s
  | .sclose g z a => Sys2Proof.Machine.execSclose g z a s
  | .sfree g z => Sys2Proof.Machine.execSfree g z s
  | .sbind g z a => Sys2Proof.Machine.execSbind g z a s
  | .stag g z a b => Sys2Proof.Machine.execStag g z a b s
  | .fview g l x d b => Sys2Proof.Machine.execFview g l x d b s
  | .fseq g l x d b => Sys2Proof.Machine.execFseq g l x d b s
  | .fprobe g l x d b => Sys2Proof.Machine.execFprobe g l x d b s
  | .fldk g t a b => Sys2Proof.Machine.execFldk g t a b s
  | .fapp g t a b => Sys2Proof.Machine.execFapp g t a b s
  | .ffork g a b => Sys2Proof.Machine.execFfork g a b s
  | .ftrunc g a b => Sys2Proof.Machine.execFtrunc g a b s
  | .ffree g a b => Sys2Proof.Machine.execFfree g a b s
  | .fhint g a b => Sys2Proof.Machine.execFhint g a b s
  | .ewr g a r => Sys2Proof.Machine.execEwr g a r s
  | .erd g d r => Sys2Proof.Machine.execErd g d r s
  | .estat g d => Sys2Proof.Machine.execEstat g d s
  | .ego g => Sys2Proof.Machine.execEgo g s
  | .eabort g => Sys2Proof.Machine.execEabort g s
  | .mloadw g => Sys2Proof.Machine.execMloadw g s
  | .mmac g => Sys2Proof.Machine.execMmac g s
  | .mdrain g => Sys2Proof.Machine.execMdrain g s
  | .cpy g q => Sys2Proof.Machine.execCpy g q s
  | .cpyq g d => Sys2Proof.Machine.execCpyq g d s
  | .binit g a k => Sys2Proof.Machine.execBinit g a k s
  | .barr g a k => Sys2Proof.Machine.execBarr g a k s
  | .badd g a k => Sys2Proof.Machine.execBadd g a k s
  | .bwait g k => Sys2Proof.Machine.execBwait g k s
  | .gbar g h w => Sys2Proof.Machine.execGbar g h w s
  | .tfork g d q b => Sys2Proof.Machine.execTfork g d q b s
  | .tjoin g => Sys2Proof.Machine.execTjoin g s
  | .tcancel g a => Sys2Proof.Machine.execTcancel g a s
  | .texit g => Sys2Proof.Machine.execTexit g s
  | .tyield g => Sys2Proof.Machine.execTyield g s
  | .lktry g l m d z => Sys2Proof.Machine.execLktry g l m d z s
  | .lkqry g l d z => Sys2Proof.Machine.execLkqry g l d z s
  | .lkacq g d a m => Sys2Proof.Machine.execLkacq g d a m s
  | .lkupg g d a m => Sys2Proof.Machine.execLkupg g d a m s
  | .lkrel g a => Sys2Proof.Machine.execLkrel g a s
  | .lkrela g => Sys2Proof.Machine.execLkrela g s
  | .lkmat g a => Sys2Proof.Machine.execLkmat g a s
  | .cbwr g k a b => Sys2Proof.Machine.execCbwr g k a b s
  | .cbwrNw g k a b => Sys2Proof.Machine.execCbwrNw g k a b s
  | .cbld g k a b => Sys2Proof.Machine.execCbld g k a b s
  | .cbinv g k a => Sys2Proof.Machine.execCbinv g k a s
  | .bundleIssue t => Sys2Proof.Machine.execBundleIssue t s
  | .resultCompletion t => Sys2Proof.Machine.execResultCompletion t s
  | .landingArrival c k => Sys2Proof.Machine.execLandingArrival c k s
  | .landingWrite c => Sys2Proof.Machine.execLandingWrite c s
  | .landingTimeout t => Sys2Proof.Machine.execLandingTimeout t s
  | .blockSwitch t => Sys2Proof.Machine.execBlockSwitch t s
  | .waitReady c => Sys2Proof.Machine.execWaitReady c s
  | .interruptPending t l => Sys2Proof.Machine.execInterruptPending t l s
  | .trapEntry t => Sys2Proof.Machine.execTrapEntry t s
  | .handlerEntry t => Sys2Proof.Machine.execHandlerEntry t s
  | .lateFault c k => Sys2Proof.Machine.execLateFault c k s
  | .lostLanding c k => Sys2Proof.Machine.execLostLanding c k s
  | .returnBundleIssue t => Sys2Proof.Machine.execReturnBundleIssue t s
  | .packetFirstFlit t k => Sys2Proof.Machine.execPacketFirstFlit t k s
  | .packetReceived t st k => Sys2Proof.Machine.execPacketReceived t st k s
  | .nextWrite t st v => Sys2Proof.Machine.execNextWrite t st v s
  | .creditArrival t st k => Sys2Proof.Machine.execCreditArrival t st k s
  | .packetLaunch c => Sys2Proof.Machine.execPacketLaunch c s
  | .taskAdmission t => Sys2Proof.Machine.execTaskAdmission t s
  | .stealRound t => Sys2Proof.Machine.execStealRound t s
  | .joinMessage c k => Sys2Proof.Machine.execJoinMessage c k s
  | .queueIssue c q => Sys2Proof.Machine.execQueueIssue c q s
  | .bankAccept k => Sys2Proof.Machine.execBankAccept k s
  | .barrApply c => Sys2Proof.Machine.execBarrApply c s
  | .cpyDispatch c => Sys2Proof.Machine.execCpyDispatch c s
  | .copyRow t k => Sys2Proof.Machine.execCopyRow t k s
  | .shadowSwapIn t => Sys2Proof.Machine.execShadowSwapIn t s
  | .engineComplete t => Sys2Proof.Machine.execEngineComplete t s
  | .foldDispatch c => Sys2Proof.Machine.execFoldDispatch c s
  | .foldRow t k => Sys2Proof.Machine.execFoldRow t k s
  | .foldWalk t v k => Sys2Proof.Machine.execFoldWalk t v k s
  | .foldTransferComplete t k => Sys2Proof.Machine.execFoldTransferComplete t k s
  | .foldRecordOp t k => Sys2Proof.Machine.execFoldRecordOp t k s
  | .pagePromotion n k => Sys2Proof.Machine.execPagePromotion n k s
  | .pageMoveComplete n k => Sys2Proof.Machine.execPageMoveComplete n k s
  | .woundDelivery c w => Sys2Proof.Machine.execWoundDelivery c w s
  | .woundReleaseTimeout c => Sys2Proof.Machine.execWoundReleaseTimeout c s
  | .crookUe n w => Sys2Proof.Machine.execCrookUe n w s
  | .pastureTick n => Sys2Proof.Machine.execPastureTick n s
  | .psctlSave t w => Sys2Proof.Machine.execPsctlSave t w s
  | .psctlResumeInPlace t w => Sys2Proof.Machine.execPsctlResumeInPlace t w s
  | .psctlResumeFromTile t w => Sys2Proof.Machine.execPsctlResumeFromTile t w s
  | .preemptHalt t => Sys2Proof.Machine.execPreemptHalt t s
  | .saveComplete t => Sys2Proof.Machine.execSaveComplete t s
  | .treeCancel n k => Sys2Proof.Machine.execTreeCancel n k s
  | .droveLoad n im => Sys2Proof.Machine.execDroveLoad n im s
  | .droveRemoval n k => Sys2Proof.Machine.execDroveRemoval n k s
  | .droveWithdrawal n k => Sys2Proof.Machine.execDroveWithdrawal n k s
  | .dgcmdLoad n k g => Sys2Proof.Machine.execDgcmdLoad n k g s
  | .dgcmdSwitch n k => Sys2Proof.Machine.execDgcmdSwitch n k s
  | .dgcmdAbort n k => Sys2Proof.Machine.execDgcmdAbort n k s
  | .dgcmdInvalid n k w => Sys2Proof.Machine.execDgcmdInvalid n k w s
  | .generationVerified n k => Sys2Proof.Machine.execGenerationVerified n k s
  | .generationDrained n k => Sys2Proof.Machine.execGenerationDrained n k s
  | .tcmdCancel n k => Sys2Proof.Machine.execTcmdCancel n k s
  | .swint n w => Sys2Proof.Machine.execSwint n w s
  | .mbin7Write n w => Sys2Proof.Machine.execMbin7Write n w s
  | .mailboxAccess t w => Sys2Proof.Machine.execMailboxAccess t w s
  | .mailboxComplete t => Sys2Proof.Machine.execMailboxComplete t s
  | .qtailWrite n k w => Sys2Proof.Machine.execQtailWrite n k w s
  | .qcfgWrite n k w => Sys2Proof.Machine.execQcfgWrite n k w s
  | .ingressRecord n k => Sys2Proof.Machine.execIngressRecord n k s
  | .egressPacket n k => Sys2Proof.Machine.execEgressPacket n k s
  | .cresync n w => Sys2Proof.Machine.execCresync n w s
  | .linkFlitReceive n b fl => Sys2Proof.Machine.execLinkFlitReceive n b fl s
  | .creditFlit n ws => Sys2Proof.Machine.execCreditFlit n ws s
  | .remoteLoad r => Sys2Proof.Machine.execRemoteLoad r s
  | .remoteStore r => Sys2Proof.Machine.execRemoteStore r s
  | .remoteAtom r => Sys2Proof.Machine.execRemoteAtom r s
  | .remoteAtomCas r => Sys2Proof.Machine.execRemoteAtomCas r s
  | .remoteRed r => Sys2Proof.Machine.execRemoteRed r s
  | .remoteUnknownOperation r => Sys2Proof.Machine.execRemoteUnknownOperation r s
  | .remoteResponse r => Sys2Proof.Machine.execRemoteResponse r s
  | .crookAcquireMsg m => Sys2Proof.Machine.execCrookAcquireMsg m s
  | .crookTryMsg m => Sys2Proof.Machine.execCrookTryMsg m s
  | .crookUpgradeMsg m => Sys2Proof.Machine.execCrookUpgradeMsg m s
  | .crookReleaseMsg m => Sys2Proof.Machine.execCrookReleaseMsg m s
  | .crookWithdrawMsg m => Sys2Proof.Machine.execCrookWithdrawMsg m s
  | .crookQueryMsg m => Sys2Proof.Machine.execCrookQueryMsg m s
  | .crookStatusMsg m => Sys2Proof.Machine.execCrookStatusMsg m s
  | .crookWoundMsg m => Sys2Proof.Machine.execCrookWoundMsg m s
  | .crookQueryResultMsg m => Sys2Proof.Machine.execCrookQueryResultMsg m s
  | .foldReleaseMsg m => Sys2Proof.Machine.execFoldReleaseMsg m s
  | .foldFetchMsg m => Sys2Proof.Machine.execFoldFetchMsg m s
  | .foldOfferMsg m => Sys2Proof.Machine.execFoldOfferMsg m s
  | .foldAcceptMsg m => Sys2Proof.Machine.execFoldAcceptMsg m s
  | .foldRefuseMsg m => Sys2Proof.Machine.execFoldRefuseMsg m s
  | .foldPageDataMsg m => Sys2Proof.Machine.execFoldPageDataMsg m s
  | .foldMoveCompleteMsg m => Sys2Proof.Machine.execFoldMoveCompleteMsg m s
  | .tickExchangeMsg n k => Sys2Proof.Machine.execTickExchangeMsg n k s
  | .holdMsg n src w => Sys2Proof.Machine.execHoldMsg n src w s
  | .holdAnswerMsg n src w v => Sys2Proof.Machine.execHoldAnswerMsg n src w v s
  | .holdEndMsg n src w v => Sys2Proof.Machine.execHoldEndMsg n src w v s
  | .musterSegmentMsg n k bs => Sys2Proof.Machine.execMusterSegmentMsg n k bs s
  | .membershipUpdateMsg n k w => Sys2Proof.Machine.execMembershipUpdateMsg n k w s
  | .movePointMsg n w => Sys2Proof.Machine.execMovePointMsg n w s
  | .correctedError n u k => Sys2Proof.Machine.execCorrectedError n u k s
  | .uncorrectedError n u k => Sys2Proof.Machine.execUncorrectedError n u k s
  | .suspectReversion n u => Sys2Proof.Machine.execSuspectReversion n u s
  | .counterHourBucket n => Sys2Proof.Machine.execCounterHourBucket n s
  | .backgroundScrub n => Sys2Proof.Machine.execBackgroundScrub n s
  | .bankRetirement t k => Sys2Proof.Machine.execBankRetirement t k s
  | .tileCoreRetirement t => Sys2Proof.Machine.execTileCoreRetirement t s
  | .laneRetirement n k => Sys2Proof.Machine.execLaneRetirement n k s
  | .bundleDown n k => Sys2Proof.Machine.execBundleDown n k s
  | .rascfgLock n w => Sys2Proof.Machine.execRascfgLock n w s
  | .laneSilence n => Sys2Proof.Machine.execLaneSilence n s
  | .transhumance n k => Sys2Proof.Machine.execTranshumance n k s
  | .boot n im => Sys2Proof.Machine.execBoot n im s
  | .recoveryImage n im => Sys2Proof.Machine.execRecoveryImage n im s
  | .attestationRequest n bs => Sys2Proof.Machine.execAttestationRequest n bs s
  | .attestationComplete n => Sys2Proof.Machine.execAttestationComplete n s
  | .throttleStep n x => Sys2Proof.Machine.execThrottleStep n x s
  | .pwrcapWrite n w => Sys2Proof.Machine.execPwrcapWrite n w s
  | .thermalTrip n => Sys2Proof.Machine.execThermalTrip n s
  | .powerLoss n => Sys2Proof.Machine.execPowerLoss n s
  | .reset n => Sys2Proof.Machine.execReset n s
  | .registerWrite n k w => Sys2Proof.Machine.execRegisterWrite n k w s
  | .nestedLandingLost c k => Sys2Proof.Machine.execNestedLandingLost c k s
  | .flitSlot n b => Sys2Proof.Machine.execFlitSlot n b s
  | .requestCreditReturn n b => Sys2Proof.Machine.execRequestCreditReturn n b s
  | .laneRetrained n k => Sys2Proof.Machine.execLaneRetrained n k s

end Sys2Proof.Machine
end

