-- ==== Sys2Proof/Machine/Step.lean ====
section
/-! DEFINITION. The step of the machine: a step chosen from outside, a step that is due, or a wall cycle of the tile in focus (log entry
4); and an instruction placed where the next step fetches it. -/

namespace Sys2Proof.Machine

/-- A step of the agenda: an operation of a slot is none, nor is one whose operands name nothing of a pasture. -/
def State.chosen (s : State) (i : Instr) : Out :=
  if !i.isSlotOp && i.wf then
    match exec i s with
    | .next t => t.runBundle exec
    | o => o
  else .fault .illFormedStep

/-- A wall cycle of the tile in focus, with the bundle that issues in it; the focus passes to the next tile. -/
def State.cycleStep (s : State) : Out :=
  match execBundleIssue s.focus s with
  | .next t =>
    match t.runBundle exec with
    | .next u => .next { u with focus := u.nextFocus }
    | o => o
  | o => o

/-- ONE STEP of the machine. -/
def step (s : State) : Host.Outcome State Fault Refusal :=
  match s.agenda with
  | i :: rest => { s with agenda := rest, issue := Issue.idle }.chosen i
  | [] =>
    match s.auto with
    | some o => o
    | none => s.cycleStep

/-- The slot that a word of the opcode table's numbering belongs to (log entry 5). -/
def fetchSlot (w : Nat) : Slot := (slotOfWord (BitVec.ofNat 32 w)).getD .a

/-- The bytes of a bundle that holds one word in its slot and `NOP`s beside it (R88, R90). -/
def fetchBundle (w : Nat) : List Byte :=
  let k := slotIdx (fetchSlot w)
  (List.range 4).flatMap (fun i => if i = k then natToBytes 4 w else List.replicate 4 0)

/-- A context that is running and stands at a boundary with nothing pending. -/
def Ctx.quiet (c : Ctx) : Ctx :=
  { c with
    st := .running, wait := .none, results := [], landings := [], queue := [], late := [], request := none, wound := none, preempt := false
    issueAt := 0, holdUntil := 0, entering := none, returning := none, reissue := [], resume := none, stuck := false, fencing := false
    closing := false, outer := none, waitEnd := false, bad := [], badQueue := [], eflags := 0
    xctl := c.xctl &&& ~~~2#64 }

/-- The state with an instruction's word where the next step fetches it: in its slot of the bundle at the pc of the context that runs on
the tile in focus, `NOP`s beside it, nothing else chosen or due. Where no context runs, slot 0 does, as the one slot of a stage
placed there; so a program that has been loaded and whose task has been admitted stands (log entry 17). -/
def State.withFetchWord (s : State) (_nbits w : Nat) : State :=
  let r := s.focus
  let s1 := { s with agenda := [], net := [], packets := [], issue := Issue.idle }.modNode r.node (fun x => { x with failed := false })
  let k := ((s1.tile r).running).getD 0
  let s2 := s1.modTile r (fun t =>
    { t.modCtx k Ctx.quiet with
      slots := if t.slots = 0 then 1 else t.slots
      running := some k, switchUntil := none, freeze := none, save := none })
  s2.writeBytes .imem r (16 * ((s2.tile r).ctx k).pc.toNat) (fetchBundle w)

end Sys2Proof.Machine
end

