-- ==== Sys2Proof/Safety.lean ====
section
/-! DEFINITION. What a safe run is, and the words the statements are made of: when an operation of a slot runs, what it adds to its
context, and which operations touch registers alone. -/

namespace Sys2Proof

open Machine

/-- The state after at most `n` steps, none where a step has stopped. -/
def Machine.State.after (s : Machine.State) : Nat → Option Machine.State
  | 0 => some s
  | n + 1 =>
    match Machine.step s with
    | .next t => Machine.State.after t n
    | _ => none

/-- No step from here on, however many are taken, stops the machine. -/
def Safe (s : Machine.State) : Prop := ∀ n : Nat, (s.after n).isSome = true

/-- An operation with guard `g` runs (R16, R45, R52): its guard reads true, and either its bundle's checks have passed, or, where it
runs on its own, nothing it reads is unset under `POISONRD` and its own conditions `ok` hold. -/
def Runs (s : State) (g : Guard) (unset : Bool) (ok : Prop) : Prop :=
  s.cur.guard g = true ∧
    (s.issue.mode = .commit ∨
      s.issue.mode = .direct ∧ (s.cur.poisonRd = true → s.cur.unsetP g.p = false ∧ unset = false) ∧ ok)

/-- A V operation runs: its mask is set as its sources are, and no codebook entry it expands stops it (R181). -/
def VRuns (s : State) (g : Guard) (unset : Bool) (cb : Option Word) (ok : Prop) : Prop :=
  Runs s g (s.cur.unsetK s.xvMask || unset) (cb = none ∧ ok)

/-- A value a latency-1 operation may write to a31: anything elsewhere, and within the stack where `SLIM` < `SBASE` (R124). -/
def StackOk (s : State) (d : Dst) (v : Word) : Prop :=
  d = .reg 31 → s.cur.slim < s.cur.sbase → s.cur.slim ≤ v ∧ v ≤ s.cur.sbase

/-- A landing entry is free for one more timed operation of the bundle (R31). -/
def LandingFree (s : State) : Prop := s.cur.landings.length + s.issue.taken < s.here.landingShare

/-- An M register is unset. -/
def unsetM (s : State) (n : Nat) : Bool := !s.cur.wm.getLsbD n

/-- The value of an integer lane operation over two sources, in the form every statement of the V slot shares: source `a` through the
codebook where the bundle's header says so, active lanes computed, inactive ones kept or zeroed by `vresult` (R143 to R148, R173). -/
def lanewise2 (s : State) (d : Dst) (a b : Src) (lat lw : Nat) (f : Nat → Nat → Nat → Nat × BitVec 7) (nan : Nat) : State :=
  let x := s.vread 1 a lw nan (s.active lw)
  let y := s.vread 2 b lw nan (s.active lw)
  s.vresult lat d lw (overLanes (1024 / lw) (s.active lw) (fun i => f i (lane lw x.1 i) (lane lw y.1 i))) (x.2.1 || y.2.1)

/-- The like of one source. -/
def lanewise1 (s : State) (d : Dst) (a : Src) (lat lw : Nat) (f : Nat → VReg → Nat × BitVec 7) (nan : Nat) : State :=
  let x := s.vread 1 a lw nan (s.active lw)
  s.vresult lat d lw (overLanes (1024 / lw) (s.active lw) (fun i => f i x.1)) x.2.1

/-- A V operation of two sources, or of one, runs where its mask and sources are set and no codebook entry stops it. -/
def VRuns2 (s : State) (g : Guard) (a b : Src) (lw nan : Nat) : Prop :=
  VRuns s g (s.cur.unsetV a || s.cur.unsetV b)
    ((s.vread 1 a lw nan (s.active lw)).2.2.or (s.vread 2 b lw nan (s.active lw)).2.2) True
def VRuns1 (s : State) (g : Guard) (a : Src) (lw nan : Nat) : Prop :=
  VRuns s g (s.cur.unsetV a) (s.vread 1 a lw nan (s.active lw)).2.2 True

/-- The landing entry a timed operation takes (R30, R31, R34): numbered next, named for `L` cycles after its issue and never for the
issue itself, empty. -/
def landingOf (s : State) (sl : Slot) (kind : LandKind) (l : BitVec 10) (file : RFile) (reg : BitVec 5) (addr : Word)
    (size earliest : Nat) (idem : Bool) : Landing :=
  { (default : Landing) with
    id := s.ids, kind := kind, word := s.slotWord sl, xm := s.issue.xm, fpc := some s.cur.pc.toNat
    seq := s.here.issued * 256 + slotIdx sl, file := file, reg := reg
    named := max (s.here.core + 1) ((s.here.core : Int) + l.toInt).toNat
    pushes := true, addr := addr, size := size, issueWall := s.here.wall, earliest := earliest, base := earliest, idem := idem
    past := decide (l.toInt ≤ 0) }

/-- A queue entry of the issuing bundle (R244). -/
def entryOf (s : State) (sl : Slot) (id : Nat) (inLoad inStore : Bool) (op : QOp) : QEntry :=
  ⟨id, some s.cur.pc.toNat, s.here.issued * 256 + slotIdx sl, inLoad, inStore, false, op, s.cur.level⟩

/-- The checks of an access pass: no segment of it violates R234 to R239 or R303. -/
def AccessOk (s : State) (segs : List Word) (size align : Nat) (wr : Bool) : Prop :=
  segFault s s.me s.cur.level segs size align wr = none

/-- The address of a scalar access: the base plus the signed displacement times its size (R257). -/
def accessAddr (s : State) (b : BitVec 5) (size : Nat) : Word :=
  s.cur.regM b.toNat + BitVec.ofInt 64 (s.issue.xm.toInt * (size : Int))

/-- The four segments of a strided, and of a gathered, access (R257, R258). -/
def stridedAddrs (s : State) (b : BitVec 5) : List Word :=
  (List.range 4).map (fun j => s.cur.regM b.toNat + BitVec.ofNat 64 j * s.cur.regM (s.issue.xm.toNat % 32))
def gatheredAddrs (s : State) (b : BitVec 5) : List Word :=
  (List.range 4).map (fun j =>
    s.cur.regM b.toNat + BitVec.ofNat 64 (32 * (s.cur.regM (s.issue.xm.toNat % 32) >>> (16 * j)).toNat.mod 65536))

/-- The number the next access takes is no landing's yet: an invariant of every run, whose numbers only rise. -/
def FreshId (s : State) : Prop := ∀ x ∈ s.cur.landings, x.id ≠ s.ids

/-- A step answers a next state of which a property holds. -/
def Gives (i : Instr) (s : State) (p : State → Prop) : Prop := ∃ t, Machine.exec i s = .next t ∧ p t

/-- A message is on its way. -/
def OnItsWay (s : State) (e : Event) : Prop := s.net.contains e = true

/-- A request to a home crook is the first of its context to that home on its way (R321). -/
def FirstAsk (s : State) (e : Event) : Prop :=
  s.net.find? (fun x => match x.crookAsk, e.crookAsk with
    | some a, some b => a.ctx == b.ctx && a.dest == b.dest
    | _, _ => false) = some e

/-- An accepted access of a mailbox is the first of its node (R410). -/
def FirstMailbox (s : State) (r : TileRef) : Prop :=
  s.net.find? (fun e => match e with
    | .mailboxComplete q => q.node == r.node
    | _ => false) = some (.mailboxComplete r)

/-- The state once a message has reached its end. -/
def arrived (s : State) (e : Event) : State := { s with net := s.net.erase e }

/-- An operation of the A or the V slot that acts on registers and control alone: any but `TRET`. -/
def Machine.registerOnly (i : Instr) : Bool :=
  match i with
  | .tret _ => false
  | i => match i.toFields with
    | some (sl, _) => sl == .a || sl == .v
    | none => false

/-- The state of a tile's wall cycle once what falls due has been done and a context has been chosen. -/
def Machine.State.atCycle (s : State) (r : TileRef) : State := (({ s with focus := r, issue := Issue.idle }).tick r).blockSwitch r

/-- Slot `k` runs on a tile and stands at its boundary, and nothing comes before its bundle: no switch, trap entry, return, bubble, halt,
hold, trap or end of a block. -/
def Machine.State.atBundle (u : State) (r : TileRef) (k : Nat) : Prop :=
  let t := u.tile r
  let c := u.ctx ⟨r.node, r.tile, k⟩
  k < 8 ∧ t.running = some k ∧ t.switchUntil = none ∧ c.stuck = false ∧ c.entering = none ∧ c.returning = none ∧ c.issueAt ≤ t.core ∧
    t.preempts k = false ∧ c.holdUntil ≤ t.wall ∧ c.fencing = false ∧ t.boundaryTrap k = false ∧ c.closing = false

/-- Such a context once its hold has ended, and once what is due for it has completed. -/
def Machine.State.unheld (u : State) (r : TileRef) (k : Nat) : State :=
  u.modCtx ⟨r.node, r.tile, k⟩ (fun c => { c with fencing := false, holdUntil := 0 })
def Machine.State.settled (u : State) (r : TileRef) (k : Nat) : State := (u.unheld r k).modTile r (fun t => t.settleSlot k)

/-- Its bundle reaches the checks: no landing it names is late, no queue is full, its words are read without an error, and it is not the
firmware's own code (R359). -/
def Machine.State.reachesChecks (u : State) (r : TileRef) (k : Nat) : Prop :=
  let v := u.unheld r k
  let w := u.settled r k
  u.atBundle r k ∧ (v.ctx ⟨r.node, r.tile, k⟩).missing (v.tile r).core (v.tile r).wall = none ∧
    (v.ctx ⟨r.node, r.tile, k⟩).queueFull = false ∧ (v.tile r).atFirmware (v.ctx ⟨r.node, r.tile, k⟩) = false ∧
    w.poisonIn .imem r (16 * (w.ctx ⟨r.node, r.tile, k⟩).pc.toNat) 16 = false

/-- The guard of an operation of a slot. -/
def guardOf : Instr → Option Guard
  | .add g _ _ _ | .sub g _ _ _ | .and g _ _ _ | .or g _ _ _ | .xor g _ _ _ | .andn g _ _ _ | .shl g _ _ _ | .shr g _ _ _
  | .sar g _ _ _ | .rol g _ _ _ | .min g _ _ _ | .max g _ _ _ | .minu g _ _ _ | .maxu g _ _ _ | .addx g _ _ _ | .clz g _ _
  | .ctz g _ _ | .popc g _ _ | .brev g _ _ | .bswap g _ _ | .sext g _ _ _ | .zext g _ _ _ | .mov g _ _ | .mul g _ _ _
  | .mulh g _ _ _ | .mulhu g _ _ _ | .div g _ _ _ | .divu g _ _ _ | .rem g _ _ _ | .remu g _ _ _ | .extr g _ _ _ | .insr g _ _ _
  | .sel g _ _ _ _ _ | .cmp g _ _ _ _ | .pand g _ _ _ | .por g _ _ _ | .pnot g _ _ | .addi g _ _ _ | .subi g _ _ _
  | .andi g _ _ _ | .ori g _ _ _ | .xori g _ _ _ | .shli g _ _ _ | .shri g _ _ _ | .sari g _ _ _ | .cmpi g _ _ _ _ | .movi g _ _
  | .movh1 g _ _ | .movh2 g _ _ | .movh3 g _ _ | .br g _ | .jmp g _ | .call g _ _ | .callr g _ _ | .ret g _ | .loopi g _ _
  | .loop g _ _ | .mtcr g _ _ | .mfcr g _ _ | .trap g _ | .tret g | .ifence g | .dchk g _ _ | .xmov g _ _ _ _ _
  | .vadd g _ _ _ _ _ | .vsub g _ _ _ _ _ | .vmul g _ _ _ _ | .vmulh g _ _ _ _ | .vmulhU g _ _ _ _ | .vand g _ _ _
  | .vor g _ _ _ | .vxor g _ _ _ | .vshl g _ _ _ _ | .vshr g _ _ _ _ | .vsar g _ _ _ _ | .vshlImm g _ _ _ _ | .vshrImm g _ _ _ _
  | .vsarImm g _ _ _ _ | .vmin g _ _ _ _ | .vmax g _ _ _ _ | .vminU g _ _ _ _ | .vmaxU g _ _ _ _ | .vabs g _ _ _ | .vneg g _ _ _
  | .vcmp g _ _ _ _ _ | .vsel g _ _ _ _ | .vsplatImm g _ _ _ | .vsplatLane g _ _ _ _ | .vperm g _ _ _ _ | .vrot g _ _ _ _
  | .vslide g _ _ _ _ _ | .vcompress g _ _ _ | .vexpand g _ _ _ | .vredsum g _ _ _ | .vredmax g _ _ _ | .vredmin g _ _ _
  | .vredsumF g _ _ _ | .vredmaxF g _ _ _ | .vredminF g _ _ _ | .vscanF g _ _ _ | .vscanI g _ _ _ | .vfadd g _ _ _ _
  | .vfsub g _ _ _ _ | .vfmul g _ _ _ _ | .vfma g _ _ _ _ | .vfms g _ _ _ _ | .vfnma g _ _ _ _ | .vfmax g _ _ _ _
  | .vfmin g _ _ _ _ | .vfscale g _ _ _ _ | .vfabs g _ _ _ | .vfneg g _ _ _ | .vfclass g _ _ _ | .vfcmp g _ _ _ _ _
  | .vfrcp g _ _ _ | .vfrsq g _ _ _ | .vfexp2 g _ _ _ | .vflog2 g _ _ _ | .vrope g _ _ _ | .vcvt g _ _ _ _ | .vqblk g _ _ _ _
  | .vdqblk g _ _ _ _ | .vcbx g _ _ _ _ | .vcbq g _ _ _ _ | .vpack g _ _ _ | .vunpack g _ _ _ | .vrand g _ | .kand g _ _ _
  | .kor g _ _ _ | .knot g _ _ | .kmov g _ _ | .vdchk g _ _ | .ldB g _ _ _ _ | .ldH g _ _ _ _ | .ldW g _ _ _ _ | .ldD g _ _ _ _
  | .ldBu g _ _ _ _ | .ldHu g _ _ _ _ | .ldWu g _ _ _ _ | .ldv g _ _ _ | .ldvs g _ _ _ | .ldvg g _ _ _ | .atomW g _ _ _ _
  | .atomD g _ _ _ _ | .atomCasW g _ _ _ _ | .atomCasD g _ _ _ _ | .redW g _ | .redD g _ | .stB g _ _ | .stH g _ _ | .stW g _ _
  | .stD g _ _ | .stv g _ _ | .stvs g _ _ | .stvx g _ _ | .ldsp g _ _ | .stsp g _ _ | .mark g | .fence g _ | .shdr g _ _ _ _
  | .srd g _ _ _ _ | .swait g _ | .sdone g _ | .sopen g _ | .swr g _ _ _ | .sclose g _ _ | .sfree g _ | .sbind g _ _
  | .stag g _ _ _ | .fview g _ _ _ _ | .fseq g _ _ _ _ | .fprobe g _ _ _ _ | .fldk g _ _ _ | .fapp g _ _ _ | .ffork g _ _
  | .ftrunc g _ _ | .ffree g _ _ | .fhint g _ _ | .ewr g _ _ | .erd g _ _ | .estat g _ | .ego g | .eabort g | .mloadw g
  | .mmac g | .mdrain g | .cpy g _ | .cpyq g _ | .binit g _ _ | .barr g _ _ | .badd g _ _ | .bwait g _ | .gbar g _ _
  | .tfork g _ _ _ | .tjoin g | .tcancel g _ | .texit g | .tyield g | .lktry g _ _ _ _ | .lkqry g _ _ _ | .lkacq g _ _ _
  | .lkupg g _ _ _ | .lkrel g _ | .lkrela g | .lkmat g _ | .cbwr g _ _ _ | .cbwrNw g _ _ _ | .cbld g _ _ _ | .cbinv g _ _ => some g
  | _ => none

end Sys2Proof
end

