-- ==== Sys2Proof/Certificates/Slice0/Obligations.lean ====
section
/-! DEFINITION. The statements for the provers: each formalises rules of the spec, or says how the model as a whole behaves. -/

open Sys2Proof Sys2Proof.Machine

/-! ## The A slot -/

/-- R113, R114, R115: the two-source operations of latency 1. Every one writes its destination at the core cycle after its issue,
whatever its sources, with no flag; a write of a31 must stay within the stack (R124).
R119: multiplication and division, of latency 3 and 24, from the exact product, quotient and remainder. A division by zero
gives all ones, its remainder the dividend; the one quotient that overflows wraps. None is checked against the stack (R124). -/
def Obligations.ScalarTwoSource : Prop :=
  (∀ (s : State) (g : Guard) (d : Dst) (a b : Src),
    let x := s.cur.srcA a
    let y := s.cur.srcA b
    let writes := fun (i : Instr) (v : Word) =>
      Runs s g (s.cur.unsetA a || s.cur.unsetA b) (StackOk s d v) → exec i s = .next (s.resultWord .a .a 1 d v)
    writes (.add g d a b) (BitVec.ofNat 64 (x.toNat + y.toNat)) ∧
    writes (.sub g d a b) (BitVec.ofInt 64 ((x.toNat : Int) - y.toNat)) ∧
    writes (.and g d a b) (x &&& y) ∧ writes (.or g d a b) (x ||| y) ∧ writes (.xor g d a b) (x ^^^ y) ∧
    writes (.andn g d a b) (x &&& ~~~y) ∧
    writes (.shl g d a b) (BitVec.ofNat 64 (x.toNat * 2 ^ (y.toNat % 64))) ∧
    writes (.shr g d a b) (BitVec.ofNat 64 (x.toNat / 2 ^ (y.toNat % 64))) ∧
    writes (.sar g d a b) (BitVec.ofInt 64 (x.toInt / 2 ^ (y.toNat % 64))) ∧
    writes (.rol g d a b) (x <<< (y.toNat % 64) ||| x >>> (64 - y.toNat % 64)) ∧
    writes (.min g d a b) (if x.toInt ≤ y.toInt then x else y) ∧
    writes (.max g d a b) (if x.toInt ≤ y.toInt then y else x) ∧
    writes (.minu g d a b) (if x.toNat ≤ y.toNat then x else y) ∧
    writes (.maxu g d a b) (if x.toNat ≤ y.toNat then y else x) ∧
    writes (.addx g d a b) (x.extractLsb' 60 4 ++ (x + y).extractLsb' 0 60)) ∧
  (∀ (s : State) (g : Guard) (d : Dst) (a b : Src),
    let x := s.cur.srcA a
    let y := s.cur.srcA b
    let writes := fun (i : Instr) (lat : Nat) (v : Word) =>
      Runs s g (s.cur.unsetA a || s.cur.unsetA b) True → exec i s = .next (s.resultWord .a .a lat d v)
    writes (.mul g d a b) 3 (BitVec.ofInt 64 (x.toInt * y.toInt)) ∧
    writes (.mulh g d a b) 3 (BitVec.ofInt 64 (x.toInt * y.toInt / 2 ^ 64)) ∧
    writes (.mulhu g d a b) 3 (BitVec.ofNat 64 (x.toNat * y.toNat / 2 ^ 64)) ∧
    writes (.div g d a b) 24 (if y = 0 then -1 else BitVec.ofInt 64 (x.toInt.tdiv y.toInt)) ∧
    writes (.divu g d a b) 24 (if y = 0 then -1 else BitVec.ofNat 64 (x.toNat / y.toNat)) ∧
    writes (.rem g d a b) 24 (if y = 0 then x else BitVec.ofInt 64 (x.toInt.tmod y.toInt)) ∧
    writes (.remu g d a b) 24 (if y = 0 then x else BitVec.ofNat 64 (x.toNat % y.toNat)))

/-- R116: the one-source operations of latency 1, by what each bit of the result is.
R113, R114, R117, R118, R121: immediates, field moves and selection, of latency 1. `ANDI`, `ADDI` and `SUBI` extend the sign of
their immediate, `ORI` and `XORI` do not; `EXTR` and `INSR` take position and width from bits 5:0 and 14:8 of their second source,
a width past bit 63 ending there. -/
def Obligations.ScalarOneSourceAndFields : Prop :=
  (∀ (s : State) (g : Guard) (d : Dst) (a : Src) (w : ExtW),
    let x := s.cur.srcA a
    let writes := fun (i : Instr) (v : Word) =>
      Runs s g (s.cur.unsetA a) (StackOk s d v) → exec i s = .next (s.resultWord .a .a 1 d v)
    writes (.mov g d a) x ∧
    writes (.sext g d a w) (match w with
      | .byte => (x.setWidth 8).signExtend 64
      | .half => (x.setWidth 16).signExtend 64
      | .word => (x.setWidth 32).signExtend 64) ∧
    writes (.zext g d a w) (match w with
      | .byte => (x.setWidth 8).setWidth 64
      | .half => (x.setWidth 16).setWidth 64
      | .word => (x.setWidth 32).setWidth 64) ∧
    (∃ v, (∀ i, i < 64 → v.getLsbD i = x.getLsbD (63 - i)) ∧ writes (.brev g d a) v) ∧
    (∃ v, (∀ i, i < 8 → v.extractLsb' (8 * i) 8 = x.extractLsb' (8 * (7 - i)) 8) ∧ writes (.bswap g d a) v) ∧
    (∃ n, n ≤ 64 ∧ (∀ i, i < n → x.getLsbD (63 - i) = false) ∧ (n < 64 → x.getLsbD (63 - n) = true) ∧
      writes (.clz g d a) (BitVec.ofNat 64 n)) ∧
    (∃ n, n ≤ 64 ∧ (∀ i, i < n → x.getLsbD i = false) ∧ (n < 64 → x.getLsbD n = true) ∧
      writes (.ctz g d a) (BitVec.ofNat 64 n)) ∧
    writes (.popc g d a) (BitVec.ofNat 64 ((List.range 64).filter x.getLsbD).length)) ∧
  (∀ (s : State) (g : Guard) (d : Dst) (r : BitVec 5) (a b : Src) (i : BitVec 10) (n : BitVec 6) (h : BitVec 16) (v : Bool)
    (k : BitVec 3),
    let x := s.cur.srcA a
    let y := s.cur.srcA b
    let z := s.cur.srcA (.reg r)
    let pos := y.toNat % 64
    let len := Nat.min (y.toNat / 256 % 128) (64 - pos)
    let writes := fun (i : Instr) (d : Dst) (u : Bool) (v : Word) =>
      Runs s g u (StackOk s d v) → exec i s = .next (s.resultWord .a .a 1 d v)
    let ua := s.cur.unsetA a
    let ub := s.cur.unsetA b
    let ur := s.cur.unsetA (.reg r)
    writes (.addi g d a i) d ua (x + i.signExtend 64) ∧ writes (.subi g d a i) d ua (x - i.signExtend 64) ∧
    writes (.andi g d a i) d ua (x &&& i.signExtend 64) ∧ writes (.ori g d a i) d ua (x ||| i.setWidth 64) ∧
    writes (.xori g d a i) d ua (x ^^^ i.setWidth 64) ∧
    writes (.shli g d a n) d ua (x <<< n.toNat) ∧ writes (.shri g d a n) d ua (x >>> n.toNat) ∧
    writes (.sari g d a n) d ua (x.sshiftRight n.toNat) ∧
    writes (.movi g d h) d false (h.signExtend 64) ∧
    writes (.movh1 g r h) (.reg r) ur (z.extractLsb' 32 32 ++ h ++ z.extractLsb' 0 16) ∧
    writes (.movh2 g r h) (.reg r) ur (z.extractLsb' 48 16 ++ h ++ z.extractLsb' 0 32) ∧
    writes (.movh3 g r h) (.reg r) ur (h ++ z.extractLsb' 0 48) ∧
    writes (.sel g d a b v k) d (s.cur.unsetP k || ua || ub) (if s.cur.pred k.toNat = !v then x else y) ∧
    writes (.extr g d a b) d (ua || ub) (BitVec.ofNat 64 (x.toNat / 2 ^ pos % 2 ^ len)) ∧
    (∃ w, (∀ j, j < 64 → w.getLsbD j = if pos ≤ j ∧ j < pos + len then x.getLsbD (j - pos) else z.getLsbD j) ∧
      writes (.insr g r a b) (.reg r) (ua || ub || ur) w))

/-- R120, R122: compares and predicate logic write a predicate at latency 1. Reading p0 gives true (R15), so `POR` with p0 sets its
destination. -/
def Obligations.PredicateWrites : Prop :=
  ∀ (s : State) (g : Guard) (c : ICond) (q p1 p2 : BitVec 3) (a b : Src) (i : BitVec 10),
    let x := s.cur.srcA a
    let holds := fun (y : Word) => match c with
      | .eq => decide (x = y)
      | .ne => decide (x ≠ y)
      | .lt => decide (x.toInt < y.toInt)
      | .ge => decide (y.toInt ≤ x.toInt)
      | .ltu => decide (x.toNat < y.toNat)
      | .geu => decide (y.toNat ≤ x.toNat)
    let writes := fun (i : Instr) (u : Bool) (v : Bool) =>
      Runs s g u True → exec i s = .next (s.result .a 1 false (.pred q v) 0)
    let v1 := s.cur.pred p1.toNat
    let v2 := s.cur.pred p2.toNat
    writes (.cmp g c q a b) (s.cur.unsetA a || s.cur.unsetA b) (holds (s.cur.srcA b)) ∧
    writes (.cmpi g c q a i) (s.cur.unsetA a) (holds (i.signExtend 64)) ∧
    writes (.pand g q p1 p2) (s.cur.unsetP p1 || s.cur.unsetP p2) (v1 && v2) ∧
    writes (.por g q p1 p2) (s.cur.unsetP p1 || s.cur.unsetP p2) (v1 || v2) ∧
    writes (.por g q 0 p2) (s.cur.unsetP p2) true ∧
    writes (.pnot g q p1) (s.cur.unsetP p1) (!v1)

/-- R125 to R127: a transfer whose target is a bundle index is taken when its bundle retires, one bubble after it (R48); a call
also writes the index of the bundle after its own, at latency 1, and leaves no loop (R42). A target past 4,095 of an operation run
on its own is the class 5 trap `BOUND` with the target as its `XADDR`, and a link in a31 outside the stack `STACK` with the link. That a
call which fails both checks raises `BOUND` (log entry 139) is the model's own.
R128, R129: a loop of a positive count takes the lowest inactive loop register, which its bundle's retirement sets; one of no
count skips its body, one bubble after it. Run on its own, one whose last bundle lies past 4,095 is the class 5 trap `ILLEGAL`, one of
more than 65,535 turns `STACK` with its count, and one of a positive count that finds every loop register active `STACK` with 0. -/
def Obligations.TransfersCallsAndLoops : Prop :=
  (∀ (s : State) (g : Guard) (d : Dst) (a : Src) (i : BitVec 16),
    let here : Word := s.cur.pc.setWidth 64
    let rel : Word := here + i.signExtend 64
    let x := s.cur.srcA a
    let alone := s.issue.mode = .direct ∧ s.cur.guard g = true ∧ s.cur.poisonRd = false
    let goes := fun (t : Word) (leaves : Bool) (s : State) =>
      { s with issue := { s.issue with retire := .jump (t.setWidth 12) leaves, bubbles := 1 } }
    let jumps := fun (i : Instr) (u : Bool) (t : Word) =>
      (Runs s g u (t.toNat ≤ 4095) → exec i s = .next (goes t true s)) ∧
      (alone → 4095 < t.toNat → exec i s = .next (s.issueTrap ⟨4, .a, .bound, t⟩))
    let calls := fun (i : Instr) (u : Bool) (t : Word) =>
      (Runs s g u (t.toNat ≤ 4095 ∧ StackOk s d (here + 1)) → exec i s = .next (goes t false (s.resultWord .a .a 1 d (here + 1)))) ∧
      (alone → 4095 < t.toNat → exec i s = .next (s.issueTrap ⟨4, .a, .bound, t⟩)) ∧
      (alone → t.toNat ≤ 4095 → ¬StackOk s d (here + 1) → exec i s = .next (s.issueTrap ⟨4, .a, .stack, here + 1⟩))
    jumps (.br g i) false rel ∧ jumps (.jmp g a) (s.cur.unsetA a) x ∧ jumps (.ret g a) (s.cur.unsetA a) x ∧
    calls (.call g d i) false rel ∧ calls (.callr g d a) (s.cur.unsetA a) x) ∧
  (∀ (s : State) (g : Guard) (l : BitVec 12) (c : BitVec 10) (a : Src),
    let start := s.cur.pc.toNat + 1
    let last := start + l.toNat
    let alone := s.issue.mode = .direct ∧ s.cur.guard g = true ∧ s.cur.poisonRd = false
    let loops := fun (i : Instr) (u : Bool) (n : Int) =>
      (alone → 4095 < last → exec i s = .next (s.issueTrap ⟨0, .a, .illegal, illegalAddr (s.slotWord .a) 0⟩)) ∧
      (alone → last ≤ 4095 → 65535 < n → exec i s = .next (s.issueTrap ⟨4, .a, .stack, s.cur.srcA a⟩)) ∧
      (alone → last ≤ 4095 → 0 < n → n ≤ 65535 → (∀ k, k < 4 → (s.cur.loopReg k).getLsbD 63 = true) →
        exec i s = .next (s.issueTrap ⟨4, .a, .stack, 0⟩)) ∧
      (Runs s g u (last ≤ 4095) → n ≤ 0 →
        exec i s = .next { s with issue := { s.issue with retire := .skip last, bubbles := 1 } }) ∧
      (∀ k, Runs s g u (last ≤ 4095 ∧ n ≤ 65535) → 0 < n → k < 4 → (s.cur.loopReg k).getLsbD 63 = false →
        (∀ j, j < k → (s.cur.loopReg j).getLsbD 63 = true) →
        exec i s = .next { s with issue := { s.issue with loop := some (BitVec.ofNat 2 k, lcMake true last start 0 n.toNat) } })
    loops (.loopi g l c) false c.toNat ∧ loops (.loop g l a) (s.cur.unsetA a) (s.cur.srcA a).toInt)

/-- R133 to R135: `MTCR` writes a control register at latency 3 and `MFCR` reads one at latency 2, where the level suffices and a
`TSHAPE` is within the share; below the level the operation, run on its own, is the class 5 trap `PRIV` with the register's
number. -/
def Obligations.ControlRegisterMoves : Prop :=
  ∀ (s : State) (g : Guard) (d : Dst) (a : Src) (r : CReg),
    let within := ∀ n, r = .tshape n → n.toNat < s.here.tregShare
    let traps := fun (i : Instr) (u : Bool) (lowest : Nat) =>
      s.issue.mode = .direct → s.cur.guard g = true → (s.cur.poisonRd = true → s.cur.unsetP g.p = false ∧ u = false) → within →
        s.cur.level < lowest → exec i s = .next (s.issueTrap ⟨2, .a, .priv, r.number.setWidth 64⟩)
    (Runs s g (s.cur.unsetA a) (within ∧ cregWriteLevel r ≤ s.cur.level) →
      exec (.mtcr g a r) s = .next (s.result .a 3 false (.creg r (s.cur.srcA a)) 0)) ∧
    (Runs s g false (within ∧ cregReadLevel r ≤ s.cur.level) →
      exec (.mfcr g d r) s = .next (s.resultWord .a .a 2 d (readCReg s.focus s.here s.slot r))) ∧
    traps (.mtcr g a r) (s.cur.unsetA a) (cregWriteLevel r) ∧ traps (.mfcr g d r) false (cregReadLevel r)

/-- R90, R137, R139 to R141: `NOP` does nothing; `TRAP` asks for its trap at its bundle's retirement; `IFENCE` holds issue for 4 wall
cycles and until the accepted writes of instruction memory have completed; `DCHK` of equal values changes nothing, and of others,
run on its own, is the class 5 trap `DUPCHK` with their difference; `XMOV` moves 64 bits between files at latency 2. -/
def Obligations.SystemOperations : Prop :=
  ∀ (s : State) (g : Guard) (k : BitVec 4) (a b : Src) (d : BitVec 5) (df sf : RFile),
    let diff := s.cur.srcA a ^^^ s.cur.srcA b
    let word := match sf with
      | .a => s.cur.srcA a
      | .m => s.cur.srcM a
      | .e => s.cur.srcE a
      | .v => (s.cur.srcV a).extractLsb' (64 * k.toNat) 64
    let part := fun (w : Word) => (w.setWidth 1024 : VReg) <<< (64 * k.toNat)
    exec .nop s = .next s ∧
    (Runs s g false True → exec (.trap g k) s = .next { s with issue := { s.issue with trap := some k } }) ∧
    (Runs s g false True →
      exec (.ifence g) s = .next (s.modCur (fun c => { c with fencing := true, holdUntil := s.here.wall + 4 }))) ∧
    (Runs s g (s.cur.unsetA a || s.cur.unsetA b) (diff = 0) → s.cur.srcA a = s.cur.srcA b → exec (.dchk g a b) s = .next s) ∧
    (s.issue.mode = .direct → s.cur.guard g = true → s.cur.poisonRd = false → diff ≠ 0 →
      exec (.dchk g a b) s = .next (s.issueTrap ⟨4, .a, .dupchk, diff⟩)) ∧
    (Runs s g (xmovUnset s.cur a sf) True →
      exec (.xmov g d a k df sf) s = .next (s.result .a 2 true (match df with
        | .v => .vec d false (part word) (part (-1))
        | f => .word f d false word) 0))

/-- R138, R186, R196: `TRET` of a supervisor restores the frame of its context and takes back the interrupted level: loop registers and the
latches with their valid bits from the frame, `PLVL` into `LVL`, the live-frame bit clear, the pc from `XPC`. Each of its first 20
records is to complete as the frame holds it, or to be issued again, and the restore takes 8 + n + 4·p wall cycles; the handler's own
results push no latch entry. With a deferred trap in the frame it takes that trap instead: cause, bundle, address and progress come from
the deferred record, the return bundle and the live frame stay, and the handler is that of the interrupted level; the next item of the
further list, if there is one, becomes the deferred record. At level 0 it is the class 5 trap `PRIV`. That the handler's latches are
emptied and its loop registers stay at a deferred trap (log entry 106) is the model's own. -/
def Obligations.TrapReturn : Prop :=
  ∀ (s : State) (g : Guard),
    let r := s.me
    let h := s.frameWord r 0
    let words := fun (off bit : Nat) =>
      (List.range 4).map (fun k => if h.getLsbD (bit + k) then some (s.frameWord r (off + 8 * k)) else none)
    let group := (Cause.ofCode (wfld (s.frameWord r 0x20) 56 8)).code / 16
    (Runs s g false (s.cur.level ≠ 0) → r.slot < 8 → h.getLsbD 52 = false →
      ∃ t, exec (.tret g) s = .next t ∧ t.issue.tret = true ∧
        (t.ctx r).pc = (s.cur.xpc.extractLsb' 0 12) ∧ (t.ctx r).level = wfld s.cur.xstat 4 2 ∧ (t.ctx r).tf = false ∧
        (t.ctx r).lc = #v[s.frameWord r 0x40, s.frameWord r 0x48, s.frameWord r 0x50, s.frameWord r 0x58] ∧
        (t.ctx r).qa.toList = words 0x60 16 ∧ (t.ctx r).qm.toList = words 0x80 24 ∧ (t.ctx r).qe.toList = words 0xA0 28 ∧
        (t.ctx r).qv.toList = (List.range 4).map (fun k => if h.getLsbD (20 + k) then
          some (bytesVec (s.readBytes .sram s.focus (extBase r.slot + 128 * k) 128)) else none) ∧
        (∀ i, i < wfld h 40 8 → i < 20 →
          let w := s.frameWord r (0xC0 + 16 * i)
          ∃ x ∈ (if [3, 5, 6].contains (wfld w 60 4) then (t.ctx r).reissue else (t.ctx r).capture), x.seq = i ∧
            x.kind.toNat = wfld w 60 4 ∧ x.file.toNat = wfld w 58 2 ∧ x.reg.toNat = wfld w 53 5 ∧ x.sup = w.getLsbD 52 ∧
            x.due = wfld w 42 10 ∧ x.aux.toNat = wfld w 32 8 ∧ x.value = s.frameWord r (0xC8 + 16 * i)) ∧
        (t.ctx r).returning = some (s.here.core, s.here.wall + 8 + wfld h 40 8 + 4 * wfld h 32 8) ∧
        (∀ x ∈ (t.ctx r).results, x.pushes = false) ∧
        (t.ctx r).a = s.cur.a ∧ (t.ctx r).m = s.cur.m ∧ (t.ctx r).e = s.cur.e ∧ (t.ctx r).v = s.cur.v ∧ t.mem = s.mem) ∧
    (Runs s g false (s.cur.level ≠ 0) → r.slot < 8 → h.getLsbD 52 = true → ∃ t, exec (.tret g) s = .next t ∧ t.issue.tret = true ∧
      let d := s.frameWord r 0x20
      let down := wfld s.cur.xstat 4 2 = 0 ∧ group ≠ 6 ∧ group ≠ 7 ∧ group ≠ 8 ∧ s.cur.xvec.getLsbD (48 + group) = true
      (t.ctx r).xcause = BitVec.ofNat 64 (wfld d 48 2 * 2 ^ 12 + wfld d 53 3 * 2 ^ 8 + wfld d 56 8) ∧
      (t.ctx r).xpc = setFld s.cur.xpc 16 12 (wfld d 0 12) ∧ (t.ctx r).xaddr = s.frameWord r 0x28 ∧
      (t.ctx r).xprog = s.frameWord r 0x30 ∧ (t.ctx r).xstat = setFld s.cur.xstat 0 2 (if down then 1 else 2) ∧
      (t.ctx r).pc = BitVec.ofNat 12 (wfld s.cur.xvec (if down then 16 else 0) 12) ∧
      (Memory.wf s.mem = true → (t.frameWord r 0).getLsbD 52 = decide (0 < wfld h 8 8)) ∧
      (Memory.wf s.mem = true → 0 < wfld h 8 8 → wfld (t.frameWord r 0) 8 8 = wfld h 8 8 - 1 ∧ t.frameWord r 0x30 = 0 ∧
        t.frameWord r 0x20 = s.readWord .sram s.focus (extBase r.slot + 0xE00) ∧
        t.frameWord r 0x28 = s.readWord .sram s.focus (extBase r.slot + 0xE08)) ∧
      (∀ x ∈ (t.ctx r).results, x.pushes = false) ∧ (t.ctx r).qa = Vector.replicate 4 none ∧ (t.ctx r).lc = s.cur.lc ∧
      (t.ctx r).a = s.cur.a ∧ (t.ctx r).m = s.cur.m ∧ (t.ctx r).e = s.cur.e ∧ (t.ctx r).v = s.cur.v) ∧
    (s.issue.mode = .direct → s.cur.guard g = true → s.cur.poisonRd = false → s.cur.level = 0 →
      exec (.tret g) s = .next (s.issueTrap ⟨2, .a, .priv, 0⟩))

/-! ## The V slot -/

/-- R149: integer lane arithmetic, from the exact sum, difference and product of the lanes. A saturating form delivers the nearest
end of its range with SA where the exact result lies beyond it, and wraps nowhere else.
R149: bitwise operations on 8-bit lanes, shifts by an immediate, and the one-source integer lanes. -/
def Obligations.VectorIntegerLanes : Prop :=
  (∀ (s : State) (g : Guard) (d : Dst) (a b : Src) (w : LaneW) (m : SatMode),
    let lw := w.bits
    let sg := fun (x : Nat) => (BitVec.ofNat lw x).toInt
    let deliver := fun (e eu : Int) => match m with
      | .wrap => ((e % 2 ^ lw).toNat, (0 : BitVec 7))
      | .sat =>
        if e < -(2 ^ (lw - 1)) then (2 ^ (lw - 1), flagSA)
        else if 2 ^ (lw - 1) ≤ e then (2 ^ (lw - 1) - 1, flagSA) else ((e % 2 ^ lw).toNat, 0)
      | .usat => if eu < 0 then (0, flagSA) else if 2 ^ lw ≤ eu then (2 ^ lw - 1, flagSA) else (eu.toNat, 0)
    let does := fun (i : Instr) (lat : Nat) (f : Nat → Nat → Nat × BitVec 7) =>
      VRuns2 s g a b lw 0 → exec i s = .next (lanewise2 s d a b lat lw (fun _ => f) 0)
    does (.vadd g d a b w m) 2 (fun x y => deliver (sg x + sg y) ((x : Int) + y)) ∧
    does (.vsub g d a b w m) 2 (fun x y => deliver (sg x - sg y) ((x : Int) - y)) ∧
    does (.vmul g d a b w) 4 (fun x y => (x * y, 0)) ∧
    does (.vmulh g d a b w) 4 (fun x y => ((sg x * sg y / 2 ^ lw % 2 ^ lw).toNat, 0)) ∧
    does (.vmulhU g d a b w) 4 (fun x y => (x * y / 2 ^ lw, 0)) ∧
    does (.vshl g d a b w) 2 (fun x y => (x * 2 ^ (y % lw), 0)) ∧
    does (.vshr g d a b w) 2 (fun x y => (x / 2 ^ (y % lw), 0)) ∧
    does (.vsar g d a b w) 2 (fun x y => ((sg x / 2 ^ (y % lw) % 2 ^ lw).toNat, 0)) ∧
    does (.vmin g d a b w) 2 (fun x y => (if sg x < sg y then x else y, 0)) ∧
    does (.vmax g d a b w) 2 (fun x y => (if sg x < sg y then y else x, 0)) ∧
    does (.vminU g d a b w) 2 (fun x y => (if x ≤ y then x else y, 0)) ∧
    does (.vmaxU g d a b w) 2 (fun x y => (if x ≤ y then y else x, 0))) ∧
  (∀ (s : State) (g : Guard) (d : Dst) (a b : Src) (w : LaneW) (c : BitVec 6),
    let lw := w.bits
    let sg := fun (x : Nat) => (BitVec.ofNat lw x).toInt
    let does2 := fun (i : Instr) (f : Nat → Nat → Nat) =>
      VRuns2 s g a b 8 0 → exec i s = .next (lanewise2 s d a b 2 8 (fun _ x y => (f x y, 0)) 0)
    let does1 := fun (i : Instr) (f : Nat → Nat) =>
      VRuns1 s g a lw 0 → exec i s = .next (lanewise1 s d a 2 lw (fun i x => (f (lane lw x i), 0)) 0)
    does2 (.vand g d a b) (fun x y => x &&& y) ∧ does2 (.vor g d a b) (fun x y => x ||| y) ∧
    does2 (.vxor g d a b) (fun x y => x ^^^ y) ∧
    does1 (.vshlImm g d a w c) (fun x => x <<< (c.toNat % lw)) ∧ does1 (.vshrImm g d a w c) (fun x => x >>> (c.toNat % lw)) ∧
    does1 (.vsarImm g d a w c) (fun x => ((sg x / 2 ^ (c.toNat % lw)) % 2 ^ lw).toNat) ∧
    does1 (.vabs g d a w) (fun x => ((sg x).natAbs % 2 ^ lw : Nat)) ∧ does1 (.vneg g d a w) (fun x => (-(sg x) % 2 ^ lw).toNat))

/-- R150, R151, R163: compares write one result per lane over the lane's bytes of a mask, none for an inactive lane; `VSEL` takes
bytes of its first source where the named mask is set and of its second elsewhere; `VCMP`, `VFCMP` and `VSEL` have latency 2, one
more where a source is expanded (R29). -/
def Obligations.VectorComparesAndSelect : Prop :=
  ∀ (s : State) (g : Guard) (d : Dst) (q k : BitVec 3) (a b : Src) (w : LaneW) (c : ICond) (fc : FCond) (t : FloatT),
    let compares := fun (i : Instr) (lw nan : Nat) (f : Nat → Nat → Bool) =>
      let x := s.vread 1 a lw nan (s.active lw)
      let y := s.vread 2 b lw nan (s.active lw)
      let m := maskOf lw ((List.range (1024 / lw)).map (fun i =>
        if s.active lw i then some (f (lane lw x.1 i) (lane lw y.1 i)) else none)) (!s.xvMz)
      VRuns2 s g a b lw nan → exec i s = .next (s.result .v (if s.issue.cbp = 0 then 2 else 3) false (.mask q m.1 m.2)
        (if x.2.1 || y.2.1 then flagCV else 0))
    let sg := fun (x : Nat) => (BitVec.ofNat w.bits x).toInt
    let v := fun (x : Nat) => (floatSpec t).decode x
    compares (.vcmp g c q a b w) w.bits 0 (fun x y => match c with
      | .eq => decide (x = y)
      | .ne => decide (x ≠ y)
      | .lt => decide (sg x < sg y)
      | .ge => decide (sg y ≤ sg x)
      | .ltu => decide (x < y)
      | .geu => decide (y ≤ x)) ∧
    compares (.vfcmp g fc q a b t) (floatBits t) (laneNaN t) (fun x y => match fc with
      | .eq => (v x).eq (v y)
      | .ne => (v x).unordered (v y) || !(v x).eq (v y)
      | .lt => (v x).lt (v y)
      | .le => (v x).lt (v y) || (v x).eq (v y)
      | .gt => (v y).lt (v x)
      | .ge => (v y).lt (v x) || (v x).eq (v y)
      | .un => (v x).unordered (v y)) ∧
    (let x := s.vread 1 a 8 0 (s.active 8)
     let y := s.vread 2 b 8 0 (s.active 8)
     VRuns s g (s.cur.unsetK k || s.cur.unsetV a || s.cur.unsetV b) (x.2.2.or y.2.2) True →
      exec (.vsel g d a b k) s = .next (s.vresult 2 d 8 (overLanes 128 (s.active 8) (fun i =>
        (if (s.cur.mask k.toNat).getLsbD i then lane 8 x.1 i else lane 8 y.1 i, 0))) (x.2.1 || y.2.1)))

/-- R152 to R154: splats, permutations, rotations, slides, compression and expansion of lanes, with their latencies 2, 3 and 4. An
index of `VPERM` counts modulo the lane count, a slide brings in zeros, `VCOMPRESS` packs the active lanes from lane 0 and
`VEXPAND` spreads lanes from lane 0 over the active ones. -/
def Obligations.VectorLaneMovement : Prop :=
  ∀ (s : State) (g : Guard) (d : Dst) (a b : Src) (w : LaneW) (i : BitVec 10) (l c : BitVec 8) (n : BitVec 7),
    let lw := w.bits
    let lanes := 1024 / lw
    let acts := (List.range lanes).filter (s.active lw)
    let moves := fun (i : Instr) (lat : Nat) (f : Nat → VReg → Nat) =>
      VRuns1 s g a lw 0 → exec i s = .next (lanewise1 s d a lat lw (fun i x => (f i x, 0)) 0)
    (VRuns s g false none True → exec (.vsplatImm g d w i) s =
      .next (s.vresult 2 d lw (overLanes lanes (s.active lw) (fun _ => ((i.toInt % 2 ^ lw).toNat, 0))) false)) ∧
    moves (.vsplatLane g d a l w) 2 (fun _ x => lane lw x l.toNat) ∧
    moves (.vrot g d a w c) 3 (fun i x => lane lw x ((i + c.toNat) % lanes)) ∧
    moves (.vslide g d a w true n) 3 (fun i x => if n.toNat ≤ i then lane lw x (i - n.toNat) else 0) ∧
    moves (.vslide g d a w false n) 3 (fun i x => if i + n.toNat < lanes then lane lw x (i + n.toNat) else 0) ∧
    (VRuns2 s g a b lw 0 → exec (.vperm g d a b w) s =
      .next (let x := s.vread 1 a lw 0 (s.active lw)
        let y := s.vread 2 b lw 0 (s.active lw)
        s.vresult 3 d lw (overLanes lanes (s.active lw) (fun i => (lane lw x.1 (lane lw y.1 i % lanes), 0))) (x.2.1 || y.2.1))) ∧
    (VRuns1 s g a lw 0 → exec (.vcompress g d a w) s =
      .next (let x := s.vread 1 a lw 0 (s.active lw)
        s.vresult 4 d lw (acts.map (fun i => some (lane lw x.1 i)) ++ List.replicate (lanes - acts.length) none, 0) x.2.1)) ∧
    (let x := s.vread 1 a lw 0 (fun i => decide (i < acts.length))
     VRuns s g (s.cur.unsetV a) x.2.2 True → exec (.vexpand g d a w) s =
      .next (s.vresult 4 d lw (overLanes lanes (s.active lw) (fun i =>
        (lane lw x.1 ((List.range i).filter (s.active lw)).length, 0))) x.2.1))

/-- R155, R157: integer reductions give the sum, the maximum or the minimum of the active lanes as one 64-bit value, the identity
where no lane is active, with latency 6; `VSCAN` gives each lane the sum of the active lanes up to it, with latency 10.
R82, R83, R156, R157: a float reduction combines the lanes in the tree of R82, whose inactive leaves are passed over, and gives
its value in lane 0 with zeros beside it, a NaN as the canonical one; `VSCAN` folds the active lanes from lane 0 upward. Both have
latency 10. -/
def Obligations.VectorReductions : Prop :=
  (∀ (s : State) (g : Guard) (d : Dst) (a : Src) (w : LaneW),
    let lw := w.bits
    let x := s.vread 1 a lw 0 (s.active lw)
    let acts := ((List.range (1024 / lw)).filter (s.active lw)).map (fun i => (BitVec.ofNat lw (lane lw x.1 i)).toInt)
    let reduces := fun (i : Instr) (v : Int) =>
      VRuns1 s g a lw 0 → exec i s = .next (s.vresult 6 d 1024 ([some (v % 2 ^ 64).toNat], 0) x.2.1)
    reduces (.vredsum g d a w) acts.sum ∧
    reduces (.vredmax g d a w) (acts.foldl max (-(2 ^ (lw - 1)))) ∧
    reduces (.vredmin g d a w) (acts.foldl min (2 ^ (lw - 1) - 1)) ∧
    (VRuns1 s g a lw 0 → exec (.vscanI g d a w) s = .next (s.vresult 10 d lw ((List.range (1024 / lw)).map (fun i =>
      some ((((List.range (i + 1)).filter (s.active lw)).map (fun j => lane lw x.1 j)).sum % 2 ^ lw)), 0) x.2.1))) ∧
  (∀ (s : State) (g : Guard) (d : Dst) (a : Src) (t : FloatT),
    let lw := floatBits t
    let f := floatSpec t
    let x := s.vread 1 a lw (laneNaN t) (s.active lw)
    let leaves := (List.range (1024 / lw)).map (fun i => if s.active lw i then some (lane lw x.1 i) else none)
    let pop := s.xvRm == 4
    let reduces := fun (i : Instr) (pops : Bool) (comb : Rounding → Nat → Nat → Nat × BitVec 7) (z : Nat) =>
      let r := treeReduce (fun k u v => comb (s.rounding k) u v) (if t = .fp64 then 4 else if t = .fp32 then 5 else 6) 0 leaves
      let v := match r.1 with
        | none => z
        | some c => if (f.decode c).isNaN then laneNaN t else c
      VRuns1 s g a lw (laneNaN t) → exec i s = .next ((s.vresult 10 d 1024 ([some v], r.2) x.2.1).popIf (pops && pop))
    reduces (.vredsumF g d a t) true (fun rd u v => f.finish rd ((f.decode u).add rd (f.decode v))) 0 ∧
    reduces (.vredmaxF g d a t) true (fun _ => fMax f) (f.withSign true ((f.infMag).getD 0)) ∧
    reduces (.vredminF g d a t) true (fun _ => fMin f) ((f.infMag).getD 0) ∧
    (VRuns1 s g a lw (laneNaN t) → exec (.vscanF g d a t) s =
      .next (let xs := scanLanes (s.active lw) (fun p i => match p with
            | none => (if (f.decode (lane lw x.1 i)).isNaN then laneNaN t else lane lw x.1 i, 0)
            | some q => fAdd f (s.rounding i) q (lane lw x.1 i)) (List.range (1024 / lw)) none
        (s.vresult 10 d lw (xs.map (fun r => some r.1), xs.foldl (fun acc r => acc ||| r.2) 0) x.2.1).popIf pop)))

/-- R158 to R162: float lane operations read decoded values, compute them exactly and round once by the bundle's mode; the fused
forms read the destination as addend; maxima, minima, sign and class operations round nothing. Latency 4 for those that add or
multiply, 2 for the others; a stochastic rounding pops one word (R75). `VFSCALE` reads integer lanes as its second source. -/
def Obligations.VectorFloatLanes : Prop :=
  ∀ (s : State) (g : Guard) (d : Dst) (r : BitVec 5) (a b : Src) (t : FloatT),
    let lw := floatBits t
    let f := floatSpec t
    let nan := laneNaN t
    let pop := s.xvRm == 4
    let does2 := fun (i : Instr) (lat : Nat) (pops : Bool) (op : Rounding → Nat → Nat → Nat × BitVec 7) =>
      VRuns2 s g a b lw nan →
        exec i s = .next ((lanewise2 s d a b lat lw (fun i => op (s.rounding i)) nan).popIf (pops && pop))
    let does1 := fun (i : Instr) (op : Nat → Nat × BitVec 7) =>
      VRuns1 s g a lw nan → exec i s = .next (lanewise1 s d a 2 lw (fun i x => op (lane lw x i)) nan)
    let fuses := fun (i : Instr) (negP negZ : Bool) =>
      VRuns s g (s.cur.unsetV a || s.cur.unsetV b || s.cur.unsetV (.reg r))
          ((s.vread 1 a lw nan (s.active lw)).2.2.or (s.vread 2 b lw nan (s.active lw)).2.2) True →
        exec i s = .next ((lanewise2 s (.reg r) a b 4 lw (fun i x y =>
          fFused f (s.rounding i) negP negZ x y (lane lw (s.cur.srcV (.reg r)) i)) nan).popIf pop)
    does2 (.vfadd g d a b t) 4 true (fun rd x y => f.finish rd ((f.decode x).add rd (f.decode y))) ∧
    does2 (.vfsub g d a b t) 4 true (fun rd x y => f.finish rd ((f.decode x).add rd (f.decode y).neg)) ∧
    does2 (.vfmul g d a b t) 4 true (fun rd x y => f.finish rd ((f.decode x).mul (f.decode y))) ∧
    fuses (.vfma g r a b t) false false ∧ fuses (.vfms g r a b t) false true ∧ fuses (.vfnma g r a b t) true false ∧
    does2 (.vfmax g d a b t) 2 false (fun _ => fMax f) ∧ does2 (.vfmin g d a b t) 2 false (fun _ => fMin f) ∧
    (let x := s.vread 1 a lw nan (s.active lw)
     let y := s.vread 2 b lw 0 (s.active lw)
     VRuns s g (s.cur.unsetV a || s.cur.unsetV b) (x.2.2.or y.2.2) True → exec (.vfscale g d a b t) s =
      .next ((s.vresult 2 d lw (overLanes (1024 / lw) (s.active lw) (fun i =>
        fScale f lw (s.rounding i) (lane lw x.1 i) (lane lw y.1 i))) (x.2.1 || y.2.1)).popIf pop)) ∧
    does1 (.vfabs g d a t) (fAbs f) ∧ does1 (.vfneg g d a t) (fNeg f) ∧ does1 (.vfclass g d a t) (fun x => (fClass f x, 0))

/-- R164 to R167: the function units give the correctly rounded reciprocal, reciprocal root, power of two and logarithm of each
lane at latency 8, by the special values of R165; `VROPE` turns each active pair of lanes by the angle its second source names. A
position of `VROPE` past 16,777,215 is the trap `FOLD_POS` with the pair and the position. How the exact values are computed is the
model's reading (log entry 12), and so is VROPE of NaN and infinite lanes (log entry 23). -/
def Obligations.VectorFunctionUnits : Prop :=
  ∀ (s : State) (g : Guard) (d : Dst) (a b : Src) (t : FloatT),
    let lw := floatBits t
    let f := floatSpec t
    let does := fun (i : Instr) (op : Nat → Nat × BitVec 7) =>
      VRuns1 s g a lw (laneNaN t) → exec i s = .next (lanewise1 s d a 8 lw (fun i x => op (lane lw x i)) (laneNaN t))
    let act := fun (i : Nat) => s.active 32 (2 * (i / 2))
    let x := s.vread 1 a 32 (laneNaN .fp32) act
    let y := s.vread 2 b 32 0 act
    let reachable := ∀ j, j < 16 → s.active 32 (2 * j) = true → lane 32 y.1 (2 * j) < 2 ^ 24
    does (.vfrcp g d a t) (fRcp f) ∧ does (.vfrsq g d a t) (fRsq f) ∧ does (.vfexp2 g d a t) (fExp2 f) ∧
    does (.vflog2 g d a t) (fLog2 f) ∧
    (VRuns s g (s.cur.unsetV a || s.cur.unsetV b) (x.2.2.or y.2.2) reachable → exec (.vrope g d a b) s =
      .next ((s.vresult 8 d 32 (overLanes 32 act (ropeResult s x.1 y.1)) (x.2.1 || y.2.1)).popIf (s.xvRm == 4))) ∧
    (∀ j, s.issue.mode = .direct → s.cur.guard g = true → s.cur.poisonRd = false → x.2.2.or y.2.2 = none →
      j < 16 → s.active 32 (2 * j) = true → 2 ^ 24 ≤ lane 32 y.1 (2 * j) →
      (∀ i, i < j → s.active 32 (2 * i) = true → lane 32 y.1 (2 * i) < 2 ^ 24) →
      exec (.vrope g d a b) s =
        .next (s.issueTrap ⟨4, .v, .foldPos, BitVec.ofNat 64 (j * 2 ^ 32 + lane 32 y.1 (2 * j))⟩))

/-- R168 to R172: a conversion between formats that are valid at its issue converts each active lane at latency 4; a block
quantisation writes codes and scales, and its inverse decodes them, reading only the codes and scales of its blocks, at latency 6. A format that is invalid then is the trap
`ILLEGAL` with the word and its slot. The scale of a format whose largest finite value is 0 (log entry 112), the flags of conversions
and quantisations to integers (log entries 136, 24) and the code of minus infinity in an unsigned block format (log entry 138) are the
model's own. -/
def Obligations.VectorConversions : Prop :=
  ∀ (s : State) (g : Guard) (d : Dst) (a : Src) (o m : BitVec 5) (dst src : ElemFmt),
    let all := fun (_ : Nat) => true
    let w := max dst.bits src.bits
    let act := fun (j : Nat) => (s.cur.mask s.xvMask.toNat).getLsbD (j * w / 8)
    let pop := s.xvRm == 4
    let xc := s.vread 1 a src.bits src.nan act
    let xb := s.vread 1 a src.bits src.nan all
    let q := quantVec dst src s.rounding xb.1
    let bad := fun (i : Instr) => s.issue.mode = .direct → s.cur.guard g = true → s.cur.poisonRd = false →
      exec i s = .next (s.issueTrap ⟨0, .v, .illegal, illegalAddr (s.slotWord .v) 1⟩)
    (s.fmtOf o = some dst → s.fmtOf m = some src → VRuns s g (s.cur.unsetV a) xc.2.2 True → exec (.vcvt g d a o m) s =
      .next ((s.vresult 4 d dst.bits (overLanes (1024 / w) act (fun j =>
        convertElem dst src (s.rounding j) (lane src.bits xc.1 j))) xc.2.1).popIf pop)) ∧
    (s.blockFmt o = some dst → s.fmtOf m = some src → VRuns s g (s.cur.unsetV a) xb.2.2 True → exec (.vqblk g d a o m) s =
      .next ((s.vresult 6 d 1024 ([some (packLanes (if dst.bits = 4 then 4 else 8) q.1 % 2 ^ 960 + 2 ^ 960 * packLanes 8 q.2.1)],
        q.2.2) xb.2.1).popIf pop)) ∧
    (∀ t tb, dst = .flt t tb → s.blockFmt m = some src → s.fmtOf o = some dst → 
      let xd := s.vread 1 a src.bits src.nan (dqblkReads src.bits (1024 / tb))
      VRuns s g (s.cur.unsetV a) xd.2.2 True →
      exec (.vdqblk g d a o m) s = .next ((s.vresult 6 d tb (overLanes (1024 / tb) all (fun i =>
        dequantElem t src (s.rounding i) (lane 8 xd.1 (120 + i / 32)) (lane src.bits xd.1 i))) xd.2.1).popIf pop)) ∧
    (s.fmtOf o = none ∨ s.fmtOf m = none → bad (.vcvt g d a o m)) ∧
    (s.blockFmt o = none ∨ s.fmtOf m = none → bad (.vqblk g d a o m)) ∧
    (s.blockFmt m = none ∨ s.fmtOf o = none → bad (.vdqblk g d a o m)) ∧
    (s.fmtOf o = some dst → (∀ t tb, dst ≠ .flt t tb) → bad (.vdqblk g d a o m))

/-- R174, R175, R177: `VCBX` expands a register through a bank at latency 3, `VCBQ` gives each lane the index of the nearest valid
entry of a bank at latency 6, `VPACK` and `VUNPACK` narrow bytes to fields of a width and widen them at latency 3. That a NaN
matched to a NaN entry sets no flag (log entry 113), and that index bits past the register's last read as zero (log entry 137), are the
model's own.
R178 to R180: `VRAND` writes 64 lanes of the generator's next word, which it pops, at latency 2; the mask operations write a whole
mask at latency 1, k0 reading as all ones (R15); `VDCHK` of equal vectors changes nothing, and of others is the trap `DUPCHK` with
the lowest 64-bit part in which they differ. -/
def Obligations.VectorCodebooksMasksAndChecks : Prop :=
  (∀ (s : State) (g : Guard) (d : Dst) (a : Src) (w : LaneW) (k : BitVec 2) (t : FloatT) (c : BitVec 4),
    let lw := floatBits t
    let ctl := (s.here.cbctl[k.toNat]?).getD 0
    let cands := s.cbCands t k
    let e := cbExpand ctl k.toNat w.bits 0 (s.here.banks s.slot) (s.cur.srcV a) (s.active w.bits)
    let x := s.vread 1 a 8 0 (s.active 8)
    (VRuns s g (s.cur.unsetV a) e.2.2 True → exec (.vcbx g d a w k) s =
      .next (s.vresult 3 d w.bits (overLanes w.lanes (s.active w.bits) (fun i => (lane w.bits e.1 i, 0))) e.2.1)) ∧
    (∀ width, cbWidth ctl = some width → cbPol ctl ≠ 3 → cbElems ctl = 1 → (∃ c ∈ cands, c.2.isNaN = false) →
      VRuns s g (s.cur.unsetV a) none True → exec (.vcbq g d a t k) s =
        .next (s.vresult 6 d width (overLanes (1024 / lw) (s.active lw) (fun i =>
          cbqLane cands ((floatSpec t).decode (lane lw (s.cur.srcV a) i)))) false)) ∧
    (VRuns1 s g a 8 0 → exec (.vpack g d a c) s =
      .next (s.vresult 3 d c.toNat (overLanes 128 (s.active 8) (fun i => (lane 8 x.1 i, 0))) x.2.1)) ∧
    (VRuns1 s g a 8 0 → exec (.vunpack g d a c) s =
      .next (s.vresult 3 d 8 (overLanes 128 (s.active 8) (fun i => (lane c.toNat x.1 i, 0))) x.2.1))) ∧
  (∀ (s : State) (g : Guard) (d : Dst) (q m1 m2 : BitVec 3) (a b : Src),
    let word := (rngPop s.here.rng).1
    let writes := fun (i : Instr) (u : Bool) (v : MaskReg) =>
      Runs s g u True → exec i s = .next (s.result .v 1 false (.mask q v (-1)) 0)
    let v1 := s.cur.mask m1.toNat
    let v2 := s.cur.mask m2.toNat
    let part := fun (x : VReg) (k : Nat) => x.extractLsb' (64 * k) 64
    (Runs s g false True → exec (.vrand g d) s =
      .next ((s.vresult 2 d 16 ((List.range 64).map (fun i => some (rngBits word i)), 0) false).popIf true)) ∧
    writes (.kand g q m1 m2) (s.cur.unsetK m1 || s.cur.unsetK m2) (v1 &&& v2) ∧
    writes (.kor g q m1 m2) (s.cur.unsetK m1 || s.cur.unsetK m2) (v1 ||| v2) ∧
    writes (.knot g q m1) (s.cur.unsetK m1) (~~~v1) ∧
    writes (.kmov g q m1) (s.cur.unsetK m1) v1 ∧ writes (.kmov g q 0) false (-1) ∧
    (Runs s g (s.cur.unsetV a || s.cur.unsetV b) (s.cur.srcV a = s.cur.srcV b) → s.cur.srcV a = s.cur.srcV b →
      exec (.vdchk g a b) s = .next s) ∧
    (∀ k, s.issue.mode = .direct → s.cur.guard g = true → s.cur.poisonRd = false → k < 16 →
      part (s.cur.srcV a) k ≠ part (s.cur.srcV b) k → (∀ j, j < k → part (s.cur.srcV a) j = part (s.cur.srcV b) j) →
      exec (.vdchk g a b) s = .next (s.issueTrap ⟨4, .v, .dupchk, BitVec.ofNat 64 k⟩)))

/-- R145 to R147: what a V operation adds to its context is one result, due `lat` core cycles after its issue, one more for an
expanded source (R29): each active lane's value in its place, all its bits enabled; an inactive lane's bits enabled with zeros where
the header's MZ is set or the destination suppressed, and not enabled, so kept, elsewhere. -/
def Obligations.VectorResultLanes : Prop :=
  ∀ (s : State) (lat : Nat) (n : BitVec 5) (sup : Bool) (w : LaneW) (xs : List (Option Nat)) (fl : BitVec 7) (cv : Bool),
    let lw := w.bits
    xs.length = 1024 / lw →
    ∃ (v en : VReg), s.vresult lat (if sup then .drop else .reg n) lw (xs, fl) cv =
        s.result .v (if s.issue.cbp = 0 then lat else lat + 1) false (.vec (if sup then 0 else n) sup v en)
          (fl ||| (if cv then flagCV else 0)) ∧
      (∀ i x, xs[i]? = some (some x) → lane lw v i = x % 2 ^ lw ∧ lane lw en i = 2 ^ lw - 1) ∧
      (∀ i, xs[i]? = some none → lane lw v i = 0 ∧ lane lw en i = if s.xvMz || sup then 2 ^ lw - 1 else 0)

/-! ## The M slot -/

/-- R257, R31, R32, R237, R242, R244: WHAT A LOAD DOES AT ITS ISSUE, for each of the ten loads and every address whose checks
pass. The next state has one landing entry more, of the load's kind and destination, named for `L` cycles after the issue and
arriving no earlier than the slowest path of its segments. Its segments outside the spill window are one entry of the load queue,
with one access for each aligned 8 bytes of each segment (one of the access's own size up to 8 bytes), at the place its bytes take
in the value; its segments in the spill window have their bytes in the landing at once. A load of spill bytes alone has its whole
value, arriving in the next wall cycle, and enters no queue. A spill segment with a byte in error leaves no queue entry and a class
3 `UE` with that byte's address against the landing. Nothing else changes. The earliest cycle of a pasture load (log entry 18),
that of a load of the stream-port window (log entry 29) and which loads may be issued again (log entry 34) are the model's own. -/
def Obligations.LoadsTakeALanding : Prop :=
  ∀ (s : State) (g : Guard) (l : BitVec 10) (x : RFile) (d b : BitVec 5),
    let ub := unsetM s b.toNat
    let u2 := ub || unsetM s (s.issue.xm.toNat % 32)
    let unitsOf := fun (p : Word) (size pos : Nat) => (if size ≤ 8 then [(p, size, pos)]
        else (List.range (size / 8)).map (fun i => (p + BitVec.ofNat 64 (8 * i), 8, pos + 8 * i))).map (fun u =>
      (⟨u.1, u.2.1, [], u.2.2, loadIdem s s.me p size, none⟩ : UnitAcc))
    let loads := fun (i : Instr) (u : Bool) (kind : LandKind) (f : RFile) (addr : Word) (segs : List Word) (size align : Nat) =>
      let queued := segs.zipIdx.filter (fun p => winOf p.1 != 1)
      let spilled := segs.zipIdx.filter (fun p => winOf p.1 == 1)
      let units := queued.flatMap (fun p => unitsOf p.1 size (p.2 * size))
      let got := spilled.flatMap (fun p => (s.readBytes .spill s.focus (s.slot * s.here.spillShare + p.1.toNat % 32768) size).zipIdx.map
        (fun y => (p.2 * size + y.2, y.1)))
      let land := landingOf s .m kind l f d addr (size * segs.length)
        (segs.foldl (fun m p => max m (earliestLoad s.me p (size * segs.length) false)) 0) (units.all (fun u => u.idem))
      let takes := fun (y : Landing) => { s with ids := s.ids + 1 }.modCur (fun c => { c with landings := c.landings ++ [y] })
      Runs s g u (AccessOk s segs size align false ∧ LandingFree s) → FreshId s →
      (s.segBad s.me segs size = none → queued ≠ [] →
        exec i s = .next ((takes { land with got := got }).modCur (fun c =>
          { c with queue := c.queue ++ [entryOf s .m s.ids true false (.load units)] }))) ∧
      (s.segBad s.me segs size = none → queued = [] →
        exec i s = .next (takes { land with got := got, value := some (kind.value (gotNat got)), arrive := some (s.here.wall + 1) })) ∧
      (∀ bad, s.segBad s.me segs size = some bad →
        exec i s = .next ((takes { land with faulted := true }).modCur (fun c => { c with late := c.late ++
          [⟨.ue, some s.cur.pc.toNat, .m, bad, 0, s.here.issued * 256 + 2, some s.ids, true, none, false⟩] })))
    let scalar := fun (i : Instr) (size : Nat) (signed : Bool) =>
      loads i ub (.load size signed) x (accessAddr s b size) [accessAddr s b size] size size
    scalar (.ldB g l x d b) 1 true ∧ scalar (.ldH g l x d b) 2 true ∧ scalar (.ldW g l x d b) 4 true ∧
    scalar (.ldD g l x d b) 8 true ∧ scalar (.ldBu g l x d b) 1 false ∧ scalar (.ldHu g l x d b) 2 false ∧
    scalar (.ldWu g l x d b) 4 false ∧
    loads (.ldv g l d b) ub .vector .v (accessAddr s b 128) [accessAddr s b 128] 128 32 ∧
    loads (.ldvs g l d b) u2 .vector .v (s.cur.regM b.toNat) (stridedAddrs s b) 32 32 ∧
    loads (.ldvg g l d b) u2 .vector .v (s.cur.regM b.toNat) (gatheredAddrs s b) 32 32

/-- R234 to R239: an access that its checks refuse, run on its own, is the class 5 trap they name with the refused segment's address,
and changes no memory at its issue; so a misaligned scalar load or store traps with `ALIGN`. -/
def Obligations.AccessFaultsTrap : Prop :=
  ∀ (s : State) (g : Guard) (l : BitVec 10) (x : RFile) (d b : BitVec 5),
    s.issue.mode = .direct → s.cur.guard g = true → s.cur.poisonRd = false →
    let traps := fun (i : Instr) (size : Nat) (wr : Bool) =>
      ∀ f, segFault s s.me s.cur.level [accessAddr s b size] size size wr = some f →
        exec i s = .next (s.issueTrap ⟨4, .m, f.1, f.2⟩)
    let misaligned := fun (i : Instr) (size : Nat) =>
      winOf (accessAddr s b size) ≤ 3 → (accessAddr s b size) &&& winZero (winOf (accessAddr s b size)) = 0 →
        (accessAddr s b size).toNat % size ≠ 0 → exec i s = .next (s.issueTrap ⟨4, .m, .align, accessAddr s b size⟩)
    traps (.ldB g l x d b) 1 false ∧ traps (.ldH g l x d b) 2 false ∧ traps (.ldW g l x d b) 4 false ∧
    traps (.ldD g l x d b) 8 false ∧ traps (.ldBu g l x d b) 1 false ∧ traps (.ldHu g l x d b) 2 false ∧
    traps (.ldWu g l x d b) 4 false ∧ traps (.stB g d b) 1 true ∧ traps (.stH g d b) 2 true ∧ traps (.stW g d b) 4 true ∧
    traps (.stD g d b) 8 true ∧ misaligned (.ldH g l x d b) 2 ∧ misaligned (.ldW g l x d b) 4 ∧ misaligned (.ldD g l x d b) 8 ∧
    misaligned (.ldHu g l x d b) 2 ∧ misaligned (.ldWu g l x d b) 4 ∧ misaligned (.stH g d b) 2 ∧ misaligned (.stW g d b) 4 ∧
    misaligned (.stD g d b) 8

/-- R258, R237, R242, R244, R245: WHAT A STORE DOES AT ITS ISSUE, for each of the seven stores and every address whose checks pass. Its
segments in the spill window are written at once, in ascending order, at their offsets in the context's own share, with the low bytes of
the register first; the others are one entry of the store queue, with one access for each aligned 8 bytes of each segment (one of the
access's own size up to 8 bytes), which holds the bytes of the register that it stores. Nothing else changes, and no memory but the
spill share. The first form is that of spill segments without a poisoned byte; the second holds of every state, with the spill segments
written as `storeSpill` writes them, which keeps a poisoned unit that a segment writes in part. -/
def Obligations.StoresEnterTheQueue : Prop :=
  ∀ (s : State) (g : Guard) (d b : BitVec 5),
    let ub := unsetM s b.toNat
    let u2 := unsetM s (s.issue.xm.toNat % 32)
    let uv := !s.cur.wv.getLsbD d.toNat
    let stores := fun (i : Instr) (u : Bool) (segs : List Word) (size align : Nat) (data : List Byte) =>
      let part := fun (p : Word × Nat) => (data.drop (p.2 * size)).take size
      let unitsOf := fun (p : Word × Nat) => (if size ≤ 8 then [(p.1, size, p.2 * size, part p)]
          else (List.range (size / 8)).map (fun i =>
            (p.1 + BitVec.ofNat 64 (8 * i), 8, p.2 * size + 8 * i, ((part p).drop (8 * i)).take 8))).map (fun u =>
        (⟨u.1, u.2.1, u.2.2.2, u.2.2.1, false, none⟩ : UnitAcc))
      let spilled := segs.zipIdx.filter (fun p => winOf p.1 == 1)
      let queued := segs.zipIdx.filter (fun p => winOf p.1 != 1)
      let writes := fun (w : State → Word × Nat → State) =>
        let t := spilled.foldl w s
        if queued = [] then t
        else { t with ids := s.ids + 1 }.modCur (fun c => { c with queue := c.queue ++
          [entryOf s .m s.ids false true (.store (queued.flatMap unitsOf) size)] })
      Runs s g u (AccessOk s segs size align true) →
      ((s.poison = [] ∧ s.tainted = []) ∨ spilled = [] → exec i s = .next (writes (fun t p =>
        t.writeBytes .spill s.focus (s.slot * s.here.spillShare + p.1.toNat % 32768) (part p)))) ∧
      exec i s = .next (writes (fun t p => t.storeSpill s.me p.1 (part p)))
    let scalar := fun (i : Instr) (size : Nat) =>
      stores i (ub || unsetM s d.toNat) [accessAddr s b size] size size ((wordBytes (s.cur.regM d.toNat)).take size)
    scalar (.stB g d b) 1 ∧ scalar (.stH g d b) 2 ∧ scalar (.stW g d b) 4 ∧ scalar (.stD g d b) 8 ∧
    stores (.stv g d b) (ub || uv) [accessAddr s b 128] 128 32 (vecBytes (s.cur.regV d.toNat)) ∧
    stores (.stvs g d b) (ub || u2 || uv) (stridedAddrs s b) 32 32 (vecBytes (s.cur.regV d.toNat)) ∧
    stores (.stvx g d b) (ub || u2 || uv) (gatheredAddrs s b) 32 32 (vecBytes (s.cur.regV d.toNat))

/-- R259, R195, R237: `LDSP` reads a dword of the context's spill share at latency 2 and `STSP` writes one at once, clearing the
unit's poison; at supervisor level under a live frame the indices from 0x1000 on reach the extension area. An index past both, run on
its own, is the trap `BOUND` with the index. -/
def Obligations.SpillDwords : Prop :=
  ∀ (s : State) (g : Guard) (d : Dst) (a : Src) (i : BitVec 10),
    let n := s.issue.xm.toNat * 1024 + i.toNat
    let share := s.here.spillShare
    let off := s.slot * share + 8 * n
    let ext := extBase s.slot + 8 * (n - 0x1000)
    let extended := 0x1000 ≤ n ∧ n ≤ 0x17FF ∧ s.cur.level ≠ 0 ∧ s.cur.tf = true
    let v := s.cur.srcM a
    (Runs s g false (n < share / 8) → n < share / 8 → s.spillBad s.focus off 8 = none →
      exec (.ldsp g d i) s = .next (s.resultWord .m .m 2 d (s.readWord .spill s.focus off))) ∧
    (Runs s g false (n < share / 8) → n < share / 8 → s.spillBad s.focus off 8 ≠ none →
      exec (.ldsp g d i) s = .next (s.spillUe (BitVec.ofNat 64 (2 ^ 60 + 8 * n)) none)) ∧
    (Runs s g false extended → share / 8 ≤ n → extended →
      exec (.ldsp g d i) s = .next (s.resultWord .m .m 2 d (s.readWord .sram s.focus ext))) ∧
    (Runs s g (s.cur.unsetM a) (n < share / 8) → n < share / 8 →
      exec (.stsp g a i) s = .next { s.writeWord .spill s.focus off v with
        poison := s.poison.filter (fun u => u != memKey .spill s.focus off) }) ∧
    (Runs s g (s.cur.unsetM a) extended → share / 8 ≤ n → extended →
      exec (.stsp g a i) s = .next { s.writeWord .sram s.focus ext v with
        poison := s.poison.filter (fun u => u != memKey .sram s.focus ext) }) ∧
    (s.issue.mode = .direct → s.cur.guard g = true → s.cur.poisonRd = false → share / 8 ≤ n → ¬extended →
      exec (.ldsp g d i) s = .next (s.issueTrap ⟨4, .m, .bound, BitVec.ofNat 64 n⟩) ∧
      exec (.stsp g a i) s = .next (s.issueTrap ⟨4, .m, .bound, BitVec.ofNat 64 n⟩))

/-- R260, R243, R244, R247, R248: an atomic takes a landing entry and enters both queues as one access, a reduction enters the
store queue alone, `MARK` and `FENCE` enter both queues; none changes memory at its issue. The earliest cycle of a pasture atomic
is the model's own (log entry 18). -/
def Obligations.AtomicsAndOrderings : Prop :=
  ∀ (s : State) (g : Guard) (l : BitVec 10) (x : RFile) (d b : BitVec 5) (sc : Scope),
    let m := s.issue.xm.toNat % 32
    let p := s.cur.regM b.toNat
    let low := fun (n size : Nat) => BitVec.ofNat 64 ((s.cur.regM n).toNat % 2 ^ (8 * size))
    let ub := unsetM s b.toNat || unsetM s m
    let fits := fun (size : Nat) =>
      memFault s s.me s.cur.level p size size true (fun w => w == 1 || w == 4 || w == 5) = none
    let queues := fun (t : State) (inLoad : Bool) (op : QOp) =>
      t.modCur (fun c => { c with queue := c.queue ++ [entryOf s .m s.ids inLoad true op] })
    let returns := fun (i : Instr) (u : Bool) (size : Nat) (op : AtomOp) (v : Word) =>
      Runs s g u (fits size ∧ LandingFree s) → exec i s = .next (queues ({ s with ids := s.ids + 1 }.modCur (fun c =>
          { c with landings := c.landings ++ [landingOf s .m (.atom size) l x d p size (earliestLoad s.me p size true) false] }))
        true (.atom true op ⟨p, size, [], 0, false, none⟩ v))
    let reduces := fun (i : Instr) (size : Nat) =>
      Runs s g ub (fits size) → exec i s = .next (queues { s with ids := s.ids + 1 } false
        (.atom false (atomOp s.issue.xm) ⟨p, size, [], 0, false, none⟩ (low m size)))
    returns (.atomW g l x d b) (ub || false) 4 (atomOp s.issue.xm) (low m 4) ∧
    returns (.atomD g l x d b) (ub || false) 8 (atomOp s.issue.xm) (low m 8) ∧
    returns (.atomCasW g l x d b) (ub || unsetM s (m + 1)) 4 (.cas (low m 4)) (low (m + 1) 4) ∧
    returns (.atomCasD g l x d b) (ub || unsetM s (m + 1)) 8 (.cas (low m 8)) (low (m + 1) 8) ∧
    reduces (.redW g b) 4 ∧ reduces (.redD g b) 8 ∧
    (Runs s g false True → exec (.mark g) s = .next (queues { s with ids := s.ids + 1 } true .mark)) ∧
    (Runs s g false True → exec (.fence g sc) s = .next (queues { s with ids := s.ids + 1 } true (.fence sc)))

/-! ## Streams and the fold -/

/-- R211, R261, R262, R263, R422: `SHDR` and `SRD` of a current packet take a landing entry that holds the bytes read at issue; `SWAIT`
ends the task's current packet and its block, `SDONE` ends the packet alone. To end a packet makes its buffer Free and sends its credit
to its sender; without a current packet nothing changes. -/
def Obligations.PacketReadsAndWaits : Prop :=
  ∀ (s : State) (g : Guard) (l : BitVec 10) (x : RFile) (d b st : BitVec 5),
    let p := s.cur.regM b.toNat
    let reads := fun (i : Instr) (hdr : Bool) (kind : LandKind) =>
      Runs s g (unsetM s b.toNat) (pktFault s.cur hdr x p = none ∧ LandingFree s) → FreshId s →
        s.pktPoison s.me hdr x p = none →
        exec i s = .next ({ s with ids := s.ids + 1 }.modCur (fun c => { c with landings := c.landings ++
          [{ landingOf s .m kind l x d p (if x = RFile.v then 128 else 8) 4 true with value := some (s.pktRead s.me hdr x p) }] }))
    let mode := inMode (s.here.inS st.toNat).d0
    reads (.shdr g l x d b) true .header ∧ reads (.srd g l x d b) false .payload ∧
    (Runs s g false (mode ≠ 3 ∧ mode ≠ 2) → exec (.swait g st) s =
      .next (let t := s.donePacket s.me st.toNat
        { t with issue := { t.issue with endBlock := some (.stream st.toNat) } })) ∧
    (Runs s g false (mode ≠ 3) → exec (.sdone g st) s = .next (s.donePacket s.me st.toNat)) ∧
    (s.cur.cur.find? (fun e => e.1 == st.toNat) = none → s.donePacket s.me st.toNat = s) ∧
    (∀ i, s.slot < 8 → s.cur.cur.find? (fun e => e.1 == st.toNat) = some (st.toNat, i) → i < (s.here.inS st.toNat).bufs.length →
      let t := s.donePacket s.me st.toNat
      let b := (s.here.inS st.toNat).buf i
      (t.here.inS st.toNat).buf i = { b with st := .free } ∧ t.cur.cur = spDel s.cur.cur st.toNat ∧ t.mem = s.mem ∧
        (b.sender.node = s.focus.node → b.sender.tile < 256 →
          t.net = s.net ++ [.creditArrival (tileOf b.sender) (BitVec.ofNat 5 b.sender.slot) 1])) ∧
    (s.issue.mode = .direct → s.cur.guard g = true → s.cur.poisonRd = false → mode = 3 →
      exec (.swait g st) s = .next (s.issueTrap ⟨4, .m, .bound, st.setWidth 64⟩) ∧
      exec (.sdone g st) s = .next (s.issueTrap ⟨4, .m, .bound, st.setWidth 64⟩))

/-- R222, R264 to R268, R219: `SOPEN` with a credit and a staging buffer opens a packet, without one its bundle's block ends before it;
`STAG` merges the fields a task may set, `SWR` and `SCLOSE` enter the store queue, `SFREE` discards the open packet, `SBIND` rebinds at
the next cycle. A packet opened takes a credit and the staging buffer that is not in use, its header of the stream's STREAM and the task's
fields and its payload zero; one discarded gives its credit back, its writes still queued gone. -/
def Obligations.PacketsAreBuilt : Prop :=
  ∀ (s : State) (g : Guard) (st : BitVec 5) (a b : Src) (i : Nat),
    let out := s.here.outS st.toNat
    let place := out.place i
    let bound := outCap out.d0 ≠ 0
    let va := s.cur.srcM a
    let vb := s.cur.srcM b
    let queues := fun (t : State) (op : QOp) =>
      { t with ids := t.ids + 1 }.modCur (fun c => { c with queue := c.queue ++ [entryOf s .m s.ids false true op] })
    (Runs s g false (bound ∧ s.cur.openBuf st.toNat = none) → out.blocked = false →
      exec (.sopen g st) s = .next (s.openPacket st.toNat)) ∧
    (s.issue.mode = .probe → s.cur.guard g = true → s.cur.poisonRd = false → bound → s.cur.openBuf st.toNat = none →
      out.blocked = true → exec (.sopen g st) s =
        .next { s with issue := { s.issue with stay := true, endBlock := some (.output st.toNat) } }) ∧
    (Runs s g (s.cur.unsetM a || s.cur.unsetM b) (bound ∧ hdrEnc vb ≠ 3) → s.cur.openBuf st.toNat = some i →
      exec (.stag g st a b) s = .next (
        let h0 := mergeBits 0x0000FFFFFFFFFFFF (s.readWord .port s.focus place) va
        let h1 := mergeBits 0x0000FFFFF8000000 (s.readWord .port s.focus (place + 8)) vb
        (s.writeWord .port s.focus place h0).writeWord .port s.focus (place + 8) h1)) ∧
    (Runs s g (s.cur.unsetM a || s.cur.unsetM b) (bound ∧ vb.toNat % 8192 ≠ 0 ∧
        vb.toNat / 65536 % 8192 + vb.toNat % 8192 ≤ outBsize out.d0 ∧
        accessFault s s.me s.cur.level va (vb.toNat % 8192) 1 false (fun w => w != 0) = none) →
      s.cur.openBuf st.toNat = some i → exec (.swr g st a b) s =
        .next (queues s (.swr st.toNat i va (vb.toNat / 65536 % 8192) (vb.toNat % 8192)))) ∧
    (Runs s g (s.cur.unsetM a) (bound ∧ va.toNat % 8192 ≤ outBsize out.d0 ∧
        ((hdrEnc (s.readWord .port s.focus (place + 8)) = 1 ∨ hdrEnc (s.readWord .port s.focus (place + 8)) = 2) →
          va.toNat % 8192 % 4 = 0)) → s.cur.openBuf st.toNat = some i →
      exec (.sclose g st a) s = .next (
        let t := (s.writeWord .port s.focus (place + 8)
            (setFld (s.readWord .port s.focus (place + 8)) 14 13 (va.toNat % 8192))).modHere (fun t =>
          t.modOut st.toNat (fun x => { x with opened := x.opened.map (fun p => if p.1 = i then (i, true) else p) }))
        (queues t (.sclose st.toNat i)).modCur (fun c => { c with opn := spDel c.opn st.toNat }))) ∧
    (s.slot < 8 →
      let j := if out.opened.any (fun o => o.1 == 0) then 1 else 0
      let t := s.openPacket st.toNat
      (t.here.outS st.toNat).free = out.free - 1 ∧ (t.here.outS st.toNat).opened = out.opened ++ [(j, false)] ∧
        t.cur.opn = spPut s.cur.opn st.toNat j ∧
        (Memory.wf s.mem = true →
          t.readWord .port s.focus (out.place j) = BitVec.ofNat 64 (outSid out.d0 * 2 ^ 48 + wfld s.cur.hdr0 0 48) ∧
          t.readWord .port s.focus (out.place j + 8) = s.cur.hdr1 &&& 0x0000FFFFC8000000 ∧
          t.readBytes .port s.focus (out.place j + 16) (outBsize out.d0) = List.replicate (outBsize out.d0) 0)) ∧
    (Runs s g false bound → exec (.sfree g st) s = .next (s.discardOpen s.me st.toNat)) ∧
    (s.cur.openBuf st.toNat = none → s.discardOpen s.me st.toNat = s) ∧
    (s.slot < 8 → s.cur.openBuf st.toNat = some i →
      let t := s.discardOpen s.me st.toNat
      (t.here.outS st.toNat).free = out.free + 1 ∧ (t.here.outS st.toNat).opened = out.opened.filter (fun o => o.1 != i) ∧
        t.cur.openBuf st.toNat = none ∧ t.mem = s.mem ∧
        (∀ q, q ∈ t.cur.queue ↔ q ∈ s.cur.queue ∧ ∀ v o n, q.op ≠ .swr st.toNat i v o n)) ∧
    (Runs s g (s.cur.unsetM a) (s.cur.level ≠ 0 ∧ inMode (s.here.inS st.toNat).d0 ≠ 3) →
      exec (.sbind g st a) s = .next (s.pend .m 1 false (.bind st.toNat va)))

/-- R304, R305, R307, R311 to R317: a fold query takes a landing entry for the walker's answer; a transfer or record operation whose
operands pass enters the store queue with them as read at issue, `FAPP` raising its view's readable limit, and counts on its
barrier's user set where its control operand says so. -/
def Obligations.FoldOperationsIssue : Prop :=
  ∀ (s : State) (g : Guard) (l : BitVec 10) (x : RFile) (d b : BitVec 5) (tr : BitVec 4) (a c : Src),
    let key := s.cur.regM b.toNat
    let op := s.cur.regM (s.issue.xm.toNat % 32)
    let u := unsetM s b.toNat || unsetM s (s.issue.xm.toNat % 32)
    let asks := fun (i : Instr) (kind : LandKind) (fault : Option (Cause × Word)) =>
      Runs s g u (fault = none ∧ LandingFree s) → FreshId s →
        exec i s = .next ({ s with ids := s.ids + 1 }.modCur (fun c => { c with landings := c.landings ++
          [{ landingOf s .m kind l x d key 8 12 true with opb := op }] }))
    let va := s.cur.srcM a
    let vc := s.cur.srcM c
    let uac := s.cur.unsetM a || s.cur.unsetM c
    let queues := fun (fn treg : Nat) =>
      let t := { s with ids := s.ids + 1 }.modCur (fun k => { k with queue := k.queue ++
        [entryOf s .m s.ids false true (.fold ⟨fn, treg, va, vc, s.slotWord .m, 0, none, s.cur.tree⟩)] })
      if vc.getLsbD 5 then t.usesBarrier s.me (vc.toNat % 32) else t
    let shape := s.cur.shape tr.toNat
    let fits := fun (fn : Nat) => tr.toNat < s.here.tregShare ∧ shapeBad shape = false ∧
      viewFault s va (fn == 1) = none ∧ rowsFault s.here va (shapeRows shape) (fn == 1) = none ∧ ctlFault fn vc = none ∧
      ptrByte va + shapeBytes shape ≤ (s.node s.focus.node).vecbytes
    asks (.fview g l x d b) .foldView (fviewFault (s.node s.focus.node) key op) ∧
    asks (.fseq g l x d b) .foldSeq (fseqFault key op) ∧ asks (.fprobe g l x d b) .foldProbe (fprobeFault s key op) ∧
    (Runs s g uac (fits 0) → exec (.fldk g tr a c) s = .next (queues 0 tr.toNat)) ∧
    (Runs s g uac (fits 1) → exec (.fapp g tr a c) s =
      .next ((queues 1 tr.toNat).modHere (fun t => t.raisePend va (ptrPos va + shapeRows shape)))) ∧
    (Runs s g uac (keyFault 2 va = none ∧ ctlFault 2 vc = none) → exec (.ffork g a c) s = .next (queues 2 0)) ∧
    (Runs s g uac (keyFault 3 va = none ∧ ctlFault 3 vc = none) → exec (.ftrunc g a c) s = .next (queues 3 0)) ∧
    (Runs s g uac (keyFault 4 va = none ∧ ctlFault 4 vc = none) → exec (.ffree g a c) s = .next (queues 4 0)) ∧
    (Runs s g uac ((s.cur.level ≠ 0 ∨ (ctlOp vc ≠ 1 ∧ ctlOp vc ≠ 2)) ∧ viewFault s va false = none ∧ ctlFault 5 vc = none) →
      exec (.fhint g a c) s = .next (queues 5 0))

/-! ## The E slot -/

/-- R269, R273, R274, R276: a write of the shadow set, or a go-form, takes effect one cycle later, or is held with its block ended
where the set is busy; `ERD` and `ESTAT` read at latency 3; `EABORT` aborts what the context owns: its active operation without an
error has error 4 and ends within 16 cycles, another keeps its own; its shadow set is free; another's work, memory and the
registers stay. What an abort leaves is a free choice (log entry 37). -/
def Obligations.EngineRegisters : Prop :=
  ∀ (s : State) (g : Guard) (d : Dst) (a : Src) (q : NestReg) (b : BitVec 5) (r : EReg),
    let v := s.cur.srcE a
    let u := s.cur.unsetE a
    let starts := fun (w : EngineWrite) =>
      if s.here.shadowSt.busy s.slot then
        let t := s.pend .e 1 true (.engine w)
        { t with issue := { t.issue with endBlock := some .shadow } }
      else s.pend .e 1 false (.engine w)
    (Runs s g u True → exec (.ewr g a (.shadow q)) s = .next (starts (.reg q v))) ∧
    (Runs s g u True → exec (.ewr g a (.bcfg b)) s =
      .next ((s.pend .e 1 false (.bcfg b.toNat v)).usesBarrier s.me b.toNat)) ∧
    (Runs s g false True → exec (.erd g d r) s =
      .next (s.resultWord .e .e 3 d (s.here.settleBarriers.engineReg s.slot r))) ∧
    (Runs s g false True → exec (.estat g d) s = .next (s.resultWord .e .e 3 d (s.here.mstat s.slot))) ∧
    (Runs s g false True → exec (.ego g) s = .next (starts (.go none))) ∧
    (Runs s g false True → exec (.mloadw g) s = .next (starts (.go (some 1)))) ∧
    (Runs s g false True → exec (.mmac g) s = .next (starts (.go (some 2)))) ∧
    (Runs s g false True → exec (.mdrain g) s = .next (starts (.go (some 3)))) ∧
    (Runs s g false True → exec (.eabort g) s = .next (s.abortEngine s.me)) ∧
    (let own := fun (o : ActiveOp) => o.slot = s.slot ∧ o.serial = s.cur.serial
     let t := s.abortEngine s.me
     (∀ o, s.here.op = some o → own o → o.err = 0 →
        ∃ k < 16, t.here.op = some { o with err := 4, finish := min o.finish (s.here.wall + 1 + k) }) ∧
     (∀ o, s.here.op = some o → ¬(own o ∧ o.err = 0) → t.here.op = some o) ∧ (s.here.op = none → t.here.op = none) ∧
     t.here.shadowSt = (if s.here.shadowSt.mine s.slot s.cur.serial then .free else s.here.shadowSt) ∧
     t.mem = s.mem ∧ t.cur = s.cur ∧ t.here.shadow = s.here.shadow)

/-- R277 to R282, R231, R232: a copy whose descriptor passes enters the store queue, `CPYQ` counts copies at latency 3, barrier writes
take effect one cycle later, `BARR` enters the store queue, `BWAIT` and `GBAR` end the block, `GBAR` arriving at its group first. A
group wider or higher than the stage is the trap `BOUND` with its code. -/
def Obligations.CopiesAndBarriers : Prop :=
  ∀ (s : State) (g : Guard) (d : Dst) (a : Src) (q : BitVec 2) (k : BitVec 5) (h w : BitVec 3),
    let n := 4 * q.toNat
    let desc : CopyDesc := ⟨s.cur.regE n, s.cur.regE (n + 1), s.cur.regE (n + 2), s.cur.regE (n + 3), 0, s.cur.level⟩
    let v : BitVec 32 := (s.cur.srcE a).setWidth 32
    let u := s.cur.unsetE a
    let queues := fun (op : QOp) => { s with ids := s.ids + 1 }.modCur (fun c =>
      { c with queue := c.queue ++ [entryOf s .e s.ids false true op] })
    let code := h.toNat * 8 + w.toNat
    let fits := 2 ^ w.toNat ≤ max 1 s.here.width ∧ 2 ^ h.toNat ≤ max 1 s.here.height
    (Runs s g ((List.range 4).any (fun i => !s.cur.we.getLsbD (n + i))) (copyFault s s.me desc = none) →
      exec (.cpy g q) s = .next (
        if desc.ctl.getLsbD 22 then (queues (.copy desc)).usesBarrier s.me desc.bar else queues (.copy desc))) ∧
    (Runs s g false True → exec (.cpyq g d) s = .next (s.resultWord .e .e 3 d
      (BitVec.ofNat 64 (s.here.copiesOf s.slot % 64 + s.here.copies.length % 32 * 256)))) ∧
    (Runs s g u True → exec (.binit g a k) s = .next ((s.pend .e 1 false (.binit k.toNat v)).usesBarrier s.me k.toNat)) ∧
    (Runs s g u True → exec (.badd g a k) s = .next ((s.pend .e 1 false (.badd k.toNat v)).usesBarrier s.me k.toNat)) ∧
    (Runs s g u True → exec (.barr g a k) s = .next ((queues (.barr k.toNat v.toNat)).usesBarrier s.me k.toNat)) ∧
    (Runs s g false True → exec (.bwait g k) s = .next (
      let t := s.usesBarrier s.me k.toNat
      { t with issue := { t.issue with endBlock := some (.barrier k.toNat) } })) ∧
    (Runs s g false fits → exec (.gbar g h w) s = .next (
      let t := s.modHere (fun t => t.arrive code s.slot s.ids)
      { t with issue := { t.issue with endBlock := some (.group code (s.here.arrivals code).length) } })) ∧
    (s.issue.mode = .direct → s.cur.guard g = true → s.cur.poisonRd = false → ¬fits →
      exec (.gbar g h w) s = .next (s.issueTrap ⟨4, .e, .bound, BitVec.ofNat 64 code⟩))

/-- R226, R284 to R286: `TFORK` puts a descriptor at the deque's head and answers 1, or answers 0 and changes nothing but a count
where the deque is full, the join count at its limit, no tree number free or the need beyond the share; `TJOIN` and `TYIELD` end
the block, `TEXIT` the task, `TCANCEL` sends its cancellation. The tree number of a new tree is the model's own (log entry 30). -/
def Obligations.TaskOperations : Prop :=
  ∀ (s : State) (g : Guard) (d : Dst) (q : BitVec 3) (a b : Src),
    let n := 2 * q.toNat
    let w := s.cur.srcE b
    let uq := !s.cur.we.getLsbD n || !s.cur.we.getLsbD (n + 1) || s.cur.unsetE b
    let id : BitVec 32 := (s.cur.srcE a).setWidth 32
    let ends := fun (i : Instr) (q : Issue) => Runs s g false True → exec i s = .next { s with issue := q }
    let own := id.toNat / 2 ^ 20 = s.focus.node ∧ s.here.inStage (id.toNat / 2 ^ 12 % 256) = true
    (Runs s g uq True → exec (.tfork g d q b) s = .next (
      let x := s.fork (s.cur.regE n) (s.cur.regE (n + 1)) w
      x.2.resultWord .e .e 2 d x.1)) ∧
    (s.here.needFits (forkEntry w) = true → 64 ≤ s.here.deque.length ∨ (w.getLsbD 16 = true ∧ 65535 ≤ s.cur.jcnt) ∨
        (w.getLsbD 17 = true ∧ s.nextTree s.focus = none) → s.fork (s.cur.regE n) (s.cur.regE (n + 1)) w = (0, s)) ∧
    (s.here.needFits (forkEntry w) = false → s.fork (s.cur.regE n) (s.cur.regE (n + 1)) w =
      (0, s.modHere (fun t => { t with schstat := bumpField t.schstat 32 }))) ∧
    (∀ tree, s.here.needFits (forkEntry w) = true → s.here.deque.length < 64 → (w.getLsbD 16 = true → s.cur.jcnt < 65535) →
      (if w.getLsbD 17 then s.nextTree s.focus else some s.cur.tree) = some tree → s.slot < 8 →
      ∃ e t, s.fork (s.cur.regE n) (s.cur.regE (n + 1)) w = (1, t) ∧ t.here.deque = e :: s.here.deque ∧
        e.d0 = s.cur.regE n ∧ e.d1 = s.cur.regE (n + 1) ∧ dqTree e.d2 = tree ∧ dqEntry e.d2 = w.extractLsb' 0 12 ∧
        dqJoin e.d2 = w.getLsbD 16 ∧ t.cur = { s.cur with jcnt := if w.getLsbD 16 then s.cur.jcnt + 1 else s.cur.jcnt } ∧
        t.mem = s.mem) ∧
    ends (.tjoin g) { s.issue with endBlock := some .join } ∧ ends (.tyield g) { s.issue with endBlock := some .none } ∧
    ends (.texit g) { s.issue with quit := true } ∧
    (Runs s g (s.cur.unsetE a) (s.cur.level ≠ 0 ∨ own) → exec (.tcancel g a) s = .next (
      let t := { s with net := s.net ++ [.treeCancel s.focus.node id] }
      if s.cur.tree = id then t.modCur (fun c => { c with stuck := true }) else t))

/-- R320, R324, R339 to R344: a lock request that the protocol allows goes to the home of its name, its entry pending in the lock
set; `LKACQ` and `LKUPG` end the block with their wait, `LKTRY` and `LKQRY` take a landing; a request to a home for which a release
of the context still waits follows that release (`ask`); `LKREL` gives up its entry at once and releases behind the context's
accesses, as does `LKRELA` for all entries, releasing what was granted; `LKMAT` writes the matrix one cycle later. A request that
the protocol forbids is the trap `LOCK_PROTO` with the name. The earliest landing of 24 (log entry 29) and the answer for a home
out of reach (log entry 14) are the model's own. -/
def Obligations.LockOperations : Prop :=
  ∀ (s : State) (g : Guard) (d : Dst) (r : BitVec 4) (l : BitVec 10) (a : Src) (m : LockMode),
    let w := s.cur.srcE a
    let u := s.cur.unsetE a
    let msg := fun (m : LockMode) => (⟨wfld w 40 12, m, s.me, w, s.cur.tick, 0, s.ids⟩ : CrookMsg)
    let early := 24
    let lands := fun (kind : LandKind) => { s with ids := s.ids + 1 }.modCur (fun c =>
      { c with landings := c.landings ++ [landingOf s .e kind l .e (r.setWidth 5) w 8 early false] })
    let waits := fun (e : CrookMsg → Event) =>
      let t := ({ s with ids := s.ids + 1 }.modCur (fun c => { c with waitSeq := s.ids })).request s.me (msg m) e
      { t with issue := { t.issue with endBlock := some (.lock w d) } }
    let pending := fun (c : Ctx) => c.setLock w (some ⟨w, m, true⟩)
    (Runs s g u (acquireFault s.cur w m = none) → exec (.lkacq g d a m) s = .next ((waits .crookAcquireMsg).modCur pending)) ∧
    (Runs s g u (upgradeFault s.cur w m = none) → exec (.lkupg g d a m) s = .next (waits .crookUpgradeMsg)) ∧
    (Runs s g u (acquireFault s.cur w m = none ∧ LandingFree s) → exec (.lktry g l m r a) s =
      .next (((lands (.lockTry w)).modCur pending).request s.me (msg m) .crookTryMsg)) ∧
    (Runs s g u (lockNameBad w = false ∧ LandingFree s) → exec (.lkqry g l r a) s = .next (
      if s.hasHome s.me (msg .is) then (lands .lockQuery).ask s.me (msg .is) .crookQueryMsg
      else (lands .lockQuery).send (.crookQueryResultMsg { msg .is with dest := s.focus.node }))) ∧
    (Runs s g u (releaseFault s.cur w = none) → exec (.lkrel g a) s = .next (({ s with ids := s.ids + 1 }.modCur (fun c =>
      { c with queue := c.queue ++ [entryOf s .e s.ids true true (.release [w])] })).modCur (fun c => c.setLock w none))) ∧
    (Runs s g false True → exec (.lkrela g) s = .next (
      let names := (s.cur.locks.filter (fun e => !e.pending || s.cur.granted.contains e.name)).map (fun e => e.name)
      if names = [] then s.modCur (fun c => { c with locks := [], granted := [] })
      else { s with ids := s.ids + 1 }.modCur (fun c => { c with locks := [], granted := [], queue := c.queue ++
        [(⟨s.ids, none, s.here.issued * 256 + 3, true, true, false, .release names, c.level⟩ : QEntry)] }))) ∧
    (Runs s g u (s.cur.level ≠ 0 ∧ w.toNat < 2 ^ 36) → exec (.lkmat g a) s = .next (s.pend .e 1 false (.matrix w))) ∧
    (s.issue.mode = .direct → s.cur.guard g = true → s.cur.poisonRd = false → lockNameBad w = false →
      (s.cur.lockEntry w).isSome = true → exec (.lkacq g d a m) s = .next (s.issueTrap ⟨4, .e, .lockProto, w⟩))

/-- R287, R288, R176: a codebook write takes effect three cycles later, or is held with its block ended while an operation uses its
bank; `CBLD` reads its four entries from the context's spill share at its issue; `CBWR.NW` of a bank in use is the trap `CB_HAZARD`
with bank and entry. -/
def Obligations.CodebookWrites : Prop :=
  ∀ (s : State) (g : Guard) (k : BitVec 2) (a b : Src),
    let x := s.cur.srcE a
    let y := s.cur.srcE b
    let uab := s.cur.unsetE a || s.cur.unsetE b
    let off := s.slot * s.here.spillShare + 8 * x.toNat
    let writes := fun (act : CbAct) =>
      if s.here.bankInUse k.toNat then
        let t := s.pend .e 3 true (.codebook act)
        { t with issue := { t.issue with endBlock := some .codebook } }
      else s.pend .e 3 false (.codebook act)
    (Runs s g uab True → exec (.cbwr g k a b) s = .next (writes (.write k.toNat (x.setWidth 8) y))) ∧
    (Runs s g uab (s.here.bankInUse k.toNat = false) →
      exec (.cbwrNw g k a b) s = .next (s.pend .e 3 false (.codebook (.write k.toNat (x.setWidth 8) y)))) ∧
    (s.issue.mode = .direct → s.cur.guard g = true → s.cur.poisonRd = false → s.here.bankInUse k.toNat = true →
      exec (.cbwrNw g k a b) s =
        .next (s.issueTrap ⟨4, .e, .cbHazard, BitVec.ofNat 64 (k.toNat * 256 + x.toNat % 256)⟩)) ∧
    (Runs s g uab (x.toNat % 4 = 0 ∧ y.toNat % 4 = 0 ∧ x.toNat + 3 < s.here.spillShare / 8) → s.spillBad s.focus off 32 = none →
      exec (.cbld g k a b) s = .next (writes (.load k.toNat (y.setWidth 8) [s.readWord .spill s.focus off,
        s.readWord .spill s.focus (off + 8), s.readWord .spill s.focus (off + 16), s.readWord .spill s.focus (off + 24)]))) ∧
    (Runs s g (s.cur.unsetE a) (x.toNat / 256 % 512 ≤ 256) →
      exec (.cbinv g k a) s = .next (writes (.invalidate k.toNat (x.setWidth 8) (x.toNat / 256 % 512))))

/-! ## The core's own steps -/

/-- R33, R45, R47, R91, R102, R103, R431: A WALL CYCLE OF A TILE (`BUNDLE_ISSUE`). What falls due is brought about and a context
is selected; where the running one stands at its boundary with nothing before its bundle, what is due of it completes, and the
bundle at its pc goes to its checks whole, with its words, its operations and the fields of its header; a bundle with an illegal
word is the class 5 trap `ILLEGAL`, with that word and its slot in `XADDR`. A tile without a context to run spends the cycle, and
one of a failed node does nothing. That nothing is fetched ahead is the model's own (log entry 107). That a full queue holds every
bundle is the model's reading (log entry 35). -/
def Obligations.BundlesIssue : Prop :=
  ∀ (s : State) (r : TileRef) (k : Nat),
    let me : CtxRef := ⟨r.node, r.tile, k⟩
    let u := s.atCycle r
    let w := u.settled r k
    let pc := (w.ctx me).pc.toNat
    ((s.node r.node).failed = true → exec (.bundleIssue r) s = .next { s with focus := r, issue := Issue.idle }) ∧
    ((s.node r.node).failed = false → (u.tile r).running = none → exec (.bundleIssue r) s = .next (u.pass r)) ∧
    ((s.node r.node).failed = false → u.reachesChecks r k →
      (∀ b, w.bundleAt r pc = .ok b → exec (.bundleIssue r) s = .next { w with
        focus := r
        issue := { Issue.idle with mode := .probe, words := b.words, xv := b.header.xv, xm := b.header.xm, xe := b.header.xe
                                   cbb := b.header.cbb, cbp := b.header.cbp, ops := b.ops } }) ∧
      (∀ x sl, w.bundleAt r pc = .error (x, sl) → exec (.bundleIssue r) s =
        .next (w.takeAt me ⟨.illegal, 5, slotIdx sl, pc, BitVec.ofNat 64 (x.toNat * 2 ^ 32 + slotIdx sl), 0⟩)))

/-- R20, R24, R51, R22, R73: the one result that is due in the running context completes: a scalar result is written to its register with
its written bit set and its latch pushed, and its flags are gathered, with the engine's of this cycle; a predicate is written to its
predicate; and nothing else of the context's files changes. -/
def Obligations.ResultsComplete : Prop :=
  ∀ (s : State) (r : TileRef) (k : Nat) (x : Result) (n : BitVec 5) (q : BitVec 3) (v : Word) (b : Bool),
    let me : CtxRef := ⟨r.node, r.tile, k⟩
    let c := s.ctx me
    let files := fun (d : Ctx) => d.e = c.e ∧ d.m = c.m ∧ d.v = c.v ∧ d.k = c.k ∧ d.qm = c.qm ∧ d.qe = c.qe ∧ d.qv = c.qv ∧
      d.results = [] ∧ d.lc = c.lc ∧ d.xstat = c.xstat ∧ d.pc = c.pc
    (s.tile r).running = some k → k < 8 → c.results = [x] → c.landings = [] → c.entering = none → c.st = .running →
    x.isDue (s.tile r).core (s.tile r).wall = true →
    (x.effect = .word .a n false v → Gives (.resultCompletion r) s (fun t =>
      let d := t.ctx me
      files d ∧ d.p = c.p ∧ d.regA n.toNat = v ∧ d.wa.getLsbD n.toNat = true ∧ (∀ j, j ≠ n.toNat → d.regA j = c.regA j) ∧
        d.qa = (if x.pushes then #v[some v, c.qa[0], c.qa[1], c.qa[2]] else c.qa) ∧
        d.fflags = c.fflags ||| x.flags.setWidth 64 ||| (c.eflags.setWidth 64 <<< 8) ∧ t.mem = s.mem)) ∧
    (x.effect = .pred q b → Gives (.resultCompletion r) s (fun t =>
      let d := t.ctx me
      files d ∧ d.a = c.a ∧ d.qa = c.qa ∧ d.pred 0 = true ∧ (q ≠ 0 → d.pred q.toNat = b ∧ d.wp.getLsbD q.toNat = true) ∧
        (∀ j, j < 8 → j ≠ q.toNat → d.pred j = c.pred j) ∧ t.mem = s.mem))

/-- R30, R32, R35, R37, R38: a landing whose value has come reaches its buffer no earlier than its path allows; at its named
cycle, or on arrival in a context that does not run, it is written to its register and gone; a freeze of 16,384 wall cycles is a
class 3 `LANDING_TIMEOUT` with the address of the landing that is late and the bundle that issued it. That a landing of a context
that does not run is written as soon as it has come is the model's reading (log entry 20). -/
def Obligations.LandingsComeAndAreWritten : Prop :=
  ∀ (s : State) (c : CtxRef) (l : Landing) (v : VReg) (w : Nat),
    let t := s.tile (tileOf c)
    let x := s.ctx c
    let whole := c.slot < 8 ∧ x.landings = [l] ∧ l.value = some v ∧ l.faulted = false ∧ l.lost = false
    (whole → l.arrive = none → l.kind.isQuery = false → l.issueWall + l.earliest ≤ t.wall + 1 → Gives (.landingArrival c l.id) s (fun u =>
      (u.ctx c).landings = [{ l with arrive := some t.wall }] ∧ u.mem = s.mem)) ∧
    (whole → l.arrive = none → t.wall + 1 < l.issueWall + l.earliest → exec (.landingArrival c l.id) s = .next s) ∧
    (whole → x.results = [] → x.entering = none → x.st ≠ .saved → (∀ n, l.kind ≠ .lockTry n) → l.rel = false → l.waited = false →
      l.arrive = some w → w < t.wall → (t.running = some c.slot → l.named ≤ t.core) → Gives (.landingWrite c) s (fun u =>
        let y := u.ctx c
        y.landings = [] ∧ u.mem = s.mem ∧
        (l.file = .m → y.regM l.reg.toNat = v.setWidth 64 ∧ y.wm.getLsbD l.reg.toNat = true ∧ y.v = x.v ∧
          (∀ j, j ≠ l.reg.toNat → y.regM j = x.regM j)) ∧
        (l.file = .v → y.regV l.reg.toNat = v ∧ y.wv.getLsbD l.reg.toNat = true ∧ y.m = x.m ∧
          (∀ j, j ≠ l.reg.toNat → y.regV j = x.regV j)) ∧
        (l.file = .a → y.regA l.reg.toNat = v.setWidth 64 ∧ y.wa.getLsbD l.reg.toNat = true) ∧
        (l.file ≠ .a → y.a = x.a) ∧ (l.file ≠ .e → y.e = x.e) ∧ y.p = x.p ∧ y.k = x.k)) ∧
    (c.slot < 8 → t.running = some c.slot → t.freeze = some w → w + 16384 ≤ t.wall → x.missing t.core t.wall = some l →
      Gives (.landingTimeout (tileOf c)) s (fun u =>
        (u.tile (tileOf c)).freeze = some t.wall ∧ ∃ f, (u.ctx c).late = x.late ++ [f] ∧ f.cause = .landingTimeout ∧ f.xaddr = l.addr ∧
          f.fpc = l.fpc ∧ f.arrived = true ∧ u.mem = s.mem))

/-- R46, R47, R49, R223, R368: a tile that runs no context selects the chosen one, which issues after the two cycles of a block switch;
a waiting context whose condition holds and whose earlier blocks have nothing left in flight is Ready. -/
def Obligations.ContextsAreSelected : Prop :=
  ∀ (s : State) (r : TileRef) (c : CtxRef) (k : Nat),
    let t := s.tile r
    let x := s.ctx c
    (t.running = none → t.pick = some k → k < 8 → (t.ctx k).resume = none → Gives (.blockSwitch r) s (fun u =>
      (u.tile r).running = some k ∧ (u.tile r).switchUntil = some (t.wall + 2) ∧ (u.tile r).lastSlot = k ∧
        ((u.tile r).ctx k).st = .running ∧ (∀ j, j ≠ k → (u.tile r).ctx j = t.ctx j) ∧ u.mem = s.mem)) ∧
    (∀ j, t.running = some j → exec (.blockSwitch r) s = .next s) ∧
    (c.slot < 8 → x.st = .waiting → x.blockClear (s.tile (tileOf c)).core = true → s.waitMet c = true → Gives (.waitReady c) s (fun u =>
      (u.ctx c).st = .ready ∧ (u.ctx c).wait = .none ∧ (u.ctx c).readySince = (s.tile (tileOf c)).wall ∧ (u.ctx c).a = x.a ∧
        u.mem = s.mem))

/-! ## Traps -/

/-- R183 to R185, R188, R191, R192, Tables 6.6 to 6.8: TAKING A TRAP saves its cause, class and slot in `XCAUSE`, the bundle reported
against and the return bundle in `XPC`, its address and its progress in `XADDR` and `XPROG`, and the interrupted level in `XSTAT`
with the live-frame bit; control goes to the handler that `XVEC` names for the cause and the level. General registers, predicates and
masks are as they were. Under a live frame the context stops instead: its frame and its `X` registers stay, what was pending of it goes,
its tree is to be cancelled, and a notice of reason 2 with interrupt line 13 goes to its stage's origin tile, unless the ring is full. -/
def Obligations.TakingATrap : Prop :=
  ∀ (s : State) (r : CtxRef) (q : TrapReq) (rpc : Nat) (w : Bool), r.slot < 8 →
    let c := s.ctx r
    let group := q.cause.code / 16
    let down := c.level = 0 ∧ group ≠ 6 ∧ group ≠ 7 ∧ group ≠ 8 ∧ c.xvec.getLsbD (48 + group) = true
    let t := s.takeTrap r q rpc w
    let d := t.ctx r
    (c.tf = false →
      d.xcause = BitVec.ofNat 64 (q.slot * 2 ^ 12 + q.cls * 2 ^ 8 + q.cause.code) ∧
      d.xpc = BitVec.ofNat 64 (q.fpc % 4096 * 2 ^ 16 + rpc % 4096) ∧ d.xaddr = q.xaddr ∧ d.xprog = q.xprog ∧
      d.xstat = BitVec.ofNat 64 (0x80 + c.level * 16 + (if down then 1 else 2)) ∧
      d.pc = BitVec.ofNat 12 (wfld c.xvec (if down then 16 else 0) 12) ∧
      d.results = [] ∧ d.entering = some ((s.tile (tileOf r)).core, (s.tile (tileOf r)).wall) ∧
      d.a = c.a ∧ d.m = c.m ∧ d.e = c.e ∧ d.v = c.v ∧ d.p = c.p ∧ d.k = c.k ∧ d.wa = c.wa ∧ d.lc = c.lc ∧ d.qa = c.qa ∧
      t.mem = s.mem) ∧
    (c.tf = true →
      let o : TileRef := ⟨r.node, (s.tile (tileOf r)).origin⟩
      let head := wfld (s.readWord .sram o (saveBase + 0x1C00)) 0 32
      let tail := s.readWord .sram o (saveBase + 0x1C08)
      let used := (wfld tail 0 32 + 2 ^ 32 - head) % 2 ^ 32
      let at' := saveBase + 0x1800 + 16 * (wfld tail 0 32 % 64)
      d = { c with stuck := true, late := [], request := none, wound := none } ∧
      t.net = s.net ++ [.interruptPending o 13, .treeCancel r.node c.tree] ∧
      (Memory.wf s.mem = true → used < 64 →
        t.readWord .sram o at' = c.tree.setWidth 64 ∧
        t.readWord .sram o (at' + 8) = BitVec.ofNat 64 (2 * 2 ^ 56 + r.tile * 2 ^ 16 + r.slot * 2 ^ 8) ∧
        t.readWord .sram o (saveBase + 0x1C08) = setFld tail 0 32 (wfld tail 0 32 + 1)) ∧
      (Memory.wf s.mem = true → used = 64 →
        t.readWord .sram o (saveBase + 0x1C08) = tail ||| 0x8000000000000000))

/-- R182, R185 to R187, R332: at a boundary the trap of lowest class is taken: a pending interrupt that the context takes, its
line no longer pending; then `WOUND` with the object's name; then the class 3 item of the earliest bundle; then the `TRAP` of the
bundle before. The order of items of one class is the model's reading (log entry 53). -/
def Obligations.BoundariesTakeTraps : Prop :=
  ∀ (s : State) (r : TileRef) (k l : Nat) (w : Word) (f : LateFault) (n : BitVec 4) (fpc seq : Nat),
    let me : CtxRef := ⟨r.node, r.tile, k⟩
    let t := s.tile r
    let c := s.ctx me
    let pc := c.pc.toNat
    let here := k < 8 ∧ t.running = some k ∧ t.atBoundary k = true ∧ t.preempts k = false ∧ c.tf = false
    let shows := fun (cause : Cause) (cls slot fpc : Nat) (addr : Word) (u : State) =>
      (u.ctx me).xcause = BitVec.ofNat 64 (slot * 2 ^ 12 + cls * 2 ^ 8 + cause.code) ∧
      (u.ctx me).xpc = BitVec.ofNat 64 (fpc % 4096 * 2 ^ 16 + pc % 4096) ∧ (u.ctx me).xaddr = addr ∧ (u.ctx me).tf = true ∧
      (u.ctx me).a = c.a ∧ u.mem = s.mem
    (here → t.freeze = none → t.takeableIrq c = some l → l < 16 → Gives (.trapEntry r) s (fun u =>
      shows (.interrupt (BitVec.ofNat 4 l)) 1 0 pc 0 u ∧ (u.tile r).irq = t.irq &&& ~~~(1#16 <<< l))) ∧
    (here → t.takeableIrq c = none → c.wound = some w → t.woundNow c = true →
      Gives (.trapEntry r) s (fun u =>
      shows .wound 2 0 pc w u ∧ (u.ctx me).wound = none ∧ (u.ctx me).locks = [])) ∧
    (here → t.takeableIrq c = none → c.wound = none → c.firstLate = some f →
      Gives (.trapEntry r) s (fun u => shows f.cause 3 (slotIdx f.slot) (f.fpc.getD pc) f.xaddr u ∧ (u.ctx me).xprog = f.xprog)) ∧
    (here → t.takeableIrq c = none → c.wound = none → c.firstLate = none → c.request = some (.trap n, fpc, seq) →
      Gives (.trapEntry r) s (fun u => shows (.trap n) 4 0 fpc 0 u ∧ (u.ctx me).request = none))

/-- R182, R187, R189, R190, R196, R381, R415: THE STEPS OF TRAP ENTRIES AND RETURNS. An interrupt line that a source has raised becomes
pending, and one that none has raised does not. The response of a late fault makes that fault pending. A value that an entry has waited for
longer than 16,384 wall cycles is lost; under a nested halt it is written as zero instead. An entry with no value left to wait for
empties the latches and the loop registers and issues its handler 10 cycles after its boundary. A return whose restore has ended, with
nothing left to issue again, issues its return bundle, with the loop registers and the registers as restored. -/
def Obligations.TrapEntriesAndReturns : Prop :=
  ∀ (s : State) (r : TileRef) (k i : Nat) (l : BitVec 4) (f : LateFault) (core wall : Nat) (x : Landing),
    let me : CtxRef := ⟨r.node, r.tile, k⟩
    let t := s.tile r
    let c := s.ctx me
    (OnItsWay s (.interruptPending r l) → Gives (.interruptPending r l) s (fun u =>
      (u.tile r).irq = t.irq ||| 1#16 <<< l.toNat ∧ (u.tile r).ctxs = t.ctxs ∧ u.mem = s.mem ∧
        u.net = s.net.erase (.interruptPending r l))) ∧
    (¬OnItsWay s (.interruptPending r l) → exec (.interruptPending r l) s = .next s) ∧
    (k < 8 → c.late[i]? = some f → f.arrived = false → c.tf = false → Gives (.lateFault me i) s (fun u =>
      (u.ctx me).late = c.late.set i { f with arrived := true } ∧ (u.ctx me).a = c.a ∧ u.mem = s.mem)) ∧
    (k < 8 → c.entering = some (core, wall) → wall + 16384 ≤ t.wall → c.landings = [x] → x.waited = true → x.settled = false →
      Gives (.lostLanding me x.id) s (fun u => (u.ctx me).landings = [{ x with lost := true }] ∧ u.mem = s.mem) ∧
      (c.nest = true → Gives (.nestedLandingLost me x.id) s (fun u =>
        (u.ctx me).hlost = true ∧ (u.ctx me).landings = [{ x with value := some 0, arrive := some wall }] ∧ u.mem = s.mem))) ∧
    (k < 8 → t.running = some k → c.entering = some (core, wall) → c.landings = [] → c.capture = [] → c.late = [] → c.request = none →
      Gives (.handlerEntry r) s (fun u =>
        let d := u.ctx me
        d.entering = none ∧ d.issueAt = core + 10 ∧ d.lc = Vector.replicate 4 0 ∧ d.qa = Vector.replicate 4 none ∧
          d.qm = Vector.replicate 4 none ∧ d.qe = Vector.replicate 4 none ∧ d.qv = Vector.replicate 4 none ∧ d.pc = c.pc ∧ d.a = c.a)) ∧
    (k < 8 → t.running = some k → c.returning = some (core, wall) → core + 2 ≤ t.core → wall ≤ t.wall → c.reissue = [] →
      c.landings = [] → c.capture = [] → c.waitEnd = false → Gives (.returnBundleIssue r) s (fun u =>
        let d := u.ctx me
        d.returning = none ∧ d.issueAt = t.core ∧ d.results = c.results ∧ d.pc = c.pc ∧ d.a = c.a ∧ d.lc = c.lc ∧ u.mem = s.mem))

/-! ## Streams -/

/-- R200, R203, R205 to R208, R210, R211, R213, R220, R266, R267, R404: PACKETS. A closed packet whose turn has come leaves its
staging buffer with its header checked and its payload encoded, whole within its node and as flits on its route to another, behind
what its node passes on of that stream. A credit raises FREE. A first flit with a good check takes a Free buffer, with its header
kept there; one with a bad check is a port fault of code 1, and one whose STREAM names no entry of code 2. A packet wholly received
leaves its way, is put in its buffer decoded and stamped with the entry of the binding in force, and is delivered, by tag order
where its stream keeps that; one whose entry needs more than the share is rejected and counted, and its buffer Free again; one
whose lengths exceed its buffer is a port fault of code 4, one that does not decode of code 3, and its buffer is Free again. A
store to NEXT of a stream without held packets changes NEXT alone. The port that records codes 1 and 2 (log entry 116), code 4
ahead of code 3 (log entry 117), and what a packet rejected for its need does to its stream's tags (log entry 49) are the model's
own. The order in which what is due takes place (log entry 4) and of a node's own packet and one it passes on (log entry 71) are
the model's own. -/
def Obligations.PacketsTravel : Prop :=
  ∀ (s : State) (c : CtxRef) (r : TileRef) (st : BitVec 5) (k n i j b : Nat) (e : QEntry) (p : NetPacket) (v : BitVec 32)
    (bs : List Byte),
    let here := tileOf c
    let out := (s.tile here).outS n
    let h0 := s.readWord .port here (out.place i)
    let h1 := s.readWord .port here (out.place i + 8)
    let wire := encodePayload (hdrEnc h1) (s.readBytes .port here (out.place i + 16) (hdrElen h1))
    let hdr := sealHeader h0 h1 wire.length
    let starts := c.slot < 8 ∧ (s.ctx c).headOf .store = some e ∧ e.op = .sclose n i ∧ s.allAhead c e = true ∧
      out.opened.find? (fun p => p.2) = some (i, true) ∧ (s.node c.node).egressOf c.tile n = none
    let packet := fun (wire : List Byte) (transit : Bool) => (⟨s.ids, ⟨outNode out.d0, outTile out.d0⟩, h0, hdr, wire, ⟨c.node, c.tile, n⟩,
      (out.poison.filter (fun p => p.1 == i)).map (fun p => p.2), transit, !transit⟩ : NetPacket)
    let x := (s.tile r).inS st.toNat
    let gone := { s with packets := s.packets.filter (fun q => q.id != k) }
    let good := headerCrc ((wordBytes p.hdr0 ++ wordBytes p.hdr1).take 14) = BitVec.ofNat 16 (wfld p.hdr1 48 16)
    let comes := s.packetAt r k = some p ∧ p.started = true ∧ (s.tile r).holds k = false ∧ s.heldBack r = false
    let held := s.packetAt r k = some p ∧ x.bufs.findIdx? (fun b => b.st == .receiving && b.pkt == k) = some j ∧ p.whole = true ∧
      s.heldBack r = false ∧ s.isNext p = true ∧ p.wire.length ≤ (x.buf j).wire
    (starts → outNode out.d0 = c.node → Gives (.packetLaunch c) s (fun t =>
      t.packets = s.packets ++ [packet wire false] ∧ t.mem = s.mem ∧
        ((t.tile here).outS n).opened = out.opened.filter (fun p => p.1 != i))) ∧
    (starts → outNode out.d0 ≠ c.node → routeBundle s c.node (outNode out.d0) = some b → Gives (.packetLaunch c) s (fun t =>
      let bytes := wordBytes h0 ++ wordBytes hdr ++ wire
      let fs := messageFlits 1 (outNode out.d0) (outTile out.d0) (hdrStream h0) (bytes.take 64) (bytes.drop 64)
      let part := (fs.head?.map flitPart).getD 0
      t.packets = s.packets ++ [packet [] true] ∧ t.mem = s.mem ∧
        (if (s.node c.node).relaying part = none then ((t.node c.node).link b).stream = ((s.node c.node).link b).stream ++ fs
         else (t.node c.node).part ownKey part = (s.node c.node).part ownKey part ++ fs ∧
           ((t.node c.node).link b).stream = ((s.node c.node).link b).stream))) ∧
    (OnItsWay s (.creditArrival r st k) → Gives (.creditArrival r st k) s (fun t =>
      ((t.tile r).outS st.toNat).free = ((s.tile r).outS st.toNat).free + k ∧ t.net = s.net.erase (.creditArrival r st k) ∧ t.mem = s.mem)) ∧
    (comes → good → n < 32 →
      (s.tile r).entryFor (hdrStream p.hdr0) = some n → ((s.tile r).inS n).bufs.findIdx? (fun b => b.st == .free) = some i →
      Gives (.packetFirstFlit r k) s (fun t =>
        let b := ((t.tile r).inS n).buf i
        b.st = .receiving ∧ b.pkt = k ∧ b.sender = p.sender ∧ b.tag = hdrTag p.hdr0 ∧ t.packets = s.packets ∧
          t.mem = ((s.writeWord .port r (((s.tile r).inS n).place i) p.hdr0).writeWord .port r (((s.tile r).inS n).place i + 8) p.hdr1).mem)) ∧
    (comes → ¬good → (s.tile r).entryFor (hdrStream p.hdr0) = some n →
      exec (.packetFirstFlit r k) s = .next (gone.portFault r (inPort ((s.tile r).inS n).d0) 1 (hdrStream p.hdr0))) ∧
    (comes → good → (s.tile r).entryFor (hdrStream p.hdr0) = none →
      exec (.packetFirstFlit r k) s = .next (gone.portFault r 0 2 (hdrStream p.hdr0))) ∧
    (held → hdrElen p.hdr1 ≤ inBsize x.d0 → hdrWlen p.hdr1 ≤ 8192 → decodePayload (hdrEnc p.hdr1) (hdrElen p.hdr1) p.wire = some bs →
      let bind := x.binding (s.tile r).wall
      let clean := { gone with tainted := untaint s.tainted (memKey .port r (x.place j)) (bs.length + 23) }
      let t := (clean.writeBytes .port r (x.place j + 16) bs).modTile r (fun t =>
        { t.modIn st.toNat (fun y => y.modBuf j (fun q =>
            { q with st := .held, tagHeld := inTord x.d0, got := t.orders, wire := p.wire.length
                     stamp := if inValid bind then some (inEntry bind) else none
                     beyond := inValid bind && !(s.tile r).needFits (inEntry bind) })) with
          orders := t.orders + 1 })
      let needs := inMode x.d0 = 1 ∧ inValid bind = true ∧ (s.tile r).needFits (inEntry bind) = false
      (¬needs → exec (.packetReceived r st k) s = .next
        ((if inTord x.d0 then t.judgeTags r st.toNat else t.deliver r st.toNat j).modTile r Tile.allClaims)) ∧
      (needs → inTord x.d0 = false → exec (.packetReceived r st k) s =
        .next (((t.freeBuffer r st.toNat j).modTile r (fun t => t.countRejects 1)).modTile r Tile.allClaims))) ∧
    (held → (inBsize x.d0 < hdrElen p.hdr1 ∨ 8192 < hdrWlen p.hdr1) → exec (.packetReceived r st k) s =
      .next ((gone.portFault r (inPort x.d0) 4 (hdrStream p.hdr0)).freeBuffer r st.toNat j)) ∧
    (held → hdrElen p.hdr1 ≤ inBsize x.d0 → hdrWlen p.hdr1 ≤ 8192 → decodePayload (hdrEnc p.hdr1) (hdrElen p.hdr1) p.wire = none →
      exec (.packetReceived r st k) s = .next ((gone.portFault r (inPort x.d0) 3 (hdrStream p.hdr0)).freeBuffer r st.toNat j)) ∧
    ((let y : InStream := { x with next := v }; y.nextHeld = none ∧ y.skips = false) → Gives (.nextWrite r st v) s (fun t =>
      ((t.tile r).inS st.toNat).next = v ∧ t.mem = s.mem ∧ t.packets = s.packets))

/-! ## Tasks -/

/-- R50, R212, R213, R217, R224, R225, R227 to R229, R264, R366: TASKS ARE CREATED. The candidate of highest effective class takes
the lowest Free slot and is Ready two cycles on: a packet's task at its stamp's entry with its header, a new tree number, the
packet current, and no register written; a descriptor's child with its two operands in a0 and a1, its tree, its entry and its
parent, and no other register written, its descriptor gone from the head of the deque. A steal takes the descriptor at the tail of
the first tile probed that has one. A child's end is counted where its parent still is, and nowhere else. That the lowest Free slot
and the next tree number are taken is the model's own (log entry 30). -/
def Obligations.TasksAreCreated : Prop :=
  ∀ (s : State) (r : TileRef) (k v : Nat) (ks : List Nat) (cand : Candidate) (e : DequeEntry) (es : List DequeEntry) (id : BitVec 32)
    (c : CtxRef) (ser : Nat),
    let t := s.tile r
    let me : CtxRef := ⟨r.node, r.tile, k⟩
    let p := t.lead cand.parts
    let h := s.bufHdr r p.1 p.2
    let fresh := t.freeSlots = k :: ks ∧ t.admitted ≠ t.wall + 1 ∧ s.nextCandidate r = some cand ∧ k < 8
    let child := fun (e : DequeEntry) (wall : Nat) (w : State) =>
      let x := w.ctx me
      x.st = .ready ∧ x.readySince = wall + 2 ∧ x.pc = dqEntry e.d2 ∧ x.tree = dqTree e.d2 ∧ x.regA 0 = e.d0 ∧ x.regA 1 = e.d1 ∧
        x.wa = 3 ∧ x.m = Vector.replicate 32 0 ∧ x.wm = 0 ∧ x.we = 0 ∧ x.wv = 0 ∧ x.wp = 0 ∧ x.wk = 0 ∧ x.cur = [] ∧ x.level = 0 ∧ x.parent = some (dqParent r.node e.d3) ∧
        x.joining = dqJoin e.d2
    let join := Event.joinMessage c ser
    let counted := (arrived s join).modCtx c (fun x =>
      if x.live = true ∧ x.serial % 2 ^ 48 = ser % 2 ^ 48 then { x with jcnt := x.jcnt - 1 } else x)
    (fresh → cand.source ≠ 32 → s.nextTree r = some id → Gives (.taskAdmission r) s (fun w =>
      let x := w.ctx me
      x.st = .ready ∧ x.readySince = t.wall + 2 ∧ x.pc = t.entryOf cand.parts ∧ x.tree = id ∧ x.hdr0 = h.1 ∧ x.hdr1 = h.2 ∧
        x.a = Vector.replicate 32 0 ∧ x.m = Vector.replicate 32 0 ∧ x.e = Vector.replicate 16 0 ∧ x.v = Vector.replicate 32 0 ∧
        x.wa = 0 ∧ x.wm = 0 ∧ x.we = 0 ∧ x.wv = 0 ∧ x.wp = 0 ∧ x.wk = 0 ∧
        x.cur = cand.parts.foldl (fun m q => spPut m q.1 q.2) [] ∧
        (∀ q ∈ cand.parts, (((w.tile r).inS q.1).buf q.2).st = .current) ∧
        x.level = 0 ∧ x.serial = t.serial + 1 ∧ (w.tile r).lastTree = id.setWidth 12)) ∧
    (fresh → cand.source = 32 → t.deque = e :: es → Gives (.taskAdmission r) s (fun w =>
      child e t.wall w ∧ (w.tile r).deque = es)) ∧
    (t.freeSlots = k :: ks → k < 8 → s.victim r = some (v, e) → s.steals r = true → t.admitted ≠ t.wall + 1 → v ≠ r.tile →
      Gives (.stealRound r) s (fun w =>
        child e t.wall w ∧ (w.tile ⟨r.node, v⟩).deque = (s.tile ⟨r.node, v⟩).deque.dropLast)) ∧
    (OnItsWay s join → exec (.joinMessage c ser) s = .next (counted.endIfDead c.node (BitVec.ofNat 32 (ser / 2 ^ 48))))

/-- R230, R244, R285, R292, R313, R376, R434: TREES ARE CANCELLED. A host command sends a cancellation, where its node answers.
The cancellation ends the tree's tasks at once, each Ending, and its descriptors leave every deque of the node; it stays on its way
while something of the tree is left. Once nothing is, it leaves, no view of the tree is open, and each sequence tied to the tree
that has no second record in its bucket has none. A task that ends is Ending, without locks, landings, results or packets, keeps
its queued stores and atomics, and releases what it was granted. When the rest of a tree goes is the model's own (log entry 46). -/
def Obligations.TreesAreCancelled : Prop :=
  ∀ (s : State) (n : Nat) (id : BitVec 32) (c : CtxRef) (b : Bool),
    let e := Event.treeCancel n id
    let u := s.haltTree n id
    let d := (s.endTask c b).ctx c
    let x := s.ctx c
    let ended := fun (t : State) => ∀ i,
      (∀ k < 8, (t.ctx ⟨n, i, k⟩).tree = id → (t.ctx ⟨n, i, k⟩).st = .ending ∨ (t.ctx ⟨n, i, k⟩).st = .free) ∧
      (∀ d ∈ (t.tile ⟨n, i⟩).deque, dqTree d.d2 ≠ id)
    ((s.node n).answers = true → exec (.tcmdCancel n id) s = .next { s with net := s.net ++ [e] }) ∧
    ((s.node n).answers = false → exec (.tcmdCancel n id) s = .next s) ∧
    (¬OnItsWay s e → exec (.treeCancel n id) s = .next s) ∧
    (OnItsWay s e → u.treeQuiet n id = false → exec (.treeCancel n id) s = .next u ∧ ended u ∧ OnItsWay u e) ∧
    (OnItsWay s e → u.treeQuiet n id = true → Gives (.treeCancel n id) s (fun t =>
      t = (arrived u e).endTree n id ∧ ended t ∧ (∀ i, ∀ v ∈ (t.tile ⟨n, i⟩).views.toList, v.opened = true → v.tree ≠ id) ∧
      ∀ q ∈ u.tiedSeqs n id, Memory.wf u.mem = true → (s.node n).fold.isSome = true →
        (((List.range 8).map (fun i => seqBucket q + 16 * i)).filter (fun o =>
          (u.foldRec n o).getLsbD 63 && wfld (u.foldRec n o) 39 22 == q)).length ≤ 1 → t.findSeq n q = none)) ∧
    (c.slot < 8 → d.st = .ending ∧ d.locks = [] ∧ d.landings = [] ∧ d.results = [] ∧ d.cur = [] ∧ d.opn = [] ∧
      (∀ q ∈ x.queue, q.op.writes = true → q ∈ d.queue) ∧ (∀ q ∈ d.queue, ∀ us, q.op ≠ .load us) ∧
      (x.grants ≠ [] → ∃ q ∈ d.queue, q.op = .release x.grants))

/-! ## Queued accesses, barriers and copies -/

/-- R241 to R245, R250, R251, R260, R278, R279, R281, R282: ACCESSES ARE PERFORMED. A load, store or atomic with no part on
another node that stands at the head of its queues issues. One unit of an issued access is performed at its bank once nothing it
waits for is left, its home refuses it not and its unit holds no poison: a load's bytes go to its landing, a store's to memory, an
atomic writes its result over the value it read, which goes to the landing of one that returns it. `BARR` at the head lowers its
barrier's count and leaves the queue once every access ahead has been performed; `CPY` at the head becomes a copy of the engine
once every write ahead has been and fewer than 16 are moved. A copy begins a row, fetches bytes of it, writes what it has fetched,
and ends the row. The pieces of a copy (log entry 58) and which stopped fold transfers a BARR waits for (log entry 129) are the
model's own. -/
def Obligations.AccessesArePerformed : Prop :=
  ∀ (s : State) (c : CtxRef) (q : QueueSel) (e : QEntry) (u : UnitAcc) (us : List UnitAcc) (seg b n : Nat) (ret : Bool) (op : AtomOp)
    (v : Word) (d : CopyDesc) (r : TileRef) (j : CopyJob),
    let x := s.ctx c
    let t := s.tile (tileOf c)
    let head := c.slot < 8 ∧ x.headOf .store = some e
    let g := targetTile c u.ptr
    let off := ptrOff u.ptr
    let mine := s.ownerOf e.id = some c ∧ x.queue.find? (fun f => f.id == e.id) = some e ∧ e.issued = true ∧
      remoteUnit c u = false ∧ s.clear c e u = true ∧ winOf u.ptr ≠ 4 ∧ winOf u.ptr ≠ 5 ∧
      s.unitBarred c e.level u.ptr u.size e.op.writes = false ∧ s.poisoned g off = false
    let bytes := fun (w : TileRef × Nat × Nat) => (unitPieces w.2.1 (w.2.2 + 1) 0 w.2.2).flatMap (fun k => s.bankBytes w.1 (w.2.1 + k.1) k.2)
    let from' := targetTile ⟨r.node, r.tile, j.slot⟩ j.srcPiece.1
    let place := (from', ptrOff j.srcPiece.1, j.srcPiece.2)
    (c.slot < 8 → x.headOf q = some e → x.atHead e = true →
      (∃ us seg, e.op = .load us ∨ e.op = .store us seg ∨ ∃ b o v w, e.op = .atom b o v w) →
      e.op.units.all (fun u => !remoteUnit c u) = true → Gives (.queueIssue c q) s (fun w =>
        (w.ctx c).queue = x.queue.map (fun f => if f.id = e.id then { f with issued := true } else f) ∧ w.mem = s.mem ∧ w.net = s.net)) ∧
    (mine → e.op = .load (u :: us) → s.taints c (memKey .sram g off) = false →
      exec (.bankAccept (64 * e.id)) s =
        .next (((s.useBank c e u).loadTook c e us u.pos (s.bankBytes g off u.size)).settleOrderings c)) ∧
    (mine → e.op = .store (u :: us) seg → meetsMailbox off u.bytes.length = false →
      Gives (.bankAccept (64 * e.id)) s (fun w => w.mem = Memory.write s.mem (memKey .sram g off) u.bytes)) ∧
    (mine → e.op = .atom ret op u v → meetsMailbox off u.size = false → Gives (.bankAccept (64 * e.id)) s (fun w =>
      let old := bytesToNat (s.readBytes .sram g off u.size)
      w.mem = Memory.write s.mem (memKey .sram g off) (natToBytes u.size (atomNew op u.size old v.toNat)) ∧
      (∀ f ∈ (w.ctx c).queue, f.id ≠ e.id) ∧
      (∀ l, c.slot < 8 → ret = true → x.landings = [l] → l.id = e.id → l.got = [] →
        (w.ctx c).landings.map (fun l => l.value) = [some (l.kind.value old)]))) ∧
    (head → e.op = .barr b n → s.allAhead c e = true → Gives (.barrApply c) s (fun w =>
      (w.tile (tileOf c)).barriers = (t.countOn b n).barriers ∧ (∀ f ∈ (w.ctx c).queue, f.id ≠ e.id) ∧ w.mem = s.mem)) ∧
    (head → e.op = .copy d → x.writesAhead e.id = true → t.copies.length < 16 → Gives (.cpyDispatch c) s (fun w =>
      (w.tile (tileOf c)).copies = t.copies ++ [⟨e.id, c.slot, x.serial, e.fpc, e.seq, d, [], [], 0, 0, false, [], false,
        x.badQueue.contains e.id⟩] ∧ (∀ f ∈ (w.ctx c).queue, f.id ≠ e.id) ∧ w.mem = s.mem)) ∧
    ((s.tile r).copies.find? (fun i => i.id == j.id) = some j → j.waits = false → j.stopped = false →
      (j.stage = 0 → (s.tile r).copyHalts j = false → j.desc.mode ≠ 2 → Gives (.copyRow r j.id) s (fun w =>
        (w.tile r).copies = (s.tile r).copies.map (fun i => if i.id = j.id then { i with stage := 1 } else i) ∧ w.mem = s.mem)) ∧
      (j.stage = 1 → from'.node = r.node → s.unitBarred ⟨r.node, r.tile, j.slot⟩ j.desc.lvl j.srcPiece.1 j.srcPiece.2 false = false →
        s.poison = [] → exec (.copyRow r j.id) s = .next
          ((s.markBank from' (ptrOff j.srcPiece.1) (2 * j.id) (j.srcPiece.2 == 128) false).setCopy r j.id (fun _ =>
            some (j.took (bytes place) [])))) ∧
      (j.stage = 2 → j.piece false ≠ [] → exec (.copyRow r j.id) s = .next (s.writePiece r j (j.piece false))) ∧
      (j.stage = 2 → j.piece false = [] → exec (.copyRow r j.id) s = .next (s.endRow r j)))

/-- R242, R423, R281: a store to a tile's SRAM writes its own bytes and no other byte of any memory; each barrier of another tile that
watches some of them goes down by their number, or to zero with its overflow; and a unit written whole is poisoned no more. -/
def Obligations.StoredBytesAlone : Prop :=
  ∀ (s t : State) (from' r : TileRef) (off : Nat) (bs : List Byte), Memory.wf s.mem = true → meetsMailbox off bs.length = false →
    s.bankWrite from' r off bs false = some t →
    (∀ a, Memory.get t.mem a =
      if memKey .sram r off ≤ a ∧ a < memKey .sram r off + bs.length then bs.getD (a - memKey .sram r off) 0 else Memory.get s.mem a) ∧
    t.poison = s.poison.filter (fun k => k != memKey .sram r (off / 8 * 8)) ∧ (from' = r → t.nodes = s.nodes) ∧
    (∀ q, q ≠ r → t.tile q = s.tile q) ∧
    (from' ≠ r → (s.tile r).pending = [] → ∀ b, b < 32 →
      let x := (s.tile r).barrier b
      let y := (t.tile r).barrier b
      let n := if x.cfg.getLsbD 63 then min (off + bs.length) (wfld x.cfg 24 24 + 1) - max off (wfld x.cfg 0 24) else 0
      y.count.toNat = x.count.toNat - n ∧ y.ovf = (x.ovf || decide (x.count.toNat < n)) ∧ y.cfg = x.cfg)

/-! ## The matrix engine at work -/

/-- R271, R272, R275, R435: A SET RUNS. A Ready set swaps in when the engine is idle: its operation, its owner, its error by the
checks of its swap-in, and the wall cycle of its completion by its nest and its node's throttle factor; the shadow set is free
again. A completed operation leaves the engine idle: one refused at its swap-in has changed neither weights nor accumulators nor
memory, and one whose passes all succeeded has their writes, and its array where it is a `LOADW`; in both the owner's DONE counts
up and ERR holds the code. An operation whose cycle has not come, or whose owner's earlier accesses have not been performed, does
not complete. The moments of its reads and writes (log entry 37), of the words a stochastic drain pops (log entry 109), and the
flags of a chunk with NaN and infinities (log entry 111) are the model's own. That the factor of the swap-in counts is the model's
reading (log entry 77). -/
def Obligations.EngineRuns : Prop :=
  ∀ (s v : State) (r : TileRef) (slot seq ser n : Nat) (fl : BitVec 7) (o : ActiveOp),
    let t := s.tile r
    let set := t.shadow
    let code := (t.resolveCode slot (setFormat set)).getD 0
    let bits := ((elemFmt t.fmt code).map ElemFmt.bits).getD 8
    let f := max 1 (s.node r.node).pwrstat.toNat
    let c := t.ctx o.slot
    let due := t.op = some o ∧ o.halted = false ∧ o.finish ≤ t.wall + 1 ∧ s.engineFree r o = true
    let told := o.orphan = false ∧ o.slot < 8 ∧ c.serial = o.serial ∧ t.psstat.getLsbD (48 + o.slot) = false
    (t.pending = [] → t.shadowSt = .ready slot seq ser → t.op = none → Gives (.shadowSwapIn r) s (fun u =>
      (u.tile r).active = set ∧ (u.tile r).shadowSt = .free ∧ u.mem = s.mem ∧
        ∃ o, (u.tile r).op = some o ∧ o.slot = slot ∧ o.serial = ser ∧ o.kind = BitVec.ofNat 3 ((setReg set .mctl).toNat % 8) ∧
          o.passes = 0 ∧ o.err = BitVec.ofNat 4 (t.engineErr slot set) ∧
          o.finish = t.wall + engineTime set code bits (t.engineErr slot set) f)) ∧
    (due → told → o.err ≠ 0 → o.err ≠ 4 → Gives (.engineComplete r) s (fun w =>
      let u := w.tile r
      u.op = none ∧ (u.ctx o.slot).done = c.done + 1 ∧ (u.ctx o.slot).err = o.err ∧ w.mem = s.mem ∧ u.weights = t.weights ∧ u.acc = t.acc)) ∧
    (due → told → o.err = 0 → s.runEngine r o none (setPasses t.active) = (v, n, 0, fl) → Gives (.engineComplete r) s (fun w =>
      let u := w.tile r
      u.op = none ∧ (u.ctx o.slot).done = c.done + 1 ∧ (u.ctx o.slot).err = 0 ∧ w.mem = v.mem ∧ u.weights = (v.tile r).weights ∧
        u.acc = (v.tile r).acc ∧ (o.kind = 1 → u.wval = true ∧ u.wtag = o.fmt))) ∧
    (t.op = some o → (t.wall + 1 < o.finish ∨ s.engineFree r o = false) → exec (.engineComplete r) s = .next s)

/-! ## The fold unit, the walker and pages between nodes -/

/-- R297, R299, R300, R302, R305 to R307, R309, R311 to R314, R319: THE STEPS OF THE FOLD UNIT AND THE WALKER. (1) The operation
at the head of the store queue, with every write ahead of it performed and a place free, enters the unit. (2) A row of an `FLDK` is
read from the page its position names into the tile register; a page that is not there, or in error, stops the transfer with the
position, the page's state and the rows done. (3) A row of an `FAPP` up to the readable end is written to the page its position
names; one past it ends the transfer, its view marked. (4) A walk that resolves a resident page enters it in the TLB. (5) A
finished transfer leaves the unit. (6) At its instant `FFREE` removes its sequence, or fails with `FOLD_PERM` where there is none;
`FFORK` and `FTRUNC` leave what the fork and the truncation give; `FHINT` treats its pages, waits until the other nodes have
answered for each that is to move, moves them, or none of them where one is refused, and ends once all have their new state. (7) A
compressed page is promoted into a free frame. What a truncation does without a free frame (log entry 31), a hint of which another
node refuses a page (log entry 121), the `FFREE` that waits for a transfer (log entry 130) and the page state 0 of one without a
sequence (log entry 65) are the model's own. That a row moves at one instant is the model's own (log entry 59). -/
def Obligations.FoldUnitWorks : Prop :=
  ∀ (s s1 : State) (c : CtxRef) (r : TileRef) (e : QEntry) (q : FoldReq) (j : FoldJob) (v : View) (p : TileRef × Nat) (i : BitVec 5)
    (n k d pd st : Nat) (cause : Cause),
    let x := s.ctx c
    let t := s.tile (tileOf c)
    let u := s.tile r
    let n' := j.rowBytes
    let off := u.rowOff j
    let pos := ptrPos j.req.opa + j.req.rowsDone
    let at' := setPos j.req.opa pos
    let runs := u.fold.find? (fun m => m.id == j.id) = some j ∧ u.mayRun j = true
    let row := runs ∧ u.viewOf j.req.opa = some v ∧ (j.rows ≤ j.req.rowsDone + 1 → s.behindAll r j = true)
    let op := runs ∧ s.behindAll r j = true
    let hint := op ∧ j.req.fn = 5 ∧ j.req.shape.isSome = true
    let ms := j.pages.filterMap (fun d => (s.node r.node).mover (fun x => x.1 == d && [1, 2, 4, 6, 8, 9, 10].contains x.2.2))
    let answered := ms.any (fun x => x.2.2 == 1 || x.2.2 == 9) = false
    let granted := ms.filter (fun x => x.2.2 == 8 || x.2.2 == 10)
    let goes := op ∧ s.givesWay r j = false ∧ s.recordsBad r.node j.req = false
    let seq := keySeq j.req.opa
    let vi := ptrHandle j.req.opa % 32
    let job : FoldJob := ⟨e.id, x.tf && decide (x.trapSeq ≤ e.seq / 256), c.slot, x.serial, e.fpc, e.seq,
      { q with shape := if q.fn < 2 then some (x.shape q.treg) else none }, false,
      x.badQueue.contains e.id, []⟩
    let view := (u.views[i.toNat]?).getD default
    let written := s1.writeRange r p.1 p.2 (s1.readBytes .treg r off n') (fun _ => false)
    (x.headOf .store = some e → e.op = .fold q → x.writesAhead e.id = true → (t.fold.filter t.inUnit).length < 8 →
      exec (.foldDispatch c) s = .next ((s.modTile (tileOf c) (fun t => { t with fold := insertJob job t.fold })).leaveQueue c e.id)) ∧
    (row → j.req.fn = 0 → j.spoilt = false → s.findRead r v j.req.opa pos j.id false = .ok (some p, st, s1) →
      (s1.poisonIn .sram p.1 p.2 n' = false → exec (.foldRow r j.id) s = .next
        (((s1.writeBytes .treg r off (s1.readBytes .sram p.1 p.2 n')).healWhole .treg r off n').rowDone r j (j.req.rowsDone + 1))) ∧
      (s1.poisonIn .sram p.1 p.2 n' = true → exec (.foldRow r j.id) s = .next (s.stopJob r j .ue at' st j.req.rowsDone))) ∧
    (row → j.req.fn = 0 → s.findRead r v j.req.opa pos j.id false = .error (cause, st) →
      exec (.foldRow r j.id) s = .next (s.stopJob r j cause at' st j.req.rowsDone)) ∧
    (row → j.req.fn = 1 → pos ≤ s.efw r.node (s.rootOf r.node v) → s.findWrite r v j.req.opa pos true = .ok (p, st, s1) →
      j.spoilt = false → s1.poisonIn .treg r off n' = false → written.2 = 0 → exec (.foldRow r j.id) s = .next
        ((written.1.growTo r.node v (pos + 1)).rowDone r j (j.req.rowsDone + 1))) ∧
    (row → j.req.fn = 1 → pos ≤ s.efw r.node (s.rootOf r.node v) → s.findWrite r v j.req.opa pos true = .error (cause, st) →
      exec (.foldRow r j.id) s = .next (s.stopJob r j cause at' st j.req.rowsDone)) ∧
    (row → j.req.fn = 1 → s.behindAll r j = true → s.efw r.node (s.rootOf r.node v) < pos →
      (∀ o, s.findSeq r.node v.seqId.toNat = some o → recRo (s.foldRec r.node o) = false) → exec (.foldRow r j.id) s = .next
        ((s.modTile r (fun t => { t with
          views := t.views.setIfInBounds vi ({ (t.views[vi]?).getD default with cut := true } : View) })).rowDone r j j.rows)) ∧
    (view.opened = true → (s.walk r.node view.seqId.toNat view.layer.toNat view.head.toNat k).pd = some pd →
      s.pdState r.node pd = stResident ∨ s.pdState r.node pd = stShared →
      exec (.foldWalk r i k) s = .next (s.modTile r (fun t => t.enterTlb i.toNat k pd)) ∧
        (u.enterTlb i.toNat k pd).tlb.find? (fun x => x.view == i.toNat && x.page == k) = some ⟨i.toNat, k, pd⟩) ∧
    (u.fold.find? (fun m => m.id == k && m.finished) = some j →
      let left := (s.setJob r k (fun _ => none)).releaseRetained r.node
      exec (.foldTransferComplete r k) s = .next (if j.req.fn = 1 then left.modTile r Tile.settlePend else left)) ∧
    (goes → j.req.fn = 4 → (s.findSeq r.node seq).isSome = true →
      s.freeWaits r j = false →
      exec (.foldRecordOp r j.id) s = .next ((s.removeSeq r.node seq).opDone r j)) ∧
    (goes → j.req.fn = 4 → s.findSeq r.node seq = none → exec (.foldRecordOp r j.id) s = .next (s.opFails r j .foldPerm 0)) ∧
    (goes → j.req.fn = 2 → s.forkSeq r.node seq (keyFork j.req.opa) (ctlTie j.req.opb) j.req.tree = .ok s1 →
      exec (.foldRecordOp r j.id) s = .next (s1.opDone r j)) ∧
    (goes → j.req.fn = 3 → s.truncSeq r.node seq (keyLen j.req.opa) (fun l h _ => if s.readersBelow r.node seq s.ids
        then some ⟨seq, l, h, 0, 0, s.ids, keyLen j.req.opa⟩ else none) = .ok s1 →
      exec (.foldRecordOp r j.id) s = .next (s1.opDone r j)) ∧
    (op → j.req.fn = 5 → u.viewOf j.req.opa = some v → j.req.shape = none → ∀ ds, s.hintPages r j v = .ok (s1, ds) →
      exec (.foldRecordOp r j.id) s = .next
        (s1.setJob r j.id (fun i => some { i with pages := ds, req := { i.req with shape := some 1 } }))) ∧
    (hint → ¬answered → exec (.foldRecordOp r j.id) s = .next s) ∧
    (hint → answered → ∀ x, ms.find? (fun x => x.2.2 == 4) = some x → exec (.foldRecordOp r j.id) s =
      .next ((ms.foldl (fun s x => s.undoMove r.node x) s).opFails r j .foldNomem (s.pdState r.node x.1))) ∧
    (hint → answered → ms.find? (fun x => x.2.2 == 4) = none → granted ≠ [] → exec (.foldRecordOp r j.id) s =
      .next (granted.foldl (fun s x => s.commitMove r.node x) s)) ∧
    (hint → ms = [] → exec (.foldRecordOp r j.id) s = .next (s.opDone r j)) ∧
    (s.pdState n d = stCompressed → s.rangePoisoned ⟨n, s.pdTile n d⟩ (s.pdOff n d) (64 * s.pdClen n d) = false →
      (s.takeFrame n).isSome = true → ∃ u, s.promotePage n d = .ok u ∧ exec (.pagePromotion n d) s = .next u)

/-- R297, R298, R314, R402: a page moves between nodes in three messages and the sender's descriptor keeps it until the last: an offer is
accepted where there is room, its data follows once its hint has every page accepted and is written into the frame, and a move complete makes the sender's
page remote; a fetch of a page that is here is answered with its data; a refusal leaves the page as it was; a release drops one
reference. That a poisoned unit moves without its mark is the model's own (log entry 126). -/
def Obligations.PagesTravel : Prop :=
  ∀ (s : State) (m : FoldMsg) (e k dst : Nat) (y : State),
    let n := m.dest
    let data := s.readBytes .sram ⟨n, s.pdTile n m.rpd⟩ (s.pdOff n m.rpd) 32768
    let u := fun (e : Event) => arrived s e
    let offer := u (.foldOfferMsg m)
    let data' := u (.foldPageDataMsg m)
    (OnItsWay s (.foldReleaseMsg m) → exec (.foldReleaseMsg m) s = .next ((u (.foldReleaseMsg m)).pdDec n m.rpd)) ∧
    (OnItsWay s (.foldFetchMsg m) → s.pdState n m.rpd = stResident → exec (.foldFetchMsg m) s = .next
      (((u (.foldFetchMsg m)).modNode n (fun x => { x with movers := x.movers ++ [(m.rpd, m.src, 5)] })).post n
        (.foldPageDataMsg ⟨m.src, n, m.lpd, m.rpd, data⟩))) ∧
    (OnItsWay s (.foldOfferMsg m) → (s.node n).fold = none → exec (.foldOfferMsg m) s =
      .next (offer.post n (.foldRefuseMsg ⟨m.src, n, m.lpd, 0, []⟩))) ∧
    (OnItsWay s (.foldOfferMsg m) → (s.node n).fold.isSome = true → offer.roomForPage n 1 m.src m.lpd = some (e, y) →
      exec (.foldOfferMsg m) s = .next ((y.modNode n (fun x => { x with movers := x.movers ++ [(e, m.src, 3)] })).post n
        (.foldAcceptMsg ⟨m.src, n, m.lpd, e, []⟩))) ∧
    (OnItsWay s (.foldAcceptMsg m) → (s.node n).mover (fun x => x.1 == m.rpd && x.2.2 == 1) = some (m.rpd, dst, 1) →
      exec (.foldAcceptMsg m) s = .next
        (((u (.foldAcceptMsg m)).setMover n (m.rpd, dst, 1) (some (m.rpd, m.lpd, 8))).setFoldRec n (pdPlace m.rpd + 8)
          (mkPd1 m.src m.lpd 0))) ∧
    (s.commitMove n (m.rpd, e, 8) = (s.setMover n (m.rpd, e, 8) (some (m.rpd, e, 2))).post n
      (.foldPageDataMsg ⟨s.pdNode n m.rpd, n, e, m.rpd, data⟩)) ∧
    (OnItsWay s (.foldRefuseMsg m) → (s.node n).mover (fun x =>
        (x.1 == m.rpd && (x.2.2 == 1 || x.2.2 == 3 || (x.2.2 == 5 && x.2.1 == m.src))) || (x.2.1 == m.rpd && (x.2.2 == 0 || x.2.2 == 9))) =
        some (m.rpd, dst, 1) →
      exec (.foldRefuseMsg m) s = .next
        (((u (.foldRefuseMsg m)).setMover n (m.rpd, dst, 1) (some (m.rpd, 0, 4))).settleMoved n m.rpd)) ∧
    (OnItsWay s (.foldPageDataMsg m) → (s.node n).mover (fun x =>
        (x.1 == m.rpd && x.2.2 == 3) || (x.2.1 == m.rpd && (x.2.2 == 0 || x.2.2 == 9))) = some (m.rpd, dst, 3) →
      exec (.foldPageDataMsg m) s = .next (((data'.writeBytes .sram ⟨n, s.pdTile n m.rpd⟩ (s.pdOff n m.rpd) (m.data.take 32768)).healWhole
        .sram ⟨n, s.pdTile n m.rpd⟩ (s.pdOff n m.rpd) 32768).setMover n (m.rpd, dst, 3) (some (m.rpd, dst, 7)))) ∧
    ((s.node n).mover (fun x => x.1 == k && (x.2.2 == 6 || x.2.2 == 7)) = some (k, dst, 7) → exec (.pageMoveComplete n k) s = .next
      ((((s.setMover n (k, dst, 7) none).setFoldRec n (pdPlace k + 8) 0).settleMoved n k).post n
        (.foldMoveCompleteMsg ⟨s.pdNode n k, n, s.pdRpd n k, k, []⟩))) ∧
    (OnItsWay s (.foldMoveCompleteMsg m) →
      (s.node n).mover (fun x => x.1 == m.rpd && (x.2.2 == 2 || (x.2.2 == 5 && x.2.1 == m.src))) = some (m.rpd, dst, 2) →
      s.pdRelp n m.rpd = false → exec (.foldMoveCompleteMsg m) s = .next (
        let t := (u (.foldMoveCompleteMsg m)).setMover n (m.rpd, dst, 2) none
        (t.giveFrame n (frameAt (t.region n) (t.pdTile n m.rpd) (t.pdOff n m.rpd))).setPdState n m.rpd stRemote))

/-! ## Locks at their home -/

/-- R321, R327 to R329, R331, R334, R335, R338 to R341: THE MESSAGES OF THE CROOK AND WHAT THEY DO. The messages of a context to a home are
taken in the order they were sent. (1) A request or a try with no waiter before it and no incompatible holder is granted on arrival and
answered with its mode. (2) A try against an incompatible holder is answered CONFLICT, and no object changes. (3) An upgrade compatible with
the other holders replaces the task's mode. (4) A release and a withdrawal end the task's claim. (5) A query is answered from the object,
with the asker's own mode added where the answer arrives. (6) A status ends the wait it answers, or gives an `LKTRY` its value; a grant
makes the entry held in the mode granted; a refusal removes a pending entry and leaves a held one, but for NOHOME, which removes it too;
the destination takes the status. (7) A wound reaches its task: one that runs keeps its locks until its
boundary, one that waits for any lock ends its wait with WOUNDED and gives its locks up. (8) Locks held 4 µs after a wound are released, and not before.
(9) An object in error is cleared, its holders and waiters on their way to a wound, the other objects as they were. Which request an answer that crossed a link belongs to is
the model's reading (log entry 120). -/
def Obligations.LocksAreServed : Prop :=
  ∀ (s : State) (m : CrookMsg) (c : CtxRef) (n : Nat) (w : Word) (d : Dst) (old : Claim) (l : Landing) (v : Word) (b' : Nat),
    let h := s.node m.dest
    let o := h.lockObj m.name
    let q : Claim := ⟨m.ctx, m.tick, m.mode, h.arrivals, false, m.id⟩
    let others := o.holders.filter (fun x => x.ctx != m.ctx)
    let x := s.ctx m.ctx
    let y := s.ctx c
    let answer := fun (u : State) (v : Word) => u.post m.dest (.crookStatusMsg ⟨m.ctx.node, m.mode, m.ctx, m.name, m.tick, v, m.id⟩)
    let count := fun (u : State) => u.modNode m.dest (fun x => { x with arrivals := x.arrivals + 1 })
    let keep := fun (u : State) (e : Event) => u.mem = s.mem ∧ u.net = s.net.erase e ∧ u.packets = s.packets
    let grants := fun (e : Event) (i : Instr) => FirstAsk s e → o.queue = [] → o.holders.all (fun x => h.compat m.mode x.mode) = true →
      h.roomHolder o = true → ∃ u, exec i s = .next (answer u (lockStatus 0 (modeCode m.mode))) ∧ keep u e ∧
        (u.node m.dest).lockObj m.name = ⟨m.name, o.holders ++ [q], []⟩ ∧
        (∀ y, y ≠ m.name → (u.node m.dest).lockObj y = h.lockObj y)
    let mine := fun (id : Nat) => m.tick = x.tick % 2 ^ 56 ∧ (m.id = 0 ∨ id % 65536 = m.id % 65536)
    let noTry := x.landings.all (fun l => l.kind != .lockTry m.name) = true
    let stat := wfld m.result 60 4
    let answered := x.wait = .lock m.name d ∧ mine x.waitSeq
    let ends := answered ∧ stat = 0
    let told := fun (t : State) => keep t (.crookStatusMsg m) ∧ (t.ctx m.ctx).wait = .none ∧
      (∀ k : BitVec 5, d = .reg k → k.toNat < 16 → x.st ≠ .saved → (t.ctx m.ctx).regE k.toNat = m.result)
    let names := y.grants
    grants (.crookAcquireMsg m) (.crookAcquireMsg m) ∧ grants (.crookTryMsg m) (.crookTryMsg m) ∧
    (FirstAsk s (.crookTryMsg m) → o.holders.all (fun x => h.compat m.mode x.mode) = false →
      exec (.crookTryMsg m) s = .next (answer (count (arrived s (.crookTryMsg m))) (lockStatus 1 7))) ∧
    (FirstAsk s (.crookUpgradeMsg m) → o.holders.find? (fun x => x.ctx == m.ctx) = some old →
      others.all (fun x => h.compat m.mode x.mode) = true →
      ∃ u, exec (.crookUpgradeMsg m) s = .next (answer u (lockStatus 0 (modeCode m.mode))) ∧ keep u (.crookUpgradeMsg m) ∧
        (u.node m.dest).lockObj m.name = ⟨m.name, others ++ [q], o.queue⟩) ∧
    (FirstAsk s (.crookReleaseMsg m) → o.queue = [] → Gives (.crookReleaseMsg m) s (fun t =>
      keep t (.crookReleaseMsg m) ∧ (t.node m.dest).lockObj m.name = ⟨m.name, others, []⟩)) ∧
    (FirstAsk s (.crookWithdrawMsg m) → o.queue = [old] → old.ctx = m.ctx → Gives (.crookWithdrawMsg m) s (fun t =>
      keep t (.crookWithdrawMsg m) ∧ (t.node m.dest).lockObj m.name = ⟨m.name, o.holders, []⟩)) ∧
    (FirstAsk s (.crookQueryMsg m) → exec (.crookQueryMsg m) s = .next ((arrived s (.crookQueryMsg m)).post m.dest
      (.crookQueryResultMsg ⟨m.ctx.node, .is, m.ctx, m.name, m.tick, lockQuery o, m.id⟩))) ∧
    (OnItsWay s (.crookQueryResultMsg m) → m.ctx.slot < 8 → x.landings = [l] → l.kind = .lockQuery → l.addr = m.name →
      l.value = none → mine l.id → Gives (.crookQueryResultMsg m) s (fun t =>
        keep t (.crookQueryResultMsg m) ∧ (t.ctx m.ctx).landings = [l.deliver (m.result &&& 0xFFFFFFFFFFFFFFF8 ||| BitVec.ofNat 64
          (match x.holds m.name with
            | some y => modeCode y
            | none => 7))])) ∧
    (OnItsWay s (.crookStatusMsg m) → m.ctx.slot < 8 → noTry → ends → x.lockEntry m.name = none →
      Gives (.crookStatusMsg m) s (fun t => told t ∧ (t.ctx m.ctx).locks = x.locks)) ∧
    (∀ k p, OnItsWay s (.crookStatusMsg m) → m.ctx.slot < 8 → noTry → ends → x.lockEntry m.name = some ⟨m.name, k, p⟩ →
      Gives (.crookStatusMsg m) s (fun t => told t ∧ (t.ctx m.ctx).holds m.name = some (modeOfCode (wfld m.result 57 3)))) ∧
    (∀ k p, OnItsWay s (.crookStatusMsg m) → m.ctx.slot < 8 → noTry → answered → stat ≠ 0 → x.lockEntry m.name = some ⟨m.name, k, p⟩ →
      Gives (.crookStatusMsg m) s (fun t => told t ∧
        (t.ctx m.ctx).lockEntry m.name = if p = true ∨ stat = 4 then none else some ⟨m.name, k, p⟩)) ∧
    (OnItsWay s (.crookStatusMsg m) → m.ctx.slot < 8 → x.landings = [l] → l.kind = .lockTry m.name → l.value = none → mine l.id →
      (x.lockEntry m.name).isSome = true → Gives (.crookStatusMsg m) s (fun t =>
        keep t (.crookStatusMsg m) ∧ (t.ctx m.ctx).landings = [l.deliver m.result] ∧ (t.ctx m.ctx).locks = x.locks)) ∧
    (OnItsWay s (.crookWoundMsg m) → exec (.crookWoundMsg m) s =
      .next ((arrived s (.crookWoundMsg m)).send (.woundDelivery m.ctx m.name))) ∧
    (OnItsWay s (.woundDelivery c w) → c.slot < 8 → y.st = .running → y.locks ≠ [] → y.wound = none →
      Gives (.woundDelivery c w) s (fun t =>
        keep t (.woundDelivery c w) ∧ (t.ctx c).wound = some w ∧ (t.ctx c).locks = y.locks)) ∧
    (OnItsWay s (.woundDelivery c w) → c.slot < 8 → y.st = .waiting → y.locks ≠ [] → y.wait = .lock v d →
      Gives (.woundDelivery c w) s (fun t => (t.ctx c).wait = .none ∧ (t.ctx c).locks = [] ∧ t.mem = s.mem ∧
        (∀ k : BitVec 5, d = .reg k → k.toNat < 16 → (t.ctx c).regE k.toNat = lockStatus 2 7))) ∧
    (c.slot < 8 → y.woundLate (s.tile (tileOf c)).wall = true → Gives (.woundReleaseTimeout c) s (fun t =>
      (t.ctx c).locks = [] ∧ (names = [] → (t.ctx c).queue = y.queue) ∧
        (names ≠ [] → ∃ e, (t.ctx c).queue = y.queue ++ [e] ∧ e.op = .release names))) ∧
    (y.woundLate (s.tile (tileOf c)).wall = false → exec (.woundReleaseTimeout c) s = .next s) ∧
    (∃ b, b < 64 ∧ exec (.crookUe n w) s = .next ({ s with free := s.free + 1 }.clearLock n w b)) ∧
    (let t := s.clearLock n w b'
     let c := (s.node n).lockObj w
     (t.node n).lockObj w = ⟨w, [], []⟩ ∧ (∀ x, x ≠ w → (t.node n).lockObj x = (s.node n).lockObj x) ∧ t.mem = s.mem ∧
       ∀ q ∈ c.holders ++ c.queue, q.ctx.node = n → OnItsWay t (.crookWoundMsg ⟨n, .is, q.ctx, w, q.tick, w, 0⟩))

/-! ## Saves -/

/-- R377, R378, R381, R391, R392, R396, R434: THE COMMANDS OF `PSCTL` AND A SAVE'S STEPS. (1) A command while one is in progress
is refused with ERR, and changes nothing else. (2) A save of contexts that are all Ready, Running or Waiting is accepted and busy,
with those to halt; one that names another slot is refused. (3) Resumption in place of a slot without a saved context or without a
valid record is refused; a context whose record is whole comes back Ready with its saved bit clear, and no other slot changes. (4)
Resumption from another tile is refused where the tile is this one or a context may not move, and else moves the record and resumes
it. (5) The request of a save halts the named context that is Ready or Waiting, and leaves `PREEMPT` pending in the one that runs.
(6) A save with none left to halt, whose contexts are quiet, completes with DONE, no longer busy, with the record of its context
valid; one that still has contexts to halt does not complete. A context that halts is Saved, out of the save's list, with STATE in
its record; its results go into records, or under a live frame into their registers, and a wound that stands against it releases
its locks. A move copies the record, the extension and the images of spill and tile registers, leaves the source slot reset, and
renames the context for its children. A node in recovery takes no command. What a resumption takes back of fields that other agents
change is the model's own (log entry 16). STATE at the halt and the refusals of a resumption are the model's readings (log entries
82, 84). -/
def Obligations.SavesAreTaken : Prop :=
  ∀ (s : State) (r : TileRef) (w : Word) (k : Nat) (o : SaveOp),
    let t := s.tile r
    let me : CtxRef := ⟨r.node, r.tile, k⟩
    let refused := fun (u : State) => (u.tile r).psstat = t.psstat ||| psErr ∧ (u.tile r).save = t.save ∧ (u.tile r).ctxs = t.ctxs ∧
      u.mem = s.mem
    let up := (s.node r.node).answers = true
    let busy := up ∧ t.psstat.getLsbD 63 = true
    let idle := up ∧ t.psstat.getLsbD 63 = false
    let c := t.ctx k
    let src : TileRef := ⟨r.node, cmdSrct w⟩
    let old : CtxRef := ⟨r.node, cmdSrct w, k⟩
    (¬up → exec (.psctlSave r w) s = .next s ∧ exec (.psctlResumeInPlace r w) s = .next s ∧ exec (.psctlResumeFromTile r w) s = .next s) ∧
    (busy → Gives (.psctlSave r w) s refused ∧ Gives (.psctlResumeInPlace r w) s refused ∧ Gives (.psctlResumeFromTile r w) s refused) ∧
    (idle → cmdTile w = false → (maskSlots (cmdCtx w)).all (fun j => (t.ctx j).savable) = true → cmdCtx w ≠ 0 →
      Gives (.psctlSave r w) s (fun u =>
        (u.tile r).psstat = setFld (t.psstat ||| psBusy) 16 16 0 ∧ (u.tile r).ctxs = t.ctxs ∧ u.mem = s.mem ∧
          (∃ q, (u.tile r).save = some q ∧ q.word = setFld w 62 2 1 ∧ q.toHalt = cmdCtx w ∧ q.accepted = t.wall))) ∧
    (idle → cmdTile w = false → (maskSlots (cmdCtx w)).any (fun j => !(t.ctx j).savable) = true → Gives (.psctlSave r w) s refused) ∧
    (idle → cmdTile w = false → (maskSlots (cmdCtx w)).any (fun j =>
        !(t.savedBit j && (t.ctx j).st == .saved && (s.recWord ⟨r.node, r.tile, j⟩ 0).getLsbD 63)) = true →
      Gives (.psctlResumeInPlace r w) s refused) ∧
    (idle → cmdTile w = false → maskSlots (cmdCtx w) = [k] → t.savedBit k = true → (t.ctx k).st = .saved →
      (s.recWord me 0).getLsbD 63 = true → s.recordPoisoned me = false → (s.recWord me 0).getLsbD 60 = false →
      (s.recWord me 0).getLsbD 62 = false → Gives (.psctlResumeInPlace r w) s (fun u =>
        (u.tile r).psstat.getLsbD 62 = true ∧ (u.tile r).savedBit k = false ∧ (u.ctx me).st = .ready ∧ (u.ctx me).resume.isSome = true ∧
          ∀ j, j ≠ k → (u.tile r).ctx j = t.ctx j)) ∧
    (idle → cmdTile w = false → (cmdSrct w = r.tile ∨ (maskSlots (cmdCtx w)).any (fun j => !s.mayMove r (cmdSrct w) j) = true) →
      Gives (.psctlResumeFromTile r w) s refused) ∧
    (idle → cmdTile w = false → cmdSrct w ≠ r.tile → maskSlots (cmdCtx w) = [k] → s.mayMove r (cmdSrct w) k = true →
      exec (.psctlResumeFromTile r w) s = .next (((s.moveCtx r (cmdSrct w) k).tryResume me).modTile r (fun t =>
        { t with psstat := t.psstat ||| psDone }))) ∧
    (t.save = some o → cmdTile o.word = false → maskSlots o.toHalt = [k] → (s.ctx me).st = .running →
      Gives (.preemptHalt r) s (fun u => (u.ctx me).preempt = true ∧ (u.ctx me).st = .running ∧ (u.tile r).save = some o ∧ u.mem = s.mem)) ∧
    (t.save = some o → cmdTile o.word = false → maskSlots o.toHalt = [k] → (s.ctx me).st = .ready →
      exec (.preemptHalt r) s = .next (s.haltCtx me 1)) ∧
    (t.save = some o → cmdTile o.word = false → maskSlots o.toHalt = [k] → (s.ctx me).st = .waiting →
      exec (.preemptHalt r) s = .next (s.haltCtx me 2)) ∧
    (∀ j, k < 8 → t.save = some o → maskSlots o.toHalt = [k] →
      let u := s.haltCtx me j
      let d := u.ctx me
      d.st = .saved ∧ d.preempt = false ∧ (u.tile r).save = some { o with toHalt := 0, halted := some (o.halted.getD t.wall) } ∧
        (Memory.wf s.mem = true → u.recWord me 0 = BitVec.ofNat 64 (j * 2 ^ 56)) ∧ (c.wound.isSome = true → d.locks = []) ∧
        (c.tf = false → c.resume = none → d.results = [] ∧ d.waitEnd = (j != 3 || c.blockStart || c.closing) ∧
          (∀ i, i ≠ k → (u.tile r).ctx i = t.ctx i) ∧
          (c.wound = none → d.a = c.a ∧ d.m = c.m ∧ d.e = c.e ∧ d.v = c.v ∧ d.p = c.p ∧ d.k = c.k ∧ d.locks = c.locks)) ∧
        (c.tf = true → d.nest = true ∧ d.results = [] ∧ d.entering = some (t.core, t.wall))) ∧
    (k < 8 → src.tile ≠ r.tile →
      let u := s.moveCtx r src.tile k
      let there := s.tile src
      let copied := fun (base n : Nat) => ∀ i < n, u.readByte .sram r (base + i) = s.readByte .sram src (base + i)
      u.ctx old = Ctx.reset ∧ (u.tile src).savedBit k = false ∧ (u.tile r).savedBit k = true ∧
        u.ctx me = { s.ctx old with parent := (s.ctx old).parent.map (fun p => if p = old then me else p) } ∧
        (Memory.wf s.mem = true → copied (ctxRecBase k) 0x2000 ∧ copied (extBase k) 0x4000 ∧
          (k < there.nsl → copied (spillImage k there.spillShare) there.spillShare) ∧
          copied (tregImage k 0 there.nsl) (there.tregShare * 0x4000))) ∧
    (t.save = some o → o.toHalt = 0 → cmdTile o.word = false → (t.saveSlots o).all t.quiet = true → Gives (.saveComplete r) s (fun u =>
      (u.tile r).save = none ∧ (u.tile r).psstat.getLsbD 63 = false ∧ (u.tile r).psstat.getLsbD 62 = true ∧
        (t.saveSlots o = [k] → (u.tile r).savedBit k = true))) ∧
    (t.save = some o → o.toHalt ≠ 0 → exec (.saveComplete r) s = .next s)

/-! ## Droves and generations -/

/-- R356, R358, R363, R364, R370 to R375, R434: DROVES AND GENERATIONS. (1) A new drove whose manifest is good, signed by a key of
the node, with its tile state, placed without a refusal and read back without an error, is written and Resident: its entry is in
force, its tiles are its own, and the bytes of the segment written last stand in its memory; one refused before the writes, or not
read back, is reported with its code, and none of it is written. (2) Removal begins by taking the bindings of the drove's streams;
a drove whose tiles are empty is withdrawn: its tiles' placement ends, their instruction memory reads as ones and the tile record
saved there is valid no more, its entry and its windows go. (3) A generation is loaded, switched to at one instant and aborted in
the states that allow it, on a node that answers; in every other state, and for an unknown command, `CMDERR` is set and nothing
else changes. (4) A standby generation all of whose segments have come is Verified if they read back without an error, and else
Failed; one whose old tag nothing carries any more is One again. (5) Segment data is kept at its place in the image. What a load of
a drove that is being removed does, and the codes of refused additions (log entry 114) are the model's own. That a load is one step
(log entry 92), how its segments give the tile state (log entry 3), and that STB keeps its number (log entry 95) are the model's
own. -/
def Obligations.DrovesComeAndGo : Prop :=
  ∀ (s : State) (n k : Nat) (im : DroveImage) (e : DroveEntry) (g : BitVec 4) (w : Word) (bs : List Byte),
    let x := s.node n
    let ts := s.droveTiles n e.drove
    let up := x.answers = true
    let ready := x.booted = true ∧ x.failed = false
    let checked := im.manifestGood = true ∧ x.signedBy im = true ∧ im.tilesSigned (x.segments im) n = true ∧ x.hasRoom im.drove = true
    let read := (s.muster n im).verify (written (x.segments im) n im.gen)
    let ripe := fun (e : DroveEntry) => e.genReady n = true
    let got := s.verify (e.coming n)
    let here := s.droveAt n k = some e
    let entry := fun (t : State) => t.droveAt n k
    let refused := fun (t : State) => entry t = some { e with cmderr := true } ∧ t.mem = s.mem ∧ (t.node n).tiles = x.tiles
    (ready → checked → x.drove im.drove = none → s.placementCode n im (x.segments im) = 0 → read.1 = true →
      exec (.droveLoad n im) s = .next (read.2.settleDrove n im (x.segments im))) ∧
    (ready → checked → x.drove im.drove = none → s.placementCode n im (x.segments im) = 0 → read.1 = false →
      exec (.droveLoad n im) s = .next (read.2.loadFails n im.drove 0)) ∧
    (x.drove im.drove = none →
      let t := s.settleDrove n im (x.segments im)
      (t.node n).drove im.drove = some (im.entry (x.segments im)) ∧ (t.node n).ldstat = ldstatOf 0 im.drove ∧
        (∀ i ∈ im.tiles, i.node = n → (t.tile ⟨n, i.tile⟩).drove = im.drove) ∧
        (∀ gs g, written (x.segments im) n im.gen = gs ++ [g] → im.foldOf n = none → Memory.wf s.mem = true →
          (g.kind = 0 → t.readBytes .imem ⟨n, g.tile⟩ (16 * g.dest) g.bytes.length = g.bytes) ∧
          (g.kind = 1 → t.readBytes .sram ⟨n, g.tile⟩ g.dest g.bytes.length = g.bytes))) ∧
    (ready → x.drove im.drove = none → ¬checked → exec (.droveLoad n im) s = .next (s.loadFails n im.drove 0)) ∧
    (ready → checked → x.drove im.drove = none → s.placementCode n im (x.segments im) ≠ 0 →
      exec (.droveLoad n im) s = .next (s.loadFails n im.drove (s.placementCode n im (x.segments im)))) ∧
    ((s.loadFails n im.drove k).mem = s.mem ∧ ((s.loadFails n im.drove k).node n).ldstat = ldstatOf k im.drove) ∧
    (here → e.st = .resident → Gives (.droveRemoval n k) s (fun t =>
      entry t = some { e with st := .removing } ∧ t.mem = s.mem ∧
        ∀ i ∈ ts, ∀ j, j < 32 → wfld ((t.tile ⟨n, i⟩).inS j).d0 63 1 = 0)) ∧
    (here → s.withdrawable n e = true → Gives (.droveWithdrawal n k) s (fun t =>
      entry t = none ∧ (∀ i ∈ ts, t.tile ⟨n, i⟩ = (s.tile ⟨n, i⟩).unplaced) ∧
        (Memory.wf s.mem = true → n < 4096 → ∀ i ∈ ts, i < 256 → (t.readWord .sram ⟨n, i⟩ saveBase).getLsbD 63 = false ∧
          ∀ a < 0x10000, t.readByte .imem ⟨n, i⟩ a = 0xFF) ∧
        (∀ y ∈ (t.node n).exports, y.drove ≠ e.drove))) ∧
    (¬up → exec (.dgcmdLoad n k g) s = .next s ∧ exec (.dgcmdSwitch n k) s = .next s ∧ exec (.dgcmdAbort n k) s = .next s ∧
      exec (.dgcmdInvalid n k w) s = .next s) ∧
    (up → here → ((e.gst = .one ∧ g ≠ e.act) ∨ (e.gst = .failed ∧ g = e.stb)) → Gives (.dgcmdLoad n k g) s (fun t =>
      entry t = some { e with stb := g, gst := .loading } ∧ t.mem = s.mem)) ∧
    (up → here → ¬((e.gst = .one ∧ g ≠ e.act) ∨ (e.gst = .failed ∧ g = e.stb)) → Gives (.dgcmdLoad n k g) s refused) ∧
    (up → here → e.gst = .verified → Gives (.dgcmdSwitch n k) s (fun t =>
      entry t = some { e with act := e.stb, stb := e.act, gst := .switched } ∧ t.mem = s.mem)) ∧
    (up → here → e.gst ≠ .verified → Gives (.dgcmdSwitch n k) s refused) ∧
    (up → here → (e.gst = .loading ∨ e.gst = .verified ∨ e.gst = .failed) → Gives (.dgcmdAbort n k) s (fun t =>
      entry t = some { e with gst := .one })) ∧
    (up → here → (e.gst = .one ∨ e.gst = .switched) → Gives (.dgcmdAbort n k) s refused) ∧
    (up → here → wfld w 0 4 ≠ 1 → wfld w 0 4 ≠ 2 → wfld w 0 4 ≠ 4 → Gives (.dgcmdInvalid n k w) s refused) ∧
    (here → ripe e → got.1 = false → Gives (.generationVerified n k) s (fun t => entry t = some { e with gst := .failed })) ∧
    (here → ripe e → got.1 = true → exec (.generationVerified n k) s =
      .next ((((recordsLast (e.coming n)).foldl State.writeSegment got.2).setGen n k { e with gst := .verified }).admitDrove n e.drove)) ∧
    (here → e.gst = .switched → s.tagCount n e.drove e.stb = 0 → Gives (.generationDrained n k) s (fun t =>
      entry t = some { e with gst := .one })) ∧
    (here → e.gst = .switched → s.tagCount n e.drove e.stb ≠ 0 → exec (.generationDrained n k) s = .next s) ∧
    (OnItsWay s (.musterSegmentMsg n k bs) → Gives (.musterSegmentMsg n k bs) s (fun t =>
      spGet [] (t.node n).muster k = bs ∧ t.mem = s.mem))

/-! ## The host -/

/-- R8, R9, R361, R364, R409 to R415, R430, R431, R434: THE NODE AND ITS HOST. (1) A write of a need record and of `SCHSTAT` takes
effect by its access code; one of a read-only or of a locked register is discarded, as is every one of a node in recovery or
failed. (2) A software interrupt and a write of `MBIN7` send their lines. (3) A supervisor's access of the region is accepted, and
performed in the order of acceptance: a read gives its dword, a write is made, and DONE is set, with ERR where the offset is not
listed or the field is locked. (4) A write of `QTAIL` within the ring, and an enable of a bound queue of at least 64 entries, take
effect, and others are refused with their code; an egress queue issues its credits when it is enabled, up to its CAP and no more
than its entries, and returns one for each entry that its `QTAIL` passes. (5) The record at the head of a queue whose turn it is
becomes a packet with status 0, or is refused and counted in NREF, with status 3 for its form, 2 for a need, 4 for a payload that
cannot be read; one for a drove that is not Resident stays, and so does that of a queue on hold. (6) A packet goes to the egress
ring, its vector signalled, or pending where it is masked. (7) A repair of a stream's credits starts where none is in progress; its
senders, host queues among them, hold, answer once they have drained, and go on with the credits that the repair gives them when
all have answered. Which payloads cannot be read and which vectors stand masked at reset (log entry 89) are the model's own. The
fields of hold messages (log entry 13), the code of a record that names another drove or does not fit its buffer (log entry 88),
and the credits of an egress queue (log entry 115) are the model's own. -/
def Obligations.HostReachesNodes : Prop :=
  ∀ (s : State) (n k src : Nat) (w v : Word) (r : TileRef) (b : QueueBinding) (p : NetPacket) (q : Resync) (c : CtxRef) (cap : Nat),
    let eg := 8192 + k
    let he := (s.node n).queue eg
    let masked := ((s.node n).msixWord (2 * he.vec + 1)).getLsbD 32
    let x := s.node n
    let h := x.queue k
    let live := x.recovery = false ∧ x.failed = false
    let t := s.tile r
    let off := wfld t.mbreq 0 26 / 8 * 8
    let wr := t.mbreq.getLsbD 62
    let first := FirstMailbox s r
    let only := fun (u : State) => u.mem = s.mem ∧ u.packets = s.packets ∧ u.net = s.net
    let own : TileRef := ⟨n, q.tile⟩
    let ws := s.ingressRecord n k
    let dest := s.tile ⟨n, b.tile⟩
    let act := ((x.drove (recDrove ws)).map (fun e => e.act)).getD 0
    let s1 := s.modNode n (fun x => { x with lastQueue := k })
    let turn := h.binding = some b ∧ h.ready = true ∧ s.heldRecord n k = false ∧ s.ingressTurn n = some k
    let formed := recGood ws = true ∧ recDrove ws = s.boundDrove n b ∧ recElen ws ≤ inBsize (dest.inS b.stream).d0
    let refused := fun (code : Nat) (u : State) => ((u.node n).queue k).head = h.head + 1 ∧ only u ∧ u.hostMem = (s.hostWrite
      (h.base.toNat + 64 * h.entries + 8 * (h.head.toNat % h.entries))
      (wordBytes (BitVec.ofNat 64 (code * 2 ^ 56 + wfld (ws.getD 0 0) 32 32)))).hostMem ∧
      wfld ((u.node n).queue k).stat 0 32 = min (2 ^ 32 - 1) (wfld h.stat 0 32 + 1)
    let tail : BitVec 16 := w.setWidth 16
    let passed := (tail - he.tail).toNat
    let credits := fun (c : Nat) => s.net ++ [Event.creditArrival ⟨n, b.tile⟩ (BitVec.ofNat 5 b.stream) c]
    let enables := he.en = false ∧ he.binding = some b ∧ w.getLsbD 63 = true ∧ 6 ≤ wfld w 16 4
    let named := src < unnamedNode
    (live → ∀ i j, i < 256 → j < 16 → Gives (.registerWrite n (BitVec.ofNat 26 (0x100000 + 0x1000 * i + 8 * j)) w) s (fun u =>
      ((u.tile ⟨n, i⟩).need[j]?).getD 0 = w &&& 0xFFFFFFFFF8000000 ∧ only u ∧ ∀ y, y ≠ i → u.tile ⟨n, y⟩ = s.tile ⟨n, y⟩)) ∧
    (live → ∀ i, i < 256 → Gives (.registerWrite n (BitVec.ofNat 26 (0x100000 + 0x1000 * i + 0x80)) w) s (fun u =>
      (u.tile ⟨n, i⟩).schstat = w &&& 0xFFFFFFFF00000000 ∧ only u)) ∧
    (exec (.registerWrite n 0 w) s = .next s ∧ exec (.registerWrite n 8 w) s = .next s) ∧
    (live → x.locked = true → exec (.registerWrite n 0x400 w) s = .next s) ∧
    (live → exec (.swint n w) s = .next { s with net := s.net ++ [.interruptPending ⟨n, wfld w 0 8⟩ 2] }) ∧
    (live → Gives (.mbin7Write n w) s (fun u =>
      (u.node n).mbin = x.mbin.set 7 w ∧ u.net = s.net ++ [.interruptPending ⟨n, wfld (x.mbin[0]) 0 8⟩ 1] ∧ u.mem = s.mem ∧
        u.packets = s.packets)) ∧
    (¬live → exec (.swint n w) s = .next s ∧ exec (.mbin7Write n w) s = .next s ∧ exec (.qtailWrite n k w) s = .next s ∧
      exec (.qcfgWrite n k w) s = .next s ∧ exec (.cresync n w) s = .next s) ∧
    (OnItsWay s (.mailboxAccess r w) → exec (.mailboxAccess r w) s =
      .next ((arrived s (.mailboxAccess r w)).send (.mailboxComplete r))) ∧
    (first → wr = false → barListed off = true → Gives (.mailboxComplete r) s (fun u =>
      (u.tile r).mbdata = s.barRead r.node off ∧ (u.tile r).mbreq = t.mbreq &&& 0x7FFFFFFFFFFFFFFF ∧
        (u.tile r).mbstat = t.mbstat ||| 0x8000000000000000 ∧ u.mem = s.mem)) ∧
    (first → wr = true → barListed off = true → ((s.node r.node).locked && blockLocks off) = false → exec (.mailboxComplete r) s =
      .next (((arrived s (.mailboxComplete r)).barWrite r.node off t.mbdata).modTile r (fun y => { y with
        mbreq := y.mbreq &&& 0x7FFFFFFFFFFFFFFF, mbstat := y.mbstat ||| 0x8000000000000000 }))) ∧
    (first → (barListed off = false ∨ wr = true ∧ (s.node r.node).locked = true ∧ blockLocks off = true) →
      Gives (.mailboxComplete r) s (fun u =>
        (u.tile r).mbdata = t.mbdata ∧ (u.tile r).mbreq = t.mbreq &&& 0x7FFFFFFFFFFFFFFF ∧
          (u.tile r).mbstat = t.mbstat ||| 0xC000000000000000 ∧ u.mem = s.mem)) ∧
    (live → k < 8192 → (w.setWidth 16 - h.head).toNat ≤ h.entries → Gives (.qtailWrite n k w) s (fun u =>
      (u.node n).queue k = { h with tail := w.setWidth 16 } ∧ only u ∧ (u.node n).tiles = x.tiles)) ∧
    (live → k < 8192 → h.entries < (w.setWidth 16 - h.head).toNat → Gives (.qtailWrite n k w) s (fun u =>
      (u.node n).queue k = h.refuse 2 ∧ only u)) ∧
    (live → k < 8192 → h.en = false → h.binding = some b → w.getLsbD 63 = true → 6 ≤ wfld w 16 4 → Gives (.qcfgWrite n k w) s (fun u =>
      (u.node n).queue k = { h with cfg := w &&& 0x80000000000F07FF } ∧ only u)) ∧
    (live → h.en = false → w.getLsbD 63 = true → wfld w 16 4 < 6 → Gives (.qcfgWrite n k w) s (fun u =>
      (u.node n).queue k = h.refuse 1 ∧ only u)) ∧
    (live → he.entries < (he.head - tail).toNat → Gives (.qtailWrite n eg w) s (fun u => (u.node n).queue eg = he.refuse 2 ∧ only u)) ∧
    (live → (he.head - tail).toNat ≤ he.entries → he.binding = some b → 0 < passed → he.en = true → Gives (.qtailWrite n eg w) s (fun u =>
      (u.node n).queue eg = { he with tail := tail } ∧ u.net = credits passed ∧ u.mem = s.mem ∧ u.packets = s.packets)) ∧
    (live → (he.head - tail).toNat ≤ he.entries → he.binding = some b → 0 < passed → he.en = false → Gives (.qtailWrite n eg w) s (fun u =>
      (u.node n).queue eg = { he with tail := tail, credits := he.credits - passed } ∧ only u)) ∧
    (live → enables → 2 ^ wfld w 16 4 < b.cap → Gives (.qcfgWrite n eg w) s (fun u => (u.node n).queue eg = he.refuse 3 ∧ only u)) ∧
    (live → enables → b.cap ≤ 2 ^ wfld w 16 4 → he.credits < b.cap → Gives (.qcfgWrite n eg w) s (fun u =>
      (u.node n).queue eg = { he with cfg := w &&& 0x80000000000F07FF, credits := b.cap } ∧ u.net = credits (b.cap - he.credits) ∧
        u.mem = s.mem ∧ u.packets = s.packets)) ∧
    (h.hold = true → s.heldRecord n k = false → exec (.ingressRecord n k) s = .next s) ∧
    (turn → formed → dest.overNeed = false → recInl ws = true ∨ recElen ws = 0 →
      exec (.ingressRecord n k) s = .next ((s1.ingressPacket n k b ws act).endRecord n k 0)) ∧
    (turn → formed → dest.overNeed = false → recInl ws = false → recElen ws ≠ 0 → exec (.ingressRecord n k) s =
      .next (let s2 := { s1 with free := s.free + 1 }
        if Config.hostError s.free then s2.endRecord n k 4 else (s2.ingressPacket n k b ws act).endRecord n k 0)) ∧
    (turn → ¬formed → Gives (.ingressRecord n k) s (refused 3)) ∧
    (turn → formed → dest.overNeed = true → Gives (.ingressRecord n k) s (refused 2)) ∧
    (h.en = true → h.tail ≠ h.head → s.heldRecord n k = true → Gives (.ingressRecord n k) s (fun u =>
      (u.node n).queue k = h ∧ u.hostMem = s.hostMem ∧ only u)) ∧
    (s.egressNext n k = some p → he.en = true → Gives (.egressPacket n k) s (fun u =>
      ((u.node n).queue eg).head = he.head + 1 ∧ u.packets = s.packets.filter (fun y => y.id != p.id) ∧ u.mem = s.mem ∧
        (masked = false → (u.node n).msix = x.msix ++ [he.vec]) ∧
        (masked = true → (u.node n).msix = x.msix ∧ he.vec ∈ (u.node n).msixPend))) ∧
    (live → x.resync = none → w.getLsbD 63 = true → Gives (.cresync n w) s (fun u =>
      (u.node n).cresync = w &&& 0x8000000000001FFF ∧ (∃ y, (u.node n).resync = some y ∧ y.tile = holdTile w ∧ y.stream = holdStream w ∧
        y.answers = []) ∧ u.mem = s.mem)) ∧
    (x.resync ≠ none → exec (.cresync n w) s = .next s) ∧
    (OnItsWay s (.holdMsg n src w) → named → s.heldSenders n src w = [c] → c.tile < 256 → c.slot < 32 → s.drained c = true →
      ∃ u : State, exec (.holdMsg n src w) s = .next (u.post n (.holdAnswerMsg src n w (BitVec.ofNat 64 c.tile))) ∧
        (u.senderOut c).hold = true ∧ (u.senderOut c).free = (s.senderOut c).free ∧ u.net = s.net.erase (.holdMsg n src w) ∧ u.mem = s.mem) ∧
    (OnItsWay s (.holdMsg n src w) → named → s.heldSenders n src w = [c] → c.tile < 256 → c.slot < 32 → s.drained c = false →
      Gives (.holdMsg n src w) s (fun u => (u.senderOut c).hold = true ∧ u.net = s.net ∧ u.mem = s.mem)) ∧
    (OnItsWay s (.holdMsg n src w) → named → s.heldSenders n src w = [c] → 256 ≤ c.tile → c.node = n →
      Gives (.holdMsg n src w) s (fun u => ((u.node n).queue (c.tile - 256)).hold = true ∧
        (s.drained c = false → u.net = s.net) ∧
        (s.drained c = true → src = n → u.net = s.net.erase (.holdMsg n src w) ++ [.holdAnswerMsg n n w (BitVec.ofNat 64 c.tile)]))) ∧
    (OnItsWay s (.holdMsg n src w) → named → s.heldSenders n src w = [] → src ≠ n →
      exec (.holdMsg n src w) s = .next (arrived s (.holdMsg n src w))) ∧
    (OnItsWay s (.holdMsg n n w) → n < unnamedNode → s.heldSenders n n w = [] →
      exec (.holdMsg n n w) s = .next ((arrived s (.holdMsg n n w)).post n (.holdAnswerMsg n n w 256))) ∧
    (s.sendersAt n own q.stream = [(c, cap)] → c.node = n →
      let u := s.endResync n q
      let free := cap - ((s.tile own).inS q.stream).holds c
      (u.node n).resync = none ∧ (u.node n).cresync = setFld x.cresync 63 1 0 ∧ u.mem = s.mem ∧
        (c.tile < 256 → u.net = s.net ++
          [.holdEndMsg n n (holdWord q.tile q.stream) (BitVec.ofNat 64 (c.tile * 256 + free))]) ∧
        (256 ≤ c.tile → (u.node n).queue (c.tile - 256) = { x.queue (c.tile - 256) with credits := free, hold := false })) ∧
    (OnItsWay s (.holdAnswerMsg n src w v) → named → x.resync = some q → q.tile = holdTile w → q.stream = holdStream w →
      q.senders = [⟨src, v.toNat, k⟩] → s.streamBusy own q.stream = false → exec (.holdAnswerMsg n src w v) s =
        .next ((arrived s (.holdAnswerMsg n src w v)).endResync n q)) ∧
    (OnItsWay s (.holdEndMsg n src w v) → named → s.heldSenders n src w = [c] → c.tile = wfld v 8 8 → c.slot < 32 →
      s.holding c = true → Gives (.holdEndMsg n src w v) s (fun u =>
      (u.senderOut c).free = wfld v 0 7 ∧ (u.senderOut c).hold = false ∧ u.mem = s.mem))

/-! ## Links, remote requests, membership -/

/-- R401 to R407, R330, R207, R234, R239, R431: MESSAGES BETWEEN NODES. (1) A flit leaves on a bundle with the next sequence
number, and is kept until it is acknowledged. (2) A flit in error asks for a replay and counts a corrected error of one of the
bundle's lanes; one in sequence is accepted and acknowledged; one that has come before brings its acknowledgement alone. An
accepted flit of a message that is not whole waits for the rest; the whole message is taken at its node, its request credit owed to
its bundle, or goes on towards it; one of a stream adds its bytes to its packet at its node, and goes on at once at another where
no other packet of its stream waits. (3) Credits and request credits go back to their senders. (4) A request that its home does not
refuse is served and answered: a load with the bytes and the mask of poisoned units, a store once written, atomics with the old
value, reductions without one; one beyond the tile, misaligned, or outside the windows of its drove is refused with status 2, 3 or
1, an unknown operation with 5. (5) The response of an access goes to its queue entry, and its request number is free: the last
bytes of a load complete its landing and its entry leaves, the entry of a store leaves, and a status other than 0 is a late fault
of the access with its cause. (6) A tick that lags a neighbour's follows it and turns the error buckets for each hour it passes,
and each tick advances by one. (7) The membership map takes a word, and the move point takes effect on the whole node: the old node
leaves its map and the new one enters it, and every output stream to the old node goes to the new one, its hold ended. The lane a
flit in error counts against (log entry 122), the mask a store's answer carries (log entry 118) and the level a home judges by (log
entry 125) are the model's own. The rule of the tick exchange is the model's reading (log entry 72), and that a message of no
stream goes on whole is its choice (log entry 71). -/
def Obligations.MessagesCrossLinks : Prop :=
  ∀ (s : State) (n b b' : Nat) (f : Flit) (ws : List Word) (q : RemoteReq) (a : RemoteResp) (k : BitVec 56) (i : BitVec 6) (w : Word)
    (c : CtxRef) (id : Nat),
    let x := s.node n
    let l := x.link b
    let old := wfld w 0 12
    let new := wfld w 12 12
    let taken := s.acceptFlit n b f
    let fs := (if f.isFirst then [] else x.part b f.part) ++ [f]
    let y := s.ctx c
    let told := s.entryResponse c id a
    let r : TileRef := ⟨q.home, q.tile⟩
    let e := Event.linkFlitReceive n b f
    let up := x.failed = false ∧ x.silent = false ∧ l.down = false ∧ l.replaying = false
    let inTile := q.offset + q.size ≤ 0xC00000 ∧ q.size ≤ 128
    let bars := fun (wr : Bool) => s.homeBars r (s.tile ⟨q.srcNode, q.srcTile⟩).drove (s.requestLevel q) q.offset q.size wr
    let granted := fun (align : Nat) (wr : Bool) => inTile ∧ q.offset % align = 0 ∧ bars wr = false
    let bad := q.pmask.getLsbD 0
    let op := atomOp (q.sub.setWidth 8 <<< 5)
    let banked := fun (e : Event) (wr : Bool) =>
      (arrived s e).markBank r q.offset (2 * (q.srcNode * 65536 + q.id) + 1) (q.size == 128) wr
    let atom := fun (e : Event) (op : AtomOp) (v : Nat) =>
      (banked e true).bankAtom ⟨q.srcNode, 256⟩ r q.offset q.size op v bad
    let respond := fun (u : State) (st : BitVec 8) (m : Nat) (bs : List Byte) => u.respond q st m bs
    (up → bundleTo (neighbour n b) n = some b' → l.resend = 0 → l.replay.length < 1024 → l.credit = [f] →
      Gives (.flitSlot n b) s (fun t =>
        let y := (t.node n).link b
        let g := f.sealed l.txSeq l.ackOut l.nakOut
        y.credit = [] ∧ y.replay = l.replay ++ [g] ∧ y.txSeq = (l.txSeq + 1) % 4096 ∧
          t.net = s.net ++ [.linkFlitReceive (neighbour n b) b' g] ∧ t.mem = s.mem)) ∧
    (up → OnItsWay s e → f.good = false → Gives (.linkFlitReceive n b f) s (fun t =>
      (t.node n).link b = { l with nakOut := true } ∧ t.mem = s.mem ∧ t.packets = s.packets ∧
        ∃ j, j < 8 ∧ t.net = s.net.erase e ++ [.correctedError n ⟨1, 0, x.bundleLane b j⟩ 0])) ∧
    (up → OnItsWay s e → f.good = true → f.ty ≠ 0 → f.lseq = l.rxSeq → exec (.linkFlitReceive n b f) s = .next (
      (((arrived s e).modLink n b (fun y => y.acked f)).modLink n b (fun y =>
        { y with rxSeq := (y.rxSeq + 1) % 4096, ackOut := some f.lseq, nakOut := false })).acceptFlit n b f)) ∧
    (up → OnItsWay s e → f.good = true → f.ty ≠ 0 → f.lseq ≠ l.rxSeq → (l.rxSeq + 4096 - f.lseq) % 4096 < 2048 → Gives (.linkFlitReceive n b f) s (fun t =>
      (t.node n).link b = l.acked f ∧ t.mem = s.mem ∧ t.packets = s.packets)) ∧
    (f.ty ≠ 1 → f.isLast = false → (taken.node n).part b f.part = fs ∧ taken.net = s.net ∧ taken.packets = s.packets ∧ taken.mem = s.mem) ∧
    (∀ g gs, f.ty ≠ 1 → f.isLast = true → fs = g :: gs → (taken.node n).part b f.part = [] ∧ taken.packets = s.packets ∧
      taken.mem = s.mem ∧
      (g.dnode = n → taken.net = s.net ++ decodeMessage n g.ty g.dtile g.mid g.bytes (gs.flatMap Flit.bytes) ∧
        ((taken.node n).link b).owed = l.owed + (if g.cls = .request then 1 else 0)) ∧
      (g.dnode ≠ n → routeBundle s n g.dnode = some b' → b' ≠ b →
        taken.net = s.net ∧ (taken.node n).link b' = (x.link b').push g.cls fs)) ∧
    (∀ p, f.ty = 1 → f.dnode = n → f.isFirst = true → s.packetOf n b f = some p →
      taken.packets = s.packets.map (fun k => if k.id = p.id then { k with wire := k.wire ++ f.bytes.drop 16, whole := f.isLast } else k) ∧
        taken.net = s.net ∧ taken.mem = s.mem) ∧
    (f.ty = 1 → f.dnode ≠ n → x.partials = [] → routeBundle s n f.dnode = some b' →
      ((taken.node n).link b').stream = (x.link b').stream ++ [f] ∧ taken.net = s.net ∧ taken.packets = s.packets) ∧
    (OnItsWay s (.creditFlit n ws) → ws = [w] → wfld w 52 12 = n → Gives (.creditFlit n ws) s (fun t =>
      let d : TileRef := ⟨n, wfld w 44 8⟩
      ((t.tile d).outS (wfld w 39 5)).free = ((s.tile d).outS (wfld w 39 5)).free + wfld w 32 7 ∧ t.mem = s.mem)) ∧
    (bundleTo (neighbour n b) n = some b' → 0 < l.owed → Gives (.requestCreditReturn n b) s (fun t =>
      ((t.node n).link b).owed = l.owed - 1 ∧
        ((t.node (neighbour n b)).link b').reqCredits = ((s.node (neighbour n b)).link b').reqCredits + 1 ∧ t.mem = s.mem)) ∧
    (OnItsWay s (.remoteLoad q) → granted 1 false →
      let m := s.poisonMask r q.offset q.size
      exec (.remoteLoad q) s = .next (respond (banked (.remoteLoad q) false) (if m = 0 then 0 else 4) m
        ((unitPieces q.offset (q.size + 1) 0 q.size).flatMap (fun p => s.bankBytes r (q.offset + p.1) p.2)))) ∧
    (OnItsWay s (.remoteStore q) → granted 1 true →
      let y := (banked (.remoteStore q) true).writeRange ⟨q.srcNode, 256⟩ r q.offset (q.data.take q.size) (fun p =>
        q.pmask.getLsbD ((q.offset + p) / 8 - q.offset / 8))
      exec (.remoteStore q) s = .next (respond y.1 (if y.2 = 0 then 0 else 4) y.2 [])) ∧
    (∀ old u, OnItsWay s (.remoteAtom q) → granted q.size true → atom (.remoteAtom q) op (reqOperand q 0) = some (old, u) →
      exec (.remoteAtom q) s = .next (respond u 0 0 old)) ∧
    (∀ old u, OnItsWay s (.remoteAtomCas q) → granted q.size true →
      atom (.remoteAtomCas q) (.cas (BitVec.ofNat 64 (reqOperand q 0))) (reqOperand q 1) = some (old, u) →
      exec (.remoteAtomCas q) s = .next (respond u 0 0 old)) ∧
    (∀ old u, OnItsWay s (.remoteRed q) → granted q.size true → atom (.remoteRed q) op (reqOperand q 0) = some (old, u) →
      exec (.remoteRed q) s = .next (respond u 0 0 [])) ∧
    (OnItsWay s (.remoteLoad q) → ¬inTile → exec (.remoteLoad q) s = .next (respond (arrived s (.remoteLoad q)) 2 0 [])) ∧
    (OnItsWay s (.remoteAtom q) → inTile → q.offset % q.size ≠ 0 → exec (.remoteAtom q) s = .next (respond (arrived s (.remoteAtom q)) 3 0 [])) ∧
    (OnItsWay s (.remoteStore q) → inTile → bars true = true → exec (.remoteStore q) s = .next (respond (arrived s (.remoteStore q)) 1 0 [])) ∧
    (OnItsWay s (.remoteUnknownOperation q) → exec (.remoteUnknownOperation q) s =
      .next (respond (arrived s (.remoteUnknownOperation q)) 5 0 [])) ∧
    (OnItsWay s (.remoteResponse a) → (s.node a.node).requests.find? (fun y => y.1 == a.id) = some (a.id, c, id) →
      (s.tile (tileOf c)).copies.all (fun j => j.id != id) = true →
      exec (.remoteResponse a) s = .next (((arrived s (.remoteResponse a)).modNode a.node (fun y =>
        { y with requests := spDel y.requests a.id })).entryResponse c id a)) ∧
    (∀ (e : QEntry) (u : UnitAcc) (us : List UnitAcc), c.slot < 8 → y.queue = [e] → e.id = id → e.op.units = u :: us →
      (∀ v ∈ u :: us, v.sent = some a.id) →
      (a.status = 0 → (∀ m, e.op = .store (u :: us) m → told.ctx c = { y with queue := [] } ∧ told.mem = s.mem) ∧
        (∀ m, e.op = .load (u :: us) → y.landings = [m] → m.id = id → s.entryBad c e = false →
          told.ctx c = { y with queue := [], landings := [m.take u.pos a.data true] } ∧ told.mem = s.mem)) ∧
      (∀ m, a.status ≠ 0 → e.op = .store (u :: us) m → y.landings = [] → y.late = [] → (told.ctx c).queue = [] ∧ told.mem = s.mem ∧
        ∃ g, (told.ctx c).late = [g] ∧ g.cause = statusCause a.status ∧ g.fpc = e.fpc ∧ g.seq = e.seq ∧ g.arrived = false ∧
          g.xaddr = if a.status = 4 then unitPtr u.ptr + BitVec.ofNat 64 (8 * lowBit a.pmask) else s.accOf c e u)) ∧
    (OnItsWay s (.tickExchangeMsg n k) → Gives (.tickExchangeMsg n k) s (fun t =>
      (t.node n).tick = (if x.tick.toNat < k.toNat then k else x.tick) ∧ x.served ≤ (t.node n).served ∧ t.mem = s.mem ∧
        t.net = s.net.erase (.tickExchangeMsg n k) ++ List.replicate
          (min (k.toNat / ticksPerHour - x.tick.toNat / ticksPerHour) 255) (.counterHourBucket n))) ∧
    (Gives (.pastureTick n) s (fun t => (t.node n).tick = x.tick + 1 ∧ t.mem = s.mem)) ∧
    (OnItsWay s (.membershipUpdateMsg n i w) → Gives (.membershipUpdateMsg n i w) s (fun t =>
      (t.node n).membersWord n i.toNat = w ∧ (∀ j, j < 64 → j ≠ i.toNat → (t.node n).membersWord n j = x.membersWord n j) ∧ t.mem = s.mem)) ∧
    (OnItsWay s (.movePointMsg n w) → Gives (.movePointMsg n w) s (fun t =>
      t.node n = x.movePoint n old new ∧ t.mem = s.mem ∧
        (∀ j < 4096, ((t.node n).membersWord n (j / 64)).getLsbD (j % 64) =
          (decide (j = new) || (decide (j ≠ old) && (x.membersWord n (j / 64)).getLsbD (j % 64)))) ∧
        ∀ i st, spHas x.tiles i = true → st < 32 →
          let o := (s.tile ⟨n, i⟩).outS st
          (t.tile ⟨n, i⟩).outS st = if outNode o.d0 = old then { o with d0 := setFld o.d0 52 12 new, hold := false } else o))

/-! ## Integrity, power, failure, trust -/

/-- R4, R10, R187, R422 to R431, R434, R435: ERRORS, SPARES, POWER, FAILURE AND TRUST. (1) A corrected error is counted and
logged; a unit whose count crosses becomes suspect, a suspect one that crosses again is retired to its spare, and one that does not
within its days is good again; every hour opens a bucket, and a scrub changes nothing. (2) An uncorrected error of a bank poisons
its unit and counts as a crossing. (3) A bank, a tile core whose tile has been saved whole, and a lane whose bundle replays go to
their spares; a retrained bundle sends again what is not acknowledged; a bundle goes down in both directions. (4) `RASCFG` and the
power cap take a write unless locked or in recovery, and the throttle stays in its range. (5) A silent, hot or powerless node
fails, and the packets in flight to it are lost. (6) A node boots from an image it accepts and goes to recovery from another; there
it keeps what is written to its image window, and takes the image that this makes. (7) A report is made on request. (8) A node that
may be left hands over its droves, its used tiles with their SRAM and code, and its fold region to a spare; of a failed node each
drove is rebuilt there from an entry that another node keeps, or the failure is logged. (9) `RESET` leaves a node's reset values
but what lasts until its module is replaced; SRAM stays, instruction memory is empty. The operands that name what is in error (log
entry 2), the time of service that errors count by (log entry 133), how the image window makes an image (log entry 134), the moment
of a retirement (log entry 69) and the lane a failed bundle is logged under (log entry 122) are the model's own. What RESET leaves
of memories (log entry 9) and of messages (log entry 78) is the model's own. -/
def Obligations.NodesFailAndRecover : Prop :=
  ∀ (s : State) (n k : Nat) (u : RasUnit) (im : FirmwareImage) (w : Word) (b : Bool) (r : TileRef) (bs : List Byte),
    let x := s.node n
    let q := x.unitRec u
    let once := q.buckets = [0] ∧ x.thresh = 1
    let live := x.recovery = false ∧ x.failed = false
    (q.st = .good → q.buckets = [0] → 1 < x.thresh → Gives (.correctedError n u k) s (fun t =>
      (t.node n).unitRec u = { q with buckets := [1] } ∧ (t.node n).nlog = x.nlog + 1 ∧ t.mem = s.mem ∧ t.poison = s.poison)) ∧
    (q.st = .good → once → Gives (.correctedError n u k) s (fun t =>
      ((t.node n).unitRec u).st = .suspect ∧ ((t.node n).unitRec u).crossed = x.served ∧ (t.node n).nlog = x.nlog + 2 ∧ t.mem = s.mem)) ∧
    (u.cls = 0 → q.st = .suspect → once → x.served - q.crossed < x.retd * ticksPerDay → x.units.all (fun y => y.st != .retired) = true →
      x.replaced = [] → Gives (.correctedError n u k) s (fun t =>
        ((t.node n).unitRec u).st = .retired ∧ Event.bankRetirement ⟨n, u.tile⟩ u.index ∈ t.net ∧ t.mem = s.mem)) ∧
    (u.cls = 0 → q.st = .good → q.buckets = [0] → Gives (.uncorrectedError n u k) s (fun t =>
      t.poisoned ⟨n, u.tile⟩ (k % 2 ^ 24) = true ∧ ((t.node n).unitRec u).st = .suspect ∧ t.mem = s.mem)) ∧
    (q.st = .suspect → x.retd * ticksPerDay ≤ x.served - q.crossed → Gives (.suspectReversion n u) s (fun t =>
      (t.node n).unitRec u = { q with st := .good } ∧ t.mem = s.mem)) ∧
    (x.served - q.crossed < x.retd * ticksPerDay → exec (.suspectReversion n u) s = .next s) ∧
    (OnItsWay s (.counterHourBucket n) → Gives (.counterHourBucket n) s (fun t =>
      (t.node n).units = x.units.map (fun y => { y with buckets := 0 :: y.buckets.take (x.window - 1) }) ∧ t.mem = s.mem)) ∧
    (exec (.backgroundScrub n) s = .next s) ∧
    (OnItsWay s (.bankRetirement r k) → Gives (.bankRetirement r k) s (fun t =>
      (t.node r.node).fbank = (s.node r.node).fbank - 1 ∧ (t.tile r).banksRetired = k :: (s.tile r).banksRetired ∧ t.mem = s.mem ∧
        t.poison = s.poison)) ∧
    (OnItsWay s (.tileCoreRetirement r) → s.tileSaved r = true → (s.node r.node).ftile.getLsbD (r.tile / 16) = true →
      Gives (.tileCoreRetirement r) s (fun t =>
        (t.node r.node).ftile.getLsbD (r.tile / 16) = false ∧ t.tile r = s.tile r ∧ t.mem = s.mem)) ∧
    (s.tileSaved r = false → exec (.tileCoreRetirement r) s = .next s) ∧
    (OnItsWay s (.laneRetirement n k) → (∀ c, x.laneBundle k = some c → s.replays n c = true) → Gives (.laneRetirement n k) s (fun t =>
      (t.node n).flane.getLsbD (k / 64) = false ∧ (t.node n).laneFails = k :: x.laneFails ∧ t.mem = s.mem)) ∧
    (∀ c, x.laneBundle k = some c → (x.link c).replaying = true → Gives (.laneRetrained n k) s (fun t =>
      (t.node n).link c = { x.link c with replaying := false, resend := (x.link c).replay.length } ∧ t.mem = s.mem)) ∧
    (∀ c, bundleTo (neighbour n k) n = some c → OnItsWay s (.bundleDown n k) → Gives (.bundleDown n k) s (fun t =>
      ((t.node n).link k).down = true ∧ ((t.node (neighbour n k)).link c).down = true ∧ t.mem = s.mem)) ∧
    (live → x.locked = false → Gives (.rascfgLock n w) s (fun t => (t.node n).rascfg = w &&& 0x800000FFFFFF00FF ∧ t.mem = s.mem)) ∧
    (x.locked = true ∨ ¬live → Gives (.rascfgLock n w) s (fun t => t.node n = x ∧ t.mem = s.mem)) ∧
    (x.failed = false → Gives (.laneSilence n) s (fun t => (t.node n).failed = true ∧ (t.node n).silent = true ∧ t.mem = s.mem ∧
      t.packets = s.packets.filter (fun p => p.dest.node != n))) ∧
    (x.failed = true → exec (.laneSilence n) s = .next s ∧ exec (.powerLoss n) s = .next s) ∧
    (Gives (.thermalTrip n) s (fun t => (t.node n).failed = true ∧ (t.node n).nlog = x.nlog + 1)) ∧
    (x.failed = false → Gives (.powerLoss n) s (fun t => (t.node n).failed = true ∧ (t.node n).silent = true ∧ t.mem = s.mem)) ∧
    (Gives (.throttleStep n b) s (fun t => (t.node n).pwrstat.toNat =
      (if b then max 1 (x.pwrstat.toNat - 1) else min 8 (x.pwrstat.toNat + 1)) ∧ t.mem = s.mem)) ∧
    (live → x.locked = false → Gives (.pwrcapWrite n w) s (fun t =>
      (t.node n).pwrcap.toNat = max 600 (min 1200 (wfld w 0 16)) ∧ t.mem = s.mem)) ∧
    (x.booted = false → x.recovery = false → firmwareGood n im = true → Gives (.boot n im) s (fun t =>
      t.node n = { x with booted := true, recovery := false, fwHash := sha3 im.bytes, fwVersion := im.version })) ∧
    (x.booted = false → x.recovery = false → firmwareGood n im = false → Gives (.boot n im) s (fun t =>
      t.node n = { x with recovery := true })) ∧
    (x.recovery = true → im = Config.imageWritten x.imageWindow → Gives (.recoveryImage n im) s (fun t =>
      t.node n = if firmwareGood n im = true then
        { x with booted := true, recovery := false, fwHash := sha3 im.bytes, fwVersion := im.version, imageWindow := [] }
      else { x with recovery := true, imageWindow := [] })) ∧
    (im ≠ Config.imageWritten x.imageWindow → Gives (.recoveryImage n im) s (fun t => t.node n = x)) ∧
    (∀ i < 2048, x.recovery = true → x.failed = false → Gives (.registerWrite n (BitVec.ofNat 26 (0x8000 + 8 * i)) w) s (fun t =>
      t.node n = { x with imageWindow := (8 * i, w) :: x.imageWindow })) ∧
    (live → bs.length = 32 → Gives (.attestationRequest n bs) s (fun t => t.node n = { x with nonce := bs, attReq := true })) ∧
    (x.attReq = true → Gives (.attestationComplete n) s (fun t => t.node n = { x with report := x.reportBytes n, attReq := false })) ∧
    (s.isSpare n k = true → x.droves.any (fun e => e.valid) = true → x.failed = true → exec (.transhumance n k) s =
      .next ({ s with net := s.net.filter (fun e => e != Event.transhumance n k) }.leaveFailed n k)) ∧
    (s.isSpare n k = true → x.droves.any (fun e => e.valid) = true → x.failed = false → OnItsWay s (.transhumance n k) →
      s.mayLeave n = true → exec (.transhumance n k) s = .next ((arrived s (.transhumance n k)).carryOver n k)) ∧
    (s.isSpare n k = true → x.droves.any (fun e => e.valid) = true → x.failed = false → OnItsWay s (.transhumance n k) →
      s.mayLeave n = false → exec (.transhumance n k) s = .next s) ∧
    (s.isSpare n k = true →
      let t := s.carryOver n k
      (t.node k).droves = x.droves.map (movedEntry n k) ∧ (t.node n).droves = [] ∧ (t.node k).fold = x.fold ∧ (t.node n).fold = none ∧
        ∀ i ∈ s.usedTiles n, t.tile ⟨n, i⟩ = Tile.reset ∧ (Memory.wf s.mem = true → n < 4096 → k < 4096 →
          (∀ a < 0xC00000, t.readByte .sram ⟨k, i⟩ a = s.readByte .sram ⟨n, i⟩ a) ∧
          (∀ a < 0x10000, t.readByte .imem ⟨k, i⟩ a = s.readByte .imem ⟨n, i⟩ a ∧ t.readByte .imem ⟨n, i⟩ a = 0xFF))) ∧
    (∀ d, s.isSpare n k = true →
      let t := s.rebuildDrove n k d
      ((t.node k).nlog = (s.node k).nlog + 1 ∧ t.mem = s.mem ∧ (t.node k).droves = (s.node k).droves) ∨
      ∃ m y, m ≠ n ∧ (s.node m).failed = false ∧ (s.node m).drove d = some y ∧
        (t.node k).drove d = some { movedEntry n k y with standby := [] }) ∧
    (∀ e, s.isSpare n k = true → x.droves.filter (fun e => e.valid) = [e] → x.fold = none →
      (∀ m, m ≠ n → (s.node m).failed = false → (s.node m).drove e.drove = none) →
      let t := s.leaveFailed n k
      (t.node k).nlog = (s.node k).nlog + 1 ∧ t.mem = s.mem) ∧
    (Gives (.reset n) s (fun t => t.node n = { Node.reset with
        units := x.units, replaced := x.replaced, fbank := x.fbank, ftile := x.ftile, flane := x.flane
        fallowRows := x.fallowRows, laneFails := x.laneFails, fwHash := x.fwHash, fwVersion := x.fwVersion
        tickBase := x.served, shares := x.shares
        tiles := (x.tiles.filter (fun t => !t.2.banksRetired.isEmpty || t.2.columnsRetired != 0)).map (fun t =>
          (t.1, { Tile.reset with banksRetired := t.2.banksRetired, columnsRetired := t.2.columnsRetired })) } ∧
      (∀ m, m < 4096 → ∀ i off, i < 256 → off < 2 ^ 24 →
        t.mem.find? (fun c => c.1 == memKey .sram ⟨m, i⟩ off) = s.mem.find? (fun c => c.1 == memKey .sram ⟨m, i⟩ off)) ∧
      (n < 4096 → ∀ i off, i < 256 → off < 2 ^ 24 → t.mem.find? (fun c => c.1 == memKey .imem ⟨n, i⟩ off) = none)))

/-! ## The machine as a whole -/

/-- R15, R16: predicate p0 always reads as true and mask k0 as all ones, whatever has been written, and writes of either change nothing;
every other predicate and mask reads as last written. An operation whose guard reads false changes nothing at all, whatever it is:
no register, latch, landing entry, request or trap. -/
def Obligations.SquashedOperations : Prop :=
  (∀ (s : State) (i : Instr) (g : Guard), guardOf i = some g → s.cur.guard g = false → exec i s = .next s) ∧
  ∀ (c : Ctx) (n : Nat) (b : Bool) (x y : MaskReg),
    c.pred 0 = true ∧ c.mask 0 = BitVec.allOnes 128 ∧ c.writePred 0 b = c ∧ c.writeMask 0 x y = c ∧
    (0 < n → n < 8 → (c.writePred n b).pred n = b ∧ (∀ j, j ≠ n → j < 8 → (c.writePred n b).pred j = c.pred j) ∧
      (c.writeMask n x y).mask n = (x &&& y) ||| (c.mask n &&& ~~~y) ∧
      (∀ j, j ≠ n → j < 8 → (c.writeMask n x y).mask j = c.mask j))

/-- R45, R184: in the check of its bundle an operation of a slot changes nothing but the issue record, whatever it is and whatever
its operands are; so a bundle whose check fails has had no effect. -/
def Obligations.ChecksChangeNothing : Prop :=
  ∀ (s : State) (i : Instr) (g : Guard), guardOf i = some g → s.issue.mode = .probe →
    ∃ q, exec i s = .next { s with issue := q }

/-- THE FRAME of the operations of the A and V slots but `TRET` (R14, R20): when the checked bundle executes, every register file,
latch, special register and trap register of every context and all memory are as before (their results come later, R20); only results
in flight, the hold of `IFENCE`, the random state of a tile and the retirement record may change. -/
def Obligations.RegisterOperationsKeepState : Prop :=
  ∀ (s t : State) (i : Instr), registerOnly i = true → s.issue.mode = .commit → s.slot < 8 → exec i s = .next t →
    let c := s.cur
    let d := t.ctx s.me
    t.focus = s.focus ∧ t.mem = s.mem ∧ t.poison = s.poison ∧ t.hostMem = s.hostMem ∧ t.net = s.net ∧ t.packets = s.packets ∧
    t.agenda = s.agenda ∧
    (∀ r, r ≠ s.focus → t.tile r = s.tile r) ∧ (∀ k, k ≠ s.slot → (t.tile s.focus).ctx k = s.here.ctx k) ∧
    d.a = c.a ∧ d.v = c.v ∧ d.m = c.m ∧ d.e = c.e ∧ d.p = c.p ∧ d.k = c.k ∧
    d.wa = c.wa ∧ d.wv = c.wv ∧ d.wm = c.wm ∧ d.we = c.we ∧ d.wp = c.wp ∧ d.wk = c.wk ∧
    d.qa = c.qa ∧ d.qv = c.qv ∧ d.qm = c.qm ∧ d.qe = c.qe ∧ d.lc = c.lc ∧ d.pc = c.pc ∧
    d.sbase = c.sbase ∧ d.slim = c.slim ∧ d.fflags = c.fflags ∧ d.tshape = c.tshape ∧
    d.xstat = c.xstat ∧ d.xcause = c.xcause ∧ d.xpc = c.xpc ∧ d.xaddr = c.xaddr ∧ d.xprog = c.xprog ∧ d.xctl = c.xctl ∧ d.xvec = c.xvec ∧
    d.landings = c.landings ∧ d.queue = c.queue ∧ d.locks = c.locks ∧ (∃ xs, d.results = c.results ++ xs ∧ xs.length ≤ 1) ∧
    t.here.core = s.here.core ∧ t.here.wall = s.here.wall ∧ t.here.fmt = s.here.fmt ∧ t.here.cbctl = s.here.cbctl ∧
    t.here.cbEntry = s.here.cbEntry ∧ t.here.barriers = s.here.barriers ∧ t.here.views = s.here.views

/-- R10, R14, R15, R50, R74, R133, R199: what reset leaves. Every slot of every tile is Free with every register of its files zero
and unset, its latches empty, its loop and trap registers zero, `XCTL` with every interrupt line enabled; every tile has no stage,
its formats zero and its random state seeded from seed 0; every crook holds the default matrix; nothing has been written to memory,
which is in its canonical form. The zeros of registers to which no map gives a reset value are the model's own (log entry 1), as is
that memory lists nothing (log entry 9). -/
def Obligations.ResetState : Prop :=
  (∀ c : CtxRef, c.slot < 8 →
    let x := State.reset.ctx c
    x.st = .free ∧ x.pc = 0 ∧ x.lc = Vector.replicate 4 0 ∧ x.fflags = 0 ∧ x.xctl = 0x00000000FFFF0002 ∧ x.xstat = 0 ∧ x.xcause = 0 ∧
    x.xpc = 0 ∧ x.xaddr = 0 ∧ x.xprog = 0 ∧ x.results = [] ∧ x.landings = [] ∧ x.queue = [] ∧ x.locks = [] ∧
    x.qa = Vector.replicate 4 none ∧ x.qv = Vector.replicate 4 none ∧ x.qm = Vector.replicate 4 none ∧ x.qe = Vector.replicate 4 none ∧
    x.wa = 0 ∧ x.wv = 0 ∧ x.wm = 0 ∧ x.we = 0 ∧ x.wp = 0 ∧ x.wk = 0 ∧ x.pred 0 = true ∧ x.mask 0 = BitVec.allOnes 128 ∧
    (∀ n, n < 32 → x.regA n = 0 ∧ x.regV n = 0 ∧ x.regM n = 0) ∧ (∀ n, n < 16 → x.regE n = 0) ∧ (∀ n, 0 < n → n < 8 → x.pred n = false)) ∧
  (∀ r : TileRef,
    let t := State.reset.tile r
    t.running = none ∧ t.slots = 0 ∧ t.fmt = Vector.replicate 16 0 ∧ t.ftctl = 0 ∧ t.ftab = Vector.replicate 16 0x0C ∧
    t.cbctl = Vector.replicate 4 0 ∧ t.cbValid = [] ∧ t.irq = 0 ∧
    t.rng = #v[0xE220A8397B1DCDAF, 0x6E789E6AA1B965F4, 0x06C45D188009454F, 0xF88BB8A8724C81EC]) ∧
  (∀ n, (State.reset.node n).matrix = 0x1304_54DF ∧ (State.reset.node n).locks = [] ∧ (State.reset.node n).pwrcap = 1200 ∧
    (State.reset.node n).failed = false) ∧
  Memory.wf State.reset.mem = true ∧ Memory.wf State.reset.hostMem = true ∧ State.reset.agenda = []

/-- A STEP RUNS THE DECODED INSTRUCTION. Where nothing else is chosen or due and the tile in focus has a context at its bundle,
and the words there are one operation and `NOP`s: the step is that operation's check and, nothing failing, its execution, the
retirement of its bundle, and the focus passing on (R45, R88, R90). A bundle that reads a cell of bad parity takes the class 3 `UE`
(R424); one whose check fails takes that failure's trap; one whose `SOPEN` finds no credits waits (R222). A step that the agenda
chooses is run by itself, and one that names nothing of the pasture stops the machine. Which reads meet a cell of bad parity is the
model's reading (log entry 75). What is due before a bundle, and the order of tiles, are the model's own (log entry 4). -/
def Obligations.StepRunsInstruction : Prop :=
  (∀ (s : State) (k : Nat) (sl : Slot) (x : BitVec 32) (i : Instr) (q t : State),
    let r := s.focus
    let u := s.atCycle r
    let w := u.settled r k
    let pc := (w.ctx ⟨r.node, r.tile, k⟩).pc.toNat
    let word := fun (n : Nat) => if n = slotIdx sl then x else 0
    let p : State := { w with
      focus := r
      issue := { Issue.idle with mode := .probe, words := #v[word 0, word 1, word 2, word 3], ops := [(sl, i)] } }
    let passes := fun (z : State) => Host.Outcome.next { z with focus := z.nextFocus }
    s.agenda = [] → s.auto = none → (s.node r.node).failed = false → u.reachesChecks r k →
    (∀ n, n < 4 → w.imemWord r pc n = word n) → x ≠ 0 → decodeWord sl x = .ok i →
      (∀ y z, p.badRead exec = some (y, z) → step s = passes (p.parityTrap y z)) ∧
      (p.badRead exec = none → exec i p = .next q →
      (q.issue.fails = [] → q.issue.stay = false → exec i { p with issue := { p.issue with mode := .commit } } = .next t →
        step s = passes t.retire) ∧
      (q.issue.fails = [] → q.issue.stay = true → step s = passes q.stayBlock) ∧
      (∀ f, q.issue.fails = [f] → step s = passes { q.issueTrap f with issue := Issue.idle }))) ∧
  (∀ (s : State) (i : Instr) (rest : List Instr),
    let s1 : State := { s with agenda := rest, issue := Issue.idle }
    s.agenda = i :: rest →
      (i.isSlotOp = false → i.wf = true → (∀ r, i ≠ .bundleIssue r) → ∀ t, exec i s1 = .next t → t.issue.mode ≠ .probe → step s = .next t) ∧
      ((i.isSlotOp = true ∨ i.wf = false) → step s = .fault .illFormedStep))

/-- R88, R92 to R94 and the worked example of the encodings: words written out field by field are the operations they stand for, and
words that break an encoding rule are illegal. -/
def Obligations.DecodedWords : Prop :=
  let g : Guard := ⟨false, 0⟩
  decodeWord .a 0b010001_0_000_000001_0000000000000101#32 = .ok (.movi g (.reg 1) 5) ∧
  decodeWord .v 0b011000_0_000_100000_000100_000101_0000#32 = .ok (.vfadd g .drop (.reg 4) (.reg 5) .fp32) ∧
  decodeWord .m 0b001000_0_000_0000001010_01_00011_00010#32 = .ok (.ldv g 10 3 2) ∧
  decodeWord .v 0b011000_0_000_000110_000010_000011_0100#32 = .ok (.vfadd g (.reg 6) (.reg 2) (.reg 3) .bf16) ∧
  decodeWord .m 0b000100_0_000_0000000110_10_00101_00011#32 = .ok (.ldD g 6 .m 5 3) ∧
  decodeWord .a 0b000001_1_011_000001_000010_000011_0001#32 = .ok (.sub ⟨true, 3⟩ (.reg 1) (.reg 2) (.reg 3)) ∧
  (decodeWord .v 0x60201053).toOption = none ∧ (decodeWord .e 0x58100000).toOption = none ∧
  decodeBundle 0x44010005 0x60201050 0x2000A462 0 =
    .ok ⟨#v[0x44010005, 0x60201050, 0x2000A462, 0], Header.zero,
      [(.a, .movi g (.reg 1) 5), (.v, .vfadd g .drop (.reg 4) (.reg 5) .fp32), (.m, .ldv g 10 3 2)]⟩ ∧
  decodeBundle 0xF5000844 0x60060834 0x100068A3 0 =
    .ok ⟨#v[0xF5000844, 0x60060834, 0x100068A3, 0], ⟨1, 1, 0, 8, 0x44⟩,
      [(.v, .vfadd g (.reg 6) (.reg 2) (.reg 3) .bf16), (.m, .ldD g 6 .m 5 3)]⟩ ∧
  decodeBundle 0xF4000000 0 0 0 = .error (0xF4000000, .a) ∧ decodeBundle 0xF0000000 0 0 0 =
    .ok ⟨#v[0xF0000000, 0, 0, 0], Header.zero, []⟩

/-- DECODE AND ENCODE AGREE: the word of every well-formed instruction is in its slot's encoding and decodes to that instruction, with
every operand at every value the encoding admits. -/
def Obligations.EncodedInstructionsDecode : Prop :=
  ∀ (i : Instr), i.wf = true → i.isSlotOp = true → ∃ sl w, i.encode = some (sl, w) ∧ decodeWord sl w = .ok i

/-- DECODE AND ENCODE AGREE, the other way: no bit of a legal word is dropped. A word that decodes is the encoding of what it decodes
to, which is well-formed; so two words of a slot that decode alike are one word. -/
def Obligations.DecodedWordsEncode : Prop :=
  ∀ (sl : Slot) (w : BitVec 32) (i : Instr), w ≠ 0 → decodeWord sl w = .ok i → i.wf = true ∧ i.encode = some (sl, w)

/-- AN INVARIANT THAT EVERY STEP KEEPS: the memory of the tiles and the host's memory keep their canonical form (addresses strictly
rising, no entry equal to what an unlisted address reads as), whatever the step does; so equal memories are equal data. -/
def Obligations.MemoryStaysCanonical : Prop :=
  ∀ (s t : State), Memory.wf s.mem = true → Memory.wf s.hostMem = true → step s = .next t →
    Memory.wf t.mem = true ∧ Memory.wf t.hostMem = true

/-- R399: the bundles of a node. Bundles 0 to 62 join it to the other nodes of its row and 63 to 125 to those of its column, none to
itself; the neighbour's bundle back is found by the same rule; used lane u is physical lane 64⌊u/63⌋ + (u mod 63), of bundle
⌊u/8⌋, and the last lane of a group of 64 is its spare, which replaces a lane of its own group only. -/
def Obligations.BundlesAndLanes : Prop :=
  (∀ r c b : Nat, r < 64 → c < 64 → b < 126 →
    let n := r * 64 + c
    let m := neighbour n b
    (b < 63 → m = r * 64 + (if b < c then b else b + 1)) ∧
    (63 ≤ b → m = (if b - 63 < r then b - 63 else b - 62) * 64 + c) ∧
    m ≠ n ∧ m < 4096 ∧ bundleTo n m = some b ∧ ∃ b', b' < 126 ∧ bundleTo m n = some b' ∧ neighbour m b' = n) ∧
  (∀ u, u < 1008 → usedBundle (64 * (u / 63) + u % 63) = some (u / 8)) ∧
  (∀ g, g < 16 → usedBundle (64 * g + 63) = none) ∧
  (∀ (s : State) (n k : Nat), OnItsWay s (.laneRetirement n k) →
    (∀ b, (s.node n).laneBundle k = some b → s.replays n b = true) → Gives (.laneRetirement n k) s (fun t =>
    ∀ g, g < 16 → (t.node n).flane.getLsbD g = ((s.node n).flane.getLsbD g && g != k / 64)))
end

