-- ==== Sys2Proof/Laws/Decode.lean ====
section
/-! SUPPORT. Reading back the fields that the encoder writes: each field's code, and the parts of a field. -/

namespace Sys2Proof

theorem bit_idx {n i j : Nat} (x : BitVec n) (h : i = j) : x.getLsbD i = x.getLsbD j := by rw [h]

/-- The fields of a word made of fields. -/
theorem splitWord_joinWord (f : Fields) : splitWord (joinWord f) = f := by
  obtain ⟨op, n, p, d, a, b, fn⟩ := f
  simp only [splitWord, joinWord, Fields.mk.injEq]
  refine ⟨?_, ?_, ?_, ?_, ?_, ?_, ?_⟩ <;>
    first
    | (apply BitVec.eq_of_getLsbD_eq; intro i hi
       simp only [BitVec.getLsbD_extractLsb', BitVec.getLsbD_append, hi, decide_true, Bool.true_and]
       split_ifs <;> first | omega | exact bit_idx _ (by omega))
    | (simp only [BitVec.getLsbD_append]; norm_num)

/-! Codes -/

@[simp] theorem bind_ok {α β : Type} (a : α) (f : α → Except Reject β) : (Except.ok a >>= f) = f a := rfl
@[simp] theorem Src.ofBits_bits (x : Src) : Src.ofBits x.bits = .ok x := by
  cases x with
  | reg n => revert n; decide
  | latch k => revert k; decide
@[simp] theorem Src.ofElBits_elBits (x : Src) (h : x.wfE = true) : Src.ofElBits x.elBits = .ok x := by
  cases x with
  | reg n => revert n; decide
  | latch k => revert k; decide
@[simp] theorem Dst.ofBits_bits (x : Dst) : Dst.ofBits x.bits = .ok x := by
  cases x with
  | reg n => revert n; decide
  | drop => decide
@[simp] theorem regOfBits_regBits (n : BitVec 5) : regOfBits (regBits n) = .ok n := by revert n; decide
@[simp] theorem lowOfBits_lowBits (n : BitVec 3) : lowOfBits (lowBits n) = .ok n := by revert n; decide
@[simp] theorem zeroField_zero : zeroField 0#6 = .ok () := rfl
@[simp] theorem ExtW.ofBits_bits (w : ExtW) : ExtW.ofBits w.bits = .ok w := by cases w <;> rfl
@[simp] theorem ICond.ofBits_bits (c : ICond) : ICond.ofBits c.bits = .ok c := by cases c <;> rfl
@[simp] theorem FCond.ofBits_bits (c : FCond) : FCond.ofBits c.bits = .ok c := by cases c <;> rfl
@[simp] theorem LaneW.ofCode_code (w : LaneW) : LaneW.ofCode w.code = w := by cases w <;> rfl
@[simp] theorem FloatT.ofCode_code (w : FloatT) : FloatT.ofCode w.code = w := by cases w <;> rfl
@[simp] theorem SatMode.ofCode_code (w : SatMode) : SatMode.ofCode w.code = .ok w := by cases w <;> rfl
@[simp] theorem RFile.ofCode_code (w : RFile) : RFile.ofCode w.code = w := by cases w <;> rfl
@[simp] theorem Scope.ofBits_bits (w : Scope) : Scope.ofBits w.bits = .ok w := by cases w <;> rfl
@[simp] theorem LockMode.ofBits_bits (w : LockMode) : LockMode.ofBits w.bits = .ok w := by cases w <;> rfl
@[simp] theorem CReg.ofNumber_number (r : CReg) : CReg.ofNumber r.number = .ok r := by
  cases r <;> first | rfl | (rename_i n; revert n; decide)
@[simp] theorem NestReg.ofNumber_number (r : NestReg) : NestReg.ofNumber r.number = .ok r := by
  cases r <;> first | rfl | (rename_i n; revert n; decide)
@[simp] theorem EReg.ofNumber_number (r : EReg) : EReg.ofNumber r.number = .ok r := by
  cases r with
  | shadow q => cases q <;> first | rfl | (rename_i n; revert n; decide)
  | active q => cases q <;> first | rfl | (rename_i n; revert n; decide)
  | mstat => rfl
  | bstat b => revert b; decide
  | bcfg b => revert b; decide
@[simp] theorem unsignedMatches_self (c : ICond) : unsignedMatches c c.unsignedCode = .ok () := by cases c <;> rfl
@[simp] theorem low22 (x y : BitVec 2) : BitVec.extractLsb' 0 2 (x ++ y : BitVec 4) = y := by revert x y; decide
@[simp] theorem high22 (x y : BitVec 2) : BitVec.extractLsb' 2 2 (x ++ y : BitVec 4) = x := by revert x y; decide
@[simp] theorem low33 (x y : BitVec 3) : BitVec.extractLsb' 0 3 (x ++ y : BitVec 6) = y := by revert x y; decide
@[simp] theorem high33 (x y : BitVec 3) : BitVec.extractLsb' 3 3 (x ++ y : BitVec 6) = x := by revert x y; decide
@[simp] theorem low13 (b : Bool) (y : BitVec 3) : BitVec.extractLsb' 0 3 (BitVec.ofBool b ++ y : BitVec 4) = y := by revert b y; decide
@[simp] theorem high13 (b : Bool) (y : BitVec 3) : (BitVec.ofBool b ++ y : BitVec 4)[3] = b := by revert b y; decide
@[simp] theorem shift_parts (i : BitVec 6) : shiftOfBits (0#4 ++ BitVec.extractLsb' 4 2 i) (BitVec.extractLsb' 0 4 i) = .ok i := by revert i; decide
@[simp] theorem part_of (i : BitVec 4) : partOfBits (0#2 ++ i) = .ok i := by revert i; decide
@[simp] theorem bank_of (i : BitVec 2) : bankOfBits (0#4 ++ i) = .ok i := by revert i; decide
@[simp] theorem splat_of (w : LaneW) : splatWidth (0#4 ++ w.code) = .ok w := by cases w <;> decide
@[simp] theorem group_of (h w : BitVec 3) : groupHeight (0#4 ++ BitVec.extractLsb' 1 2 h) (BitVec.extractLsb' 0 1 h ++ w) = .ok h := by revert h w; decide
@[simp] theorem low_1_3 (x : BitVec 1) (y : BitVec 3) : BitVec.extractLsb' 0 3 (x ++ y : BitVec 4) = y := by revert x y; decide
@[simp] theorem base_of (i : BitVec 5) : baseOnly (0#5 ++ BitVec.extractLsb' 4 1 i) (BitVec.extractLsb' 0 4 i) = .ok i := by revert i; decide
@[simp] theorem quad_of (i : BitVec 2) : quadOfBits (0#2 ++ i ++ 0#2) = .ok i := by revert i; decide
@[simp] theorem pair_of (i : BitVec 3) : pairOfBits (0#2 ++ i ++ 0#1) = .ok i := by revert i; decide
@[simp] theorem lktry_mode (m : LockMode) (d : BitVec 4) (x : BitVec 1) :
    (BitVec.extractLsb' 1 2 m.bits ++ BitVec.extractLsb' 5 1 (BitVec.extractLsb' 0 1 m.bits ++ d ++ x : BitVec 6) : BitVec 3) = m.bits := by
  cases m <;> (revert d x; decide)
@[simp] theorem lktry_dst (y x : BitVec 1) (d : BitVec 4) : BitVec.extractLsb' 1 4 (y ++ d ++ x : BitVec 6) = d := by revert y x d; decide
@[simp] theorem lkqry_mode (d : BitVec 4) (x : BitVec 1) : zeroMode (0#2 ++ BitVec.extractLsb' 5 1 (0#1 ++ d ++ x : BitVec 6)) = .ok () := by
  revert d x; decide
@[simp] theorem lktry_src (y x : BitVec 1) (d : BitVec 4) : BitVec.extractLsb' 0 1 (y ++ d ++ x : BitVec 6) = x := by revert y x d; decide
@[simp] theorem lockMode_of (w : LockMode) : lockModeOfField (0#3 ++ w.bits) = .ok w := by cases w <;> decide
@[simp] theorem hi51 (x : BitVec 5) (y : BitVec 1) : BitVec.extractLsb' 1 5 (x ++ y : BitVec 6) = x := by revert x y; decide
@[simp] theorem lo51 (x : BitVec 5) (y : BitVec 1) : BitVec.extractLsb' 0 1 (x ++ y : BitVec 6) = y := by revert x y; decide
@[simp] theorem hi42 (x : BitVec 4) (y : BitVec 2) : BitVec.extractLsb' 2 4 (x ++ y : BitVec 6) = x := by revert x y; decide
@[simp] theorem lo42 (x : BitVec 4) (y : BitVec 2) : BitVec.extractLsb' 0 2 (x ++ y : BitVec 6) = y := by revert x y; decide
@[simp] theorem hi24 (x : BitVec 2) (y : BitVec 4) : BitVec.extractLsb' 4 2 (x ++ y : BitVec 6) = x := by revert x y; decide
@[simp] theorem lo24 (x : BitVec 2) (y : BitVec 4) : BitVec.extractLsb' 0 4 (x ++ y : BitVec 6) = y := by revert x y; decide
@[simp] theorem hi222 (x y z : BitVec 2) : BitVec.extractLsb' 4 2 (x ++ y ++ z : BitVec 6) = x := by revert x y z; decide
@[simp] theorem mid222 (x y z : BitVec 2) : BitVec.extractLsb' 2 2 (x ++ y ++ z : BitVec 6) = y := by revert x y z; decide
@[simp] theorem lo222 (x y z : BitVec 2) : BitVec.extractLsb' 0 2 (x ++ y ++ z : BitVec 6) = z := by revert x y z; decide
@[simp] theorem hi213 (x : BitVec 2) (y : Bool) (z : BitVec 3) : BitVec.extractLsb' 4 2 (x ++ BitVec.ofBool y ++ z : BitVec 6) = x := by revert x y z; decide
@[simp] theorem mid213 (x : BitVec 2) (y : Bool) (z : BitVec 3) : (x ++ BitVec.ofBool y ++ z : BitVec 6)[3] = y := by revert x y z; decide
@[simp] theorem lo213 (x : BitVec 2) (y : Bool) (z : BitVec 3) : BitVec.extractLsb' 0 3 (x ++ BitVec.ofBool y ++ z : BitVec 6) = z := by revert x y z; decide
@[simp] theorem sel13 (z : BitVec 3) : (0#1 ++ z : BitVec 4)[3] = false := by revert z; decide
@[simp] theorem low13' (z : BitVec 3) : BitVec.extractLsb' 0 3 (0#1 ++ z : BitVec 4) = z := by revert z; decide
@[simp] theorem parts5 (x : BitVec 5) : (x.extractLsb' 4 1 ++ x.extractLsb' 0 4 : BitVec 5) = x := by revert x; decide
@[simp] theorem parts6 (x : BitVec 6) : (x.extractLsb' 4 2 ++ x.extractLsb' 0 4 : BitVec 6) = x := by revert x; decide
@[simp] theorem parts7 (x : BitVec 7) : (x.extractLsb' 4 3 ++ x.extractLsb' 0 4 : BitVec 7) = x := by revert x; decide
@[simp] theorem parts8 (x : BitVec 8) : (x.extractLsb' 4 4 ++ x.extractLsb' 0 4 : BitVec 8) = x := by revert x; decide
@[simp] theorem parts8' (x : BitVec 8) : (x.extractLsb' 6 2 ++ x.extractLsb' 0 6 : BitVec 8) = x := by revert x; decide
@[simp] theorem parts10 (x : BitVec 10) : (x.extractLsb' 4 6 ++ x.extractLsb' 0 4 : BitVec 10) = x := by
  apply BitVec.eq_of_getLsbD_eq; intro i hi
  simp only [BitVec.getLsbD_append, BitVec.getLsbD_extractLsb']
  split_ifs with h1
  · simp [h1]
  · simp only [show i - 4 < 6 by omega, decide_true, Bool.true_and]
    exact bit_idx _ (by omega)
@[simp] theorem parts12 (x : BitVec 12) : (x.extractLsb' 6 6 ++ x.extractLsb' 0 6 : BitVec 12) = x := by
  apply BitVec.eq_of_getLsbD_eq; intro i hi
  simp only [BitVec.getLsbD_append, BitVec.getLsbD_extractLsb']
  split_ifs with h1
  · simp [h1]
  · simp only [show i - 6 < 6 by omega, decide_true, Bool.true_and]
    exact bit_idx _ (by omega)
@[simp] theorem parts16 (x : BitVec 16) : (x.extractLsb' 10 6 ++ x.extractLsb' 4 6 ++ x.extractLsb' 0 4 : BitVec 16) = x := by
  apply BitVec.eq_of_getLsbD_eq; intro i hi
  simp only [BitVec.getLsbD_append, BitVec.getLsbD_extractLsb']
  split_ifs with h1 h2
  · simp [h1]
  · simp only [h2, decide_true, Bool.true_and]
    exact bit_idx _ (by omega)
  · simp only [show i - 4 - 6 < 6 by omega, decide_true, Bool.true_and]
    exact bit_idx _ (by omega)

end Sys2Proof
end

