-- ==== Sys2Proof/Laws/Exec.lean ====
section
/-! SUPPORT. One equation per constructor of `Instr`: what the dispatch calls. They are cited instead of unfolding `exec`. -/

namespace Sys2Proof.Laws

open Sys2Proof.Machine

variable (s : State)

theorem exec_nop : exec (.nop) s = execNop s := rfl
theorem exec_add {g d a b} : exec (.add g d a b) s = execAdd g d a b s := rfl
theorem exec_sub {g d a b} : exec (.sub g d a b) s = execSub g d a b s := rfl
theorem exec_and {g d a b} : exec (.and g d a b) s = execAnd g d a b s := rfl
theorem exec_or {g d a b} : exec (.or g d a b) s = execOr g d a b s := rfl
theorem exec_xor {g d a b} : exec (.xor g d a b) s = execXor g d a b s := rfl
theorem exec_andn {g d a b} : exec (.andn g d a b) s = execAndn g d a b s := rfl
theorem exec_shl {g d a b} : exec (.shl g d a b) s = execShl g d a b s := rfl
theorem exec_shr {g d a b} : exec (.shr g d a b) s = execShr g d a b s := rfl
theorem exec_sar {g d a b} : exec (.sar g d a b) s = execSar g d a b s := rfl
theorem exec_rol {g d a b} : exec (.rol g d a b) s = execRol g d a b s := rfl
theorem exec_min {g d a b} : exec (.min g d a b) s = execMin g d a b s := rfl
theorem exec_max {g d a b} : exec (.max g d a b) s = execMax g d a b s := rfl
theorem exec_minu {g d a b} : exec (.minu g d a b) s = execMinu g d a b s := rfl
theorem exec_maxu {g d a b} : exec (.maxu g d a b) s = execMaxu g d a b s := rfl
theorem exec_addx {g d a b} : exec (.addx g d a b) s = execAddx g d a b s := rfl
theorem exec_clz {g d a} : exec (.clz g d a) s = execClz g d a s := rfl
theorem exec_ctz {g d a} : exec (.ctz g d a) s = execCtz g d a s := rfl
theorem exec_popc {g d a} : exec (.popc g d a) s = execPopc g d a s := rfl
theorem exec_brev {g d a} : exec (.brev g d a) s = execBrev g d a s := rfl
theorem exec_bswap {g d a} : exec (.bswap g d a) s = execBswap g d a s := rfl
theorem exec_sext {g d a w} : exec (.sext g d a w) s = execSext g d a w s := rfl
theorem exec_zext {g d a w} : exec (.zext g d a w) s = execZext g d a w s := rfl
theorem exec_mov {g d a} : exec (.mov g d a) s = execMov g d a s := rfl
theorem exec_mul {g d a b} : exec (.mul g d a b) s = execMul g d a b s := rfl
theorem exec_mulh {g d a b} : exec (.mulh g d a b) s = execMulh g d a b s := rfl
theorem exec_mulhu {g d a b} : exec (.mulhu g d a b) s = execMulhu g d a b s := rfl
theorem exec_div {g d a b} : exec (.div g d a b) s = execDiv g d a b s := rfl
theorem exec_divu {g d a b} : exec (.divu g d a b) s = execDivu g d a b s := rfl
theorem exec_rem {g d a b} : exec (.rem g d a b) s = execRem g d a b s := rfl
theorem exec_remu {g d a b} : exec (.remu g d a b) s = execRemu g d a b s := rfl
theorem exec_extr {g d a b} : exec (.extr g d a b) s = execExtr g d a b s := rfl
theorem exec_insr {g d a b} : exec (.insr g d a b) s = execInsr g d a b s := rfl
theorem exec_sel {g d a b v k} : exec (.sel g d a b v k) s = execSel g d a b v k s := rfl
theorem exec_cmp {g c q a b} : exec (.cmp g c q a b) s = execCmp g c q a b s := rfl
theorem exec_pand {g d a b} : exec (.pand g d a b) s = execPand g d a b s := rfl
theorem exec_por {g d a b} : exec (.por g d a b) s = execPor g d a b s := rfl
theorem exec_pnot {g d a} : exec (.pnot g d a) s = execPnot g d a s := rfl
theorem exec_addi {g d a x} : exec (.addi g d a x) s = execAddi g d a x s := rfl
theorem exec_subi {g d a x} : exec (.subi g d a x) s = execSubi g d a x s := rfl
theorem exec_andi {g d a x} : exec (.andi g d a x) s = execAndi g d a x s := rfl
theorem exec_ori {g d a x} : exec (.ori g d a x) s = execOri g d a x s := rfl
theorem exec_xori {g d a x} : exec (.xori g d a x) s = execXori g d a x s := rfl
theorem exec_shli {g d a x} : exec (.shli g d a x) s = execShli g d a x s := rfl
theorem exec_shri {g d a x} : exec (.shri g d a x) s = execShri g d a x s := rfl
theorem exec_sari {g d a x} : exec (.sari g d a x) s = execSari g d a x s := rfl
theorem exec_cmpi {g c q a x} : exec (.cmpi g c q a x) s = execCmpi g c q a x s := rfl
theorem exec_movi {g d x} : exec (.movi g d x) s = execMovi g d x s := rfl
theorem exec_movh1 {g d x} : exec (.movh1 g d x) s = execMovh1 g d x s := rfl
theorem exec_movh2 {g d x} : exec (.movh2 g d x) s = execMovh2 g d x s := rfl
theorem exec_movh3 {g d x} : exec (.movh3 g d x) s = execMovh3 g d x s := rfl
theorem exec_br {g x} : exec (.br g x) s = execBr g x s := rfl
theorem exec_jmp {g a} : exec (.jmp g a) s = execJmp g a s := rfl
theorem exec_call {g d x} : exec (.call g d x) s = execCall g d x s := rfl
theorem exec_callr {g d a} : exec (.callr g d a) s = execCallr g d a s := rfl
theorem exec_ret {g a} : exec (.ret g a) s = execRet g a s := rfl
theorem exec_loopi {g l c} : exec (.loopi g l c) s = execLoopi g l c s := rfl
theorem exec_loop {g l a} : exec (.loop g l a) s = execLoop g l a s := rfl
theorem exec_mtcr {g a r} : exec (.mtcr g a r) s = execMtcr g a r s := rfl
theorem exec_mfcr {g d r} : exec (.mfcr g d r) s = execMfcr g d r s := rfl
theorem exec_trap {g k} : exec (.trap g k) s = execTrap g k s := rfl
theorem exec_tret {g} : exec (.tret g) s = execTret g s := rfl
theorem exec_ifence {g} : exec (.ifence g) s = execIfence g s := rfl
theorem exec_dchk {g a b} : exec (.dchk g a b) s = execDchk g a b s := rfl
theorem exec_xmov {g d a k y z} : exec (.xmov g d a k y z) s = execXmov g d a k y z s := rfl
theorem exec_vadd {g d a b w z} : exec (.vadd g d a b w z) s = execVadd g d a b w z s := rfl
theorem exec_vsub {g d a b w z} : exec (.vsub g d a b w z) s = execVsub g d a b w z s := rfl
theorem exec_vmul {g d a b w} : exec (.vmul g d a b w) s = execVmul g d a b w s := rfl
theorem exec_vmulh {g d a b w} : exec (.vmulh g d a b w) s = execVmulh g d a b w s := rfl
theorem exec_vmulhU {g d a b w} : exec (.vmulhU g d a b w) s = execVmulhU g d a b w s := rfl
theorem exec_vand {g d a b} : exec (.vand g d a b) s = execVand g d a b s := rfl
theorem exec_vor {g d a b} : exec (.vor g d a b) s = execVor g d a b s := rfl
theorem exec_vxor {g d a b} : exec (.vxor g d a b) s = execVxor g d a b s := rfl
theorem exec_vshl {g d a b w} : exec (.vshl g d a b w) s = execVshl g d a b w s := rfl
theorem exec_vshr {g d a b w} : exec (.vshr g d a b w) s = execVshr g d a b w s := rfl
theorem exec_vsar {g d a b w} : exec (.vsar g d a b w) s = execVsar g d a b w s := rfl
theorem exec_vshlImm {g d a w c} : exec (.vshlImm g d a w c) s = execVshlImm g d a w c s := rfl
theorem exec_vshrImm {g d a w c} : exec (.vshrImm g d a w c) s = execVshrImm g d a w c s := rfl
theorem exec_vsarImm {g d a w c} : exec (.vsarImm g d a w c) s = execVsarImm g d a w c s := rfl
theorem exec_vmin {g d a b w} : exec (.vmin g d a b w) s = execVmin g d a b w s := rfl
theorem exec_vmax {g d a b w} : exec (.vmax g d a b w) s = execVmax g d a b w s := rfl
theorem exec_vminU {g d a b w} : exec (.vminU g d a b w) s = execVminU g d a b w s := rfl
theorem exec_vmaxU {g d a b w} : exec (.vmaxU g d a b w) s = execVmaxU g d a b w s := rfl
theorem exec_vabs {g d a w} : exec (.vabs g d a w) s = execVabs g d a w s := rfl
theorem exec_vneg {g d a w} : exec (.vneg g d a w) s = execVneg g d a w s := rfl
theorem exec_vcmp {g c q a b w} : exec (.vcmp g c q a b w) s = execVcmp g c q a b w s := rfl
theorem exec_vsel {g d a b k} : exec (.vsel g d a b k) s = execVsel g d a b k s := rfl
theorem exec_vsplatImm {g d w x} : exec (.vsplatImm g d w x) s = execVsplatImm g d w x s := rfl
theorem exec_vsplatLane {g d a l w} : exec (.vsplatLane g d a l w) s = execVsplatLane g d a l w s := rfl
theorem exec_vperm {g d a b w} : exec (.vperm g d a b w) s = execVperm g d a b w s := rfl
theorem exec_vrot {g d a w c} : exec (.vrot g d a w c) s = execVrot g d a w c s := rfl
theorem exec_vslide {g d a w x c} : exec (.vslide g d a w x c) s = execVslide g d a w x c s := rfl
theorem exec_vcompress {g d a w} : exec (.vcompress g d a w) s = execVcompress g d a w s := rfl
theorem exec_vexpand {g d a w} : exec (.vexpand g d a w) s = execVexpand g d a w s := rfl
theorem exec_vredsum {g d a w} : exec (.vredsum g d a w) s = execVredsum g d a w s := rfl
theorem exec_vredmax {g d a w} : exec (.vredmax g d a w) s = execVredmax g d a w s := rfl
theorem exec_vredmin {g d a w} : exec (.vredmin g d a w) s = execVredmin g d a w s := rfl
theorem exec_vredsumF {g d a t} : exec (.vredsumF g d a t) s = execVredsumF g d a t s := rfl
theorem exec_vredmaxF {g d a t} : exec (.vredmaxF g d a t) s = execVredmaxF g d a t s := rfl
theorem exec_vredminF {g d a t} : exec (.vredminF g d a t) s = execVredminF g d a t s := rfl
theorem exec_vscanF {g d a t} : exec (.vscanF g d a t) s = execVscanF g d a t s := rfl
theorem exec_vscanI {g d a w} : exec (.vscanI g d a w) s = execVscanI g d a w s := rfl
theorem exec_vfadd {g d a b t} : exec (.vfadd g d a b t) s = execVfadd g d a b t s := rfl
theorem exec_vfsub {g d a b t} : exec (.vfsub g d a b t) s = execVfsub g d a b t s := rfl
theorem exec_vfmul {g d a b t} : exec (.vfmul g d a b t) s = execVfmul g d a b t s := rfl
theorem exec_vfma {g d a b t} : exec (.vfma g d a b t) s = execVfma g d a b t s := rfl
theorem exec_vfms {g d a b t} : exec (.vfms g d a b t) s = execVfms g d a b t s := rfl
theorem exec_vfnma {g d a b t} : exec (.vfnma g d a b t) s = execVfnma g d a b t s := rfl
theorem exec_vfmax {g d a b t} : exec (.vfmax g d a b t) s = execVfmax g d a b t s := rfl
theorem exec_vfmin {g d a b t} : exec (.vfmin g d a b t) s = execVfmin g d a b t s := rfl
theorem exec_vfscale {g d a b t} : exec (.vfscale g d a b t) s = execVfscale g d a b t s := rfl
theorem exec_vfabs {g d a t} : exec (.vfabs g d a t) s = execVfabs g d a t s := rfl
theorem exec_vfneg {g d a t} : exec (.vfneg g d a t) s = execVfneg g d a t s := rfl
theorem exec_vfclass {g d a t} : exec (.vfclass g d a t) s = execVfclass g d a t s := rfl
theorem exec_vfcmp {g c q a b t} : exec (.vfcmp g c q a b t) s = execVfcmp g c q a b t s := rfl
theorem exec_vfrcp {g d a t} : exec (.vfrcp g d a t) s = execVfrcp g d a t s := rfl
theorem exec_vfrsq {g d a t} : exec (.vfrsq g d a t) s = execVfrsq g d a t s := rfl
theorem exec_vfexp2 {g d a t} : exec (.vfexp2 g d a t) s = execVfexp2 g d a t s := rfl
theorem exec_vflog2 {g d a t} : exec (.vflog2 g d a t) s = execVflog2 g d a t s := rfl
theorem exec_vrope {g d a b} : exec (.vrope g d a b) s = execVrope g d a b s := rfl
theorem exec_vcvt {g d a o m} : exec (.vcvt g d a o m) s = execVcvt g d a o m s := rfl
theorem exec_vqblk {g d a o m} : exec (.vqblk g d a o m) s = execVqblk g d a o m s := rfl
theorem exec_vdqblk {g d a o m} : exec (.vdqblk g d a o m) s = execVdqblk g d a o m s := rfl
theorem exec_vcbx {g d a w k} : exec (.vcbx g d a w k) s = execVcbx g d a w k s := rfl
theorem exec_vcbq {g d a t k} : exec (.vcbq g d a t k) s = execVcbq g d a t k s := rfl
theorem exec_vpack {g d a c} : exec (.vpack g d a c) s = execVpack g d a c s := rfl
theorem exec_vunpack {g d a c} : exec (.vunpack g d a c) s = execVunpack g d a c s := rfl
theorem exec_vrand {g d} : exec (.vrand g d) s = execVrand g d s := rfl
theorem exec_kand {g d a b} : exec (.kand g d a b) s = execKand g d a b s := rfl
theorem exec_kor {g d a b} : exec (.kor g d a b) s = execKor g d a b s := rfl
theorem exec_knot {g d a} : exec (.knot g d a) s = execKnot g d a s := rfl
theorem exec_kmov {g d a} : exec (.kmov g d a) s = execKmov g d a s := rfl
theorem exec_vdchk {g a b} : exec (.vdchk g a b) s = execVdchk g a b s := rfl
theorem exec_ldB {g l x d b} : exec (.ldB g l x d b) s = execLdB g l x d b s := rfl
theorem exec_ldH {g l x d b} : exec (.ldH g l x d b) s = execLdH g l x d b s := rfl
theorem exec_ldW {g l x d b} : exec (.ldW g l x d b) s = execLdW g l x d b s := rfl
theorem exec_ldD {g l x d b} : exec (.ldD g l x d b) s = execLdD g l x d b s := rfl
theorem exec_ldBu {g l x d b} : exec (.ldBu g l x d b) s = execLdBu g l x d b s := rfl
theorem exec_ldHu {g l x d b} : exec (.ldHu g l x d b) s = execLdHu g l x d b s := rfl
theorem exec_ldWu {g l x d b} : exec (.ldWu g l x d b) s = execLdWu g l x d b s := rfl
theorem exec_ldv {g l d b} : exec (.ldv g l d b) s = execLdv g l d b s := rfl
theorem exec_ldvs {g l d b} : exec (.ldvs g l d b) s = execLdvs g l d b s := rfl
theorem exec_ldvg {g l d b} : exec (.ldvg g l d b) s = execLdvg g l d b s := rfl
theorem exec_atomW {g l x d b} : exec (.atomW g l x d b) s = execAtomW g l x d b s := rfl
theorem exec_atomD {g l x d b} : exec (.atomD g l x d b) s = execAtomD g l x d b s := rfl
theorem exec_atomCasW {g l x d b} : exec (.atomCasW g l x d b) s = execAtomCasW g l x d b s := rfl
theorem exec_atomCasD {g l x d b} : exec (.atomCasD g l x d b) s = execAtomCasD g l x d b s := rfl
theorem exec_redW {g b} : exec (.redW g b) s = execRedW g b s := rfl
theorem exec_redD {g b} : exec (.redD g b) s = execRedD g b s := rfl
theorem exec_stB {g d b} : exec (.stB g d b) s = execStB g d b s := rfl
theorem exec_stH {g d b} : exec (.stH g d b) s = execStH g d b s := rfl
theorem exec_stW {g d b} : exec (.stW g d b) s = execStW g d b s := rfl
theorem exec_stD {g d b} : exec (.stD g d b) s = execStD g d b s := rfl
theorem exec_stv {g d b} : exec (.stv g d b) s = execStv g d b s := rfl
theorem exec_stvs {g d b} : exec (.stvs g d b) s = execStvs g d b s := rfl
theorem exec_stvx {g d b} : exec (.stvx g d b) s = execStvx g d b s := rfl
theorem exec_ldsp {g d x} : exec (.ldsp g d x) s = execLdsp g d x s := rfl
theorem exec_stsp {g a x} : exec (.stsp g a x) s = execStsp g a x s := rfl
theorem exec_mark {g} : exec (.mark g) s = execMark g s := rfl
theorem exec_fence {g z} : exec (.fence g z) s = execFence g z s := rfl
theorem exec_shdr {g l x d b} : exec (.shdr g l x d b) s = execShdr g l x d b s := rfl
theorem exec_srd {g l x d b} : exec (.srd g l x d b) s = execSrd g l x d b s := rfl
theorem exec_swait {g z} : exec (.swait g z) s = execSwait g z s := rfl
theorem exec_sdone {g z} : exec (.sdone g z) s = execSdone g z s := rfl
theorem exec_sopen {g z} : exec (.sopen g z) s = execSopen g z s := rfl
theorem exec_swr {g z a b} : exec (.swr g z a b) s = execSwr g z a b s := rfl
theorem exec_sclose {g z a} : exec (.sclose g z a) s = execSclose g z a s := rfl
theorem exec_sfree {g z} : exec (.sfree g z) s = execSfree g z s := rfl
theorem exec_sbind {g z a} : exec (.sbind g z a) s = execSbind g z a s := rfl
theorem exec_stag {g z a b} : exec (.stag g z a b) s = execStag g z a b s := rfl
theorem exec_fview {g l x d b} : exec (.fview g l x d b) s = execFview g l x d b s := rfl
theorem exec_fseq {g l x d b} : exec (.fseq g l x d b) s = execFseq g l x d b s := rfl
theorem exec_fprobe {g l x d b} : exec (.fprobe g l x d b) s = execFprobe g l x d b s := rfl
theorem exec_fldk {g t a b} : exec (.fldk g t a b) s = execFldk g t a b s := rfl
theorem exec_fapp {g t a b} : exec (.fapp g t a b) s = execFapp g t a b s := rfl
theorem exec_ffork {g a b} : exec (.ffork g a b) s = execFfork g a b s := rfl
theorem exec_ftrunc {g a b} : exec (.ftrunc g a b) s = execFtrunc g a b s := rfl
theorem exec_ffree {g a b} : exec (.ffree g a b) s = execFfree g a b s := rfl
theorem exec_fhint {g a b} : exec (.fhint g a b) s = execFhint g a b s := rfl
theorem exec_ewr {g a r} : exec (.ewr g a r) s = execEwr g a r s := rfl
theorem exec_erd {g d r} : exec (.erd g d r) s = execErd g d r s := rfl
theorem exec_estat {g d} : exec (.estat g d) s = execEstat g d s := rfl
theorem exec_ego {g} : exec (.ego g) s = execEgo g s := rfl
theorem exec_eabort {g} : exec (.eabort g) s = execEabort g s := rfl
theorem exec_mloadw {g} : exec (.mloadw g) s = execMloadw g s := rfl
theorem exec_mmac {g} : exec (.mmac g) s = execMmac g s := rfl
theorem exec_mdrain {g} : exec (.mdrain g) s = execMdrain g s := rfl
theorem exec_cpy {g q} : exec (.cpy g q) s = execCpy g q s := rfl
theorem exec_cpyq {g d} : exec (.cpyq g d) s = execCpyq g d s := rfl
theorem exec_binit {g a k} : exec (.binit g a k) s = execBinit g a k s := rfl
theorem exec_barr {g a k} : exec (.barr g a k) s = execBarr g a k s := rfl
theorem exec_badd {g a k} : exec (.badd g a k) s = execBadd g a k s := rfl
theorem exec_bwait {g k} : exec (.bwait g k) s = execBwait g k s := rfl
theorem exec_gbar {g h w} : exec (.gbar g h w) s = execGbar g h w s := rfl
theorem exec_tfork {g d q b} : exec (.tfork g d q b) s = execTfork g d q b s := rfl
theorem exec_tjoin {g} : exec (.tjoin g) s = execTjoin g s := rfl
theorem exec_tcancel {g a} : exec (.tcancel g a) s = execTcancel g a s := rfl
theorem exec_texit {g} : exec (.texit g) s = execTexit g s := rfl
theorem exec_tyield {g} : exec (.tyield g) s = execTyield g s := rfl
theorem exec_lktry {g l m d z} : exec (.lktry g l m d z) s = execLktry g l m d z s := rfl
theorem exec_lkqry {g l d z} : exec (.lkqry g l d z) s = execLkqry g l d z s := rfl
theorem exec_lkacq {g d a m} : exec (.lkacq g d a m) s = execLkacq g d a m s := rfl
theorem exec_lkupg {g d a m} : exec (.lkupg g d a m) s = execLkupg g d a m s := rfl
theorem exec_lkrel {g a} : exec (.lkrel g a) s = execLkrel g a s := rfl
theorem exec_lkrela {g} : exec (.lkrela g) s = execLkrela g s := rfl
theorem exec_lkmat {g a} : exec (.lkmat g a) s = execLkmat g a s := rfl
theorem exec_cbwr {g k a b} : exec (.cbwr g k a b) s = execCbwr g k a b s := rfl
theorem exec_cbwrNw {g k a b} : exec (.cbwrNw g k a b) s = execCbwrNw g k a b s := rfl
theorem exec_cbld {g k a b} : exec (.cbld g k a b) s = execCbld g k a b s := rfl
theorem exec_cbinv {g k a} : exec (.cbinv g k a) s = execCbinv g k a s := rfl
theorem exec_bundleIssue {t} : exec (.bundleIssue t) s = execBundleIssue t s := rfl
theorem exec_resultCompletion {t} : exec (.resultCompletion t) s = execResultCompletion t s := rfl
theorem exec_landingArrival {c k} : exec (.landingArrival c k) s = execLandingArrival c k s := rfl
theorem exec_landingWrite {c} : exec (.landingWrite c) s = execLandingWrite c s := rfl
theorem exec_landingTimeout {t} : exec (.landingTimeout t) s = execLandingTimeout t s := rfl
theorem exec_blockSwitch {t} : exec (.blockSwitch t) s = execBlockSwitch t s := rfl
theorem exec_waitReady {c} : exec (.waitReady c) s = execWaitReady c s := rfl
theorem exec_interruptPending {t l} : exec (.interruptPending t l) s = execInterruptPending t l s := rfl
theorem exec_trapEntry {t} : exec (.trapEntry t) s = execTrapEntry t s := rfl
theorem exec_handlerEntry {t} : exec (.handlerEntry t) s = execHandlerEntry t s := rfl
theorem exec_lateFault {c k} : exec (.lateFault c k) s = execLateFault c k s := rfl
theorem exec_lostLanding {c k} : exec (.lostLanding c k) s = execLostLanding c k s := rfl
theorem exec_returnBundleIssue {t} : exec (.returnBundleIssue t) s = execReturnBundleIssue t s := rfl
theorem exec_packetFirstFlit {t k} : exec (.packetFirstFlit t k) s = execPacketFirstFlit t k s := rfl
theorem exec_packetReceived {t st k} : exec (.packetReceived t st k) s = execPacketReceived t st k s := rfl
theorem exec_nextWrite {t st v} : exec (.nextWrite t st v) s = execNextWrite t st v s := rfl
theorem exec_creditArrival {t st k} : exec (.creditArrival t st k) s = execCreditArrival t st k s := rfl
theorem exec_packetLaunch {c} : exec (.packetLaunch c) s = execPacketLaunch c s := rfl
theorem exec_taskAdmission {t} : exec (.taskAdmission t) s = execTaskAdmission t s := rfl
theorem exec_stealRound {t} : exec (.stealRound t) s = execStealRound t s := rfl
theorem exec_joinMessage {c k} : exec (.joinMessage c k) s = execJoinMessage c k s := rfl
theorem exec_queueIssue {c q} : exec (.queueIssue c q) s = execQueueIssue c q s := rfl
theorem exec_bankAccept {k} : exec (.bankAccept k) s = execBankAccept k s := rfl
theorem exec_barrApply {c} : exec (.barrApply c) s = execBarrApply c s := rfl
theorem exec_cpyDispatch {c} : exec (.cpyDispatch c) s = execCpyDispatch c s := rfl
theorem exec_copyRow {t k} : exec (.copyRow t k) s = execCopyRow t k s := rfl
theorem exec_shadowSwapIn {t} : exec (.shadowSwapIn t) s = execShadowSwapIn t s := rfl
theorem exec_engineComplete {t} : exec (.engineComplete t) s = execEngineComplete t s := rfl
theorem exec_foldDispatch {c} : exec (.foldDispatch c) s = execFoldDispatch c s := rfl
theorem exec_foldRow {t k} : exec (.foldRow t k) s = execFoldRow t k s := rfl
theorem exec_foldWalk {t v k} : exec (.foldWalk t v k) s = execFoldWalk t v k s := rfl
theorem exec_foldTransferComplete {t k} : exec (.foldTransferComplete t k) s = execFoldTransferComplete t k s := rfl
theorem exec_foldRecordOp {t k} : exec (.foldRecordOp t k) s = execFoldRecordOp t k s := rfl
theorem exec_pagePromotion {n k} : exec (.pagePromotion n k) s = execPagePromotion n k s := rfl
theorem exec_pageMoveComplete {n k} : exec (.pageMoveComplete n k) s = execPageMoveComplete n k s := rfl
theorem exec_woundDelivery {c w} : exec (.woundDelivery c w) s = execWoundDelivery c w s := rfl
theorem exec_woundReleaseTimeout {c} : exec (.woundReleaseTimeout c) s = execWoundReleaseTimeout c s := rfl
theorem exec_crookUe {n w} : exec (.crookUe n w) s = execCrookUe n w s := rfl
theorem exec_pastureTick {n} : exec (.pastureTick n) s = execPastureTick n s := rfl
theorem exec_psctlSave {t w} : exec (.psctlSave t w) s = execPsctlSave t w s := rfl
theorem exec_psctlResumeInPlace {t w} : exec (.psctlResumeInPlace t w) s = execPsctlResumeInPlace t w s := rfl
theorem exec_psctlResumeFromTile {t w} : exec (.psctlResumeFromTile t w) s = execPsctlResumeFromTile t w s := rfl
theorem exec_preemptHalt {t} : exec (.preemptHalt t) s = execPreemptHalt t s := rfl
theorem exec_saveComplete {t} : exec (.saveComplete t) s = execSaveComplete t s := rfl
theorem exec_treeCancel {n k} : exec (.treeCancel n k) s = execTreeCancel n k s := rfl
theorem exec_droveLoad {n im} : exec (.droveLoad n im) s = execDroveLoad n im s := rfl
theorem exec_droveRemoval {n k} : exec (.droveRemoval n k) s = execDroveRemoval n k s := rfl
theorem exec_droveWithdrawal {n k} : exec (.droveWithdrawal n k) s = execDroveWithdrawal n k s := rfl
theorem exec_dgcmdLoad {n k g} : exec (.dgcmdLoad n k g) s = execDgcmdLoad n k g s := rfl
theorem exec_dgcmdSwitch {n k} : exec (.dgcmdSwitch n k) s = execDgcmdSwitch n k s := rfl
theorem exec_dgcmdAbort {n k} : exec (.dgcmdAbort n k) s = execDgcmdAbort n k s := rfl
theorem exec_dgcmdInvalid {n k w} : exec (.dgcmdInvalid n k w) s = execDgcmdInvalid n k w s := rfl
theorem exec_generationVerified {n k} : exec (.generationVerified n k) s = execGenerationVerified n k s := rfl
theorem exec_generationDrained {n k} : exec (.generationDrained n k) s = execGenerationDrained n k s := rfl
theorem exec_tcmdCancel {n k} : exec (.tcmdCancel n k) s = execTcmdCancel n k s := rfl
theorem exec_swint {n w} : exec (.swint n w) s = execSwint n w s := rfl
theorem exec_mbin7Write {n w} : exec (.mbin7Write n w) s = execMbin7Write n w s := rfl
theorem exec_mailboxAccess {t w} : exec (.mailboxAccess t w) s = execMailboxAccess t w s := rfl
theorem exec_mailboxComplete {t} : exec (.mailboxComplete t) s = execMailboxComplete t s := rfl
theorem exec_qtailWrite {n k w} : exec (.qtailWrite n k w) s = execQtailWrite n k w s := rfl
theorem exec_qcfgWrite {n k w} : exec (.qcfgWrite n k w) s = execQcfgWrite n k w s := rfl
theorem exec_ingressRecord {n k} : exec (.ingressRecord n k) s = execIngressRecord n k s := rfl
theorem exec_egressPacket {n k} : exec (.egressPacket n k) s = execEgressPacket n k s := rfl
theorem exec_cresync {n w} : exec (.cresync n w) s = execCresync n w s := rfl
theorem exec_linkFlitReceive {n b fl} : exec (.linkFlitReceive n b fl) s = execLinkFlitReceive n b fl s := rfl
theorem exec_creditFlit {n ws} : exec (.creditFlit n ws) s = execCreditFlit n ws s := rfl
theorem exec_remoteLoad {r} : exec (.remoteLoad r) s = execRemoteLoad r s := rfl
theorem exec_remoteStore {r} : exec (.remoteStore r) s = execRemoteStore r s := rfl
theorem exec_remoteAtom {r} : exec (.remoteAtom r) s = execRemoteAtom r s := rfl
theorem exec_remoteAtomCas {r} : exec (.remoteAtomCas r) s = execRemoteAtomCas r s := rfl
theorem exec_remoteRed {r} : exec (.remoteRed r) s = execRemoteRed r s := rfl
theorem exec_remoteUnknownOperation {r} : exec (.remoteUnknownOperation r) s = execRemoteUnknownOperation r s := rfl
theorem exec_remoteResponse {r} : exec (.remoteResponse r) s = execRemoteResponse r s := rfl
theorem exec_crookAcquireMsg {m} : exec (.crookAcquireMsg m) s = execCrookAcquireMsg m s := rfl
theorem exec_crookTryMsg {m} : exec (.crookTryMsg m) s = execCrookTryMsg m s := rfl
theorem exec_crookUpgradeMsg {m} : exec (.crookUpgradeMsg m) s = execCrookUpgradeMsg m s := rfl
theorem exec_crookReleaseMsg {m} : exec (.crookReleaseMsg m) s = execCrookReleaseMsg m s := rfl
theorem exec_crookWithdrawMsg {m} : exec (.crookWithdrawMsg m) s = execCrookWithdrawMsg m s := rfl
theorem exec_crookQueryMsg {m} : exec (.crookQueryMsg m) s = execCrookQueryMsg m s := rfl
theorem exec_crookStatusMsg {m} : exec (.crookStatusMsg m) s = execCrookStatusMsg m s := rfl
theorem exec_crookWoundMsg {m} : exec (.crookWoundMsg m) s = execCrookWoundMsg m s := rfl
theorem exec_crookQueryResultMsg {m} : exec (.crookQueryResultMsg m) s = execCrookQueryResultMsg m s := rfl
theorem exec_foldReleaseMsg {m} : exec (.foldReleaseMsg m) s = execFoldReleaseMsg m s := rfl
theorem exec_foldFetchMsg {m} : exec (.foldFetchMsg m) s = execFoldFetchMsg m s := rfl
theorem exec_foldOfferMsg {m} : exec (.foldOfferMsg m) s = execFoldOfferMsg m s := rfl
theorem exec_foldAcceptMsg {m} : exec (.foldAcceptMsg m) s = execFoldAcceptMsg m s := rfl
theorem exec_foldRefuseMsg {m} : exec (.foldRefuseMsg m) s = execFoldRefuseMsg m s := rfl
theorem exec_foldPageDataMsg {m} : exec (.foldPageDataMsg m) s = execFoldPageDataMsg m s := rfl
theorem exec_foldMoveCompleteMsg {m} : exec (.foldMoveCompleteMsg m) s = execFoldMoveCompleteMsg m s := rfl
theorem exec_tickExchangeMsg {n k} : exec (.tickExchangeMsg n k) s = execTickExchangeMsg n k s := rfl
theorem exec_holdMsg {n src w} : exec (.holdMsg n src w) s = execHoldMsg n src w s := rfl
theorem exec_holdAnswerMsg {n src w v} : exec (.holdAnswerMsg n src w v) s = execHoldAnswerMsg n src w v s := rfl
theorem exec_holdEndMsg {n src w v} : exec (.holdEndMsg n src w v) s = execHoldEndMsg n src w v s := rfl
theorem exec_musterSegmentMsg {n k bs} : exec (.musterSegmentMsg n k bs) s = execMusterSegmentMsg n k bs s := rfl
theorem exec_membershipUpdateMsg {n k w} : exec (.membershipUpdateMsg n k w) s = execMembershipUpdateMsg n k w s := rfl
theorem exec_movePointMsg {n w} : exec (.movePointMsg n w) s = execMovePointMsg n w s := rfl
theorem exec_correctedError {n u k} : exec (.correctedError n u k) s = execCorrectedError n u k s := rfl
theorem exec_uncorrectedError {n u k} : exec (.uncorrectedError n u k) s = execUncorrectedError n u k s := rfl
theorem exec_suspectReversion {n u} : exec (.suspectReversion n u) s = execSuspectReversion n u s := rfl
theorem exec_counterHourBucket {n} : exec (.counterHourBucket n) s = execCounterHourBucket n s := rfl
theorem exec_backgroundScrub {n} : exec (.backgroundScrub n) s = execBackgroundScrub n s := rfl
theorem exec_bankRetirement {t k} : exec (.bankRetirement t k) s = execBankRetirement t k s := rfl
theorem exec_tileCoreRetirement {t} : exec (.tileCoreRetirement t) s = execTileCoreRetirement t s := rfl
theorem exec_laneRetirement {n k} : exec (.laneRetirement n k) s = execLaneRetirement n k s := rfl
theorem exec_bundleDown {n k} : exec (.bundleDown n k) s = execBundleDown n k s := rfl
theorem exec_rascfgLock {n w} : exec (.rascfgLock n w) s = execRascfgLock n w s := rfl
theorem exec_laneSilence {n} : exec (.laneSilence n) s = execLaneSilence n s := rfl
theorem exec_transhumance {n k} : exec (.transhumance n k) s = execTranshumance n k s := rfl
theorem exec_boot {n im} : exec (.boot n im) s = execBoot n im s := rfl
theorem exec_recoveryImage {n im} : exec (.recoveryImage n im) s = execRecoveryImage n im s := rfl
theorem exec_attestationRequest {n bs} : exec (.attestationRequest n bs) s = execAttestationRequest n bs s := rfl
theorem exec_attestationComplete {n} : exec (.attestationComplete n) s = execAttestationComplete n s := rfl
theorem exec_throttleStep {n x} : exec (.throttleStep n x) s = execThrottleStep n x s := rfl
theorem exec_pwrcapWrite {n w} : exec (.pwrcapWrite n w) s = execPwrcapWrite n w s := rfl
theorem exec_thermalTrip {n} : exec (.thermalTrip n) s = execThermalTrip n s := rfl
theorem exec_powerLoss {n} : exec (.powerLoss n) s = execPowerLoss n s := rfl
theorem exec_reset {n} : exec (.reset n) s = execReset n s := rfl
theorem exec_registerWrite {n k w} : exec (.registerWrite n k w) s = execRegisterWrite n k w s := rfl
theorem exec_nestedLandingLost {c k} : exec (.nestedLandingLost c k) s = execNestedLandingLost c k s := rfl
theorem exec_flitSlot {n b} : exec (.flitSlot n b) s = execFlitSlot n b s := rfl
theorem exec_requestCreditReturn {n b} : exec (.requestCreditReturn n b) s = execRequestCreditReturn n b s := rfl
theorem exec_laneRetrained {n k} : exec (.laneRetrained n k) s = execLaneRetrained n k s := rfl

end Sys2Proof.Laws
end

