-- ==== Sys2Proof/Laws/Memory.lean ====
section
/-! SUPPORT. The byte cells: a read after a write, and the canonical form, which every memory operation keeps. -/

namespace Sys2Proof.Machine

/-! The canonical form -/

theorem Memory.wfFrom_cons {lo j : Nat} {v : Byte} {r : List Host.Cell} :
    Memory.wfFrom lo ((j, v) :: r) = true ↔ lo ≤ j ∧ v ≠ memDefault j ∧ Memory.wfFrom (j + 1) r = true := by
  simp [Memory.wfFrom, and_assoc]

/-- A lower bound suffices. -/
theorem Memory.wfFrom_mono {lo hi : Nat} {m : List Host.Cell} (h : lo ≤ hi) (hm : Memory.wfFrom hi m = true) :
    Memory.wfFrom lo m = true := by
  cases m with
  | nil => rfl
  | cons c r =>
    obtain ⟨j, v⟩ := c
    rw [Memory.wfFrom_cons] at *
    exact ⟨by omega, hm.2.1, hm.2.2⟩

/-- Below a bound nothing is listed. -/
theorem Memory.get_of_lt {lo k : Nat} {m : List Host.Cell} (hm : Memory.wfFrom lo m = true) (h : k < lo) :
    Memory.get m k = memDefault k := by
  cases m with
  | nil => rfl
  | cons c r =>
    obtain ⟨j, v⟩ := c
    rw [Memory.wfFrom_cons] at hm
    exact if_pos (by omega)

/-- A byte written keeps the form. -/
theorem Memory.wfFrom_put {lo k : Nat} {m : List Host.Cell} (v : Byte) (hm : Memory.wfFrom lo m = true) (h : lo ≤ k) :
    Memory.wfFrom lo (Memory.put m k v) = true := by
  induction m generalizing lo with
  | nil =>
    unfold Memory.put
    split
    · rfl
    · rename_i hv
      exact Memory.wfFrom_cons.mpr ⟨h, hv, rfl⟩
  | cons c r ih =>
    obtain ⟨j, w⟩ := c
    have h3 := Memory.wfFrom_cons.mp hm
    unfold Memory.put
    split
    · rename_i hk
      split
      · exact hm
      · rename_i hv
        exact Memory.wfFrom_cons.mpr ⟨h, hv, Memory.wfFrom_cons.mpr ⟨by omega, h3.2.1, h3.2.2⟩⟩
    · split
      · rename_i hk
        subst hk
        split
        · exact Memory.wfFrom_mono (by omega) h3.2.2
        · rename_i hv
          exact Memory.wfFrom_cons.mpr ⟨h, hv, h3.2.2⟩
      · exact Memory.wfFrom_cons.mpr ⟨h3.1, h3.2.1, ih h3.2.2 (by omega)⟩

theorem Memory.wf_put {m : List Host.Cell} (k : Nat) (v : Byte) (hm : Memory.wf m = true) : Memory.wf (Memory.put m k v) = true :=
  Memory.wfFrom_put v hm (Nat.zero_le k)

/-- Bytes written keep the form. -/
theorem Memory.wf_write {m : List Host.Cell} (k : Nat) (bs : List Byte) (hm : Memory.wf m = true) :
    Memory.wf (Memory.write m k bs) = true := by
  induction bs generalizing m k with
  | nil => exact hm
  | cons b bs ih => exact ih (k + 1) (Memory.wf_put k b hm)

/-- Some of the cells keep the form. -/
theorem Memory.wfFrom_filter {lo : Nat} {m : List Host.Cell} (p : Host.Cell → Bool) (hm : Memory.wfFrom lo m = true) :
    Memory.wfFrom lo (m.filter p) = true := by
  induction m generalizing lo with
  | nil => rfl
  | cons c r ih =>
    obtain ⟨j, v⟩ := c
    have h3 := Memory.wfFrom_cons.mp hm
    rw [List.filter_cons]
    split
    · exact Memory.wfFrom_cons.mpr ⟨h3.1, h3.2.1, ih h3.2.2⟩
    · exact Memory.wfFrom_mono (by omega) (ih h3.2.2)

theorem Memory.wf_filter {m : List Host.Cell} (p : Host.Cell → Bool) (hm : Memory.wf m = true) : Memory.wf (m.filter p) = true :=
  Memory.wfFrom_filter p hm

theorem Memory.wf_zero {m : List Host.Cell} (k n : Nat) (hm : Memory.wf m = true) : Memory.wf (Memory.zero m k n) = true :=
  Memory.wf_filter _ hm

/-- Two lists of cells, the second above every key of the first, keep the form together. -/
theorem Memory.wfFrom_append {lo mid : Nat} {m1 m2 : List Host.Cell} (h1 : Memory.wfFrom lo m1 = true)
    (h2 : Memory.wfFrom mid m2 = true) (hb : ∀ c ∈ m1, c.1 < mid) (hl : lo ≤ mid) : Memory.wfFrom lo (m1 ++ m2) = true := by
  induction m1 generalizing lo with
  | nil => exact Memory.wfFrom_mono hl h2
  | cons c r ih =>
    obtain ⟨j, v⟩ := c
    have h3 := Memory.wfFrom_cons.mp h1
    have hj : j < mid := hb (j, v) (by simp)
    exact Memory.wfFrom_cons.mpr ⟨h3.1, h3.2.1, ih h3.2.2 (fun c hc => hb c (by simp [hc])) (by omega)⟩

/-- The cells of consecutive bytes stand in the form from their key on, and below its end. -/
theorem Memory.wfFrom_cells (k : Nat) (bs : List Byte) : Memory.wfFrom k (Memory.cells k bs) = true := by
  induction bs generalizing k with
  | nil => rfl
  | cons b bs ih =>
    unfold Memory.cells
    split
    · exact Memory.wfFrom_mono (by omega) (ih (k + 1))
    · rename_i hb
      exact Memory.wfFrom_cons.mpr ⟨le_refl k, hb, ih (k + 1)⟩

theorem Memory.cells_lt (k : Nat) (bs : List Byte) : ∀ c ∈ Memory.cells k bs, c.1 < k + bs.length := by
  induction bs generalizing k with
  | nil => simp [Memory.cells]
  | cons b bs ih =>
    intro c hc
    unfold Memory.cells at hc
    rw [List.length_cons]
    split at hc
    · have := ih (k + 1) c hc
      omega
    · rcases List.mem_cons.mp hc with rfl | hc
      · simp only
        omega
      · have := ih (k + 1) c hc
        omega

theorem Memory.below_lt (m : List Host.Cell) (k : Nat) : ∀ c ∈ Memory.below m k, c.1 < k := by
  intro c hc
  simpa using (List.mem_filter.mp hc).2

/-- The cells from a key on stand above it. -/
theorem Memory.wfFrom_from {lo : Nat} {m : List Host.Cell} (k : Nat) (hm : Memory.wfFrom lo m = true) :
    Memory.wfFrom k (Memory.from m k) = true := by
  induction m generalizing lo with
  | nil => rfl
  | cons c r ih =>
    obtain ⟨j, v⟩ := c
    have h3 := Memory.wfFrom_cons.mp hm
    unfold Memory.from
    rw [List.filter_cons]
    split
    · rename_i hk
      exact Memory.wfFrom_cons.mpr ⟨by simpa using hk, h3.2.1, Memory.wfFrom_filter _ h3.2.2⟩
    · exact ih h3.2.2

theorem Memory.wf_place {m : List Host.Cell} (k : Nat) (bs : List Byte) (hm : Memory.wf m = true) :
    Memory.wf (Memory.place m k bs) = true := by
  unfold Memory.place
  rw [List.append_assoc]
  refine Memory.wfFrom_append (mid := k) (Memory.wfFrom_filter _ hm) ?_ (Memory.below_lt m k) (Nat.zero_le _)
  exact Memory.wfFrom_append (Memory.wfFrom_cells k bs) (Memory.wfFrom_from _ hm) (Memory.cells_lt k bs) (by omega)

/-- Cells moved by a distance, those left out that an unlisted address reads as. -/
theorem Memory.wfFrom_shift {lo src dst : Nat} {m : List Host.Cell} (hm : Memory.wfFrom lo m = true) (hs : src ≤ lo) :
    Memory.wfFrom (lo - src + dst)
      ((m.map (fun c => (c.1 - src + dst, c.2))).filter (fun c => c.2 != memDefault c.1)) = true := by
  induction m generalizing lo with
  | nil => rfl
  | cons c r ih =>
    obtain ⟨j, v⟩ := c
    have h3 := Memory.wfFrom_cons.mp hm
    have ih := ih h3.2.2 (by omega)
    rw [List.map_cons, List.filter_cons]
    split
    · rename_i hv
      exact Memory.wfFrom_cons.mpr ⟨by omega, by simpa using hv, Memory.wfFrom_mono (by omega) ih⟩
    · exact Memory.wfFrom_mono (by omega) ih

theorem Memory.wf_move {m : List Host.Cell} (src dst n : Nat) (hm : Memory.wf m = true) :
    Memory.wf (Memory.move m src dst n) = true := by
  unfold Memory.move
  rw [List.append_assoc]
  refine Memory.wfFrom_append (mid := dst) (Memory.wfFrom_filter _ hm) ?_ (Memory.below_lt m dst) (Nat.zero_le _)
  refine Memory.wfFrom_append ?_ (Memory.wfFrom_from (dst + n) hm) ?_ (by omega)
  · have h := Memory.wfFrom_shift (dst := dst) (Memory.wfFrom_filter (fun c => decide (c.1 < src + n)) (Memory.wfFrom_from src hm)) (le_refl src)
    rw [Nat.sub_self, Nat.zero_add] at h
    exact h
  · intro c hc
    obtain ⟨d, hd, rfl⟩ := List.mem_map.mp (List.mem_filter.mp hc).1
    have h1 := Memory.below_lt _ _ d hd
    have h2 : src ≤ d.1 := by simpa using (List.mem_filter.mp (List.mem_filter.mp hd).1).2
    simp only
    omega

/-! Reads after writes -/

/-- A byte written is read back. -/
theorem Memory.get_put_self {lo : Nat} {m : List Host.Cell} (k : Nat) (v : Byte) (hm : Memory.wfFrom lo m = true) :
    Memory.get (Memory.put m k v) k = v := by
  induction m generalizing lo with
  | nil =>
    unfold Memory.put
    split
    · rename_i hv
      exact hv.symm
    · simp [Memory.get]
  | cons c r ih =>
    obtain ⟨j, w⟩ := c
    have h3 := Memory.wfFrom_cons.mp hm
    unfold Memory.put
    split
    · rename_i hk
      split
      · rename_i hv
        simp [Memory.get, hk, hv]
      · simp [Memory.get]
    · rename_i hk
      split
      · rename_i he
        subst he
        split
        · rename_i hv
          rw [hv]
          exact Memory.get_of_lt h3.2.2 (by omega)
        · simp [Memory.get]
      · rename_i he
        rw [Memory.get, if_neg hk, if_neg (fun h => he h.symm)]
        exact ih h3.2.2

/-- Every other byte is as it was. -/
theorem Memory.get_put_of_ne {lo : Nat} {m : List Host.Cell} {k a : Nat} (v : Byte) (hm : Memory.wfFrom lo m = true) (h : a ≠ k) :
    Memory.get (Memory.put m k v) a = Memory.get m a := by
  induction m generalizing lo with
  | nil =>
    unfold Memory.put
    split
    · rfl
    · simp [Memory.get, Ne.symm h]
  | cons c r ih =>
    obtain ⟨j, w⟩ := c
    have h3 := Memory.wfFrom_cons.mp hm
    unfold Memory.put
    split
    · rename_i hk
      split
      · rfl
      · simp only [Memory.get, Ne.symm h, if_false]
        split
        · rw [if_pos (by omega)]
        · rfl
    · split
      · rename_i he
        subst he
        split
        · simp only [Memory.get, Ne.symm h, if_false]
          split
          · rename_i ha
            exact Memory.get_of_lt h3.2.2 (by omega)
          · rfl
        · simp [Memory.get, Ne.symm h]
      · simp only [Memory.get]
        rw [ih h3.2.2]

/-- Bytes written are read back, and every other byte is as it was. -/
theorem Memory.get_write {m : List Host.Cell} (k : Nat) (bs : List Byte) (a : Nat) (hm : Memory.wf m = true) :
    Memory.get (Memory.write m k bs) a = if k ≤ a ∧ a < k + bs.length then bs.getD (a - k) 0 else Memory.get m a := by
  induction bs generalizing m k with
  | nil =>
    rw [if_neg (by simp only [List.length_nil]; omega)]
    rfl
  | cons b bs ih =>
    rw [Memory.write, ih (k + 1) (Memory.wf_put k b hm), List.length_cons]
    by_cases h1 : a = k
    · subst h1
      rw [if_neg (by omega), if_pos (by omega), Memory.get_put_self a b hm]
      simp
    · rw [Memory.get_put_of_ne b hm h1]
      by_cases h2 : k + 1 ≤ a ∧ a < k + 1 + bs.length
      · rw [if_pos h2, if_pos (by omega)]
        obtain ⟨i, rfl⟩ : ∃ i, a = k + 1 + i := ⟨a - (k + 1), by omega⟩
        rw [show k + 1 + i - k = i + 1 by omega, show k + 1 + i - (k + 1) = i by omega, List.getD_cons_succ]
      · rw [if_neg h2, if_neg (by omega)]

end Sys2Proof.Machine
end

