-- ==== Sys2Proof/Laws/PerInstr.lean ====
section
/-! SUPPORT. One lemma per instruction: its encoding is read back as it. -/

namespace Sys2Proof.Laws

set_option Elab.async false

/-- Decoding the words of a well-formed instruction gives it back. -/
def RoundTrip.Statement (i : Instr) : Prop :=
  ∀ (sl : Slot) (w : BitVec 32), i.wf = true → i.encode = some (sl, w) → decodeWord sl w = .ok i

namespace RoundTrip

/-- It is enough that the fields of the instruction are read back. -/
theorem ofFields {i : Instr} {sl : Slot} {f : Fields} (h : i.toFields = some (sl, f))
    (h2 : i.wf = true → decodeFields sl f = .ok i) : Statement i := by
  intro sl' w hw he
  simp only [Instr.encode, h, Option.map_some, Option.some.injEq, Prod.mk.injEq] at he
  obtain ⟨rfl, rfl⟩ := he
  rw [decodeWord, splitWord_joinWord]
  exact h2 hw

/-- A step has no words. -/
theorem ofStep {i : Instr} (h : i.toFields = none) : Statement i := by
  intro sl w _ he
  simp [Instr.encode, h] at he

theorem ofSlotA {i : Instr} {g : Guard} {op d a b fn} (h : i.toFields = some (.a, ⟨op, g.inv, g.p, d, a, b, fn⟩)) (ho : op ≠ 0)
    (hd : i.wf = true → decodeA g ⟨op, g.inv, g.p, d, a, b, fn⟩ = .ok i) : Statement i :=
  ofFields h fun hw => by
    rw [decodeFields, if_neg (fun he => ho (congrArg Fields.op he))]
    simp only [hd hw, hw, if_true]

theorem ofSlotV {i : Instr} {g : Guard} {op d a b fn} (h : i.toFields = some (.v, ⟨op, g.inv, g.p, d, a, b, fn⟩)) (ho : op ≠ 0)
    (hd : i.wf = true → decodeV g ⟨op, g.inv, g.p, d, a, b, fn⟩ = .ok i) : Statement i :=
  ofFields h fun hw => by
    rw [decodeFields, if_neg (fun he => ho (congrArg Fields.op he))]
    simp only [hd hw, hw, if_true]

theorem ofSlotM {i : Instr} {g : Guard} {op d a b fn} (h : i.toFields = some (.m, ⟨op, g.inv, g.p, d, a, b, fn⟩)) (ho : op ≠ 0)
    (hd : i.wf = true → decodeM g ⟨op, g.inv, g.p, d, a, b, fn⟩ = .ok i) : Statement i :=
  ofFields h fun hw => by
    rw [decodeFields, if_neg (fun he => ho (congrArg Fields.op he))]
    simp only [hd hw, hw, if_true]

theorem ofSlotE {i : Instr} {g : Guard} {op d a b fn} (h : i.toFields = some (.e, ⟨op, g.inv, g.p, d, a, b, fn⟩)) (ho : op ≠ 0)
    (hd : i.wf = true → decodeE g ⟨op, g.inv, g.p, d, a, b, fn⟩ = .ok i) : Statement i :=
  ofFields h fun hw => by
    rw [decodeFields, if_neg (fun he => ho (congrArg Fields.op he))]
    simp only [hd hw, hw, if_true]

/-! The operations of the slots -/

theorem nop : Statement .nop := ofFields rfl fun _ => rfl
theorem add (g : Guard) (d : Dst) (a : Src) (b : Src) : Statement (.add g d a b) :=
  ofSlotA rfl (by decide) (fun _ => by simp [decodeA])
theorem sub (g : Guard) (d : Dst) (a : Src) (b : Src) : Statement (.sub g d a b) :=
  ofSlotA rfl (by decide) (fun _ => by simp [decodeA])
theorem and (g : Guard) (d : Dst) (a : Src) (b : Src) : Statement (.and g d a b) :=
  ofSlotA rfl (by decide) (fun _ => by simp [decodeA])
theorem or (g : Guard) (d : Dst) (a : Src) (b : Src) : Statement (.or g d a b) :=
  ofSlotA rfl (by decide) (fun _ => by simp [decodeA])
theorem xor (g : Guard) (d : Dst) (a : Src) (b : Src) : Statement (.xor g d a b) :=
  ofSlotA rfl (by decide) (fun _ => by simp [decodeA])
theorem andn (g : Guard) (d : Dst) (a : Src) (b : Src) : Statement (.andn g d a b) :=
  ofSlotA rfl (by decide) (fun _ => by simp [decodeA])
theorem shl (g : Guard) (d : Dst) (a : Src) (b : Src) : Statement (.shl g d a b) :=
  ofSlotA rfl (by decide) (fun _ => by simp [decodeA])
theorem shr (g : Guard) (d : Dst) (a : Src) (b : Src) : Statement (.shr g d a b) :=
  ofSlotA rfl (by decide) (fun _ => by simp [decodeA])
theorem sar (g : Guard) (d : Dst) (a : Src) (b : Src) : Statement (.sar g d a b) :=
  ofSlotA rfl (by decide) (fun _ => by simp [decodeA])
theorem rol (g : Guard) (d : Dst) (a : Src) (b : Src) : Statement (.rol g d a b) :=
  ofSlotA rfl (by decide) (fun _ => by simp [decodeA])
theorem min (g : Guard) (d : Dst) (a : Src) (b : Src) : Statement (.min g d a b) :=
  ofSlotA rfl (by decide) (fun _ => by simp [decodeA])
theorem max (g : Guard) (d : Dst) (a : Src) (b : Src) : Statement (.max g d a b) :=
  ofSlotA rfl (by decide) (fun _ => by simp [decodeA])
theorem minu (g : Guard) (d : Dst) (a : Src) (b : Src) : Statement (.minu g d a b) :=
  ofSlotA rfl (by decide) (fun _ => by simp [decodeA])
theorem maxu (g : Guard) (d : Dst) (a : Src) (b : Src) : Statement (.maxu g d a b) :=
  ofSlotA rfl (by decide) (fun _ => by simp [decodeA])
theorem addx (g : Guard) (d : Dst) (a : Src) (b : Src) : Statement (.addx g d a b) :=
  ofSlotA rfl (by decide) (fun _ => by simp [decodeA])
theorem clz (g : Guard) (d : Dst) (a : Src) : Statement (.clz g d a) :=
  ofSlotA rfl (by decide) (fun _ => by simp [decodeA])
theorem ctz (g : Guard) (d : Dst) (a : Src) : Statement (.ctz g d a) :=
  ofSlotA rfl (by decide) (fun _ => by simp [decodeA])
theorem popc (g : Guard) (d : Dst) (a : Src) : Statement (.popc g d a) :=
  ofSlotA rfl (by decide) (fun _ => by simp [decodeA])
theorem brev (g : Guard) (d : Dst) (a : Src) : Statement (.brev g d a) :=
  ofSlotA rfl (by decide) (fun _ => by simp [decodeA])
theorem bswap (g : Guard) (d : Dst) (a : Src) : Statement (.bswap g d a) :=
  ofSlotA rfl (by decide) (fun _ => by simp [decodeA])
theorem sext (g : Guard) (d : Dst) (a : Src) (w : ExtW) : Statement (.sext g d a w) :=
  ofSlotA rfl (by decide) (fun _ => by simp [decodeA])
theorem zext (g : Guard) (d : Dst) (a : Src) (w : ExtW) : Statement (.zext g d a w) :=
  ofSlotA rfl (by decide) (fun _ => by simp [decodeA])
theorem mov (g : Guard) (d : Dst) (a : Src) : Statement (.mov g d a) :=
  ofSlotA rfl (by decide) (fun _ => by simp [decodeA])
theorem mul (g : Guard) (d : Dst) (a : Src) (b : Src) : Statement (.mul g d a b) :=
  ofSlotA rfl (by decide) (fun _ => by simp [decodeA])
theorem mulh (g : Guard) (d : Dst) (a : Src) (b : Src) : Statement (.mulh g d a b) :=
  ofSlotA rfl (by decide) (fun _ => by simp [decodeA])
theorem mulhu (g : Guard) (d : Dst) (a : Src) (b : Src) : Statement (.mulhu g d a b) :=
  ofSlotA rfl (by decide) (fun _ => by simp [decodeA])
theorem div (g : Guard) (d : Dst) (a : Src) (b : Src) : Statement (.div g d a b) :=
  ofSlotA rfl (by decide) (fun _ => by simp [decodeA])
theorem divu (g : Guard) (d : Dst) (a : Src) (b : Src) : Statement (.divu g d a b) :=
  ofSlotA rfl (by decide) (fun _ => by simp [decodeA])
theorem rem (g : Guard) (d : Dst) (a : Src) (b : Src) : Statement (.rem g d a b) :=
  ofSlotA rfl (by decide) (fun _ => by simp [decodeA])
theorem remu (g : Guard) (d : Dst) (a : Src) (b : Src) : Statement (.remu g d a b) :=
  ofSlotA rfl (by decide) (fun _ => by simp [decodeA])
theorem extr (g : Guard) (d : Dst) (a : Src) (b : Src) : Statement (.extr g d a b) :=
  ofSlotA rfl (by decide) (fun _ => by simp [decodeA])
theorem insr (g : Guard) (d : BitVec 5) (a : Src) (b : Src) : Statement (.insr g d a b) :=
  ofSlotA rfl (by decide) (fun _ => by simp [decodeA])
theorem sel (g : Guard) (d : Dst) (a : Src) (b : Src) (v : Bool) (k : BitVec 3) : Statement (.sel g d a b v k) :=
  ofSlotA rfl (by decide) (fun _ => by simp [decodeA])
theorem cmp (g : Guard) (c : ICond) (q : BitVec 3) (a : Src) (b : Src) : Statement (.cmp g c q a b) :=
  ofSlotA rfl (by decide) (fun _ => by simp [decodeA])
theorem pand (g : Guard) (d : BitVec 3) (a : BitVec 3) (b : BitVec 3) : Statement (.pand g d a b) :=
  ofSlotA rfl (by decide) (fun _ => by simp [decodeA])
theorem por (g : Guard) (d : BitVec 3) (a : BitVec 3) (b : BitVec 3) : Statement (.por g d a b) :=
  ofSlotA rfl (by decide) (fun _ => by simp [decodeA])
theorem pnot (g : Guard) (d : BitVec 3) (a : BitVec 3) : Statement (.pnot g d a) :=
  ofSlotA rfl (by decide) (fun _ => by simp [decodeA])
theorem addi (g : Guard) (d : Dst) (a : Src) (i : BitVec 10) : Statement (.addi g d a i) :=
  ofSlotA rfl (by decide) (fun _ => by simp [decodeA])
theorem subi (g : Guard) (d : Dst) (a : Src) (i : BitVec 10) : Statement (.subi g d a i) :=
  ofSlotA rfl (by decide) (fun _ => by simp [decodeA])
theorem andi (g : Guard) (d : Dst) (a : Src) (i : BitVec 10) : Statement (.andi g d a i) :=
  ofSlotA rfl (by decide) (fun _ => by simp [decodeA])
theorem ori (g : Guard) (d : Dst) (a : Src) (i : BitVec 10) : Statement (.ori g d a i) :=
  ofSlotA rfl (by decide) (fun _ => by simp [decodeA])
theorem xori (g : Guard) (d : Dst) (a : Src) (i : BitVec 10) : Statement (.xori g d a i) :=
  ofSlotA rfl (by decide) (fun _ => by simp [decodeA])
theorem shli (g : Guard) (d : Dst) (a : Src) (i : BitVec 6) : Statement (.shli g d a i) :=
  ofSlotA rfl (by decide) (fun _ => by simp [decodeA])
theorem shri (g : Guard) (d : Dst) (a : Src) (i : BitVec 6) : Statement (.shri g d a i) :=
  ofSlotA rfl (by decide) (fun _ => by simp [decodeA])
theorem sari (g : Guard) (d : Dst) (a : Src) (i : BitVec 6) : Statement (.sari g d a i) :=
  ofSlotA rfl (by decide) (fun _ => by simp [decodeA])
theorem cmpi (g : Guard) (c : ICond) (q : BitVec 3) (a : Src) (i : BitVec 10) : Statement (.cmpi g c q a i) :=
  ofSlotA rfl (by decide) (fun _ => by simp [decodeA])
theorem movi (g : Guard) (d : Dst) (i : BitVec 16) : Statement (.movi g d i) :=
  ofSlotA rfl (by decide) (fun _ => by simp [decodeA])
theorem movh1 (g : Guard) (d : BitVec 5) (i : BitVec 16) : Statement (.movh1 g d i) :=
  ofSlotA rfl (by decide) (fun _ => by simp [decodeA])
theorem movh2 (g : Guard) (d : BitVec 5) (i : BitVec 16) : Statement (.movh2 g d i) :=
  ofSlotA rfl (by decide) (fun _ => by simp [decodeA])
theorem movh3 (g : Guard) (d : BitVec 5) (i : BitVec 16) : Statement (.movh3 g d i) :=
  ofSlotA rfl (by decide) (fun _ => by simp [decodeA])
theorem br (g : Guard) (i : BitVec 16) : Statement (.br g i) :=
  ofSlotA rfl (by decide) (fun _ => by simp [decodeA])
theorem jmp (g : Guard) (a : Src) : Statement (.jmp g a) :=
  ofSlotA rfl (by decide) (fun _ => by simp [decodeA])
theorem call (g : Guard) (d : Dst) (i : BitVec 16) : Statement (.call g d i) :=
  ofSlotA rfl (by decide) (fun _ => by simp [decodeA])
theorem callr (g : Guard) (d : Dst) (a : Src) : Statement (.callr g d a) :=
  ofSlotA rfl (by decide) (fun _ => by simp [decodeA])
theorem ret (g : Guard) (a : Src) : Statement (.ret g a) :=
  ofSlotA rfl (by decide) (fun _ => by simp [decodeA])
theorem loopi (g : Guard) (l : BitVec 12) (c : BitVec 10) : Statement (.loopi g l c) :=
  ofSlotA rfl (by decide) (fun _ => by simp [decodeA])
theorem loop (g : Guard) (l : BitVec 12) (a : Src) : Statement (.loop g l a) :=
  ofSlotA rfl (by decide) (fun _ => by simp [decodeA])
theorem mtcr (g : Guard) (a : Src) (r : CReg) : Statement (.mtcr g a r) :=
  ofSlotA rfl (by decide) (fun _ => by simp [decodeA])
theorem mfcr (g : Guard) (d : Dst) (r : CReg) : Statement (.mfcr g d r) :=
  ofSlotA rfl (by decide) (fun _ => by simp [decodeA])
theorem trap (g : Guard) (k : BitVec 4) : Statement (.trap g k) :=
  ofSlotA rfl (by decide) (fun _ => by simp [decodeA])
theorem tret (g : Guard) : Statement (.tret g) :=
  ofSlotA rfl (by decide) (fun _ => by simp [decodeA])
theorem ifence (g : Guard) : Statement (.ifence g) :=
  ofSlotA rfl (by decide) (fun _ => by simp [decodeA])
theorem dchk (g : Guard) (a : Src) (b : Src) : Statement (.dchk g a b) :=
  ofSlotA rfl (by decide) (fun _ => by simp [decodeA])
theorem xmov (g : Guard) (d : BitVec 5) (a : Src) (k : BitVec 4) (e : RFile) (s : RFile) : Statement (.xmov g d a k e s) :=
  ofSlotA rfl (by decide) (fun _ => by simp [decodeA])
theorem vadd (g : Guard) (d : Dst) (a : Src) (b : Src) (w : LaneW) (s : SatMode) : Statement (.vadd g d a b w s) :=
  ofSlotV rfl (by decide) (fun _ => by simp [decodeV])
theorem vsub (g : Guard) (d : Dst) (a : Src) (b : Src) (w : LaneW) (s : SatMode) : Statement (.vsub g d a b w s) :=
  ofSlotV rfl (by decide) (fun _ => by simp [decodeV])
theorem vmul (g : Guard) (d : Dst) (a : Src) (b : Src) (w : LaneW) : Statement (.vmul g d a b w) :=
  ofSlotV rfl (by decide) (fun _ => by simp [decodeV])
theorem vmulh (g : Guard) (d : Dst) (a : Src) (b : Src) (w : LaneW) : Statement (.vmulh g d a b w) :=
  ofSlotV rfl (by decide) (fun _ => by simp [decodeV])
theorem vmulhU (g : Guard) (d : Dst) (a : Src) (b : Src) (w : LaneW) : Statement (.vmulhU g d a b w) :=
  ofSlotV rfl (by decide) (fun _ => by simp [decodeV])
theorem vand (g : Guard) (d : Dst) (a : Src) (b : Src) : Statement (.vand g d a b) :=
  ofSlotV rfl (by decide) (fun _ => by simp [decodeV])
theorem vor (g : Guard) (d : Dst) (a : Src) (b : Src) : Statement (.vor g d a b) :=
  ofSlotV rfl (by decide) (fun _ => by simp [decodeV])
theorem vxor (g : Guard) (d : Dst) (a : Src) (b : Src) : Statement (.vxor g d a b) :=
  ofSlotV rfl (by decide) (fun _ => by simp [decodeV])
theorem vshl (g : Guard) (d : Dst) (a : Src) (b : Src) (w : LaneW) : Statement (.vshl g d a b w) :=
  ofSlotV rfl (by decide) (fun _ => by simp [decodeV])
theorem vshr (g : Guard) (d : Dst) (a : Src) (b : Src) (w : LaneW) : Statement (.vshr g d a b w) :=
  ofSlotV rfl (by decide) (fun _ => by simp [decodeV])
theorem vsar (g : Guard) (d : Dst) (a : Src) (b : Src) (w : LaneW) : Statement (.vsar g d a b w) :=
  ofSlotV rfl (by decide) (fun _ => by simp [decodeV])
theorem vshlImm (g : Guard) (d : Dst) (a : Src) (w : LaneW) (c : BitVec 6) : Statement (.vshlImm g d a w c) :=
  ofSlotV rfl (by decide) (fun _ => by simp [decodeV])
theorem vshrImm (g : Guard) (d : Dst) (a : Src) (w : LaneW) (c : BitVec 6) : Statement (.vshrImm g d a w c) :=
  ofSlotV rfl (by decide) (fun _ => by simp [decodeV])
theorem vsarImm (g : Guard) (d : Dst) (a : Src) (w : LaneW) (c : BitVec 6) : Statement (.vsarImm g d a w c) :=
  ofSlotV rfl (by decide) (fun _ => by simp [decodeV])
theorem vmin (g : Guard) (d : Dst) (a : Src) (b : Src) (w : LaneW) : Statement (.vmin g d a b w) :=
  ofSlotV rfl (by decide) (fun _ => by simp [decodeV])
theorem vmax (g : Guard) (d : Dst) (a : Src) (b : Src) (w : LaneW) : Statement (.vmax g d a b w) :=
  ofSlotV rfl (by decide) (fun _ => by simp [decodeV])
theorem vminU (g : Guard) (d : Dst) (a : Src) (b : Src) (w : LaneW) : Statement (.vminU g d a b w) :=
  ofSlotV rfl (by decide) (fun _ => by simp [decodeV])
theorem vmaxU (g : Guard) (d : Dst) (a : Src) (b : Src) (w : LaneW) : Statement (.vmaxU g d a b w) :=
  ofSlotV rfl (by decide) (fun _ => by simp [decodeV])
theorem vabs (g : Guard) (d : Dst) (a : Src) (w : LaneW) : Statement (.vabs g d a w) :=
  ofSlotV rfl (by decide) (fun _ => by simp [decodeV])
theorem vneg (g : Guard) (d : Dst) (a : Src) (w : LaneW) : Statement (.vneg g d a w) :=
  ofSlotV rfl (by decide) (fun _ => by simp [decodeV])
theorem vcmp (g : Guard) (c : ICond) (q : BitVec 3) (a : Src) (b : Src) (w : LaneW) : Statement (.vcmp g c q a b w) :=
  ofSlotV rfl (by decide) (fun _ => by simp [decodeV])
theorem vsel (g : Guard) (d : Dst) (a : Src) (b : Src) (k : BitVec 3) : Statement (.vsel g d a b k) :=
  ofSlotV rfl (by decide) (fun _ => by simp [decodeV])
theorem vsplatImm (g : Guard) (d : Dst) (w : LaneW) (i : BitVec 10) : Statement (.vsplatImm g d w i) :=
  ofSlotV rfl (by decide) (fun _ => by simp [decodeV])
theorem vsplatLane (g : Guard) (d : Dst) (a : Src) (l : BitVec 8) (w : LaneW) : Statement (.vsplatLane g d a l w) :=
  ofSlotV rfl (by decide) (fun _ => by simp [decodeV])
theorem vperm (g : Guard) (d : Dst) (a : Src) (b : Src) (w : LaneW) : Statement (.vperm g d a b w) :=
  ofSlotV rfl (by decide) (fun _ => by simp [decodeV])
theorem vrot (g : Guard) (d : Dst) (a : Src) (w : LaneW) (c : BitVec 8) : Statement (.vrot g d a w c) :=
  ofSlotV rfl (by decide) (fun _ => by simp [decodeV])
theorem vslide (g : Guard) (d : Dst) (a : Src) (w : LaneW) (x : Bool) (c : BitVec 7) : Statement (.vslide g d a w x c) :=
  ofSlotV rfl (by decide) (fun _ => by simp [decodeV])
theorem vcompress (g : Guard) (d : Dst) (a : Src) (w : LaneW) : Statement (.vcompress g d a w) :=
  ofSlotV rfl (by decide) (fun _ => by simp [decodeV])
theorem vexpand (g : Guard) (d : Dst) (a : Src) (w : LaneW) : Statement (.vexpand g d a w) :=
  ofSlotV rfl (by decide) (fun _ => by simp [decodeV])
theorem vredsum (g : Guard) (d : Dst) (a : Src) (w : LaneW) : Statement (.vredsum g d a w) :=
  ofSlotV rfl (by decide) (fun _ => by simp [decodeV])
theorem vredmax (g : Guard) (d : Dst) (a : Src) (w : LaneW) : Statement (.vredmax g d a w) :=
  ofSlotV rfl (by decide) (fun _ => by simp [decodeV])
theorem vredmin (g : Guard) (d : Dst) (a : Src) (w : LaneW) : Statement (.vredmin g d a w) :=
  ofSlotV rfl (by decide) (fun _ => by simp [decodeV])
theorem vredsumF (g : Guard) (d : Dst) (a : Src) (t : FloatT) : Statement (.vredsumF g d a t) :=
  ofSlotV rfl (by decide) (fun _ => by simp [decodeV])
theorem vredmaxF (g : Guard) (d : Dst) (a : Src) (t : FloatT) : Statement (.vredmaxF g d a t) :=
  ofSlotV rfl (by decide) (fun _ => by simp [decodeV])
theorem vredminF (g : Guard) (d : Dst) (a : Src) (t : FloatT) : Statement (.vredminF g d a t) :=
  ofSlotV rfl (by decide) (fun _ => by simp [decodeV])
theorem vscanF (g : Guard) (d : Dst) (a : Src) (t : FloatT) : Statement (.vscanF g d a t) :=
  ofSlotV rfl (by decide) (fun _ => by simp [decodeV])
theorem vscanI (g : Guard) (d : Dst) (a : Src) (w : LaneW) : Statement (.vscanI g d a w) :=
  ofSlotV rfl (by decide) (fun _ => by simp [decodeV])
theorem vfadd (g : Guard) (d : Dst) (a : Src) (b : Src) (t : FloatT) : Statement (.vfadd g d a b t) :=
  ofSlotV rfl (by decide) (fun _ => by simp [decodeV])
theorem vfsub (g : Guard) (d : Dst) (a : Src) (b : Src) (t : FloatT) : Statement (.vfsub g d a b t) :=
  ofSlotV rfl (by decide) (fun _ => by simp [decodeV])
theorem vfmul (g : Guard) (d : Dst) (a : Src) (b : Src) (t : FloatT) : Statement (.vfmul g d a b t) :=
  ofSlotV rfl (by decide) (fun _ => by simp [decodeV])
theorem vfma (g : Guard) (d : BitVec 5) (a : Src) (b : Src) (t : FloatT) : Statement (.vfma g d a b t) :=
  ofSlotV rfl (by decide) (fun _ => by simp [decodeV])
theorem vfms (g : Guard) (d : BitVec 5) (a : Src) (b : Src) (t : FloatT) : Statement (.vfms g d a b t) :=
  ofSlotV rfl (by decide) (fun _ => by simp [decodeV])
theorem vfnma (g : Guard) (d : BitVec 5) (a : Src) (b : Src) (t : FloatT) : Statement (.vfnma g d a b t) :=
  ofSlotV rfl (by decide) (fun _ => by simp [decodeV])
theorem vfmax (g : Guard) (d : Dst) (a : Src) (b : Src) (t : FloatT) : Statement (.vfmax g d a b t) :=
  ofSlotV rfl (by decide) (fun _ => by simp [decodeV])
theorem vfmin (g : Guard) (d : Dst) (a : Src) (b : Src) (t : FloatT) : Statement (.vfmin g d a b t) :=
  ofSlotV rfl (by decide) (fun _ => by simp [decodeV])
theorem vfscale (g : Guard) (d : Dst) (a : Src) (b : Src) (t : FloatT) : Statement (.vfscale g d a b t) :=
  ofSlotV rfl (by decide) (fun _ => by simp [decodeV])
theorem vfabs (g : Guard) (d : Dst) (a : Src) (t : FloatT) : Statement (.vfabs g d a t) :=
  ofSlotV rfl (by decide) (fun _ => by simp [decodeV])
theorem vfneg (g : Guard) (d : Dst) (a : Src) (t : FloatT) : Statement (.vfneg g d a t) :=
  ofSlotV rfl (by decide) (fun _ => by simp [decodeV])
theorem vfclass (g : Guard) (d : Dst) (a : Src) (t : FloatT) : Statement (.vfclass g d a t) :=
  ofSlotV rfl (by decide) (fun _ => by simp [decodeV])
theorem vfcmp (g : Guard) (c : FCond) (q : BitVec 3) (a : Src) (b : Src) (t : FloatT) : Statement (.vfcmp g c q a b t) :=
  ofSlotV rfl (by decide) (fun _ => by simp [decodeV])
theorem vfrcp (g : Guard) (d : Dst) (a : Src) (t : FloatT) : Statement (.vfrcp g d a t) :=
  ofSlotV rfl (by decide) (fun _ => by simp [decodeV])
theorem vfrsq (g : Guard) (d : Dst) (a : Src) (t : FloatT) : Statement (.vfrsq g d a t) :=
  ofSlotV rfl (by decide) (fun _ => by simp [decodeV])
theorem vfexp2 (g : Guard) (d : Dst) (a : Src) (t : FloatT) : Statement (.vfexp2 g d a t) :=
  ofSlotV rfl (by decide) (fun _ => by simp [decodeV])
theorem vflog2 (g : Guard) (d : Dst) (a : Src) (t : FloatT) : Statement (.vflog2 g d a t) :=
  ofSlotV rfl (by decide) (fun _ => by simp [decodeV])
theorem vrope (g : Guard) (d : Dst) (a : Src) (b : Src) : Statement (.vrope g d a b) :=
  ofSlotV rfl (by decide) (fun _ => by simp [decodeV])
theorem vcvt (g : Guard) (d : Dst) (a : Src) (o : BitVec 5) (m : BitVec 5) : Statement (.vcvt g d a o m) :=
  ofSlotV rfl (by decide) (fun _ => by simp [decodeV])
theorem vqblk (g : Guard) (d : Dst) (a : Src) (o : BitVec 5) (m : BitVec 5) : Statement (.vqblk g d a o m) :=
  ofSlotV rfl (by decide) (fun _ => by simp [decodeV])
theorem vdqblk (g : Guard) (d : Dst) (a : Src) (o : BitVec 5) (m : BitVec 5) : Statement (.vdqblk g d a o m) :=
  ofSlotV rfl (by decide) (fun _ => by simp [decodeV])
theorem vcbx (g : Guard) (d : Dst) (a : Src) (w : LaneW) (k : BitVec 2) : Statement (.vcbx g d a w k) :=
  ofSlotV rfl (by decide) (fun _ => by simp [decodeV])
theorem vcbq (g : Guard) (d : Dst) (a : Src) (t : FloatT) (k : BitVec 2) : Statement (.vcbq g d a t k) :=
  ofSlotV rfl (by decide) (fun _ => by simp [decodeV])
theorem vpack (g : Guard) (d : Dst) (a : Src) (c : BitVec 4) : Statement (.vpack g d a c) :=
  ofSlotV rfl (by decide) (fun _ => by simp [decodeV])
theorem vunpack (g : Guard) (d : Dst) (a : Src) (c : BitVec 4) : Statement (.vunpack g d a c) :=
  ofSlotV rfl (by decide) (fun _ => by simp [decodeV])
theorem vrand (g : Guard) (d : Dst) : Statement (.vrand g d) :=
  ofSlotV rfl (by decide) (fun _ => by simp [decodeV])
theorem kand (g : Guard) (d : BitVec 3) (a : BitVec 3) (b : BitVec 3) : Statement (.kand g d a b) :=
  ofSlotV rfl (by decide) (fun _ => by simp [decodeV])
theorem kor (g : Guard) (d : BitVec 3) (a : BitVec 3) (b : BitVec 3) : Statement (.kor g d a b) :=
  ofSlotV rfl (by decide) (fun _ => by simp [decodeV])
theorem knot (g : Guard) (d : BitVec 3) (a : BitVec 3) : Statement (.knot g d a) :=
  ofSlotV rfl (by decide) (fun _ => by simp [decodeV])
theorem kmov (g : Guard) (d : BitVec 3) (a : BitVec 3) : Statement (.kmov g d a) :=
  ofSlotV rfl (by decide) (fun _ => by simp [decodeV])
theorem vdchk (g : Guard) (a : Src) (b : Src) : Statement (.vdchk g a b) :=
  ofSlotV rfl (by decide) (fun _ => by simp [decodeV])
theorem ldB (g : Guard) (l : BitVec 10) (x : RFile) (d : BitVec 5) (b : BitVec 5) : Statement (.ldB g l x d b) :=
  ofSlotM rfl (by decide) (fun _ => by simp [decodeM])
theorem ldH (g : Guard) (l : BitVec 10) (x : RFile) (d : BitVec 5) (b : BitVec 5) : Statement (.ldH g l x d b) :=
  ofSlotM rfl (by decide) (fun _ => by simp [decodeM])
theorem ldW (g : Guard) (l : BitVec 10) (x : RFile) (d : BitVec 5) (b : BitVec 5) : Statement (.ldW g l x d b) :=
  ofSlotM rfl (by decide) (fun _ => by simp [decodeM])
theorem ldD (g : Guard) (l : BitVec 10) (x : RFile) (d : BitVec 5) (b : BitVec 5) : Statement (.ldD g l x d b) :=
  ofSlotM rfl (by decide) (fun _ => by simp [decodeM])
theorem ldBu (g : Guard) (l : BitVec 10) (x : RFile) (d : BitVec 5) (b : BitVec 5) : Statement (.ldBu g l x d b) :=
  ofSlotM rfl (by decide) (fun _ => by simp [decodeM])
theorem ldHu (g : Guard) (l : BitVec 10) (x : RFile) (d : BitVec 5) (b : BitVec 5) : Statement (.ldHu g l x d b) :=
  ofSlotM rfl (by decide) (fun _ => by simp [decodeM])
theorem ldWu (g : Guard) (l : BitVec 10) (x : RFile) (d : BitVec 5) (b : BitVec 5) : Statement (.ldWu g l x d b) :=
  ofSlotM rfl (by decide) (fun _ => by simp [decodeM])
theorem ldv (g : Guard) (l : BitVec 10) (d : BitVec 5) (b : BitVec 5) : Statement (.ldv g l d b) :=
  ofSlotM rfl (by decide) (fun _ => by simp [decodeM])
theorem ldvs (g : Guard) (l : BitVec 10) (d : BitVec 5) (b : BitVec 5) : Statement (.ldvs g l d b) :=
  ofSlotM rfl (by decide) (fun _ => by simp [decodeM])
theorem ldvg (g : Guard) (l : BitVec 10) (d : BitVec 5) (b : BitVec 5) : Statement (.ldvg g l d b) :=
  ofSlotM rfl (by decide) (fun _ => by simp [decodeM])
theorem atomW (g : Guard) (l : BitVec 10) (x : RFile) (d : BitVec 5) (b : BitVec 5) : Statement (.atomW g l x d b) :=
  ofSlotM rfl (by decide) (fun _ => by simp [decodeM])
theorem atomD (g : Guard) (l : BitVec 10) (x : RFile) (d : BitVec 5) (b : BitVec 5) : Statement (.atomD g l x d b) :=
  ofSlotM rfl (by decide) (fun _ => by simp [decodeM])
theorem atomCasW (g : Guard) (l : BitVec 10) (x : RFile) (d : BitVec 5) (b : BitVec 5) : Statement (.atomCasW g l x d b) :=
  ofSlotM rfl (by decide) (fun _ => by simp [decodeM])
theorem atomCasD (g : Guard) (l : BitVec 10) (x : RFile) (d : BitVec 5) (b : BitVec 5) : Statement (.atomCasD g l x d b) :=
  ofSlotM rfl (by decide) (fun _ => by simp [decodeM])
theorem redW (g : Guard) (b : BitVec 5) : Statement (.redW g b) :=
  ofSlotM rfl (by decide) (fun _ => by simp [decodeM])
theorem redD (g : Guard) (b : BitVec 5) : Statement (.redD g b) :=
  ofSlotM rfl (by decide) (fun _ => by simp [decodeM])
theorem stB (g : Guard) (d : BitVec 5) (b : BitVec 5) : Statement (.stB g d b) :=
  ofSlotM rfl (by decide) (fun _ => by simp [decodeM])
theorem stH (g : Guard) (d : BitVec 5) (b : BitVec 5) : Statement (.stH g d b) :=
  ofSlotM rfl (by decide) (fun _ => by simp [decodeM])
theorem stW (g : Guard) (d : BitVec 5) (b : BitVec 5) : Statement (.stW g d b) :=
  ofSlotM rfl (by decide) (fun _ => by simp [decodeM])
theorem stD (g : Guard) (d : BitVec 5) (b : BitVec 5) : Statement (.stD g d b) :=
  ofSlotM rfl (by decide) (fun _ => by simp [decodeM])
theorem stv (g : Guard) (d : BitVec 5) (b : BitVec 5) : Statement (.stv g d b) :=
  ofSlotM rfl (by decide) (fun _ => by simp [decodeM])
theorem stvs (g : Guard) (d : BitVec 5) (b : BitVec 5) : Statement (.stvs g d b) :=
  ofSlotM rfl (by decide) (fun _ => by simp [decodeM])
theorem stvx (g : Guard) (d : BitVec 5) (b : BitVec 5) : Statement (.stvx g d b) :=
  ofSlotM rfl (by decide) (fun _ => by simp [decodeM])
theorem ldsp (g : Guard) (d : Dst) (i : BitVec 10) : Statement (.ldsp g d i) :=
  ofSlotM rfl (by decide) (fun _ => by simp [decodeM])
theorem stsp (g : Guard) (a : Src) (i : BitVec 10) : Statement (.stsp g a i) :=
  ofSlotM rfl (by decide) (fun _ => by simp [decodeM])
theorem mark (g : Guard) : Statement (.mark g) :=
  ofSlotM rfl (by decide) (fun _ => by simp [decodeM])
theorem fence (g : Guard) (s : Scope) : Statement (.fence g s) :=
  ofSlotM rfl (by decide) (fun _ => by simp [decodeM])
theorem shdr (g : Guard) (l : BitVec 10) (x : RFile) (d : BitVec 5) (b : BitVec 5) : Statement (.shdr g l x d b) :=
  ofSlotM rfl (by decide) (fun _ => by simp [decodeM])
theorem srd (g : Guard) (l : BitVec 10) (x : RFile) (d : BitVec 5) (b : BitVec 5) : Statement (.srd g l x d b) :=
  ofSlotM rfl (by decide) (fun _ => by simp [decodeM])
theorem swait (g : Guard) (s : BitVec 5) : Statement (.swait g s) :=
  ofSlotM rfl (by decide) (fun _ => by simp [decodeM])
theorem sdone (g : Guard) (s : BitVec 5) : Statement (.sdone g s) :=
  ofSlotM rfl (by decide) (fun _ => by simp [decodeM])
theorem sopen (g : Guard) (s : BitVec 5) : Statement (.sopen g s) :=
  ofSlotM rfl (by decide) (fun _ => by simp [decodeM])
theorem swr (g : Guard) (s : BitVec 5) (a : Src) (b : Src) : Statement (.swr g s a b) :=
  ofSlotM rfl (by decide) (fun _ => by simp [decodeM])
theorem sclose (g : Guard) (s : BitVec 5) (a : Src) : Statement (.sclose g s a) :=
  ofSlotM rfl (by decide) (fun _ => by simp [decodeM])
theorem sfree (g : Guard) (s : BitVec 5) : Statement (.sfree g s) :=
  ofSlotM rfl (by decide) (fun _ => by simp [decodeM])
theorem sbind (g : Guard) (s : BitVec 5) (a : Src) : Statement (.sbind g s a) :=
  ofSlotM rfl (by decide) (fun _ => by simp [decodeM])
theorem stag (g : Guard) (s : BitVec 5) (a : Src) (b : Src) : Statement (.stag g s a b) :=
  ofSlotM rfl (by decide) (fun _ => by simp [decodeM])
theorem fview (g : Guard) (l : BitVec 10) (x : RFile) (d : BitVec 5) (b : BitVec 5) : Statement (.fview g l x d b) :=
  ofSlotM rfl (by decide) (fun _ => by simp [decodeM])
theorem fseq (g : Guard) (l : BitVec 10) (x : RFile) (d : BitVec 5) (b : BitVec 5) : Statement (.fseq g l x d b) :=
  ofSlotM rfl (by decide) (fun _ => by simp [decodeM])
theorem fprobe (g : Guard) (l : BitVec 10) (x : RFile) (d : BitVec 5) (b : BitVec 5) : Statement (.fprobe g l x d b) :=
  ofSlotM rfl (by decide) (fun _ => by simp [decodeM])
theorem fldk (g : Guard) (t : BitVec 4) (a : Src) (b : Src) : Statement (.fldk g t a b) :=
  ofSlotM rfl (by decide) (fun _ => by simp [decodeM])
theorem fapp (g : Guard) (t : BitVec 4) (a : Src) (b : Src) : Statement (.fapp g t a b) :=
  ofSlotM rfl (by decide) (fun _ => by simp [decodeM])
theorem ffork (g : Guard) (a : Src) (b : Src) : Statement (.ffork g a b) :=
  ofSlotM rfl (by decide) (fun _ => by simp [decodeM])
theorem ftrunc (g : Guard) (a : Src) (b : Src) : Statement (.ftrunc g a b) :=
  ofSlotM rfl (by decide) (fun _ => by simp [decodeM])
theorem ffree (g : Guard) (a : Src) (b : Src) : Statement (.ffree g a b) :=
  ofSlotM rfl (by decide) (fun _ => by simp [decodeM])
theorem fhint (g : Guard) (a : Src) (b : Src) : Statement (.fhint g a b) :=
  ofSlotM rfl (by decide) (fun _ => by simp [decodeM])
theorem ewr (g : Guard) (a : Src) (r : EReg) : Statement (.ewr g a r) :=
  ofSlotE rfl (by decide) (fun _ => by simp [decodeE])
theorem erd (g : Guard) (d : Dst) (r : EReg) : Statement (.erd g d r) :=
  ofSlotE rfl (by decide) (fun _ => by simp [decodeE])
theorem estat (g : Guard) (d : Dst) : Statement (.estat g d) :=
  ofSlotE rfl (by decide) (fun _ => by simp [decodeE])
theorem ego (g : Guard) : Statement (.ego g) :=
  ofSlotE rfl (by decide) (fun _ => by simp [decodeE])
theorem eabort (g : Guard) : Statement (.eabort g) :=
  ofSlotE rfl (by decide) (fun _ => by simp [decodeE])
theorem mloadw (g : Guard) : Statement (.mloadw g) :=
  ofSlotE rfl (by decide) (fun _ => by simp [decodeE])
theorem mmac (g : Guard) : Statement (.mmac g) :=
  ofSlotE rfl (by decide) (fun _ => by simp [decodeE])
theorem mdrain (g : Guard) : Statement (.mdrain g) :=
  ofSlotE rfl (by decide) (fun _ => by simp [decodeE])
theorem cpy (g : Guard) (q : BitVec 2) : Statement (.cpy g q) :=
  ofSlotE rfl (by decide) (fun _ => by simp [decodeE])
theorem cpyq (g : Guard) (d : Dst) : Statement (.cpyq g d) :=
  ofSlotE rfl (by decide) (fun _ => by simp [decodeE])
theorem binit (g : Guard) (a : Src) (k : BitVec 5) : Statement (.binit g a k) :=
  ofSlotE rfl (by decide) (fun _ => by simp [decodeE])
theorem barr (g : Guard) (a : Src) (k : BitVec 5) : Statement (.barr g a k) :=
  ofSlotE rfl (by decide) (fun _ => by simp [decodeE])
theorem badd (g : Guard) (a : Src) (k : BitVec 5) : Statement (.badd g a k) :=
  ofSlotE rfl (by decide) (fun _ => by simp [decodeE])
theorem bwait (g : Guard) (k : BitVec 5) : Statement (.bwait g k) :=
  ofSlotE rfl (by decide) (fun _ => by simp [decodeE])
theorem gbar (g : Guard) (h : BitVec 3) (w : BitVec 3) : Statement (.gbar g h w) :=
  ofSlotE rfl (by decide) (fun _ => by simp [decodeE])
theorem tfork (g : Guard) (d : Dst) (q : BitVec 3) (b : Src) : Statement (.tfork g d q b) :=
  ofSlotE rfl (by decide) (fun _ => by simp [decodeE])
theorem tjoin (g : Guard) : Statement (.tjoin g) :=
  ofSlotE rfl (by decide) (fun _ => by simp [decodeE])
theorem tcancel (g : Guard) (a : Src) : Statement (.tcancel g a) :=
  ofSlotE rfl (by decide) (fun _ => by simp [decodeE])
theorem texit (g : Guard) : Statement (.texit g) :=
  ofSlotE rfl (by decide) (fun _ => by simp [decodeE])
theorem tyield (g : Guard) : Statement (.tyield g) :=
  ofSlotE rfl (by decide) (fun _ => by simp [decodeE])
theorem lktry (g : Guard) (l : BitVec 10) (m : LockMode) (d : BitVec 4) (s : Src) : Statement (.lktry g l m d s) :=
  ofSlotE rfl (by decide) (fun hw => by
    have hs : s.wfE = true := by simp only [Instr.wf, Bool.and_eq_true] at hw; exact hw.2
    simp [decodeE, Src.ofElBits_elBits s hs])
theorem lkqry (g : Guard) (l : BitVec 10) (d : BitVec 4) (s : Src) : Statement (.lkqry g l d s) :=
  ofSlotE rfl (by decide) (fun hw => by
    have hs : s.wfE = true := by simp only [Instr.wf, Bool.and_eq_true] at hw; exact hw.2
    simp [decodeE, Src.ofElBits_elBits s hs])
theorem lkacq (g : Guard) (d : Dst) (a : Src) (m : LockMode) : Statement (.lkacq g d a m) :=
  ofSlotE rfl (by decide) (fun _ => by simp [decodeE])
theorem lkupg (g : Guard) (d : Dst) (a : Src) (m : LockMode) : Statement (.lkupg g d a m) :=
  ofSlotE rfl (by decide) (fun _ => by simp [decodeE])
theorem lkrel (g : Guard) (a : Src) : Statement (.lkrel g a) :=
  ofSlotE rfl (by decide) (fun _ => by simp [decodeE])
theorem lkrela (g : Guard) : Statement (.lkrela g) :=
  ofSlotE rfl (by decide) (fun _ => by simp [decodeE])
theorem lkmat (g : Guard) (a : Src) : Statement (.lkmat g a) :=
  ofSlotE rfl (by decide) (fun _ => by simp [decodeE])
theorem cbwr (g : Guard) (k : BitVec 2) (a : Src) (b : Src) : Statement (.cbwr g k a b) :=
  ofSlotE rfl (by decide) (fun _ => by simp [decodeE])
theorem cbwrNw (g : Guard) (k : BitVec 2) (a : Src) (b : Src) : Statement (.cbwrNw g k a b) :=
  ofSlotE rfl (by decide) (fun _ => by simp [decodeE])
theorem cbld (g : Guard) (k : BitVec 2) (a : Src) (b : Src) : Statement (.cbld g k a b) :=
  ofSlotE rfl (by decide) (fun _ => by simp [decodeE])
theorem cbinv (g : Guard) (k : BitVec 2) (a : Src) : Statement (.cbinv g k a) :=
  ofSlotE rfl (by decide) (fun _ => by simp [decodeE])

/-! The steps -/

theorem bundleIssue (t : TileRef) : Statement (.bundleIssue t) := ofStep rfl
theorem resultCompletion (t : TileRef) : Statement (.resultCompletion t) := ofStep rfl
theorem landingArrival (c : CtxRef) (k : Nat) : Statement (.landingArrival c k) := ofStep rfl
theorem landingWrite (c : CtxRef) : Statement (.landingWrite c) := ofStep rfl
theorem landingTimeout (t : TileRef) : Statement (.landingTimeout t) := ofStep rfl
theorem blockSwitch (t : TileRef) : Statement (.blockSwitch t) := ofStep rfl
theorem waitReady (c : CtxRef) : Statement (.waitReady c) := ofStep rfl
theorem interruptPending (t : TileRef) (l : BitVec 4) : Statement (.interruptPending t l) := ofStep rfl
theorem trapEntry (t : TileRef) : Statement (.trapEntry t) := ofStep rfl
theorem handlerEntry (t : TileRef) : Statement (.handlerEntry t) := ofStep rfl
theorem lateFault (c : CtxRef) (k : Nat) : Statement (.lateFault c k) := ofStep rfl
theorem lostLanding (c : CtxRef) (k : Nat) : Statement (.lostLanding c k) := ofStep rfl
theorem returnBundleIssue (t : TileRef) : Statement (.returnBundleIssue t) := ofStep rfl
theorem packetFirstFlit (t : TileRef) (k : Nat) : Statement (.packetFirstFlit t k) := ofStep rfl
theorem packetReceived (t : TileRef) (st : BitVec 5) (k : Nat) : Statement (.packetReceived t st k) := ofStep rfl
theorem nextWrite (t : TileRef) (st : BitVec 5) (v : BitVec 32) : Statement (.nextWrite t st v) := ofStep rfl
theorem creditArrival (t : TileRef) (st : BitVec 5) (k : Nat) : Statement (.creditArrival t st k) := ofStep rfl
theorem packetLaunch (c : CtxRef) : Statement (.packetLaunch c) := ofStep rfl
theorem taskAdmission (t : TileRef) : Statement (.taskAdmission t) := ofStep rfl
theorem stealRound (t : TileRef) : Statement (.stealRound t) := ofStep rfl
theorem joinMessage (c : CtxRef) (k : Nat) : Statement (.joinMessage c k) := ofStep rfl
theorem queueIssue (c : CtxRef) (q : QueueSel) : Statement (.queueIssue c q) := ofStep rfl
theorem bankAccept (k : Nat) : Statement (.bankAccept k) := ofStep rfl
theorem barrApply (c : CtxRef) : Statement (.barrApply c) := ofStep rfl
theorem cpyDispatch (c : CtxRef) : Statement (.cpyDispatch c) := ofStep rfl
theorem copyRow (t : TileRef) (k : Nat) : Statement (.copyRow t k) := ofStep rfl
theorem shadowSwapIn (t : TileRef) : Statement (.shadowSwapIn t) := ofStep rfl
theorem engineComplete (t : TileRef) : Statement (.engineComplete t) := ofStep rfl
theorem foldDispatch (c : CtxRef) : Statement (.foldDispatch c) := ofStep rfl
theorem foldRow (t : TileRef) (k : Nat) : Statement (.foldRow t k) := ofStep rfl
theorem foldWalk (t : TileRef) (v : BitVec 5) (k : Nat) : Statement (.foldWalk t v k) := ofStep rfl
theorem foldTransferComplete (t : TileRef) (k : Nat) : Statement (.foldTransferComplete t k) := ofStep rfl
theorem foldRecordOp (t : TileRef) (k : Nat) : Statement (.foldRecordOp t k) := ofStep rfl
theorem pagePromotion (n : Nat) (k : Nat) : Statement (.pagePromotion n k) := ofStep rfl
theorem pageMoveComplete (n : Nat) (k : Nat) : Statement (.pageMoveComplete n k) := ofStep rfl
theorem woundDelivery (c : CtxRef) (w : Word) : Statement (.woundDelivery c w) := ofStep rfl
theorem woundReleaseTimeout (c : CtxRef) : Statement (.woundReleaseTimeout c) := ofStep rfl
theorem crookUe (n : Nat) (w : Word) : Statement (.crookUe n w) := ofStep rfl
theorem pastureTick (n : Nat) : Statement (.pastureTick n) := ofStep rfl
theorem psctlSave (t : TileRef) (w : Word) : Statement (.psctlSave t w) := ofStep rfl
theorem psctlResumeInPlace (t : TileRef) (w : Word) : Statement (.psctlResumeInPlace t w) := ofStep rfl
theorem psctlResumeFromTile (t : TileRef) (w : Word) : Statement (.psctlResumeFromTile t w) := ofStep rfl
theorem preemptHalt (t : TileRef) : Statement (.preemptHalt t) := ofStep rfl
theorem saveComplete (t : TileRef) : Statement (.saveComplete t) := ofStep rfl
theorem treeCancel (n : Nat) (k : BitVec 32) : Statement (.treeCancel n k) := ofStep rfl
theorem droveLoad (n : Nat) (im : DroveImage) : Statement (.droveLoad n im) := ofStep rfl
theorem droveRemoval (n : Nat) (k : Nat) : Statement (.droveRemoval n k) := ofStep rfl
theorem droveWithdrawal (n : Nat) (k : Nat) : Statement (.droveWithdrawal n k) := ofStep rfl
theorem dgcmdLoad (n : Nat) (k : Nat) (g : BitVec 4) : Statement (.dgcmdLoad n k g) := ofStep rfl
theorem dgcmdSwitch (n : Nat) (k : Nat) : Statement (.dgcmdSwitch n k) := ofStep rfl
theorem dgcmdAbort (n : Nat) (k : Nat) : Statement (.dgcmdAbort n k) := ofStep rfl
theorem dgcmdInvalid (n : Nat) (k : Nat) (w : Word) : Statement (.dgcmdInvalid n k w) := ofStep rfl
theorem generationVerified (n : Nat) (k : Nat) : Statement (.generationVerified n k) := ofStep rfl
theorem generationDrained (n : Nat) (k : Nat) : Statement (.generationDrained n k) := ofStep rfl
theorem tcmdCancel (n : Nat) (k : BitVec 32) : Statement (.tcmdCancel n k) := ofStep rfl
theorem swint (n : Nat) (w : Word) : Statement (.swint n w) := ofStep rfl
theorem mbin7Write (n : Nat) (w : Word) : Statement (.mbin7Write n w) := ofStep rfl
theorem mailboxAccess (t : TileRef) (w : Word) : Statement (.mailboxAccess t w) := ofStep rfl
theorem mailboxComplete (t : TileRef) : Statement (.mailboxComplete t) := ofStep rfl
theorem qtailWrite (n : Nat) (k : Nat) (w : Word) : Statement (.qtailWrite n k w) := ofStep rfl
theorem qcfgWrite (n : Nat) (k : Nat) (w : Word) : Statement (.qcfgWrite n k w) := ofStep rfl
theorem ingressRecord (n : Nat) (k : Nat) : Statement (.ingressRecord n k) := ofStep rfl
theorem egressPacket (n : Nat) (k : Nat) : Statement (.egressPacket n k) := ofStep rfl
theorem cresync (n : Nat) (w : Word) : Statement (.cresync n w) := ofStep rfl
theorem linkFlitReceive (n : Nat) (b : Nat) (fl : Flit) : Statement (.linkFlitReceive n b fl) := ofStep rfl
theorem creditFlit (n : Nat) (ws : List Word) : Statement (.creditFlit n ws) := ofStep rfl
theorem remoteLoad (r : RemoteReq) : Statement (.remoteLoad r) := ofStep rfl
theorem remoteStore (r : RemoteReq) : Statement (.remoteStore r) := ofStep rfl
theorem remoteAtom (r : RemoteReq) : Statement (.remoteAtom r) := ofStep rfl
theorem remoteAtomCas (r : RemoteReq) : Statement (.remoteAtomCas r) := ofStep rfl
theorem remoteRed (r : RemoteReq) : Statement (.remoteRed r) := ofStep rfl
theorem remoteUnknownOperation (r : RemoteReq) : Statement (.remoteUnknownOperation r) := ofStep rfl
theorem remoteResponse (r : RemoteResp) : Statement (.remoteResponse r) := ofStep rfl
theorem crookAcquireMsg (m : CrookMsg) : Statement (.crookAcquireMsg m) := ofStep rfl
theorem crookTryMsg (m : CrookMsg) : Statement (.crookTryMsg m) := ofStep rfl
theorem crookUpgradeMsg (m : CrookMsg) : Statement (.crookUpgradeMsg m) := ofStep rfl
theorem crookReleaseMsg (m : CrookMsg) : Statement (.crookReleaseMsg m) := ofStep rfl
theorem crookWithdrawMsg (m : CrookMsg) : Statement (.crookWithdrawMsg m) := ofStep rfl
theorem crookQueryMsg (m : CrookMsg) : Statement (.crookQueryMsg m) := ofStep rfl
theorem crookStatusMsg (m : CrookMsg) : Statement (.crookStatusMsg m) := ofStep rfl
theorem crookWoundMsg (m : CrookMsg) : Statement (.crookWoundMsg m) := ofStep rfl
theorem crookQueryResultMsg (m : CrookMsg) : Statement (.crookQueryResultMsg m) := ofStep rfl
theorem foldReleaseMsg (m : FoldMsg) : Statement (.foldReleaseMsg m) := ofStep rfl
theorem foldFetchMsg (m : FoldMsg) : Statement (.foldFetchMsg m) := ofStep rfl
theorem foldOfferMsg (m : FoldMsg) : Statement (.foldOfferMsg m) := ofStep rfl
theorem foldAcceptMsg (m : FoldMsg) : Statement (.foldAcceptMsg m) := ofStep rfl
theorem foldRefuseMsg (m : FoldMsg) : Statement (.foldRefuseMsg m) := ofStep rfl
theorem foldPageDataMsg (m : FoldMsg) : Statement (.foldPageDataMsg m) := ofStep rfl
theorem foldMoveCompleteMsg (m : FoldMsg) : Statement (.foldMoveCompleteMsg m) := ofStep rfl
theorem tickExchangeMsg (n : Nat) (k : BitVec 56) : Statement (.tickExchangeMsg n k) := ofStep rfl
theorem holdMsg (n : Nat) (src : Nat) (w : Word) : Statement (.holdMsg n src w) := ofStep rfl
theorem holdAnswerMsg (n : Nat) (src : Nat) (w v : Word) : Statement (.holdAnswerMsg n src w v) := ofStep rfl
theorem holdEndMsg (n : Nat) (src : Nat) (w v : Word) : Statement (.holdEndMsg n src w v) := ofStep rfl
theorem musterSegmentMsg (n : Nat) (k : Nat) (bs : List Byte) : Statement (.musterSegmentMsg n k bs) := ofStep rfl
theorem membershipUpdateMsg (n : Nat) (k : BitVec 6) (w : Word) : Statement (.membershipUpdateMsg n k w) := ofStep rfl
theorem movePointMsg (n : Nat) (w : Word) : Statement (.movePointMsg n w) := ofStep rfl
theorem correctedError (n : Nat) (u : RasUnit) (k : Nat) : Statement (.correctedError n u k) := ofStep rfl
theorem uncorrectedError (n : Nat) (u : RasUnit) (k : Nat) : Statement (.uncorrectedError n u k) := ofStep rfl
theorem suspectReversion (n : Nat) (u : RasUnit) : Statement (.suspectReversion n u) := ofStep rfl
theorem counterHourBucket (n : Nat) : Statement (.counterHourBucket n) := ofStep rfl
theorem backgroundScrub (n : Nat) : Statement (.backgroundScrub n) := ofStep rfl
theorem bankRetirement (t : TileRef) (k : Nat) : Statement (.bankRetirement t k) := ofStep rfl
theorem tileCoreRetirement (t : TileRef) : Statement (.tileCoreRetirement t) := ofStep rfl
theorem laneRetirement (n : Nat) (k : Nat) : Statement (.laneRetirement n k) := ofStep rfl
theorem bundleDown (n : Nat) (k : Nat) : Statement (.bundleDown n k) := ofStep rfl
theorem rascfgLock (n : Nat) (w : Word) : Statement (.rascfgLock n w) := ofStep rfl
theorem laneSilence (n : Nat) : Statement (.laneSilence n) := ofStep rfl
theorem transhumance (n : Nat) (k : Nat) : Statement (.transhumance n k) := ofStep rfl
theorem boot (n : Nat) (im : FirmwareImage) : Statement (.boot n im) := ofStep rfl
theorem recoveryImage (n : Nat) (im : FirmwareImage) : Statement (.recoveryImage n im) := ofStep rfl
theorem attestationRequest (n : Nat) (bs : List Byte) : Statement (.attestationRequest n bs) := ofStep rfl
theorem attestationComplete (n : Nat) : Statement (.attestationComplete n) := ofStep rfl
theorem throttleStep (n : Nat) (x : Bool) : Statement (.throttleStep n x) := ofStep rfl
theorem pwrcapWrite (n : Nat) (w : Word) : Statement (.pwrcapWrite n w) := ofStep rfl
theorem thermalTrip (n : Nat) : Statement (.thermalTrip n) := ofStep rfl
theorem powerLoss (n : Nat) : Statement (.powerLoss n) := ofStep rfl
theorem reset (n : Nat) : Statement (.reset n) := ofStep rfl
theorem registerWrite (n : Nat) (k : BitVec 26) (w : Word) : Statement (.registerWrite n k w) := ofStep rfl
theorem nestedLandingLost (c : CtxRef) (k : Nat) : Statement (.nestedLandingLost c k) := ofStep rfl
theorem flitSlot (n : Nat) (b : Nat) : Statement (.flitSlot n b) := ofStep rfl
theorem requestCreditReturn (n : Nat) (b : Nat) : Statement (.requestCreditReturn n b) := ofStep rfl
theorem laneRetrained (n : Nat) (k : Nat) : Statement (.laneRetrained n k) := ofStep rfl

end RoundTrip

end Sys2Proof.Laws
end

