-- ==== Sys2Proof/Laws/RunOp.lean ====
section
/-! SUPPORT. What an operation of a slot answers: its effect where it runs, nothing where its guard reads false, its failure's trap
where a check of it run on its own fails. Cited instead of unfolding `runOp`. -/

namespace Sys2Proof.Laws

open Sys2Proof.Machine

variable {sl : Slot} {g : Guard} {k : State → Checks} {eff : State → State} {s : State}

/-- A guard that reads false skips the operation (R16). -/
theorem runOp_guard_false (hg : s.cur.guard g = false) : runOp sl g k eff s = .next s := by
  unfold runOp opFailure
  split <;> simp [hg]

/-- An operation that runs has its effect. -/
theorem runOp_runs {unset : Bool} {ok : Prop} (h : Runs s g unset ok)
    (hok : ok → (k s).illegal = false ∧ (k s).priv = none ∧ (k s).cb = none ∧ (k s).own = none ∧
      ((k s).timed = true → LandingFree s))
    (hu : (k s).unset = unset) : runOp sl g k eff s = .next (eff s) := by
  obtain ⟨hg, hm | ⟨hm, hp, hk⟩⟩ := h
  · simp [runOp, hm, hg]
  · obtain ⟨h1, h2, h3, h4, h5⟩ := hok hk
    have hf : opFailure sl g k s = none := by
      unfold opFailure
      rcases hpr : s.cur.poisonRd with _ | _
      · cases ht : (k s).timed
        · simp [hpr, hg, h1, h2, h3, h4, ht]
        · have := h5 ht
          unfold LandingFree at this
          simp [hpr, hg, h1, h2, h3, h4, ht, this]
      · obtain ⟨h6, h7⟩ := hp hpr
        cases ht : (k s).timed
        · simp [hpr, hg, h1, h2, h3, h4, ht, h6, hu, h7]
        · have := h5 ht
          unfold LandingFree at this
          simp [hpr, hg, h1, h2, h3, h4, ht, h6, hu, h7, this]
    simp [runOp, hm, hf, hg]

/-- An operation run on its own whose checks find a failure takes its trap (R182, R184). -/
theorem runOp_traps {f : Failure} (hm : s.issue.mode = .direct) (hf : opFailure sl g k s = some f) :
    runOp sl g k eff s = .next (s.issueTrap f) := by
  simp [runOp, hm, hf]

/-- In the execution of a checked bundle an operation has its effect or, its guard false, none. -/
theorem runOp_commit (hm : s.issue.mode = .commit) : runOp sl g k eff s = .next (if s.cur.guard g then eff s else s) := by
  simp [runOp, hm]

/-- In the check of its bundle an operation changes nothing but the issue record (R45). -/
theorem runOp_probe (hm : s.issue.mode = .probe) : ∃ q, runOp sl g k eff s = .next { s with issue := q } := by
  unfold runOp
  rw [hm]
  dsimp only
  split <;> exact ⟨_, rfl⟩

/-- Every operation answers a next state. -/
theorem runOp_next : ∃ t, runOp sl g k eff s = .next t := by
  unfold runOp
  split <;> first | exact ⟨_, rfl⟩ | (split <;> exact ⟨_, rfl⟩)

end Sys2Proof.Laws
end

