-- ==== Sys2Proof/Laws/Scalar.lean ====
section
/-! SUPPORT. What the shared operations of the A slot answer where they run. -/

namespace Sys2Proof.Laws

open Sys2Proof.Machine

variable {g : Guard} {d : Dst} {s : State} {u : Bool} {v : Word}

/-- The stack check of a value that may be written finds nothing (R124). -/
theorem stackCheck_none (h : StackOk s d v) : stackCheck s.cur d v = none := by
  unfold stackCheck
  cases d with
  | drop => rfl
  | reg n =>
    simp only [ite_eq_right_iff, reduceCtorEq, imp_false]
    rintro ⟨rfl, h2, h3⟩
    have := h rfl h2
    simp only [BitVec.lt_def, BitVec.le_def] at *
    omega

/-- A latency-1 operation writes its value (R114). -/
theorem runAlu_runs {unset : Ctx → Bool} {f : Ctx → Word} (h : Runs s g u (StackOk s d v)) (hu : unset s.cur = u) (hv : f s.cur = v) :
    runAlu g d unset f s = .next (s.resultWord .a .a 1 d v) := by
  subst hu hv
  exact runOp_runs h (fun hk => ⟨rfl, rfl, rfl, stackCheck_none hk, fun ht => Bool.noConfusion ht⟩) rfl

/-- A multiply or divide writes its value (R119). -/
theorem runLong_runs {a b : Src} {lat : Nat} {op : Word → Word → Word} (h : Runs s g (s.cur.unsetA a || s.cur.unsetA b) True) :
    runLong g d a b lat op s = .next (s.resultWord .a .a lat d (op (s.cur.srcA a) (s.cur.srcA b))) :=
  runOp_runs h (fun _ => ⟨rfl, rfl, rfl, rfl, fun ht => Bool.noConfusion ht⟩) rfl

/-- A predicate operation writes its predicate (R120, R122). -/
theorem runPred_runs {q : BitVec 3} {unset f : Ctx → Bool} {b : Bool} (h : Runs s g u True) (hu : unset s.cur = u) (hb : f s.cur = b) :
    runPred g q unset f s = .next (s.result .a 1 false (.pred q b) 0) := by
  subst hu hb
  exact runOp_runs h (fun _ => ⟨rfl, rfl, rfl, rfl, fun ht => Bool.noConfusion ht⟩) rfl

/-- A target that is a bundle index passes its check (R126). -/
theorem targetCheck_none {t : Word} (h : t.toNat ≤ 4095) : targetCheck t = none := if_pos h

/-- A transfer is taken (R125). -/
theorem runJump_runs {unset : Ctx → Bool} {t : Ctx → Word} (h : Runs s g u ((t s.cur).toNat ≤ 4095)) (hu : unset s.cur = u) :
    runJump g unset t s = .next (s.transfer (t s.cur) true) := by
  subst hu
  exact runOp_runs h (fun hk => ⟨rfl, rfl, rfl, targetCheck_none hk, fun ht => Bool.noConfusion ht⟩) rfl

/-- A transfer past the last bundle is the trap `BOUND` (R126). -/
theorem runJump_traps {unset : Ctx → Bool} {t : Ctx → Word} (hm : s.issue.mode = .direct) (hg : s.cur.guard g = true)
    (hp : s.cur.poisonRd = false) (ht : 4095 < (t s.cur).toNat) :
    runJump g unset t s = .next (s.issueTrap ⟨4, .a, .bound, t s.cur⟩) := by
  refine runOp_traps hm ?_
  have : ¬ (t s.cur).toNat ≤ 4095 := by omega
  simp [opFailure, hp, hg, Checks.withOwn, Checks.reads, targetCheck, this]

/-- A call writes its link and is taken (R125). -/
theorem runCall_runs {unset : Ctx → Bool} {t : Ctx → Word}
    (h : Runs s g u ((t s.cur).toNat ≤ 4095 ∧ StackOk s d (s.cur.pc.setWidth 64 + 1))) (hu : unset s.cur = u) :
    runCall g d unset t s = .next ((s.resultWord .a .a 1 d (s.cur.pc.setWidth 64 + 1)).transfer (t s.cur) false) := by
  subst hu
  refine runOp_runs h (fun hk => ⟨rfl, rfl, rfl, ?_, fun ht => Bool.noConfusion ht⟩) rfl
  simp only [Checks.withOwn, targetCheck_none hk.1, Option.none_or]
  exact stackCheck_none hk.2

end Sys2Proof.Laws
end

