-- ==== Sys2Proof/Laws/Slots.lean ====
section
/-! SUPPORT. Every operation of a slot but `SOPEN` is one run of `runOp`; `SOPEN` is one but for its wait. What `runOp` does is so
said of all of them at once. -/

namespace Sys2Proof.Laws

open Sys2Proof.Machine

/-- A meaning that is one run of `runOp` under its guard. -/
def IsRunOp (g : Guard) (f : State → Out) : Prop := ∃ sl k eff, ∀ s, f s = runOp sl g k eff s

theorem isRunOp_add {g} {x0 x1 x2} : IsRunOp g (execAdd g x0 x1 x2) := ⟨_, _, _, fun _ => rfl⟩
theorem isRunOp_sub {g} {x0 x1 x2} : IsRunOp g (execSub g x0 x1 x2) := ⟨_, _, _, fun _ => rfl⟩
theorem isRunOp_and {g} {x0 x1 x2} : IsRunOp g (execAnd g x0 x1 x2) := ⟨_, _, _, fun _ => rfl⟩
theorem isRunOp_or {g} {x0 x1 x2} : IsRunOp g (execOr g x0 x1 x2) := ⟨_, _, _, fun _ => rfl⟩
theorem isRunOp_xor {g} {x0 x1 x2} : IsRunOp g (execXor g x0 x1 x2) := ⟨_, _, _, fun _ => rfl⟩
theorem isRunOp_andn {g} {x0 x1 x2} : IsRunOp g (execAndn g x0 x1 x2) := ⟨_, _, _, fun _ => rfl⟩
theorem isRunOp_shl {g} {x0 x1 x2} : IsRunOp g (execShl g x0 x1 x2) := ⟨_, _, _, fun _ => rfl⟩
theorem isRunOp_shr {g} {x0 x1 x2} : IsRunOp g (execShr g x0 x1 x2) := ⟨_, _, _, fun _ => rfl⟩
theorem isRunOp_sar {g} {x0 x1 x2} : IsRunOp g (execSar g x0 x1 x2) := ⟨_, _, _, fun _ => rfl⟩
theorem isRunOp_rol {g} {x0 x1 x2} : IsRunOp g (execRol g x0 x1 x2) := ⟨_, _, _, fun _ => rfl⟩
theorem isRunOp_min {g} {x0 x1 x2} : IsRunOp g (execMin g x0 x1 x2) := ⟨_, _, _, fun _ => rfl⟩
theorem isRunOp_max {g} {x0 x1 x2} : IsRunOp g (execMax g x0 x1 x2) := ⟨_, _, _, fun _ => rfl⟩
theorem isRunOp_minu {g} {x0 x1 x2} : IsRunOp g (execMinu g x0 x1 x2) := ⟨_, _, _, fun _ => rfl⟩
theorem isRunOp_maxu {g} {x0 x1 x2} : IsRunOp g (execMaxu g x0 x1 x2) := ⟨_, _, _, fun _ => rfl⟩
theorem isRunOp_addx {g} {x0 x1 x2} : IsRunOp g (execAddx g x0 x1 x2) := ⟨_, _, _, fun _ => rfl⟩
theorem isRunOp_clz {g} {x0 x1} : IsRunOp g (execClz g x0 x1) := ⟨_, _, _, fun _ => rfl⟩
theorem isRunOp_ctz {g} {x0 x1} : IsRunOp g (execCtz g x0 x1) := ⟨_, _, _, fun _ => rfl⟩
theorem isRunOp_popc {g} {x0 x1} : IsRunOp g (execPopc g x0 x1) := ⟨_, _, _, fun _ => rfl⟩
theorem isRunOp_brev {g} {x0 x1} : IsRunOp g (execBrev g x0 x1) := ⟨_, _, _, fun _ => rfl⟩
theorem isRunOp_bswap {g} {x0 x1} : IsRunOp g (execBswap g x0 x1) := ⟨_, _, _, fun _ => rfl⟩
theorem isRunOp_sext {g} {x0 x1 x2} : IsRunOp g (execSext g x0 x1 x2) := ⟨_, _, _, fun _ => rfl⟩
theorem isRunOp_zext {g} {x0 x1 x2} : IsRunOp g (execZext g x0 x1 x2) := ⟨_, _, _, fun _ => rfl⟩
theorem isRunOp_mov {g} {x0 x1} : IsRunOp g (execMov g x0 x1) := ⟨_, _, _, fun _ => rfl⟩
theorem isRunOp_mul {g} {x0 x1 x2} : IsRunOp g (execMul g x0 x1 x2) := ⟨_, _, _, fun _ => rfl⟩
theorem isRunOp_mulh {g} {x0 x1 x2} : IsRunOp g (execMulh g x0 x1 x2) := ⟨_, _, _, fun _ => rfl⟩
theorem isRunOp_mulhu {g} {x0 x1 x2} : IsRunOp g (execMulhu g x0 x1 x2) := ⟨_, _, _, fun _ => rfl⟩
theorem isRunOp_div {g} {x0 x1 x2} : IsRunOp g (execDiv g x0 x1 x2) := ⟨_, _, _, fun _ => rfl⟩
theorem isRunOp_divu {g} {x0 x1 x2} : IsRunOp g (execDivu g x0 x1 x2) := ⟨_, _, _, fun _ => rfl⟩
theorem isRunOp_rem {g} {x0 x1 x2} : IsRunOp g (execRem g x0 x1 x2) := ⟨_, _, _, fun _ => rfl⟩
theorem isRunOp_remu {g} {x0 x1 x2} : IsRunOp g (execRemu g x0 x1 x2) := ⟨_, _, _, fun _ => rfl⟩
theorem isRunOp_extr {g} {x0 x1 x2} : IsRunOp g (execExtr g x0 x1 x2) := ⟨_, _, _, fun _ => rfl⟩
theorem isRunOp_insr {g} {x0 x1 x2} : IsRunOp g (execInsr g x0 x1 x2) := ⟨_, _, _, fun _ => rfl⟩
theorem isRunOp_sel {g} {x0 x1 x2 x3 x4} : IsRunOp g (execSel g x0 x1 x2 x3 x4) := ⟨_, _, _, fun _ => rfl⟩
theorem isRunOp_cmp {g} {x0 x1 x2 x3} : IsRunOp g (execCmp g x0 x1 x2 x3) := ⟨_, _, _, fun _ => rfl⟩
theorem isRunOp_pand {g} {x0 x1 x2} : IsRunOp g (execPand g x0 x1 x2) := ⟨_, _, _, fun _ => rfl⟩
theorem isRunOp_por {g} {x0 x1 x2} : IsRunOp g (execPor g x0 x1 x2) := ⟨_, _, _, fun _ => rfl⟩
theorem isRunOp_pnot {g} {x0 x1} : IsRunOp g (execPnot g x0 x1) := ⟨_, _, _, fun _ => rfl⟩
theorem isRunOp_addi {g} {x0 x1 x2} : IsRunOp g (execAddi g x0 x1 x2) := ⟨_, _, _, fun _ => rfl⟩
theorem isRunOp_subi {g} {x0 x1 x2} : IsRunOp g (execSubi g x0 x1 x2) := ⟨_, _, _, fun _ => rfl⟩
theorem isRunOp_andi {g} {x0 x1 x2} : IsRunOp g (execAndi g x0 x1 x2) := ⟨_, _, _, fun _ => rfl⟩
theorem isRunOp_ori {g} {x0 x1 x2} : IsRunOp g (execOri g x0 x1 x2) := ⟨_, _, _, fun _ => rfl⟩
theorem isRunOp_xori {g} {x0 x1 x2} : IsRunOp g (execXori g x0 x1 x2) := ⟨_, _, _, fun _ => rfl⟩
theorem isRunOp_shli {g} {x0 x1 x2} : IsRunOp g (execShli g x0 x1 x2) := ⟨_, _, _, fun _ => rfl⟩
theorem isRunOp_shri {g} {x0 x1 x2} : IsRunOp g (execShri g x0 x1 x2) := ⟨_, _, _, fun _ => rfl⟩
theorem isRunOp_sari {g} {x0 x1 x2} : IsRunOp g (execSari g x0 x1 x2) := ⟨_, _, _, fun _ => rfl⟩
theorem isRunOp_cmpi {g} {x0 x1 x2 x3} : IsRunOp g (execCmpi g x0 x1 x2 x3) := ⟨_, _, _, fun _ => rfl⟩
theorem isRunOp_movi {g} {x0 x1} : IsRunOp g (execMovi g x0 x1) := ⟨_, _, _, fun _ => rfl⟩
theorem isRunOp_movh1 {g} {x0 x1} : IsRunOp g (execMovh1 g x0 x1) := ⟨_, _, _, fun _ => rfl⟩
theorem isRunOp_movh2 {g} {x0 x1} : IsRunOp g (execMovh2 g x0 x1) := ⟨_, _, _, fun _ => rfl⟩
theorem isRunOp_movh3 {g} {x0 x1} : IsRunOp g (execMovh3 g x0 x1) := ⟨_, _, _, fun _ => rfl⟩
theorem isRunOp_br {g} {x0} : IsRunOp g (execBr g x0) := ⟨_, _, _, fun _ => rfl⟩
theorem isRunOp_jmp {g} {x0} : IsRunOp g (execJmp g x0) := ⟨_, _, _, fun _ => rfl⟩
theorem isRunOp_call {g} {x0 x1} : IsRunOp g (execCall g x0 x1) := ⟨_, _, _, fun _ => rfl⟩
theorem isRunOp_callr {g} {x0 x1} : IsRunOp g (execCallr g x0 x1) := ⟨_, _, _, fun _ => rfl⟩
theorem isRunOp_ret {g} {x0} : IsRunOp g (execRet g x0) := ⟨_, _, _, fun _ => rfl⟩
theorem isRunOp_loopi {g} {x0 x1} : IsRunOp g (execLoopi g x0 x1) := ⟨_, _, _, fun _ => rfl⟩
theorem isRunOp_loop {g} {x0 x1} : IsRunOp g (execLoop g x0 x1) := ⟨_, _, _, fun _ => rfl⟩
theorem isRunOp_mtcr {g} {x0 x1} : IsRunOp g (execMtcr g x0 x1) := ⟨_, _, _, fun _ => rfl⟩
theorem isRunOp_mfcr {g} {x0 x1} : IsRunOp g (execMfcr g x0 x1) := ⟨_, _, _, fun _ => rfl⟩
theorem isRunOp_trap {g} {x0} : IsRunOp g (execTrap g x0) := ⟨_, _, _, fun _ => rfl⟩
theorem isRunOp_tret {g} : IsRunOp g (execTret g) := ⟨_, _, _, fun _ => rfl⟩
theorem isRunOp_ifence {g} : IsRunOp g (execIfence g) := ⟨_, _, _, fun _ => rfl⟩
theorem isRunOp_dchk {g} {x0 x1} : IsRunOp g (execDchk g x0 x1) := ⟨_, _, _, fun _ => rfl⟩
theorem isRunOp_xmov {g} {x0 x1 x2 x3 x4} : IsRunOp g (execXmov g x0 x1 x2 x3 x4) := ⟨_, _, _, fun _ => rfl⟩
theorem isRunOp_vadd {g} {x0 x1 x2 x3 x4} : IsRunOp g (execVadd g x0 x1 x2 x3 x4) := ⟨_, _, _, fun _ => rfl⟩
theorem isRunOp_vsub {g} {x0 x1 x2 x3 x4} : IsRunOp g (execVsub g x0 x1 x2 x3 x4) := ⟨_, _, _, fun _ => rfl⟩
theorem isRunOp_vmul {g} {x0 x1 x2 x3} : IsRunOp g (execVmul g x0 x1 x2 x3) := ⟨_, _, _, fun _ => rfl⟩
theorem isRunOp_vmulh {g} {x0 x1 x2 x3} : IsRunOp g (execVmulh g x0 x1 x2 x3) := ⟨_, _, _, fun _ => rfl⟩
theorem isRunOp_vmulhU {g} {x0 x1 x2 x3} : IsRunOp g (execVmulhU g x0 x1 x2 x3) := ⟨_, _, _, fun _ => rfl⟩
theorem isRunOp_vand {g} {x0 x1 x2} : IsRunOp g (execVand g x0 x1 x2) := ⟨_, _, _, fun _ => rfl⟩
theorem isRunOp_vor {g} {x0 x1 x2} : IsRunOp g (execVor g x0 x1 x2) := ⟨_, _, _, fun _ => rfl⟩
theorem isRunOp_vxor {g} {x0 x1 x2} : IsRunOp g (execVxor g x0 x1 x2) := ⟨_, _, _, fun _ => rfl⟩
theorem isRunOp_vshl {g} {x0 x1 x2 x3} : IsRunOp g (execVshl g x0 x1 x2 x3) := ⟨_, _, _, fun _ => rfl⟩
theorem isRunOp_vshr {g} {x0 x1 x2 x3} : IsRunOp g (execVshr g x0 x1 x2 x3) := ⟨_, _, _, fun _ => rfl⟩
theorem isRunOp_vsar {g} {x0 x1 x2 x3} : IsRunOp g (execVsar g x0 x1 x2 x3) := ⟨_, _, _, fun _ => rfl⟩
theorem isRunOp_vshlImm {g} {x0 x1 x2 x3} : IsRunOp g (execVshlImm g x0 x1 x2 x3) := ⟨_, _, _, fun _ => rfl⟩
theorem isRunOp_vshrImm {g} {x0 x1 x2 x3} : IsRunOp g (execVshrImm g x0 x1 x2 x3) := ⟨_, _, _, fun _ => rfl⟩
theorem isRunOp_vsarImm {g} {x0 x1 x2 x3} : IsRunOp g (execVsarImm g x0 x1 x2 x3) := ⟨_, _, _, fun _ => rfl⟩
theorem isRunOp_vmin {g} {x0 x1 x2 x3} : IsRunOp g (execVmin g x0 x1 x2 x3) := ⟨_, _, _, fun _ => rfl⟩
theorem isRunOp_vmax {g} {x0 x1 x2 x3} : IsRunOp g (execVmax g x0 x1 x2 x3) := ⟨_, _, _, fun _ => rfl⟩
theorem isRunOp_vminU {g} {x0 x1 x2 x3} : IsRunOp g (execVminU g x0 x1 x2 x3) := ⟨_, _, _, fun _ => rfl⟩
theorem isRunOp_vmaxU {g} {x0 x1 x2 x3} : IsRunOp g (execVmaxU g x0 x1 x2 x3) := ⟨_, _, _, fun _ => rfl⟩
theorem isRunOp_vabs {g} {x0 x1 x2} : IsRunOp g (execVabs g x0 x1 x2) := ⟨_, _, _, fun _ => rfl⟩
theorem isRunOp_vneg {g} {x0 x1 x2} : IsRunOp g (execVneg g x0 x1 x2) := ⟨_, _, _, fun _ => rfl⟩
theorem isRunOp_vcmp {g} {x0 x1 x2 x3 x4} : IsRunOp g (execVcmp g x0 x1 x2 x3 x4) := ⟨_, _, _, fun _ => rfl⟩
theorem isRunOp_vsel {g} {x0 x1 x2 x3} : IsRunOp g (execVsel g x0 x1 x2 x3) := ⟨_, _, _, fun _ => rfl⟩
theorem isRunOp_vsplatImm {g} {x0 x1 x2} : IsRunOp g (execVsplatImm g x0 x1 x2) := ⟨_, _, _, fun _ => rfl⟩
theorem isRunOp_vsplatLane {g} {x0 x1 x2 x3} : IsRunOp g (execVsplatLane g x0 x1 x2 x3) := ⟨_, _, _, fun _ => rfl⟩
theorem isRunOp_vperm {g} {x0 x1 x2 x3} : IsRunOp g (execVperm g x0 x1 x2 x3) := ⟨_, _, _, fun _ => rfl⟩
theorem isRunOp_vrot {g} {x0 x1 x2 x3} : IsRunOp g (execVrot g x0 x1 x2 x3) := ⟨_, _, _, fun _ => rfl⟩
theorem isRunOp_vslide {g} {x0 x1 x2 x3 x4} : IsRunOp g (execVslide g x0 x1 x2 x3 x4) := ⟨_, _, _, fun _ => rfl⟩
theorem isRunOp_vcompress {g} {x0 x1 x2} : IsRunOp g (execVcompress g x0 x1 x2) := ⟨_, _, _, fun _ => rfl⟩
theorem isRunOp_vexpand {g} {x0 x1 x2} : IsRunOp g (execVexpand g x0 x1 x2) := ⟨_, _, _, fun _ => rfl⟩
theorem isRunOp_vredsum {g} {x0 x1 x2} : IsRunOp g (execVredsum g x0 x1 x2) := ⟨_, _, _, fun _ => rfl⟩
theorem isRunOp_vredmax {g} {x0 x1 x2} : IsRunOp g (execVredmax g x0 x1 x2) := ⟨_, _, _, fun _ => rfl⟩
theorem isRunOp_vredmin {g} {x0 x1 x2} : IsRunOp g (execVredmin g x0 x1 x2) := ⟨_, _, _, fun _ => rfl⟩
theorem isRunOp_vredsumF {g} {x0 x1 x2} : IsRunOp g (execVredsumF g x0 x1 x2) := ⟨_, _, _, fun _ => rfl⟩
theorem isRunOp_vredmaxF {g} {x0 x1 x2} : IsRunOp g (execVredmaxF g x0 x1 x2) := ⟨_, _, _, fun _ => rfl⟩
theorem isRunOp_vredminF {g} {x0 x1 x2} : IsRunOp g (execVredminF g x0 x1 x2) := ⟨_, _, _, fun _ => rfl⟩
theorem isRunOp_vscanF {g} {x0 x1 x2} : IsRunOp g (execVscanF g x0 x1 x2) := ⟨_, _, _, fun _ => rfl⟩
theorem isRunOp_vscanI {g} {x0 x1 x2} : IsRunOp g (execVscanI g x0 x1 x2) := ⟨_, _, _, fun _ => rfl⟩
theorem isRunOp_vfadd {g} {x0 x1 x2 x3} : IsRunOp g (execVfadd g x0 x1 x2 x3) := ⟨_, _, _, fun _ => rfl⟩
theorem isRunOp_vfsub {g} {x0 x1 x2 x3} : IsRunOp g (execVfsub g x0 x1 x2 x3) := ⟨_, _, _, fun _ => rfl⟩
theorem isRunOp_vfmul {g} {x0 x1 x2 x3} : IsRunOp g (execVfmul g x0 x1 x2 x3) := ⟨_, _, _, fun _ => rfl⟩
theorem isRunOp_vfma {g} {x0 x1 x2 x3} : IsRunOp g (execVfma g x0 x1 x2 x3) := ⟨_, _, _, fun _ => rfl⟩
theorem isRunOp_vfms {g} {x0 x1 x2 x3} : IsRunOp g (execVfms g x0 x1 x2 x3) := ⟨_, _, _, fun _ => rfl⟩
theorem isRunOp_vfnma {g} {x0 x1 x2 x3} : IsRunOp g (execVfnma g x0 x1 x2 x3) := ⟨_, _, _, fun _ => rfl⟩
theorem isRunOp_vfmax {g} {x0 x1 x2 x3} : IsRunOp g (execVfmax g x0 x1 x2 x3) := ⟨_, _, _, fun _ => rfl⟩
theorem isRunOp_vfmin {g} {x0 x1 x2 x3} : IsRunOp g (execVfmin g x0 x1 x2 x3) := ⟨_, _, _, fun _ => rfl⟩
theorem isRunOp_vfscale {g} {x0 x1 x2 x3} : IsRunOp g (execVfscale g x0 x1 x2 x3) := ⟨_, _, _, fun _ => rfl⟩
theorem isRunOp_vfabs {g} {x0 x1 x2} : IsRunOp g (execVfabs g x0 x1 x2) := ⟨_, _, _, fun _ => rfl⟩
theorem isRunOp_vfneg {g} {x0 x1 x2} : IsRunOp g (execVfneg g x0 x1 x2) := ⟨_, _, _, fun _ => rfl⟩
theorem isRunOp_vfclass {g} {x0 x1 x2} : IsRunOp g (execVfclass g x0 x1 x2) := ⟨_, _, _, fun _ => rfl⟩
theorem isRunOp_vfcmp {g} {x0 x1 x2 x3 x4} : IsRunOp g (execVfcmp g x0 x1 x2 x3 x4) := ⟨_, _, _, fun _ => rfl⟩
theorem isRunOp_vfrcp {g} {x0 x1 x2} : IsRunOp g (execVfrcp g x0 x1 x2) := ⟨_, _, _, fun _ => rfl⟩
theorem isRunOp_vfrsq {g} {x0 x1 x2} : IsRunOp g (execVfrsq g x0 x1 x2) := ⟨_, _, _, fun _ => rfl⟩
theorem isRunOp_vfexp2 {g} {x0 x1 x2} : IsRunOp g (execVfexp2 g x0 x1 x2) := ⟨_, _, _, fun _ => rfl⟩
theorem isRunOp_vflog2 {g} {x0 x1 x2} : IsRunOp g (execVflog2 g x0 x1 x2) := ⟨_, _, _, fun _ => rfl⟩
theorem isRunOp_vrope {g} {x0 x1 x2} : IsRunOp g (execVrope g x0 x1 x2) := ⟨_, _, _, fun _ => rfl⟩
theorem isRunOp_vcvt {g} {x0 x1 x2 x3} : IsRunOp g (execVcvt g x0 x1 x2 x3) := ⟨_, _, _, fun _ => rfl⟩
theorem isRunOp_vqblk {g} {x0 x1 x2 x3} : IsRunOp g (execVqblk g x0 x1 x2 x3) := ⟨_, _, _, fun _ => rfl⟩
theorem isRunOp_vdqblk {g} {x0 x1 x2 x3} : IsRunOp g (execVdqblk g x0 x1 x2 x3) := ⟨_, _, _, fun _ => rfl⟩
theorem isRunOp_vcbx {g} {x0 x1 x2 x3} : IsRunOp g (execVcbx g x0 x1 x2 x3) := ⟨_, _, _, fun _ => rfl⟩
theorem isRunOp_vcbq {g} {x0 x1 x2 x3} : IsRunOp g (execVcbq g x0 x1 x2 x3) := ⟨_, _, _, fun _ => rfl⟩
theorem isRunOp_vpack {g} {x0 x1 x2} : IsRunOp g (execVpack g x0 x1 x2) := ⟨_, _, _, fun _ => rfl⟩
theorem isRunOp_vunpack {g} {x0 x1 x2} : IsRunOp g (execVunpack g x0 x1 x2) := ⟨_, _, _, fun _ => rfl⟩
theorem isRunOp_vrand {g} {x0} : IsRunOp g (execVrand g x0) := ⟨_, _, _, fun _ => rfl⟩
theorem isRunOp_kand {g} {x0 x1 x2} : IsRunOp g (execKand g x0 x1 x2) := ⟨_, _, _, fun _ => rfl⟩
theorem isRunOp_kor {g} {x0 x1 x2} : IsRunOp g (execKor g x0 x1 x2) := ⟨_, _, _, fun _ => rfl⟩
theorem isRunOp_knot {g} {x0 x1} : IsRunOp g (execKnot g x0 x1) := ⟨_, _, _, fun _ => rfl⟩
theorem isRunOp_kmov {g} {x0 x1} : IsRunOp g (execKmov g x0 x1) := ⟨_, _, _, fun _ => rfl⟩
theorem isRunOp_vdchk {g} {x0 x1} : IsRunOp g (execVdchk g x0 x1) := ⟨_, _, _, fun _ => rfl⟩
theorem isRunOp_ldB {g} {x0 x1 x2 x3} : IsRunOp g (execLdB g x0 x1 x2 x3) := ⟨_, _, _, fun _ => rfl⟩
theorem isRunOp_ldH {g} {x0 x1 x2 x3} : IsRunOp g (execLdH g x0 x1 x2 x3) := ⟨_, _, _, fun _ => rfl⟩
theorem isRunOp_ldW {g} {x0 x1 x2 x3} : IsRunOp g (execLdW g x0 x1 x2 x3) := ⟨_, _, _, fun _ => rfl⟩
theorem isRunOp_ldD {g} {x0 x1 x2 x3} : IsRunOp g (execLdD g x0 x1 x2 x3) := ⟨_, _, _, fun _ => rfl⟩
theorem isRunOp_ldBu {g} {x0 x1 x2 x3} : IsRunOp g (execLdBu g x0 x1 x2 x3) := ⟨_, _, _, fun _ => rfl⟩
theorem isRunOp_ldHu {g} {x0 x1 x2 x3} : IsRunOp g (execLdHu g x0 x1 x2 x3) := ⟨_, _, _, fun _ => rfl⟩
theorem isRunOp_ldWu {g} {x0 x1 x2 x3} : IsRunOp g (execLdWu g x0 x1 x2 x3) := ⟨_, _, _, fun _ => rfl⟩
theorem isRunOp_ldv {g} {x0 x1 x2} : IsRunOp g (execLdv g x0 x1 x2) := ⟨_, _, _, fun _ => rfl⟩
theorem isRunOp_ldvs {g} {x0 x1 x2} : IsRunOp g (execLdvs g x0 x1 x2) := ⟨_, _, _, fun _ => rfl⟩
theorem isRunOp_ldvg {g} {x0 x1 x2} : IsRunOp g (execLdvg g x0 x1 x2) := ⟨_, _, _, fun _ => rfl⟩
theorem isRunOp_atomW {g} {x0 x1 x2 x3} : IsRunOp g (execAtomW g x0 x1 x2 x3) := ⟨_, _, _, fun _ => rfl⟩
theorem isRunOp_atomD {g} {x0 x1 x2 x3} : IsRunOp g (execAtomD g x0 x1 x2 x3) := ⟨_, _, _, fun _ => rfl⟩
theorem isRunOp_atomCasW {g} {x0 x1 x2 x3} : IsRunOp g (execAtomCasW g x0 x1 x2 x3) := ⟨_, _, _, fun _ => rfl⟩
theorem isRunOp_atomCasD {g} {x0 x1 x2 x3} : IsRunOp g (execAtomCasD g x0 x1 x2 x3) := ⟨_, _, _, fun _ => rfl⟩
theorem isRunOp_redW {g} {x0} : IsRunOp g (execRedW g x0) := ⟨_, _, _, fun _ => rfl⟩
theorem isRunOp_redD {g} {x0} : IsRunOp g (execRedD g x0) := ⟨_, _, _, fun _ => rfl⟩
theorem isRunOp_stB {g} {x0 x1} : IsRunOp g (execStB g x0 x1) := ⟨_, _, _, fun _ => rfl⟩
theorem isRunOp_stH {g} {x0 x1} : IsRunOp g (execStH g x0 x1) := ⟨_, _, _, fun _ => rfl⟩
theorem isRunOp_stW {g} {x0 x1} : IsRunOp g (execStW g x0 x1) := ⟨_, _, _, fun _ => rfl⟩
theorem isRunOp_stD {g} {x0 x1} : IsRunOp g (execStD g x0 x1) := ⟨_, _, _, fun _ => rfl⟩
theorem isRunOp_stv {g} {x0 x1} : IsRunOp g (execStv g x0 x1) := ⟨_, _, _, fun _ => rfl⟩
theorem isRunOp_stvs {g} {x0 x1} : IsRunOp g (execStvs g x0 x1) := ⟨_, _, _, fun _ => rfl⟩
theorem isRunOp_stvx {g} {x0 x1} : IsRunOp g (execStvx g x0 x1) := ⟨_, _, _, fun _ => rfl⟩
theorem isRunOp_ldsp {g} {x0 x1} : IsRunOp g (execLdsp g x0 x1) := ⟨_, _, _, fun _ => rfl⟩
theorem isRunOp_stsp {g} {x0 x1} : IsRunOp g (execStsp g x0 x1) := ⟨_, _, _, fun _ => rfl⟩
theorem isRunOp_mark {g} : IsRunOp g (execMark g) := ⟨_, _, _, fun _ => rfl⟩
theorem isRunOp_fence {g} {x0} : IsRunOp g (execFence g x0) := ⟨_, _, _, fun _ => rfl⟩
theorem isRunOp_shdr {g} {x0 x1 x2 x3} : IsRunOp g (execShdr g x0 x1 x2 x3) := ⟨_, _, _, fun _ => rfl⟩
theorem isRunOp_srd {g} {x0 x1 x2 x3} : IsRunOp g (execSrd g x0 x1 x2 x3) := ⟨_, _, _, fun _ => rfl⟩
theorem isRunOp_swait {g} {x0} : IsRunOp g (execSwait g x0) := ⟨_, _, _, fun _ => rfl⟩
theorem isRunOp_sdone {g} {x0} : IsRunOp g (execSdone g x0) := ⟨_, _, _, fun _ => rfl⟩
theorem isRunOp_swr {g} {x0 x1 x2} : IsRunOp g (execSwr g x0 x1 x2) := ⟨_, _, _, fun _ => rfl⟩
theorem isRunOp_sclose {g} {x0 x1} : IsRunOp g (execSclose g x0 x1) := ⟨_, _, _, fun _ => rfl⟩
theorem isRunOp_sfree {g} {x0} : IsRunOp g (execSfree g x0) := ⟨_, _, _, fun _ => rfl⟩
theorem isRunOp_sbind {g} {x0 x1} : IsRunOp g (execSbind g x0 x1) := ⟨_, _, _, fun _ => rfl⟩
theorem isRunOp_stag {g} {x0 x1 x2} : IsRunOp g (execStag g x0 x1 x2) := ⟨_, _, _, fun _ => rfl⟩
theorem isRunOp_fview {g} {x0 x1 x2 x3} : IsRunOp g (execFview g x0 x1 x2 x3) := ⟨_, _, _, fun _ => rfl⟩
theorem isRunOp_fseq {g} {x0 x1 x2 x3} : IsRunOp g (execFseq g x0 x1 x2 x3) := ⟨_, _, _, fun _ => rfl⟩
theorem isRunOp_fprobe {g} {x0 x1 x2 x3} : IsRunOp g (execFprobe g x0 x1 x2 x3) := ⟨_, _, _, fun _ => rfl⟩
theorem isRunOp_fldk {g} {x0 x1 x2} : IsRunOp g (execFldk g x0 x1 x2) := ⟨_, _, _, fun _ => rfl⟩
theorem isRunOp_fapp {g} {x0 x1 x2} : IsRunOp g (execFapp g x0 x1 x2) := ⟨_, _, _, fun _ => rfl⟩
theorem isRunOp_ffork {g} {x0 x1} : IsRunOp g (execFfork g x0 x1) := ⟨_, _, _, fun _ => rfl⟩
theorem isRunOp_ftrunc {g} {x0 x1} : IsRunOp g (execFtrunc g x0 x1) := ⟨_, _, _, fun _ => rfl⟩
theorem isRunOp_ffree {g} {x0 x1} : IsRunOp g (execFfree g x0 x1) := ⟨_, _, _, fun _ => rfl⟩
theorem isRunOp_fhint {g} {x0 x1} : IsRunOp g (execFhint g x0 x1) := ⟨_, _, _, fun _ => rfl⟩
theorem isRunOp_ewr {g} {x0 x1} : IsRunOp g (execEwr g x0 x1) := ⟨_, _, _, fun _ => rfl⟩
theorem isRunOp_erd {g} {x0 x1} : IsRunOp g (execErd g x0 x1) := ⟨_, _, _, fun _ => rfl⟩
theorem isRunOp_estat {g} {x0} : IsRunOp g (execEstat g x0) := ⟨_, _, _, fun _ => rfl⟩
theorem isRunOp_ego {g} : IsRunOp g (execEgo g) := ⟨_, _, _, fun _ => rfl⟩
theorem isRunOp_eabort {g} : IsRunOp g (execEabort g) := ⟨_, _, _, fun _ => rfl⟩
theorem isRunOp_mloadw {g} : IsRunOp g (execMloadw g) := ⟨_, _, _, fun _ => rfl⟩
theorem isRunOp_mmac {g} : IsRunOp g (execMmac g) := ⟨_, _, _, fun _ => rfl⟩
theorem isRunOp_mdrain {g} : IsRunOp g (execMdrain g) := ⟨_, _, _, fun _ => rfl⟩
theorem isRunOp_cpy {g} {x0} : IsRunOp g (execCpy g x0) := ⟨_, _, _, fun _ => rfl⟩
theorem isRunOp_cpyq {g} {x0} : IsRunOp g (execCpyq g x0) := ⟨_, _, _, fun _ => rfl⟩
theorem isRunOp_binit {g} {x0 x1} : IsRunOp g (execBinit g x0 x1) := ⟨_, _, _, fun _ => rfl⟩
theorem isRunOp_barr {g} {x0 x1} : IsRunOp g (execBarr g x0 x1) := ⟨_, _, _, fun _ => rfl⟩
theorem isRunOp_badd {g} {x0 x1} : IsRunOp g (execBadd g x0 x1) := ⟨_, _, _, fun _ => rfl⟩
theorem isRunOp_bwait {g} {x0} : IsRunOp g (execBwait g x0) := ⟨_, _, _, fun _ => rfl⟩
theorem isRunOp_gbar {g} {x0 x1} : IsRunOp g (execGbar g x0 x1) := ⟨_, _, _, fun _ => rfl⟩
theorem isRunOp_tfork {g} {x0 x1 x2} : IsRunOp g (execTfork g x0 x1 x2) := ⟨_, _, _, fun _ => rfl⟩
theorem isRunOp_tjoin {g} : IsRunOp g (execTjoin g) := ⟨_, _, _, fun _ => rfl⟩
theorem isRunOp_tcancel {g} {x0} : IsRunOp g (execTcancel g x0) := ⟨_, _, _, fun _ => rfl⟩
theorem isRunOp_texit {g} : IsRunOp g (execTexit g) := ⟨_, _, _, fun _ => rfl⟩
theorem isRunOp_tyield {g} : IsRunOp g (execTyield g) := ⟨_, _, _, fun _ => rfl⟩
theorem isRunOp_lktry {g} {x0 x1 x2 x3} : IsRunOp g (execLktry g x0 x1 x2 x3) := ⟨_, _, _, fun _ => rfl⟩
theorem isRunOp_lkqry {g} {x0 x1 x2} : IsRunOp g (execLkqry g x0 x1 x2) := ⟨_, _, _, fun _ => rfl⟩
theorem isRunOp_lkacq {g} {x0 x1 x2} : IsRunOp g (execLkacq g x0 x1 x2) := ⟨_, _, _, fun _ => rfl⟩
theorem isRunOp_lkupg {g} {x0 x1 x2} : IsRunOp g (execLkupg g x0 x1 x2) := ⟨_, _, _, fun _ => rfl⟩
theorem isRunOp_lkrel {g} {x0} : IsRunOp g (execLkrel g x0) := ⟨_, _, _, fun _ => rfl⟩
theorem isRunOp_lkrela {g} : IsRunOp g (execLkrela g) := ⟨_, _, _, fun _ => rfl⟩
theorem isRunOp_lkmat {g} {x0} : IsRunOp g (execLkmat g x0) := ⟨_, _, _, fun _ => rfl⟩
theorem isRunOp_cbwr {g} {x0 x1 x2} : IsRunOp g (execCbwr g x0 x1 x2) := ⟨_, _, _, fun _ => rfl⟩
theorem isRunOp_cbwrNw {g} {x0 x1 x2} : IsRunOp g (execCbwrNw g x0 x1 x2) := ⟨_, _, _, fun _ => rfl⟩
theorem isRunOp_cbld {g} {x0 x1 x2} : IsRunOp g (execCbld g x0 x1 x2) := ⟨_, _, _, fun _ => rfl⟩
theorem isRunOp_cbinv {g} {x0 x1} : IsRunOp g (execCbinv g x0 x1) := ⟨_, _, _, fun _ => rfl⟩

/-- Every operation of a slot but `SOPEN` is one run of `runOp` under its guard. -/
theorem exec_isRunOp {i : Instr} {g : Guard} (h : guardOf i = some g) (hs : ∀ st, i ≠ .sopen g st) : IsRunOp g (exec i) := by
  cases i
  case sopen => cases h; exact absurd rfl (hs _)
  case add => cases h; exact isRunOp_add
  case sub => cases h; exact isRunOp_sub
  case and => cases h; exact isRunOp_and
  case or => cases h; exact isRunOp_or
  case xor => cases h; exact isRunOp_xor
  case andn => cases h; exact isRunOp_andn
  case shl => cases h; exact isRunOp_shl
  case shr => cases h; exact isRunOp_shr
  case sar => cases h; exact isRunOp_sar
  case rol => cases h; exact isRunOp_rol
  case min => cases h; exact isRunOp_min
  case max => cases h; exact isRunOp_max
  case minu => cases h; exact isRunOp_minu
  case maxu => cases h; exact isRunOp_maxu
  case addx => cases h; exact isRunOp_addx
  case clz => cases h; exact isRunOp_clz
  case ctz => cases h; exact isRunOp_ctz
  case popc => cases h; exact isRunOp_popc
  case brev => cases h; exact isRunOp_brev
  case bswap => cases h; exact isRunOp_bswap
  case sext => cases h; exact isRunOp_sext
  case zext => cases h; exact isRunOp_zext
  case mov => cases h; exact isRunOp_mov
  case mul => cases h; exact isRunOp_mul
  case mulh => cases h; exact isRunOp_mulh
  case mulhu => cases h; exact isRunOp_mulhu
  case div => cases h; exact isRunOp_div
  case divu => cases h; exact isRunOp_divu
  case rem => cases h; exact isRunOp_rem
  case remu => cases h; exact isRunOp_remu
  case extr => cases h; exact isRunOp_extr
  case insr => cases h; exact isRunOp_insr
  case sel => cases h; exact isRunOp_sel
  case cmp => cases h; exact isRunOp_cmp
  case pand => cases h; exact isRunOp_pand
  case por => cases h; exact isRunOp_por
  case pnot => cases h; exact isRunOp_pnot
  case addi => cases h; exact isRunOp_addi
  case subi => cases h; exact isRunOp_subi
  case andi => cases h; exact isRunOp_andi
  case ori => cases h; exact isRunOp_ori
  case xori => cases h; exact isRunOp_xori
  case shli => cases h; exact isRunOp_shli
  case shri => cases h; exact isRunOp_shri
  case sari => cases h; exact isRunOp_sari
  case cmpi => cases h; exact isRunOp_cmpi
  case movi => cases h; exact isRunOp_movi
  case movh1 => cases h; exact isRunOp_movh1
  case movh2 => cases h; exact isRunOp_movh2
  case movh3 => cases h; exact isRunOp_movh3
  case br => cases h; exact isRunOp_br
  case jmp => cases h; exact isRunOp_jmp
  case call => cases h; exact isRunOp_call
  case callr => cases h; exact isRunOp_callr
  case ret => cases h; exact isRunOp_ret
  case loopi => cases h; exact isRunOp_loopi
  case loop => cases h; exact isRunOp_loop
  case mtcr => cases h; exact isRunOp_mtcr
  case mfcr => cases h; exact isRunOp_mfcr
  case trap => cases h; exact isRunOp_trap
  case tret => cases h; exact isRunOp_tret
  case ifence => cases h; exact isRunOp_ifence
  case dchk => cases h; exact isRunOp_dchk
  case xmov => cases h; exact isRunOp_xmov
  case vadd => cases h; exact isRunOp_vadd
  case vsub => cases h; exact isRunOp_vsub
  case vmul => cases h; exact isRunOp_vmul
  case vmulh => cases h; exact isRunOp_vmulh
  case vmulhU => cases h; exact isRunOp_vmulhU
  case vand => cases h; exact isRunOp_vand
  case vor => cases h; exact isRunOp_vor
  case vxor => cases h; exact isRunOp_vxor
  case vshl => cases h; exact isRunOp_vshl
  case vshr => cases h; exact isRunOp_vshr
  case vsar => cases h; exact isRunOp_vsar
  case vshlImm => cases h; exact isRunOp_vshlImm
  case vshrImm => cases h; exact isRunOp_vshrImm
  case vsarImm => cases h; exact isRunOp_vsarImm
  case vmin => cases h; exact isRunOp_vmin
  case vmax => cases h; exact isRunOp_vmax
  case vminU => cases h; exact isRunOp_vminU
  case vmaxU => cases h; exact isRunOp_vmaxU
  case vabs => cases h; exact isRunOp_vabs
  case vneg => cases h; exact isRunOp_vneg
  case vcmp => cases h; exact isRunOp_vcmp
  case vsel => cases h; exact isRunOp_vsel
  case vsplatImm => cases h; exact isRunOp_vsplatImm
  case vsplatLane => cases h; exact isRunOp_vsplatLane
  case vperm => cases h; exact isRunOp_vperm
  case vrot => cases h; exact isRunOp_vrot
  case vslide => cases h; exact isRunOp_vslide
  case vcompress => cases h; exact isRunOp_vcompress
  case vexpand => cases h; exact isRunOp_vexpand
  case vredsum => cases h; exact isRunOp_vredsum
  case vredmax => cases h; exact isRunOp_vredmax
  case vredmin => cases h; exact isRunOp_vredmin
  case vredsumF => cases h; exact isRunOp_vredsumF
  case vredmaxF => cases h; exact isRunOp_vredmaxF
  case vredminF => cases h; exact isRunOp_vredminF
  case vscanF => cases h; exact isRunOp_vscanF
  case vscanI => cases h; exact isRunOp_vscanI
  case vfadd => cases h; exact isRunOp_vfadd
  case vfsub => cases h; exact isRunOp_vfsub
  case vfmul => cases h; exact isRunOp_vfmul
  case vfma => cases h; exact isRunOp_vfma
  case vfms => cases h; exact isRunOp_vfms
  case vfnma => cases h; exact isRunOp_vfnma
  case vfmax => cases h; exact isRunOp_vfmax
  case vfmin => cases h; exact isRunOp_vfmin
  case vfscale => cases h; exact isRunOp_vfscale
  case vfabs => cases h; exact isRunOp_vfabs
  case vfneg => cases h; exact isRunOp_vfneg
  case vfclass => cases h; exact isRunOp_vfclass
  case vfcmp => cases h; exact isRunOp_vfcmp
  case vfrcp => cases h; exact isRunOp_vfrcp
  case vfrsq => cases h; exact isRunOp_vfrsq
  case vfexp2 => cases h; exact isRunOp_vfexp2
  case vflog2 => cases h; exact isRunOp_vflog2
  case vrope => cases h; exact isRunOp_vrope
  case vcvt => cases h; exact isRunOp_vcvt
  case vqblk => cases h; exact isRunOp_vqblk
  case vdqblk => cases h; exact isRunOp_vdqblk
  case vcbx => cases h; exact isRunOp_vcbx
  case vcbq => cases h; exact isRunOp_vcbq
  case vpack => cases h; exact isRunOp_vpack
  case vunpack => cases h; exact isRunOp_vunpack
  case vrand => cases h; exact isRunOp_vrand
  case kand => cases h; exact isRunOp_kand
  case kor => cases h; exact isRunOp_kor
  case knot => cases h; exact isRunOp_knot
  case kmov => cases h; exact isRunOp_kmov
  case vdchk => cases h; exact isRunOp_vdchk
  case ldB => cases h; exact isRunOp_ldB
  case ldH => cases h; exact isRunOp_ldH
  case ldW => cases h; exact isRunOp_ldW
  case ldD => cases h; exact isRunOp_ldD
  case ldBu => cases h; exact isRunOp_ldBu
  case ldHu => cases h; exact isRunOp_ldHu
  case ldWu => cases h; exact isRunOp_ldWu
  case ldv => cases h; exact isRunOp_ldv
  case ldvs => cases h; exact isRunOp_ldvs
  case ldvg => cases h; exact isRunOp_ldvg
  case atomW => cases h; exact isRunOp_atomW
  case atomD => cases h; exact isRunOp_atomD
  case atomCasW => cases h; exact isRunOp_atomCasW
  case atomCasD => cases h; exact isRunOp_atomCasD
  case redW => cases h; exact isRunOp_redW
  case redD => cases h; exact isRunOp_redD
  case stB => cases h; exact isRunOp_stB
  case stH => cases h; exact isRunOp_stH
  case stW => cases h; exact isRunOp_stW
  case stD => cases h; exact isRunOp_stD
  case stv => cases h; exact isRunOp_stv
  case stvs => cases h; exact isRunOp_stvs
  case stvx => cases h; exact isRunOp_stvx
  case ldsp => cases h; exact isRunOp_ldsp
  case stsp => cases h; exact isRunOp_stsp
  case mark => cases h; exact isRunOp_mark
  case fence => cases h; exact isRunOp_fence
  case shdr => cases h; exact isRunOp_shdr
  case srd => cases h; exact isRunOp_srd
  case swait => cases h; exact isRunOp_swait
  case sdone => cases h; exact isRunOp_sdone
  case swr => cases h; exact isRunOp_swr
  case sclose => cases h; exact isRunOp_sclose
  case sfree => cases h; exact isRunOp_sfree
  case sbind => cases h; exact isRunOp_sbind
  case stag => cases h; exact isRunOp_stag
  case fview => cases h; exact isRunOp_fview
  case fseq => cases h; exact isRunOp_fseq
  case fprobe => cases h; exact isRunOp_fprobe
  case fldk => cases h; exact isRunOp_fldk
  case fapp => cases h; exact isRunOp_fapp
  case ffork => cases h; exact isRunOp_ffork
  case ftrunc => cases h; exact isRunOp_ftrunc
  case ffree => cases h; exact isRunOp_ffree
  case fhint => cases h; exact isRunOp_fhint
  case ewr => cases h; exact isRunOp_ewr
  case erd => cases h; exact isRunOp_erd
  case estat => cases h; exact isRunOp_estat
  case ego => cases h; exact isRunOp_ego
  case eabort => cases h; exact isRunOp_eabort
  case mloadw => cases h; exact isRunOp_mloadw
  case mmac => cases h; exact isRunOp_mmac
  case mdrain => cases h; exact isRunOp_mdrain
  case cpy => cases h; exact isRunOp_cpy
  case cpyq => cases h; exact isRunOp_cpyq
  case binit => cases h; exact isRunOp_binit
  case barr => cases h; exact isRunOp_barr
  case badd => cases h; exact isRunOp_badd
  case bwait => cases h; exact isRunOp_bwait
  case gbar => cases h; exact isRunOp_gbar
  case tfork => cases h; exact isRunOp_tfork
  case tjoin => cases h; exact isRunOp_tjoin
  case tcancel => cases h; exact isRunOp_tcancel
  case texit => cases h; exact isRunOp_texit
  case tyield => cases h; exact isRunOp_tyield
  case lktry => cases h; exact isRunOp_lktry
  case lkqry => cases h; exact isRunOp_lkqry
  case lkacq => cases h; exact isRunOp_lkacq
  case lkupg => cases h; exact isRunOp_lkupg
  case lkrel => cases h; exact isRunOp_lkrel
  case lkrela => cases h; exact isRunOp_lkrela
  case lkmat => cases h; exact isRunOp_lkmat
  case cbwr => cases h; exact isRunOp_cbwr
  case cbwrNw => cases h; exact isRunOp_cbwrNw
  case cbld => cases h; exact isRunOp_cbld
  case cbinv => cases h; exact isRunOp_cbinv
  all_goals cases h


/-- `SOPEN` outside the check of its bundle is one run of `runOp`. -/
theorem exec_sopen_runs {g : Guard} {st : BitVec 5} {s : State} (h : s.issue.mode ≠ .probe) :
    ∃ sl k eff, exec (.sopen g st) s = runOp sl g k eff s := by
  rw [exec_sopen, execSopen]
  split
  · exact absurd ‹_› h
  · exact ⟨_, _, _, rfl⟩

/-- `SOPEN` in the check of its bundle asks for the wait of its block, or is one run of `runOp` without effect. -/
theorem exec_sopen_checks {g : Guard} {st : BitVec 5} {s : State} (h : s.issue.mode = .probe) :
    s.cur.guard g = true ∧ exec (.sopen g st) s = .next (s.awaitCredit st.toNat) ∨
      ∃ k, exec (.sopen g st) s = runOp .m g k id s := by
  rw [exec_sopen, execSopen, h]
  dsimp only
  split
  · rename_i hb
    simp only [Bool.and_eq_true] at hb
    exact .inl ⟨hb.1.2, rfl⟩
  · exact .inr ⟨_, rfl⟩

end Sys2Proof.Laws
end

