-- ==== Sys2Proof/Laws/State.lean ====
section
/-! SUPPORT. Reading back what an update has written: sparse data, and one lemma per field and per update of nodes, tiles, contexts and
memory. -/

namespace Sys2Proof.Machine

/-! Sparse data -/

@[simp] theorem spGet_spPut_self {α : Type} (d v : α) (m : Sparse α) (k : Nat) : spGet d (spPut m k v) k = v := by
  induction m with
  | nil => simp [spPut, spGet]
  | cons e r ih =>
    obtain ⟨j, w⟩ := e
    unfold spPut
    split
    · simp [spGet]
    · split
      · simp [spGet]
      · rename_i h
        simp [spGet, Ne.symm h, ih]

theorem spGet_spPut_of_ne {α : Type} (d v : α) (m : Sparse α) {j k : Nat} (h : j ≠ k) : spGet d (spPut m k v) j = spGet d m j := by
  induction m with
  | nil => simp [spPut, spGet, Ne.symm h]
  | cons e r ih =>
    obtain ⟨i, w⟩ := e
    unfold spPut
    split
    · simp [spGet, Ne.symm h]
    · split
      · rename_i h2
        subst h2
        simp [spGet, Ne.symm h]
      · simp [spGet, ih]

/-! Fields that an update of nodes keeps -/

section
variable (s : State) (n : Nat) (x : Node) (f : Node → Node) (r : TileRef) (t : Tile) (ft : Tile → Tile) (c : CtxRef) (y : Ctx)
  (fc : Ctx → Ctx)

@[simp] theorem State.setNode_mem : (s.setNode n x).mem = s.mem := rfl
@[simp] theorem State.setNode_poison : (s.setNode n x).poison = s.poison := rfl
@[simp] theorem State.setNode_tainted : (s.setNode n x).tainted = s.tainted := rfl
@[simp] theorem State.setNode_hostMem : (s.setNode n x).hostMem = s.hostMem := rfl
@[simp] theorem State.setNode_net : (s.setNode n x).net = s.net := rfl
@[simp] theorem State.setNode_packets : (s.setNode n x).packets = s.packets := rfl
@[simp] theorem State.setNode_agenda : (s.setNode n x).agenda = s.agenda := rfl
@[simp] theorem State.setNode_focus : (s.setNode n x).focus = s.focus := rfl
@[simp] theorem State.setNode_issue : (s.setNode n x).issue = s.issue := rfl
@[simp] theorem State.setNode_ids : (s.setNode n x).ids = s.ids := rfl
@[simp] theorem State.setNode_free : (s.setNode n x).free = s.free := rfl
@[simp] theorem State.modNode_mem : (s.modNode n f).mem = s.mem := rfl
@[simp] theorem State.modNode_poison : (s.modNode n f).poison = s.poison := rfl
@[simp] theorem State.modNode_tainted : (s.modNode n f).tainted = s.tainted := rfl
@[simp] theorem State.modNode_hostMem : (s.modNode n f).hostMem = s.hostMem := rfl
@[simp] theorem State.modNode_net : (s.modNode n f).net = s.net := rfl
@[simp] theorem State.modNode_packets : (s.modNode n f).packets = s.packets := rfl
@[simp] theorem State.modNode_agenda : (s.modNode n f).agenda = s.agenda := rfl
@[simp] theorem State.modNode_focus : (s.modNode n f).focus = s.focus := rfl
@[simp] theorem State.modNode_issue : (s.modNode n f).issue = s.issue := rfl
@[simp] theorem State.modNode_ids : (s.modNode n f).ids = s.ids := rfl
@[simp] theorem State.modNode_free : (s.modNode n f).free = s.free := rfl
@[simp] theorem State.setTile_mem : (s.setTile r t).mem = s.mem := rfl
@[simp] theorem State.setTile_poison : (s.setTile r t).poison = s.poison := rfl
@[simp] theorem State.setTile_tainted : (s.setTile r t).tainted = s.tainted := rfl
@[simp] theorem State.setTile_hostMem : (s.setTile r t).hostMem = s.hostMem := rfl
@[simp] theorem State.setTile_net : (s.setTile r t).net = s.net := rfl
@[simp] theorem State.setTile_packets : (s.setTile r t).packets = s.packets := rfl
@[simp] theorem State.setTile_agenda : (s.setTile r t).agenda = s.agenda := rfl
@[simp] theorem State.setTile_focus : (s.setTile r t).focus = s.focus := rfl
@[simp] theorem State.setTile_issue : (s.setTile r t).issue = s.issue := rfl
@[simp] theorem State.setTile_ids : (s.setTile r t).ids = s.ids := rfl
@[simp] theorem State.setTile_free : (s.setTile r t).free = s.free := rfl
@[simp] theorem State.modTile_mem : (s.modTile r ft).mem = s.mem := rfl
@[simp] theorem State.modTile_poison : (s.modTile r ft).poison = s.poison := rfl
@[simp] theorem State.modTile_tainted : (s.modTile r ft).tainted = s.tainted := rfl
@[simp] theorem State.modTile_hostMem : (s.modTile r ft).hostMem = s.hostMem := rfl
@[simp] theorem State.modTile_net : (s.modTile r ft).net = s.net := rfl
@[simp] theorem State.modTile_packets : (s.modTile r ft).packets = s.packets := rfl
@[simp] theorem State.modTile_agenda : (s.modTile r ft).agenda = s.agenda := rfl
@[simp] theorem State.modTile_focus : (s.modTile r ft).focus = s.focus := rfl
@[simp] theorem State.modTile_issue : (s.modTile r ft).issue = s.issue := rfl
@[simp] theorem State.modTile_ids : (s.modTile r ft).ids = s.ids := rfl
@[simp] theorem State.modTile_free : (s.modTile r ft).free = s.free := rfl
@[simp] theorem State.setCtx_mem : (s.setCtx c y).mem = s.mem := rfl
@[simp] theorem State.setCtx_poison : (s.setCtx c y).poison = s.poison := rfl
@[simp] theorem State.setCtx_tainted : (s.setCtx c y).tainted = s.tainted := rfl
@[simp] theorem State.setCtx_hostMem : (s.setCtx c y).hostMem = s.hostMem := rfl
@[simp] theorem State.setCtx_net : (s.setCtx c y).net = s.net := rfl
@[simp] theorem State.setCtx_packets : (s.setCtx c y).packets = s.packets := rfl
@[simp] theorem State.setCtx_agenda : (s.setCtx c y).agenda = s.agenda := rfl
@[simp] theorem State.setCtx_focus : (s.setCtx c y).focus = s.focus := rfl
@[simp] theorem State.setCtx_issue : (s.setCtx c y).issue = s.issue := rfl
@[simp] theorem State.setCtx_ids : (s.setCtx c y).ids = s.ids := rfl
@[simp] theorem State.setCtx_free : (s.setCtx c y).free = s.free := rfl
@[simp] theorem State.modCtx_mem : (s.modCtx c fc).mem = s.mem := rfl
@[simp] theorem State.modCtx_poison : (s.modCtx c fc).poison = s.poison := rfl
@[simp] theorem State.modCtx_tainted : (s.modCtx c fc).tainted = s.tainted := rfl
@[simp] theorem State.modCtx_hostMem : (s.modCtx c fc).hostMem = s.hostMem := rfl
@[simp] theorem State.modCtx_net : (s.modCtx c fc).net = s.net := rfl
@[simp] theorem State.modCtx_packets : (s.modCtx c fc).packets = s.packets := rfl
@[simp] theorem State.modCtx_agenda : (s.modCtx c fc).agenda = s.agenda := rfl
@[simp] theorem State.modCtx_focus : (s.modCtx c fc).focus = s.focus := rfl
@[simp] theorem State.modCtx_issue : (s.modCtx c fc).issue = s.issue := rfl
@[simp] theorem State.modCtx_ids : (s.modCtx c fc).ids = s.ids := rfl
@[simp] theorem State.modCtx_free : (s.modCtx c fc).free = s.free := rfl
@[simp] theorem State.modCur_mem : (s.modCur fc).mem = s.mem := rfl
@[simp] theorem State.modCur_poison : (s.modCur fc).poison = s.poison := rfl
@[simp] theorem State.modCur_tainted : (s.modCur fc).tainted = s.tainted := rfl
@[simp] theorem State.modCur_hostMem : (s.modCur fc).hostMem = s.hostMem := rfl
@[simp] theorem State.modCur_net : (s.modCur fc).net = s.net := rfl
@[simp] theorem State.modCur_packets : (s.modCur fc).packets = s.packets := rfl
@[simp] theorem State.modCur_agenda : (s.modCur fc).agenda = s.agenda := rfl
@[simp] theorem State.modCur_focus : (s.modCur fc).focus = s.focus := rfl
@[simp] theorem State.modCur_issue : (s.modCur fc).issue = s.issue := rfl
@[simp] theorem State.modCur_ids : (s.modCur fc).ids = s.ids := rfl
@[simp] theorem State.modCur_free : (s.modCur fc).free = s.free := rfl
@[simp] theorem State.modHere_mem : (s.modHere ft).mem = s.mem := rfl
@[simp] theorem State.modHere_net : (s.modHere ft).net = s.net := rfl
@[simp] theorem State.modHere_focus : (s.modHere ft).focus = s.focus := rfl
@[simp] theorem State.modHere_issue : (s.modHere ft).issue = s.issue := rfl
@[simp] theorem State.modHere_ids : (s.modHere ft).ids = s.ids := rfl
@[simp] theorem State.modHere_free : (s.modHere ft).free = s.free := rfl

/-! What is read back -/

@[simp] theorem State.node_setNode : (s.setNode n x).node n = x := by simp [State.node, State.setNode]
@[simp] theorem State.node_modNode : (s.modNode n f).node n = f (s.node n) := by simp [State.modNode]
theorem State.node_setNode_of_ne {m : Nat} (h : m ≠ n) : (s.setNode n x).node m = s.node m := by
  simp [State.node, State.setNode, spGet_spPut_of_ne _ _ _ h]
theorem State.node_modNode_of_ne {m : Nat} (h : m ≠ n) : (s.modNode n f).node m = s.node m := s.node_setNode_of_ne n _ h
@[simp] theorem State.tile_setTile : (s.setTile r t).tile r = t := by simp [State.tile, State.setTile]
@[simp] theorem State.tile_modTile : (s.modTile r ft).tile r = ft (s.tile r) := by simp [State.modTile]
theorem State.tile_setTile_of_ne {q : TileRef} (h : q ≠ r) : (s.setTile r t).tile q = s.tile q := by
  obtain ⟨n, k⟩ := r
  obtain ⟨m, j⟩ := q
  by_cases hn : m = n
  · subst hn
    have hk : j ≠ k := fun e => h (by rw [e])
    simp [State.tile, State.setTile, spGet_spPut_of_ne _ _ _ hk]
  · simp [State.tile, State.setTile, State.node_modNode_of_ne _ _ _ hn]
theorem State.tile_modTile_of_ne {q : TileRef} (h : q ≠ r) : (s.modTile r ft).tile q = s.tile q := s.tile_setTile_of_ne r _ h
@[simp] theorem State.tile_setNode : (s.setNode r.node x).tile r = spGet Tile.reset x.tiles r.tile := by simp [State.tile]
end

@[simp] theorem Tile.ctx_setCtx (t : Tile) {k : Nat} (c : Ctx) (h : k < 8) : (t.setCtx k c).ctx k = c := by
  simp [Tile.ctx, Tile.setCtx, h]
theorem Tile.ctx_setCtx_of_ne (t : Tile) {j k : Nat} (c : Ctx) (h : j ≠ k) : (t.setCtx k c).ctx j = t.ctx j := by
  unfold Tile.ctx Tile.setCtx
  by_cases hj : j < 8
  · simp [hj, Ne.symm h, Vector.getElem?_setIfInBounds]
  · simp [hj]
@[simp] theorem Tile.ctx_modCtx (t : Tile) {k : Nat} (f : Ctx → Ctx) (h : k < 8) : (t.modCtx k f).ctx k = f (t.ctx k) :=
  t.ctx_setCtx _ h
theorem Tile.ctx_modCtx_of_ne (t : Tile) {j k : Nat} (f : Ctx → Ctx) (h : j ≠ k) : (t.modCtx k f).ctx j = t.ctx j :=
  t.ctx_setCtx_of_ne _ h
@[simp] theorem State.ctx_setCtx (s : State) {c : CtxRef} (x : Ctx) (h : c.slot < 8) : (s.setCtx c x).ctx c = x := by
  simp [State.ctx, State.setCtx, h]
@[simp] theorem State.ctx_modCtx (s : State) {c : CtxRef} (f : Ctx → Ctx) (h : c.slot < 8) : (s.modCtx c f).ctx c = f (s.ctx c) :=
  s.ctx_setCtx _ h
@[simp] theorem State.tile_setCtx (s : State) (c : CtxRef) (x : Ctx) :
    (s.setCtx c x).tile (tileOf c) = (s.tile (tileOf c)).setCtx c.slot x := by simp [State.setCtx]
@[simp] theorem State.tile_modCtx (s : State) (c : CtxRef) (f : Ctx → Ctx) :
    (s.modCtx c f).tile (tileOf c) = (s.tile (tileOf c)).modCtx c.slot f := by simp [State.modCtx, Tile.modCtx, State.ctx]

/-! The issuing context -/

@[simp] theorem State.here_modCur (s : State) (f : Ctx → Ctx) : (s.modCur f).here = s.here.modCtx s.slot f := by
  simp [State.here, State.modCur, State.modTile]
@[simp] theorem Tile.running_modCtx (t : Tile) (k : Nat) (f : Ctx → Ctx) : (t.modCtx k f).running = t.running := rfl
@[simp] theorem Tile.core_modCtx (t : Tile) (k : Nat) (f : Ctx → Ctx) : (t.modCtx k f).core = t.core := rfl
@[simp] theorem Tile.wall_modCtx (t : Tile) (k : Nat) (f : Ctx → Ctx) : (t.modCtx k f).wall = t.wall := rfl
@[simp] theorem Tile.issued_modCtx (t : Tile) (k : Nat) (f : Ctx → Ctx) : (t.modCtx k f).issued = t.issued := rfl
@[simp] theorem Tile.slots_modCtx (t : Tile) (k : Nat) (f : Ctx → Ctx) : (t.modCtx k f).slots = t.slots := rfl
@[simp] theorem State.slot_modCur (s : State) (f : Ctx → Ctx) : (s.modCur f).slot = s.slot := by simp [State.slot]
theorem State.cur_modCur (s : State) (f : Ctx → Ctx) (h : s.slot < 8) : (s.modCur f).cur = f s.cur := by
  simp [State.cur, h]

/-! Messages and memory -/

section
variable (s : State) (e : Event) (sp : MemSpace) (r q : TileRef) (off n : Nat) (bs : List Byte) (w : Word)

@[simp] theorem State.send_net : (s.send e).net = s.net ++ [e] := rfl
@[simp] theorem State.send_nodes : (s.send e).nodes = s.nodes := rfl
@[simp] theorem State.send_mem : (s.send e).mem = s.mem := rfl
@[simp] theorem State.node_send (m : Nat) : (s.send e).node m = s.node m := rfl
@[simp] theorem State.tile_send : (s.send e).tile r = s.tile r := rfl
@[simp] theorem State.writeBytes_mem : (s.writeBytes sp r off bs).mem = Memory.write s.mem (memKey sp r off) bs := rfl
@[simp] theorem State.writeBytes_nodes : (s.writeBytes sp r off bs).nodes = s.nodes := rfl
@[simp] theorem State.writeBytes_poison : (s.writeBytes sp r off bs).poison = s.poison := rfl
@[simp] theorem State.writeBytes_tainted : (s.writeBytes sp r off bs).tainted = s.tainted := rfl
@[simp] theorem State.writeBytes_net : (s.writeBytes sp r off bs).net = s.net := rfl
@[simp] theorem State.writeBytes_focus : (s.writeBytes sp r off bs).focus = s.focus := rfl
@[simp] theorem State.writeBytes_issue : (s.writeBytes sp r off bs).issue = s.issue := rfl
@[simp] theorem State.node_writeBytes (m : Nat) : (s.writeBytes sp r off bs).node m = s.node m := rfl
@[simp] theorem State.tile_writeBytes : (s.writeBytes sp r off bs).tile q = s.tile q := rfl
@[simp] theorem State.writeWord_nodes : (s.writeWord sp r off w).nodes = s.nodes := rfl
@[simp] theorem State.tile_writeWord : (s.writeWord sp r off w).tile q = s.tile q := rfl
@[simp] theorem State.zeroBytes_nodes : (s.zeroBytes sp r off n).nodes = s.nodes := rfl
@[simp] theorem State.tile_zeroBytes : (s.zeroBytes sp r off n).tile q = s.tile q := rfl
@[simp] theorem State.placeBytes_nodes : (s.placeBytes sp r off bs).nodes = s.nodes := rfl
@[simp] theorem State.moveBytes_nodes (a b : Nat) : (s.moveBytes a b n).nodes = s.nodes := rfl
end

end Sys2Proof.Machine
end

