-- ==== Sys2Proof/Tests/Slice0.lean ====
section
/-! SUPPORT. Tests: ill-formed terms that the checks refuse, words of the spec's encodings and worked examples that decode to what they
stand for, and single steps whose outcome the spec gives. -/

namespace Sys2Proof.Tests

set_option Elab.async false

open Sys2Proof Sys2Proof.Machine

/-- No guard (R89). -/
abbrev g0 : Guard := ⟨false, 0⟩

/-! ## Ill-formed terms -/

/-- R89: the guard N = 1, P = 0 is reserved in every slot. -/
theorem test_guard_reserved :
    (Instr.add ⟨true, 0⟩ (.reg 1) (.reg 2) (.reg 3)).wf = false ∧ (Instr.vadd ⟨true, 0⟩ .drop (.reg 0) (.reg 0) .w8 .wrap).wf = false ∧
      (Instr.mark ⟨true, 0⟩).wf = false ∧ (Instr.ego ⟨true, 0⟩).wf = false ∧ (Instr.mark ⟨true, 1⟩).wf = true := by decide

/-- R93: E registers end at e15, as sources, as destinations, and on the memory path (R96). -/
theorem test_e_registers :
    (Instr.ewr g0 (.reg 16) (.shadow .mctl)).wf = false ∧ (Instr.estat g0 (.reg 16)).wf = false ∧ (Instr.estat g0 (.reg 15)).wf = true ∧
      (Instr.ldD g0 4 .e 16 0).wf = false ∧ (Instr.shdr g0 4 .e 16 0).wf = false ∧ (Instr.lktry g0 24 .x 5 (.reg 16)).wf = false ∧
      (Instr.tfork g0 (.reg 16) 1 (.reg 0)).wf = false ∧ (Instr.cbld g0 0 (.reg 0) (.reg 16)).wf = false := by decide

/-- R96, Table 3.9: a scalar load, an atomic and a fold query have no V destination; a packet read has. -/
theorem test_memory_path :
    (Instr.ldB g0 4 .v 0 0).wf = false ∧ (Instr.atomW g0 4 .v 0 0).wf = false ∧ (Instr.fview g0 4 .v 0 0).wf = false ∧
      (Instr.srd g0 4 .v 0 0).wf = true := by decide

/-- R141: a part of `XMOV` only where a V register stands, a latch only of the A file, no E register above e15. -/
theorem test_xmov_operands :
    (Instr.xmov g0 1 (.reg 2) 1 .m .a).wf = false ∧ (Instr.xmov g0 1 (.reg 2) 15 .v .a).wf = true ∧
      (Instr.xmov g0 1 (.latch 0) 0 .a .m).wf = false ∧ (Instr.xmov g0 16 (.reg 2) 0 .e .a).wf = false ∧
      (Instr.xmov g0 1 (.reg 16) 0 .a .e).wf = false := by decide

/-- R149, R152, R153: shift counts stay below the lane width, lane numbers and distances below the lane count. -/
theorem test_lane_counts :
    (Instr.vshlImm g0 .drop (.reg 0) .w8 8).wf = false ∧ (Instr.vsarImm g0 .drop (.reg 0) .w64 63).wf = true ∧
      (Instr.vshrImm g0 .drop (.reg 0) .w16 16).wf = false ∧ (Instr.vsplatLane g0 .drop (.reg 0) 16 .w64).wf = false ∧
      (Instr.vrot g0 .drop (.reg 0) .w32 32).wf = false ∧ (Instr.vslide g0 .drop (.reg 0) .w16 true 64).wf = false ∧
      (Instr.vslide g0 .drop (.reg 0) .w8 false 127).wf = true := by decide

/-- R164, R171, R172, R177, R231: no binary64 function unit, formats of block quantisation, pack widths 1 to 8, group codes. -/
theorem test_reserved_fields :
    (Instr.vfrcp g0 .drop (.reg 0) .fp64).wf = false ∧ (Instr.vfrsq g0 .drop (.reg 0) .fp64).wf = false ∧
      (Instr.vfexp2 g0 .drop (.reg 0) .fp64).wf = false ∧ (Instr.vflog2 g0 .drop (.reg 0) .fp64).wf = false ∧
      (Instr.vqblk g0 .drop (.reg 0) 0x0D 0x0C).wf = false ∧ (Instr.vqblk g0 .drop (.reg 0) 0x02 0x02).wf = false ∧
      (Instr.vdqblk g0 .drop (.reg 0) 0x02 0x02).wf = false ∧ (Instr.vdqblk g0 .drop (.reg 0) 0x0C 0x0C).wf = false ∧
      (Instr.vpack g0 .drop (.reg 0) 0).wf = false ∧ (Instr.vunpack g0 .drop (.reg 0) 9).wf = false ∧
      (Instr.gbar g0 5 0).wf = false ∧ (Instr.gbar g0 0 5).wf = false ∧ (Instr.gbar g0 4 4).wf = true := by decide

/-- R3, R17: steps name nodes below 4,096, tiles below 256 and slots below 8; queues, bundles, lanes and banks have their ranges too. -/
theorem test_step_operands :
    (Instr.bundleIssue ⟨4096, 0⟩).wf = false ∧ (Instr.bundleIssue ⟨0, 256⟩).wf = false ∧ (Instr.landingWrite ⟨0, 0, 8⟩).wf = false ∧
      (Instr.landingWrite ⟨4095, 255, 7⟩).wf = true ∧ (Instr.pastureTick 4096).wf = false ∧ (Instr.qtailWrite 0 16384 0).wf = false ∧
      (Instr.ingressRecord 0 8192).wf = false ∧ (Instr.egressPacket 0 8192).wf = false ∧ (Instr.flitSlot 0 126).wf = false ∧
      (Instr.laneRetrained 0 1024).wf = false ∧ (Instr.bankRetirement ⟨0, 0⟩ 192).wf = false ∧ (Instr.transhumance 0 4096).wf = false ∧
      (Instr.holdMsg 0 4096 0).wf = false ∧ (Instr.uncorrectedError 0 ⟨0, 256, 0⟩ 0).wf = false ∧
      (Instr.foldReleaseMsg ⟨0, 4096, 0, 0, []⟩).wf = false ∧ (Instr.crookTryMsg ⟨0, .s, ⟨0, 0, 8⟩, 0, 0, 0, 0⟩).wf = false ∧
      (Instr.remoteLoad { (default : RemoteReq) with home := 4096 }).wf = false ∧
      (Instr.remoteResponse { (default : RemoteResp) with tile := 256 }).wf = false := by decide

/-- R362: an image names segments, tiles, queues and fold regions inside a pasture. -/
theorem test_images :
    (Instr.droveLoad 0 { (default : DroveImage) with segments := [{ (default : Segment) with kind := 16 }] }).wf = false ∧
      (Instr.droveLoad 0 { (default : DroveImage) with tiles := [{ (default : TileInit) with slots := 3 }] }).wf = false ∧
      (Instr.droveLoad 0 { (default : DroveImage) with queues := [⟨4096, 0, 0, 0, 0, false⟩] }).wf = false ∧
      (Instr.droveLoad 0 { (default : DroveImage) with fold := [(0, ⟨8, 0, 9, 1, 0, 64, 1, 1⟩)] }).wf = false := by decide

/-! ## Words -/

/-- The A slot, field by field from Table 3.7: OP, guard, D, S1, S2, FN (or the immediate). -/
theorem test_words_a :
    decodeWord .a 0b000001_0_000_000001_000010_000011_0000#32 = .ok (.add g0 (.reg 1) (.reg 2) (.reg 3)) ∧
      decodeWord .a 0b000010_1_101_000100_100001_000000_0000#32 = .ok (.clz ⟨true, 5⟩ (.reg 4) (.latch 1)) ∧
      decodeWord .a 0b000011_0_000_100000_000001_000010_0111#32 = .ok (.remu g0 .drop (.reg 1) (.reg 2)) ∧
      decodeWord .a 0b000100_0_000_000101_000110_000111_0001#32 = .ok (.insr g0 5 (.reg 6) (.reg 7)) ∧
      decodeWord .a 0b000101_0_000_000101_000001_000010_1010#32 = .ok (.sel g0 (.reg 5) (.reg 1) (.reg 2) true 2) ∧
      decodeWord .a 0b000110_0_000_010011_000001_000010_0000#32 = .ok (.cmp g0 .lt 3 (.reg 1) (.reg 2)) ∧
      decodeWord .a 0b000111_0_000_000011_000001_000010_0001#32 = .ok (.por g0 3 1 2) ∧
      decodeWord .a 0b001100_0_000_000001_000010_1111111111#32 = .ok (.xori g0 (.reg 1) (.reg 2) 0x3FF) ∧
      decodeWord .a 0b010011_0_000_000001_0100010101100111#32 = .ok (.movh2 g0 1 0x4567) ∧
      decodeWord .a 0b011000_0_000_000000_1111111111111110#32 = .ok (.br g0 0xFFFE) ∧
      decodeWord .a 0b100000_0_000_000000_000101_0000111000#32 = .ok (.mtcr g0 (.reg 5) .fflags) ∧
      decodeWord .a 0b100100_0_000_000101_000011_001111_0100#32 = .ok (.xmov g0 5 (.reg 3) 15 .v .a) := by decide

/-- Words the manual gives whole: the loop and the pointer step of Table 12.2, `TRET` (R196) and `trap 1` (Table 16.6). -/
theorem test_words_a_given :
    decodeWord .a 0x7400_1406 = .ok (.loopi g0 5 6) ∧ decodeWord .a 0x0402_088E = .ok (.addx g0 (.reg 2) (.reg 2) (.reg 8)) ∧
      decodeWord .a 0x8800_1000 = .ok (.tret g0) ∧ decodeWord .a 0x8800_0001 = .ok (.trap g0 1) := by decide

/-- The V slot, field by field from Table 3.8. -/
theorem test_words_v :
    decodeWord .v 0b000001_0_000_000001_000010_000011_0101#32 = .ok (.vadd g0 (.reg 1) (.reg 2) (.reg 3) .w16 .sat) ∧
      decodeWord .v 0b000110_0_000_000001_000010_1010000101#32 = .ok (.vsarImm g0 (.reg 1) (.reg 2) .w32 5) ∧
      decodeWord .v 0b001001_0_000_010010_000001_000010_1000#32 = .ok (.vcmp g0 .lt 2 (.reg 1) (.reg 2) .w32) ∧
      decodeWord .v 0b001010_0_000_000011_000001_000010_0100#32 = .ok (.vsel g0 (.reg 3) (.reg 1) (.reg 2) 4) ∧
      decodeWord .v 0b001011_0_000_000011_000010_1111111111#32 = .ok (.vsplatImm g0 (.reg 3) .w32 0x3FF) ∧
      decodeWord .v 0b001100_0_000_000011_000001_111111_0001#32 = .ok (.vsplatLane g0 (.reg 3) (.reg 1) 127 .w8) ∧
      decodeWord .v 0b001111_0_000_000011_000001_0110000011#32 = .ok (.vslide g0 (.reg 3) (.reg 1) .w16 true 3) ∧
      decodeWord .v 0b010011_0_000_000011_000001_000000_0100#32 = .ok (.vredsumF g0 (.reg 3) (.reg 1) .bf16) ∧
      decodeWord .v 0b010100_0_000_000011_000001_000000_1001#32 = .ok (.vscanI g0 (.reg 3) (.reg 1) .w32) ∧
      decodeWord .v 0b011001_0_000_000011_000001_000010_1110#32 = .ok (.vfnma g0 3 (.reg 1) (.reg 2) .fp64) ∧
      decodeWord .v 0b011100_0_000_011010_000001_000010_0000#32 = .ok (.vfcmp g0 .le 2 (.reg 1) (.reg 2) .fp32) ∧
      decodeWord .v 0b011101_0_000_000011_000001_000000_1010#32 = .ok (.vfexp2 g0 (.reg 3) (.reg 1) .fp16) ∧
      decodeWord .v 0b100000_0_000_000011_000001_01010_01100#32 = .ok (.vcvt g0 (.reg 3) (.reg 1) 0x0A 0x0C) ∧
      decodeWord .v 0b100011_0_000_000011_000001_000000_0110#32 = .ok (.vcbx g0 (.reg 3) (.reg 1) .w16 2) ∧
      decodeWord .v 0b100101_0_000_000011_000001_000000_0011#32 = .ok (.vpack g0 (.reg 3) (.reg 1) 3) ∧
      decodeWord .v 0b101000_0_000_000011_000001_000000_0010#32 = .ok (.knot g0 3 1) ∧
      decodeWord .v 0b101001_0_000_000000_000011_011011_0000#32 = .ok (.vdchk g0 (.reg 3) (.reg 27)) := by decide

/-- The M slot: words of Table 9.4, Table 10.5, Tables 16.1 and 16.6 and the encodings of Table 3.9. -/
theorem test_words_m :
    decodeWord .m 0xA004_0000 = .ok (.swait g0 4) ∧ decodeWord .m 0xA004_1873 = .ok (.swr g0 4 (.reg 6) (.reg 7)) ∧
      decodeWord .m 0xA004_1804 = .ok (.sclose g0 4 (.reg 6)) ∧ decodeWord .m 0xA004_1806 = .ok (.sbind g0 4 (.reg 6)) ∧
      decodeWord .m 0xA004_1877 = .ok (.stag g0 4 (.reg 6) (.reg 7)) ∧
      decodeWord .m 0xC002_1051 = .ok (.fapp g0 2 (.reg 4) (.reg 5)) ∧ decodeWord .m 0xC000_1053 = .ok (.ftrunc g0 (.reg 4) (.reg 5)) ∧
      decodeWord .m 0xB000_C8A3 = .ok (.fview g0 12 .m 5 3) ∧ decodeWord .m 0xB800_C8A3 = .ok (.fprobe g0 12 .m 5 3) ∧
      decodeWord .m 0x6000_0423 = .ok (.stv g0 1 3) ∧ decodeWord .m 0x4400_0008 = .ok (.redD g0 8) ∧
      decodeWord .m 0x8000_0000 = .ok (.mark g0) ∧ decodeWord .m 0b100001_0_000_000000_000000_000000_0010#32 = .ok (.fence g0 .p) ∧
      decodeWord .m 0b011100_0_000_000101_000000_0000001100#32 = .ok (.ldsp g0 (.reg 5) 12) ∧
      decodeWord .m 0b001101_0_000_1111111100_11_01111_00011#32 = .ok (.atomD g0 0x3FC .e 15 3) ∧
      decodeWord .m 0b010111_0_000_000000_0000_10_00101_00011#32 = .ok (.stD g0 5 3) ∧
      decodeWord .m 0b100100_0_000_0000000100_01_00101_00011#32 = .ok (.shdr g0 4 .v 5 3) := by decide

/-- The E slot: words of Tables 9.16, 11.5, 16.1, 16.3 and 16.6 and the encodings of Table 3.10. -/
theorem test_words_e :
    decodeWord .e 0x4006_0840 = .ok (.tfork g0 (.reg 6) 1 (.reg 4)) ∧ decodeWord .e 0x4000_0802 = .ok (.tcancel g0 (.reg 2)) ∧
      decodeWord .e 0x4000_0003 = .ok (.texit g0) ∧ decodeWord .e 0x5808_1050 = .ok (.lkacq g0 (.reg 8) (.reg 4) .x) ∧
      decodeWord .e 0x5808_1040 = .ok (.lkacq g0 (.reg 8) (.reg 4) .inc) ∧ decodeWord .e 0x5800_1804 = .ok (.lkmat g0 (.reg 6)) ∧
      decodeWord .e 0x5001_88A4 = .ok (.lktry g0 24 .inc 5 (.reg 4)) ∧ decodeWord .e 0x5401_80A4 = .ok (.lkqry g0 24 5 (.reg 4)) ∧
      decodeWord .e 0x0400_0400 = .ok (.ewr g0 (.reg 1) (.shadow .mctl)) ∧ decodeWord .e 0x1000_0002 = .ok (.mloadw g0) ∧
      decodeWord .e 0x1400_0000 = .ok (.cpy g0 0) ∧ decodeWord .e 0b001011_0_000_000000_000000_0000011111#32 = .ok (.bwait g0 31) ∧
      decodeWord .e 0b011000_0_000_000001_000100_000101_0010#32 = .ok (.cbld g0 1 (.reg 4) (.reg 5)) := by decide

/-- Words that R90, R93, R94, R97 and R102 make illegal. -/
theorem test_words_refused :
    (decodeWord .a 0x0000_0001).toOption = none ∧ (decodeWord .a 0b000001_0_000_000001_000010_000011_1111#32).toOption = none ∧
      (decodeWord .a 0b000001_0_000_010000_100100_000011_0000#32).toOption = none ∧
      (decodeWord .a 0b000100_0_000_100000_000110_000111_0001#32).toOption = none ∧
      (decodeWord .v 0b001001_0_000_110010_000001_000010_1000#32).toOption = none ∧
      (decodeWord .m 0b000100_0_000_0000000110_01_00101_00011#32).toOption = none ∧
      (decodeWord .e 0b010100_0_000_000001_1000_110_0_101_00100#32).toOption = none := by decide

/-! ## Single steps -/

/-- The state after reset with two A registers written and a bundle of one `ADD`. -/
def twoRegs (x y : Word) : State :=
  State.reset.modCtx ⟨0, 0, 0⟩ (fun c => { c with a := (c.a.set 1 x).set 2 y, wa := 6 })

/-- What the one result in flight of slot 0 is. -/
def effectOf (o : Out) : Option (Effect × BitVec 7) :=
  match o with
  | .next t => ((t.ctx ⟨0, 0, 0⟩).results.head?).map (fun r => (r.effect, r.flags))
  | _ => none

/-- R114: the sum wraps at 64 bits. R115: `ADDX` keeps the window code of its first operand. -/
theorem test_add_wraps :
    effectOf (exec (.add g0 (.reg 3) (.reg 1) (.reg 2)) (twoRegs (-1) 2)) = some (.word .a 3 false 1, 0) ∧
      effectOf (exec (.addx g0 (.reg 3) (.reg 1) (.reg 2)) (twoRegs 0x4FFFFFFFFFFFFFFF 1)) = some (.word .a 3 false (4 <<< 60), 0) := by
  decide +kernel

/-- R119: a division by zero gives all ones and its remainder the dividend; the one overflow wraps. -/
theorem test_division_corners :
    effectOf (exec (.div g0 (.reg 3) (.reg 1) (.reg 2)) (twoRegs 7 0)) = some (.word .a 3 false (-1), 0) ∧
      effectOf (exec (.rem g0 (.reg 3) (.reg 1) (.reg 2)) (twoRegs 7 0)) = some (.word .a 3 false 7, 0) ∧
      effectOf (exec (.div g0 (.reg 3) (.reg 1) (.reg 2)) (twoRegs (1 <<< 63) (-1))) = some (.word .a 3 false (1 <<< 63), 0) := by
  decide +kernel

/-- R118: the third step of the manual's constant, and the sign extension of its first. -/
theorem test_constant :
    effectOf (exec (.movi g0 (.reg 1) 0xCDEF) State.reset) = some (.word .a 1 false 0xFFFFFFFFFFFFCDEF, 0) ∧
      effectOf (exec (.movh2 g0 1 0x4567) (twoRegs 0xFFFFFFFF89ABCDEF 0)) = some (.word .a 1 false 0xFFFF456789ABCDEF, 0) := by
  decide +kernel

/-- R52: a read of a register that nothing has written gives zero while `POISONRD` is clear. -/
theorem test_unwritten_reads_zero :
    effectOf (exec (.mov g0 (.reg 1) (.reg 9)) State.reset) = some (.word .a 1 false 0, 0) := by decide +kernel

/-- R126: `RET` to 4,096 is the class 5 trap `BOUND` with the target as `XADDR`, and takes the handler's entry. -/
theorem test_return_past_the_end :
    (match exec (.ret g0 (.reg 1)) (twoRegs 4096 0) with
      | .next t => some ((t.ctx ⟨0, 0, 0⟩).xcause, (t.ctx ⟨0, 0, 0⟩).xaddr, (t.ctx ⟨0, 0, 0⟩).tf)
      | _ => none) = some (0x512, 4096, true) := by decide +kernel

/-- R133: `MTCR` of a supervisor's register at task level is `PRIV` with the register's number. -/
theorem test_privilege :
    (match exec (.mtcr g0 (.reg 1) .xctl) State.reset with
      | .next t => some ((t.ctx ⟨0, 0, 0⟩).xcause % 256, (t.ctx ⟨0, 0, 0⟩).xaddr)
      | _ => none) = some (0x02, 0x66) := by decide +kernel

/-- R45, R48: a step of the machine runs the bundle at the pc: after `MOVI` the pc has moved on and the result is in flight. -/
theorem test_step_runs :
    (match step (State.reset.withFetchWord 32 0x4401_0005) with
      | .next t => some ((t.ctx ⟨0, 0, 0⟩).pc, effectOf (.next t))
      | _ => none) = some (1, some (.word .a 1 false 5, 0)) := by decide +kernel

/-- R187, R415: an interrupt that its source has raised becomes pending on its line. -/
theorem test_interrupt_line :
    (match exec (.interruptPending ⟨3, 7⟩ 2) (State.reset.raiseLine ⟨3, 7⟩ 2) with
      | .next t => some (t.tile ⟨3, 7⟩).irq
      | _ => none) = some 4 := by decide +kernel

end Sys2Proof.Tests
end

