-- ==== Sys2Proof/Tests/Witnesses.lean ====
section
/-! SUPPORT. Witnesses: for every statement of `Obligations.lean` that has hypotheses, a state and operands that meet them, each clause
at values where it begins or ends. -/

namespace Sys2Proof.Tests

set_option Elab.async false

open Sys2Proof Sys2Proof.Machine

/-! ## States -/

/-- No guard (R89), and the guard that asks for p1 clear. -/
abbrev always : Guard := ⟨false, 0⟩
abbrev unless1 : Guard := ⟨true, 1⟩

abbrev t0 : TileRef := ⟨0, 0⟩
abbrev c0 : CtxRef := ⟨0, 0, 0⟩

/-- A stage on tile 0 of node 0, whose slot 0 runs at a level, with window 0 over the tile's own SRAM below the save region. -/
def placed (slots lvl : Nat) : State :=
  let s := State.reset.modTile t0 (fun t => { t with slots := slots, width := 1, height := 1, running := some 0, wall := 100, core := 90 })
  let s := s.modTile t0 (fun t => { t with windows := t.windows.set 0 #v[0xC000000000000000, 0, 0xAEFFFF, 0] })
  s.modCtx c0 (fun c => { c with st := .running, xstat := BitVec.ofNat 64 lvl, xvec := 0x0000000010000200, pc := 5 })

/-- A task alone on its tile, and a stage supervisor. -/
def task : State := placed 1 0
def chief : State := placed 1 1

/-- A change of the running context, of its tile, of its node. -/
abbrev Ctx0 (s : State) (f : Ctx → Ctx) : State := s.modCtx c0 f
abbrev Tile0 (s : State) (f : Tile → Tile) : State := s.modTile t0 f
abbrev Node0 (s : State) (f : Node → Node) : State := s.modNode 0 f

/-- The task with one register of each file written. -/
def withA (s : State) (n : Nat) (v : Word) : State := Ctx0 s (fun c => c.writeWord .a n false false v)
def withM (s : State) (n : Nat) (v : Word) : State := Ctx0 s (fun c => c.writeWord .m n false false v)
def withE (s : State) (n : Nat) (v : Word) : State := Ctx0 s (fun c => c.writeWord .e n false false v)
def withV (s : State) (n : Nat) (v : VReg) : State := Ctx0 s (fun c => c.writeVec n false false v (-1))

/-- The state with `POISONRD` set (Table 6.10). -/
def poisonRd (s : State) : State := Ctx0 s (fun c => { c with xctl := c.xctl ||| 1 })

/-! ## The A slot -/

/-- A task whose a1 and a2 are 40 and 24, with a stack of 16 to 64: the sum in a31 is the stack's upper end. -/
def summing : State := withA (withA (poisonRd (Ctx0 task (fun c => { c with sbase := 64, slim := 16 }))) 1 40) 2 24

theorem witness_ScalarTwoSource :
    Runs summing always (summing.cur.unsetA (.reg 1) || summing.cur.unsetA (.reg 2))
        (StackOk summing (.reg 31) (BitVec.ofNat 64 ((summing.cur.srcA (.reg 1)).toNat + (summing.cur.srcA (.reg 2)).toNat))) ∧
      Runs summing always (summing.cur.unsetA (.reg 1) || summing.cur.unsetA (.reg 2))
        (StackOk summing (.reg 31) (BitVec.ofInt 64 (((summing.cur.srcA (.reg 1)).toNat : Int) - (summing.cur.srcA (.reg 2)).toNat))) ∧
      Runs summing always (summing.cur.unsetA (.reg 1) || summing.cur.unsetA (.reg 2)) True := by
  unfold Runs StackOk; decide +kernel

theorem witness_ScalarOneSourceAndFields :
    Runs summing always (summing.cur.unsetA (.reg 1)) (StackOk summing (.reg 31) (summing.cur.srcA (.reg 1))) ∧
      Runs summing always (summing.cur.unsetA (.reg 2)) (StackOk summing (.reg 31) (summing.cur.srcA (.reg 2) + (0x028 : BitVec 10).signExtend 64)) ∧
      Runs summing always (summing.cur.unsetP 0 || summing.cur.unsetA (.reg 1) || summing.cur.unsetA (.reg 2))
        (StackOk summing (.reg 31) (if summing.cur.pred 0 = !true then summing.cur.srcA (.reg 1) else summing.cur.srcA (.reg 2))) := by
  unfold Runs StackOk; decide +kernel

theorem witness_PredicateWrites :
    Runs summing always (summing.cur.unsetA (.reg 1) || summing.cur.unsetA (.reg 2)) True ∧
      Runs task unless1 (task.cur.unsetP 3 || task.cur.unsetP 4) True ∧ Runs summing always (summing.cur.unsetP 0) True := by
  unfold Runs; decide +kernel

/-- A task at bundle 4,094: a branch of 1 ends at the last bundle, one of 2 past it. -/
def atEnd : State := withA (withA (Ctx0 task (fun c => { c with pc := 4094 })) 1 65535) 2 4095

theorem witness_TransfersCallsAndLoops :
    Runs atEnd always false (((atEnd.cur.pc.setWidth 64 : Word) + (1 : BitVec 16).signExtend 64).toNat ≤ 4095) ∧
      (atEnd.issue.mode = .direct ∧ atEnd.cur.guard always = true ∧ atEnd.cur.poisonRd = false ∧
        4095 < ((atEnd.cur.pc.setWidth 64 : Word) + (2 : BitVec 16).signExtend 64).toNat) ∧
      Runs atEnd always (atEnd.cur.unsetA (.reg 2)) ((atEnd.cur.srcA (.reg 2)).toNat ≤ 4095) ∧ 4095 < (atEnd.cur.srcA (.reg 1)).toNat ∧
      Runs atEnd always (atEnd.cur.unsetA (.reg 2))
        ((atEnd.cur.srcA (.reg 2)).toNat ≤ 4095 ∧ StackOk atEnd (.reg 31) ((atEnd.cur.pc.setWidth 64 : Word) + 1)) ∧
      (Runs atEnd always false (atEnd.cur.pc.toNat + 1 + (0 : BitVec 12).toNat ≤ 4095) ∧ ((0 : BitVec 10).toNat : Int) ≤ 0) ∧
      (Runs atEnd always (atEnd.cur.unsetA (.reg 1))
          (atEnd.cur.pc.toNat + 1 + (0 : BitVec 12).toNat ≤ 4095 ∧ (atEnd.cur.srcA (.reg 1)).toInt ≤ 65535) ∧
        0 < (atEnd.cur.srcA (.reg 1)).toInt ∧ (atEnd.cur.loopReg 0).getLsbD 63 = false) := by
  unfold Runs StackOk; decide +kernel

theorem witness_ControlRegisterMoves :
    Runs chief always (chief.cur.unsetA (.reg 1)) ((∀ n, CReg.tshape 15 = .tshape n → n.toNat < chief.here.tregShare) ∧
        cregWriteLevel (.tshape 15) ≤ chief.cur.level) ∧
      Runs chief always (chief.cur.unsetA (.reg 1)) ((∀ n, CReg.xctl = .tshape n → n.toNat < chief.here.tregShare) ∧
        cregWriteLevel .xctl ≤ chief.cur.level) ∧
      Runs chief always false ((∀ n, CReg.xpc = .tshape n → n.toNat < chief.here.tregShare) ∧ cregReadLevel .xpc ≤ chief.cur.level) ∧
      (task.issue.mode = .direct ∧ task.cur.guard always = true ∧
        (task.cur.poisonRd = true → task.cur.unsetP always.p = false ∧ task.cur.unsetA (.reg 1) = false) ∧
        (∀ n, CReg.xpc = .tshape n → n.toNat < task.here.tregShare) ∧ task.cur.level < cregWriteLevel .xpc ∧
        task.cur.level < cregReadLevel .xpc) := by
  unfold Runs; simp only [reduceCtorEq, false_implies, implies_true, true_and, and_true, CReg.tshape.injEq]; decide +kernel

theorem witness_SystemOperations :
    Runs task always false True ∧
      (Runs task always (task.cur.unsetA (.reg 1) || task.cur.unsetA (.reg 2)) (task.cur.srcA (.reg 1) ^^^ task.cur.srcA (.reg 2) = 0) ∧
        task.cur.srcA (.reg 1) = task.cur.srcA (.reg 2)) ∧
      (atEnd.issue.mode = .direct ∧ atEnd.cur.guard always = true ∧ atEnd.cur.poisonRd = false ∧
        atEnd.cur.srcA (.reg 1) ^^^ atEnd.cur.srcA (.reg 2) ≠ 0) ∧
      Runs task always (xmovUnset task.cur (.reg 3) .v) True := by
  unfold Runs; decide +kernel

/-- A stage supervisor whose frame holds a deferred trap. -/
def deferring : State := Ctx0 (chief.writeWord .spill t0 (chief.here.frameOff 0 0) (1 <<< 52)) (fun c => { c with xstat := 0x81 })

theorem witness_TrapReturn :
    (Runs chief always false (chief.cur.level ≠ 0) ∧ chief.me.slot < 8 ∧ (chief.frameWord chief.me 0).getLsbD 52 = false) ∧
      (Runs deferring always false (deferring.cur.level ≠ 0) ∧ (deferring.frameWord deferring.me 0).getLsbD 52 = true) ∧
      (task.issue.mode = .direct ∧ task.cur.guard always = true ∧ task.cur.poisonRd = false ∧ task.cur.level = 0) := by
  unfold Runs; decide +kernel

/-! ## The V slot -/

/-- A task with two vectors and k1 active for its lowest 4 bytes, under a header that names mask k1 and a bank for the first source. -/
def vectors : State :=
  let s := withV (withV task 1 (0x0304FFFF)) 2 (BitVec.allOnes 1024)
  Ctx0 s (fun c => c.writeMask 1 0xF (-1))

theorem witness_VectorIntegerLanes :
    VRuns2 (poisonRd vectors) always (.reg 1) (.reg 2) LaneW.w8.bits 0 ∧ VRuns2 vectors always (.reg 1) (.reg 9) LaneW.w64.bits 0 ∧
      VRuns2 vectors always (.reg 1) (.reg 2) 8 0 ∧ VRuns1 vectors always (.reg 1) LaneW.w16.bits 0 := by
  unfold VRuns2 VRuns1 VRuns Runs; decide +kernel

theorem witness_VectorComparesAndSelect :
    VRuns2 vectors always (.reg 1) (.reg 2) LaneW.w32.bits 0 ∧
      VRuns2 vectors always (.reg 1) (.reg 2) (floatBits .fp16) (laneNaN .fp16) ∧
      VRuns vectors always (vectors.cur.unsetK 1 || vectors.cur.unsetV (.reg 1) || vectors.cur.unsetV (.reg 2))
        ((vectors.vread 1 (.reg 1) 8 0 (vectors.active 8)).2.2.or (vectors.vread 2 (.reg 2) 8 0 (vectors.active 8)).2.2) True := by
  unfold VRuns2 VRuns Runs; decide +kernel

theorem witness_VectorLaneMovement :
    VRuns vectors always false none True ∧ VRuns1 vectors always (.reg 1) LaneW.w8.bits 0 ∧
      VRuns2 vectors always (.reg 1) (.reg 2) LaneW.w64.bits 0 ∧
      VRuns vectors always (vectors.cur.unsetV (.reg 1)) (vectors.vread 1 (.reg 1) LaneW.w8.bits 0
        (fun i => decide (i < ((List.range 128).filter (vectors.active 8)).length))).2.2 True := by
  unfold VRuns2 VRuns1 VRuns Runs; decide +kernel

theorem witness_VectorReductions :
    VRuns1 vectors always (.reg 1) LaneW.w32.bits 0 ∧ VRuns1 vectors always (.reg 2) (floatBits .fp64) (laneNaN .fp64) := by
  unfold VRuns1 VRuns Runs; decide +kernel

theorem witness_VectorFloatLanes :
    VRuns2 vectors always (.reg 1) (.reg 2) (floatBits .fp32) (laneNaN .fp32) ∧
      VRuns1 vectors always (.reg 1) (floatBits .bf16) (laneNaN .bf16) ∧
      VRuns vectors always (vectors.cur.unsetV (.reg 1) || vectors.cur.unsetV (.reg 2) || vectors.cur.unsetV (.reg 3))
        ((vectors.vread 1 (.reg 1) 32 (laneNaN .fp32) (vectors.active 32)).2.2.or
          (vectors.vread 2 (.reg 2) 32 (laneNaN .fp32) (vectors.active 32)).2.2) True := by
  unfold VRuns2 VRuns1 VRuns Runs; decide +kernel

/-- Positions of pair 0 at the last the unit reaches and one past it. -/
def turning (p : Nat) : State := withV (withV task 1 0x3F800000) 2 (BitVec.ofNat 1024 p)

theorem witness_VectorFunctionUnits :
    VRuns1 vectors always (.reg 1) (floatBits .fp32) (laneNaN .fp32) ∧
      (let s := turning (2 ^ 24 - 1)
       let act := fun (i : Nat) => s.active 32 (2 * (i / 2))
       VRuns s always (s.cur.unsetV (.reg 1) || s.cur.unsetV (.reg 2))
         ((s.vread 1 (.reg 1) 32 (laneNaN .fp32) act).2.2.or (s.vread 2 (.reg 2) 32 0 act).2.2)
         (∀ j, j < 16 → s.active 32 (2 * j) = true → lane 32 (s.vread 2 (.reg 2) 32 0 act).1 (2 * j) < 2 ^ 24)) ∧
      (let s := turning (2 ^ 24)
       let act := fun (i : Nat) => s.active 32 (2 * (i / 2))
       s.issue.mode = .direct ∧ s.cur.guard always = true ∧ s.cur.poisonRd = false ∧
         (s.vread 1 (.reg 1) 32 (laneNaN .fp32) act).2.2.or (s.vread 2 (.reg 2) 32 0 act).2.2 = none ∧ s.active 32 0 = true ∧
         2 ^ 24 ≤ lane 32 (s.vread 2 (.reg 2) 32 0 act).1 0) := by
  unfold VRuns1 VRuns Runs; decide +kernel

/-- A task whose bank 0 holds one value of 4-bit codes, and one whose two vectors differ in their highest 64 bits only. -/
def booked : State := Tile0 vectors (fun t => { t with cbctl := t.cbctl.set 0 0x201, cbEntry := [(3, 0x3F800000)], cbValid := [3] })
def differing : State := withV task 1 (1 <<< 1023)

theorem witness_VectorConversions :
    (vectors.fmtOf 0x02 = some (.int true 8) ∧ vectors.fmtOf 0x0C = some (.flt specFp32 32) ∧
        VRuns vectors always (vectors.cur.unsetV (.reg 1)) (vectors.vread 1 (.reg 1) 32 (ElemFmt.flt specFp32 32).nan
          (fun j => (vectors.cur.mask vectors.xvMask.toNat).getLsbD (j * 32 / 8))).2.2 True) ∧
      (vectors.blockFmt 0x02 = some (.int true 8) ∧
        VRuns vectors always (vectors.cur.unsetV (.reg 1))
          (vectors.vread 1 (.reg 1) 32 (ElemFmt.flt specFp32 32).nan (fun _ => true)).2.2 True) ∧
      VRuns vectors always (vectors.cur.unsetV (.reg 1)) (vectors.vread 1 (.reg 1) 8 (ElemFmt.int true 8).nan (fun _ => true)).2.2 True ∧
      (task.issue.mode = .direct ∧ task.cur.guard always = true ∧ task.cur.poisonRd = false ∧ task.fmtOf 0x1F = none ∧
        task.blockFmt 0x1F = none) ∧
      (∀ t tb, ElemFmt.int true 8 ≠ .flt t tb) := by
  unfold VRuns Runs; simp only [ne_eq, reduceCtorEq, not_false_eq_true, implies_true, and_true]; decide +kernel

theorem witness_VectorCodebooksMasksAndChecks :
    (let s := booked
     let ctl := (s.here.cbctl[0]?).getD 0
     VRuns s always (s.cur.unsetV (.reg 1)) (cbExpand ctl 0 LaneW.w8.bits 0 (s.here.banks s.slot) (s.cur.srcV (.reg 1))
        (s.active LaneW.w8.bits)).2.2 True ∧ VRuns1 s always (.reg 1) 8 0) ∧
      (let s := booked
       let ctl := (s.here.cbctl[0]?).getD 0
       cbWidth ctl = some 4 ∧ cbPol ctl ≠ 3 ∧ cbElems ctl = 1 ∧ (∃ c ∈ s.cbCands .fp32 0, c.2.isNaN = false) ∧
         VRuns s always (s.cur.unsetV (.reg 1)) none True) ∧
      Runs task always false True ∧ Runs vectors always (vectors.cur.unsetK 1 || vectors.cur.unsetK 0) True ∧
      (Runs task always (task.cur.unsetV (.reg 1) || task.cur.unsetV (.reg 2)) (task.cur.srcV (.reg 1) = task.cur.srcV (.reg 2)) ∧
        task.cur.srcV (.reg 1) = task.cur.srcV (.reg 2)) ∧
      (differing.issue.mode = .direct ∧ differing.cur.guard always = true ∧ differing.cur.poisonRd = false ∧
        (differing.cur.srcV (.reg 1)).extractLsb' (64 * 15) 64 ≠ (differing.cur.srcV (.reg 2)).extractLsb' (64 * 15) 64 ∧
        ∀ j, j < 15 → (differing.cur.srcV (.reg 1)).extractLsb' (64 * j) 64 = (differing.cur.srcV (.reg 2)).extractLsb' (64 * j) 64) := by
  unfold VRuns1 VRuns Runs; and_intros <;> decide +kernel

theorem witness_VectorResultLanes : (List.replicate 128 (none : Option Nat)).length = 1024 / LaneW.w8.bits ∧
    ([some 5] ++ List.replicate 15 none).length = 1024 / LaneW.w64.bits := by decide +kernel

/-! ## The M slot -/

/-- A task whose m3 points at a place, and one with the unit there poisoned. -/
def pointing (p : Word) : State := withM task 3 p
def spoiled (p : Word) (off : Nat) : State := { pointing p with poison := [memKey .spill t0 off] }

theorem witness_LoadsTakeALanding :
    (let s := pointing 0xAEFFF8
     Runs s always (unsetM s 3) (AccessOk s [accessAddr s 3 8] 8 8 false ∧ LandingFree s) ∧ FreshId s ∧
       s.segBad s.me [accessAddr s 3 8] 8 = none ∧ winOf (accessAddr s 3 8) ≠ 1) ∧
      (let s := pointing 0x1000000000007FF8
       Runs s always (unsetM s 3) (AccessOk s [accessAddr s 3 8] 8 8 false ∧ LandingFree s) ∧ FreshId s ∧
         s.segBad s.me [accessAddr s 3 8] 8 = none ∧ winOf (accessAddr s 3 8) = 1) ∧
      (let s := spoiled 0x1000000000007FF8 0x7FF8
       Runs s always (unsetM s 3) (AccessOk s [accessAddr s 3 8] 8 8 false ∧ LandingFree s) ∧ FreshId s ∧ s.slot < 8 ∧
         s.segBad s.me [accessAddr s 3 8] 8 = some 0x1000000000007FF8) ∧
      (let s := pointing 0xAEFF80
       Runs s always (unsetM s 3) (AccessOk s [accessAddr s 3 128] 128 32 false ∧ LandingFree s) ∧
         Runs s always (unsetM s 3 || unsetM s (s.issue.xm.toNat % 32)) (AccessOk s (stridedAddrs s 3) 32 32 false ∧ LandingFree s) ∧
         Runs s always (unsetM s 3 || unsetM s (s.issue.xm.toNat % 32)) (AccessOk s (gatheredAddrs s 3) 32 32 false ∧ LandingFree s)) := by
  unfold Runs AccessOk LandingFree FreshId; dsimp only; and_intros <;> decide +kernel

theorem witness_AccessFaultsTrap :
    (let s := pointing 0xAF0000
     s.issue.mode = .direct ∧ s.cur.guard always = true ∧ s.cur.poisonRd = false ∧
       segFault s s.me s.cur.level [accessAddr s 3 1] 1 1 false = some (.window, 0xAF0000) ∧
       segFault s s.me s.cur.level [accessAddr s 3 8] 8 8 true = some (.window, 0xAF0000)) ∧
      (let s := pointing 0xAEFFF9
       winOf (accessAddr s 3 2) ≤ 3 ∧ (accessAddr s 3 2) &&& winZero (winOf (accessAddr s 3 2)) = 0 ∧ (accessAddr s 3 2).toNat % 2 ≠ 0) ∧
      (let s := pointing 0x1000000000007FFC
       winOf (accessAddr s 3 8) ≤ 3 ∧ (accessAddr s 3 8) &&& winZero (winOf (accessAddr s 3 8)) = 0 ∧ (accessAddr s 3 8).toNat % 8 ≠ 0) := by
  dsimp only; and_intros <;> decide +kernel

theorem witness_StoresEnterTheQueue :
    (let s := pointing 0xAEFFF8
     Runs s always (unsetM s 3 || unsetM s 4) (AccessOk s [accessAddr s 3 8] 8 8 true) ∧ s.poison = [] ∧ s.tainted = [] ∧
       ([accessAddr s 3 8].zipIdx.filter (fun p => winOf p.1 != 1)) ≠ []) ∧
      (let s := pointing 0x1000000000007FF8
       Runs s always (unsetM s 3 || unsetM s 4) (AccessOk s [accessAddr s 3 8] 8 8 true) ∧ s.poison = [] ∧ s.tainted = [] ∧
         ([accessAddr s 3 8].zipIdx.filter (fun p => winOf p.1 != 1)) = []) ∧
      (let s := pointing 0xAEFF80
       Runs s always (unsetM s 3 || !s.cur.wv.getLsbD 1) (AccessOk s [accessAddr s 3 128] 128 32 true) ∧
         Runs s always (unsetM s 3 || unsetM s (s.issue.xm.toNat % 32) || !s.cur.wv.getLsbD 1) (AccessOk s (stridedAddrs s 3) 32 32 true) ∧
         Runs s always (unsetM s 3 || unsetM s (s.issue.xm.toNat % 32) || !s.cur.wv.getLsbD 1)
           (AccessOk s (gatheredAddrs s 3) 32 32 true)) := by
  unfold Runs AccessOk; dsimp only; and_intros <;> decide +kernel

/-- A bundle whose `XM` is a number, and a supervisor under a live frame. -/
def headed (s : State) (xm : Byte) : State := { s with issue := { s.issue with xm := xm } }
def handling : State := Ctx0 chief (fun c => { c with xstat := 0x81 })

theorem witness_SpillDwords :
    (let s := headed task 3
     3 * 1024 + (1023 : BitVec 10).toNat < s.here.spillShare / 8 ∧ Runs s always (s.cur.unsetM (.reg 1)) (4095 < s.here.spillShare / 8) ∧
       s.spillBad s.focus (8 * 4095) 8 = none) ∧
      (let s := headed (spoiled 0 (8 * 4095)) 3
       Runs s always false (4095 < s.here.spillShare / 8) ∧ s.spillBad s.focus (8 * 4095) 8 ≠ none) ∧
      (let s := headed handling 4
       s.issue.xm.toNat * 1024 + (0 : BitVec 10).toNat = 0x1000 ∧ s.here.spillShare / 8 ≤ 0x1000 ∧
         Runs s always (s.cur.unsetM (.reg 1)) (0x1000 ≤ 0x1000 ∧ 0x1000 ≤ 0x17FF ∧ s.cur.level ≠ 0 ∧ s.cur.tf = true)) ∧
      (let s := headed handling 5
       s.issue.xm.toNat * 1024 + (1023 : BitVec 10).toNat = 0x17FF ∧ s.here.spillShare / 8 ≤ 0x17FF ∧
         Runs s always false (0x1000 ≤ 0x17FF ∧ 0x17FF ≤ 0x17FF ∧ s.cur.level ≠ 0 ∧ s.cur.tf = true)) ∧
      (let s := headed task 4
       s.issue.mode = .direct ∧ s.cur.guard always = true ∧ s.cur.poisonRd = false ∧ s.here.spillShare / 8 ≤ 0x1000 ∧
         ¬(0x1000 ≤ 0x1000 ∧ 0x1000 ≤ 0x17FF ∧ s.cur.level ≠ 0 ∧ s.cur.tf = true)) ∧
      (let s := headed handling 6
       s.issue.mode = .direct ∧ s.cur.guard always = true ∧ s.cur.poisonRd = false ∧ s.here.spillShare / 8 ≤ 0x1800 ∧
         ¬(0x1000 ≤ 0x1800 ∧ 0x1800 ≤ 0x17FF ∧ s.cur.level ≠ 0 ∧ s.cur.tf = true)) := by
  unfold Runs; dsimp only; and_intros <;> decide +kernel

theorem witness_AtomicsAndOrderings :
    (let s := pointing 0xAEFFF8
     Runs s always (unsetM s 3 || unsetM s 1)
        (memFault s s.me s.cur.level (s.cur.regM 3) 8 8 true (fun w => w == 1 || w == 4 || w == 5) = none ∧ LandingFree s) ∧
      Runs s always (unsetM s 3 || unsetM s 1)
        (memFault s s.me s.cur.level (s.cur.regM 3) 4 4 true (fun w => w == 1 || w == 4 || w == 5) = none)) ∧
      Runs task always false True := by
  unfold Runs LandingFree; dsimp only; and_intros <;> decide +kernel

/-! ## Streams and the fold -/

/-- A task with a current packet on input stream 4, whose packet pointer is in m3, and output stream 4 bound, with one credit. -/
def streaming (p : Word) : State :=
  let s := Tile0 (pointing p) (fun t => t.modIn 4 (fun x => { x with d0 := 0x8000000840000100, bufs := [{ (default : Buf) with st := .current }] }))
  let s := Tile0 s (fun t => t.modOut 4 (fun x => { x with d0 := 0x0010000000280000, free := 1 }))
  Ctx0 s (fun c => { c with cur := [(4, 0)] })

theorem witness_PacketReadsAndWaits :
    (let s := streaming 0x5004000000000008
     Runs s always (unsetM s 3) (pktFault s.cur true .m (s.cur.regM 3) = none ∧ LandingFree s) ∧ FreshId s ∧
       s.pktPoison s.me true .m (s.cur.regM 3) = none) ∧
      (let s := streaming 0x5004000000000F80
       Runs s always (unsetM s 3) (pktFault s.cur false .v (s.cur.regM 3) = none ∧ LandingFree s) ∧ FreshId s ∧
         s.pktPoison s.me false .v (s.cur.regM 3) = none) ∧
      (let s := streaming 0
       let mode := inMode (s.here.inS 4).d0
       Runs s always false (mode ≠ 3 ∧ mode ≠ 2) ∧ Runs s always false (mode ≠ 3)) ∧
      (task.issue.mode = .direct ∧ task.cur.guard always = true ∧ task.cur.poisonRd = false ∧ inMode (task.here.inS 31).d0 = 3) := by
  unfold Runs LandingFree FreshId; dsimp only; and_intros <;> decide +kernel

/-- The same with a packet open in staging buffer 0, and operands of `SWR` and `SCLOSE` in m6 and m7: 128 bytes at 8,064, and a packet
of 4,096 bytes. -/
def building : State :=
  let s := Tile0 (streaming 0) (fun t => t.modOut 4 (fun x => { x with opened := [(0, false)] }))
  withM (withM (withM (Ctx0 s (fun c => { c with opn := [(4, 0)] })) 6 0x100) 7 0x0F800080) 8 0x1000

theorem witness_PacketsAreBuilt :
    (let s := streaming 0
     Runs s always false (outCap (s.here.outS 4).d0 ≠ 0 ∧ s.cur.openBuf 4 = none) ∧ (s.here.outS 4).blocked = false) ∧
      (let s := Tile0 (streaming 0) (fun t => t.modOut 4 (fun x => { x with free := 0 }))
       let s := { s with issue := { s.issue with mode := .probe } }
       s.issue.mode = .probe ∧ s.cur.guard always = true ∧ s.cur.poisonRd = false ∧ outCap (s.here.outS 4).d0 ≠ 0 ∧
         s.cur.openBuf 4 = none ∧ (s.here.outS 4).blocked = true) ∧
      (let s := building
       let out := s.here.outS 4
       let bound := outCap out.d0 ≠ 0
       let vb := s.cur.srcM (.reg 7)
       s.cur.openBuf 4 = some 0 ∧ Runs s always (s.cur.unsetM (.reg 6) || s.cur.unsetM (.reg 7)) (bound ∧ hdrEnc vb ≠ 3) ∧
         Runs s always (s.cur.unsetM (.reg 6) || s.cur.unsetM (.reg 7)) (bound ∧ vb.toNat % 8192 ≠ 0 ∧
           vb.toNat / 65536 % 8192 + vb.toNat % 8192 ≤ outBsize out.d0 ∧
           accessFault s s.me s.cur.level (s.cur.srcM (.reg 6)) (vb.toNat % 8192) 1 false (fun w => w != 0) = none) ∧
         Runs s always (s.cur.unsetM (.reg 8)) (bound ∧ (s.cur.srcM (.reg 8)).toNat % 8192 ≤ outBsize out.d0 ∧
           ((hdrEnc (s.readWord .port s.focus (out.place 0 + 8)) = 1 ∨ hdrEnc (s.readWord .port s.focus (out.place 0 + 8)) = 2) →
             (s.cur.srcM (.reg 8)).toNat % 8192 % 4 = 0)) ∧
         Runs s always false bound) ∧
      (let s := Ctx0 (streaming 0) (fun c => { c with xstat := 1 })
       Runs s always (s.cur.unsetM (.reg 6)) (s.cur.level ≠ 0 ∧ inMode (s.here.inS 4).d0 ≠ 3)) := by
  unfold Runs; dsimp only; and_intros <;> decide +kernel

/-- A task with view 0 open for writing and 16 positions readable, and a pointer to the last of them in m3. -/
def viewing : State :=
  let s := Node0 (pointing 0x400002000000F000) (fun x => { x with fold := some ⟨0, 0, 1, 1, 8, 64, 2, 2⟩ })
  Tile0 s (fun t => { t with views := t.views.set 0 ⟨true, 1, 5, 0, 0, true, 0, 16, 0, false⟩ })

theorem witness_FoldOperationsIssue :
    (let s := viewing
     Runs s always (unsetM s 4 || unsetM s 0) (fviewFault (s.node s.focus.node) (s.cur.regM 4) (s.cur.regM 0) = none ∧ LandingFree s) ∧
       Runs s always (unsetM s 4 || unsetM s 0) (fseqFault (s.cur.regM 4) (s.cur.regM 0) = none ∧ LandingFree s) ∧
       Runs s always (unsetM s 3 || unsetM s 0) (fprobeFault s (s.cur.regM 3) (s.cur.regM 0) = none ∧ LandingFree s) ∧ FreshId s) ∧
      (let s := viewing
       let va := s.cur.srcM (.reg 3)
       let vc := s.cur.srcM (.reg 4)
       let uac := s.cur.unsetM (.reg 3) || s.cur.unsetM (.reg 4)
       let shape := s.cur.shape 15
       let fits := fun (fn : Nat) => (15 : BitVec 4).toNat < s.here.tregShare ∧ shapeBad shape = false ∧
         viewFault s va (fn == 1) = none ∧ rowsFault s.here va (shapeRows shape) (fn == 1) = none ∧ ctlFault fn vc = none ∧
         ptrByte va + shapeBytes shape ≤ (s.node s.focus.node).vecbytes
       Runs s always uac (fits 0) ∧ Runs s always uac (fits 1) ∧ Runs s always uac (keyFault 2 vc = none ∧ ctlFault 2 vc = none) ∧
         Runs s always uac (keyFault 3 vc = none ∧ ctlFault 3 vc = none) ∧ Runs s always uac (keyFault 4 vc = none ∧ ctlFault 4 vc = none) ∧
         Runs s always uac ((s.cur.level ≠ 0 ∨ (ctlOp vc ≠ 1 ∧ ctlOp vc ≠ 2)) ∧ viewFault s va false = none ∧ ctlFault 5 vc = none)) := by
  unfold Runs LandingFree FreshId; dsimp only; and_intros <;> decide +kernel

/-! ## The E slot -/

theorem witness_EngineRegisters : Runs (poisonRd (withE task 1 7)) always ((poisonRd (withE task 1 7)).cur.unsetE (.reg 1)) True ∧
    Runs task always false True := by
  unfold Runs; decide +kernel

/-- A task whose e0 to e3 describe a copy of one row of 32 bytes to the end of its SRAM. -/
def copying : State := withE (withE (withE (withE task 0 0x100) 1 0xAEFFE0) 2 0) 3 0x20

theorem witness_CopiesAndBarriers :
    (let s := copying
     let desc : CopyDesc := ⟨s.cur.regE 0, s.cur.regE 1, s.cur.regE 2, s.cur.regE 3, 0, s.cur.level⟩
     Runs s always ((List.range 4).any (fun i => !s.cur.we.getLsbD (0 + i))) (copyFault s s.me desc = none)) ∧
      Runs task always false True ∧ Runs task always (task.cur.unsetE (.reg 1)) True ∧
      Runs task always false (2 ^ (0 : BitVec 3).toNat ≤ max 1 task.here.width ∧ 2 ^ (0 : BitVec 3).toNat ≤ max 1 task.here.height) ∧
      (task.issue.mode = .direct ∧ task.cur.guard always = true ∧ task.cur.poisonRd = false ∧
        ¬(2 ^ (1 : BitVec 3).toNat ≤ max 1 task.here.width ∧ 2 ^ (0 : BitVec 3).toNat ≤ max 1 task.here.height)) := by
  unfold Runs; dsimp only; and_intros <;> decide +kernel

/-- A task whose deque holds a number of descriptors. -/
def holding (n : Nat) : State := Tile0 task (fun t => { t with deque := List.replicate n ⟨0, 0, 0, 0, 0, 0, 0, 0⟩ })

theorem witness_TaskOperations :
    Runs task always (!task.cur.we.getLsbD 0 || !task.cur.we.getLsbD 1 || task.cur.unsetE (.reg 2)) True ∧
      ((holding 64).here.needFits (forkEntry ((holding 64).cur.srcE (.reg 2))) = true ∧ 64 ≤ (holding 64).here.deque.length) ∧
      ((holding 63).here.needFits (forkEntry ((holding 63).cur.srcE (.reg 2))) = true ∧ (holding 63).here.deque.length < 64 ∧
        ((holding 63).cur.srcE (.reg 2)).getLsbD 17 = false ∧ ((holding 63).cur.srcE (.reg 2)).getLsbD 16 = false) ∧
      Runs task always (task.cur.unsetE (.reg 1)) (task.cur.level ≠ 0 ∨
        ((task.cur.srcE (.reg 1)).setWidth 32).toNat / 2 ^ 20 = task.focus.node ∧
          task.here.inStage (((task.cur.srcE (.reg 1)).setWidth 32).toNat / 2 ^ 12 % 256) = true) := by
  unfold Runs; decide +kernel

/-- A task with a lock name in e4, and one that holds it. -/
abbrev lock1 : Word := 0x1FFFFFFFF
def naming : State := withE task 4 lock1
def owning (m : LockMode) (pending : Bool) : State := Ctx0 naming (fun c => { c with locks := [⟨lock1, m, pending⟩] })

theorem witness_LockOperations :
    (let s := naming
     let w := s.cur.srcE (.reg 4)
     Runs s always (s.cur.unsetE (.reg 4)) (acquireFault s.cur w .x = none) ∧
       Runs s always (s.cur.unsetE (.reg 4)) (acquireFault s.cur w .inc = none ∧ LandingFree s) ∧
       Runs s always (s.cur.unsetE (.reg 4)) (lockNameBad w = false ∧ LandingFree s)) ∧
      (let s := owning .s false
       let w := s.cur.srcE (.reg 4)
       Runs s always (s.cur.unsetE (.reg 4)) (upgradeFault s.cur w .x = none) ∧
         Runs s always (s.cur.unsetE (.reg 4)) (releaseFault s.cur w = none) ∧
         (s.issue.mode = .direct ∧ s.cur.guard always = true ∧ s.cur.poisonRd = false ∧ lockNameBad w = false ∧
           (s.cur.lockEntry w).isSome = true)) ∧
      (let s := withE chief 4 0xFFFFFFFFF
       Runs s always (s.cur.unsetE (.reg 4)) (s.cur.level ≠ 0 ∧ (s.cur.srcE (.reg 4)).toNat < 2 ^ 36)) ∧
      Runs task always false True := by
  unfold Runs LandingFree; dsimp only; and_intros <;> decide +kernel

/-- A task whose engine uses bank 0 (R288), and one whose codebook is to be loaded from the last four dwords of its spill share. -/
def banking : State := withE (withE task 1 4092) 2 252
def engaged : State := Tile0 task (fun t => { t with shadowSt := .ready 0 0 0, shadow := t.shadow.set 0 0x1000000 })

theorem witness_CodebookWrites :
    (let s := banking
     let x := s.cur.srcE (.reg 1)
     let y := s.cur.srcE (.reg 2)
     let uab := s.cur.unsetE (.reg 1) || s.cur.unsetE (.reg 2)
     Runs s always uab True ∧ Runs s always uab (s.here.bankInUse (0 : BitVec 2).toNat = false) ∧
       Runs s always uab (x.toNat % 4 = 0 ∧ y.toNat % 4 = 0 ∧ x.toNat + 3 < s.here.spillShare / 8) ∧
       s.spillBad s.focus (8 * x.toNat) 32 = none ∧ Runs s always (s.cur.unsetE (.reg 2)) (y.toNat / 256 % 512 ≤ 256)) ∧
      (let s := withE task 1 0x10000
       Runs s always (s.cur.unsetE (.reg 1)) ((s.cur.srcE (.reg 1)).toNat / 256 % 512 ≤ 256)) ∧
      (engaged.issue.mode = .direct ∧ engaged.cur.guard always = true ∧ engaged.cur.poisonRd = false ∧
        engaged.here.bankInUse (0 : BitVec 2).toNat = true) := by
  unfold Runs; dsimp only; and_intros <;> decide +kernel

/-! ## The core's own steps -/

/-- A task with one word at its pc. -/
def fetching (w : Nat) : State := task.writeBytes .imem t0 80 ((List.range 16).map (fun i => BitVec.ofNat 8 (w / 256 ^ i)))

theorem witness_BundlesIssue :
    ((Node0 task (fun x => { x with failed := true })).node 0).failed = true ∧
      ((State.reset.node 0).failed = false ∧ ((State.reset.atCycle t0).tile t0).running = none) ∧
      (((fetching 0x44010005).node 0).failed = false ∧ ((fetching 0x44010005).atCycle t0).reachesChecks t0 0 ∧
        (((fetching 0x44010005).atCycle t0).settled t0 0).bundleAt t0 5 =
          .ok ⟨#v[0x44010005, 0, 0, 0], Header.zero, [(.a, .movi always (.reg 1) 5)]⟩) ∧
      (((fetching 0xF4000000).atCycle t0).reachesChecks t0 0 ∧
        (((fetching 0xF4000000).atCycle t0).settled t0 0).bundleAt t0 5 = .error (0xF4000000, .a)) := by
  unfold State.reachesChecks State.atBundle; dsimp only; and_intros <;> decide +kernel

/-- A task with one result that is due in this core cycle. -/
def resulting (e : Effect) : State := Ctx0 task (fun c => { c with results := [⟨90, false, false, 0, .a, e, 0, true, none⟩] })
def due (s : State) (x : Result) : Prop :=
  (s.tile t0).running = some 0 ∧ (s.ctx c0).results = [x] ∧ (s.ctx c0).landings = [] ∧ (s.ctx c0).entering = none ∧
    (s.ctx c0).st = .running ∧ x.isDue (s.tile t0).core (s.tile t0).wall = true

theorem witness_ResultsComplete :
    due (resulting (.word .a 31 false 7)) ⟨90, false, false, 0, .a, .word .a 31 false 7, 0, true, none⟩ ∧
      due (resulting (.pred 0 true)) ⟨90, false, false, 0, .a, .pred 0 true, 0, true, none⟩ ∧
      due (resulting (.pred 7 false)) ⟨90, false, false, 0, .a, .pred 7 false, 0, true, none⟩ := by
  unfold due; and_intros <;> decide +kernel

/-- A landing with its value, issued at wall cycle 95 and named for the present core cycle, and a task with it. -/
def coming (earliest : Nat) (arrive : Option Nat) : Landing :=
  { (default : Landing) with id := 3, kind := .load 8 true, file := .m, reg := 31, named := 90, issueWall := 95, earliest := earliest
                             value := some 7, arrive := arrive }
def landing (l : Landing) : State := Ctx0 task (fun c => { c with landings := [l] })
def whole (s : State) (l : Landing) : Prop :=
  c0.slot < 8 ∧ (s.ctx c0).landings = [l] ∧ l.value = some 7 ∧ l.faulted = false ∧ l.lost = false
def frozen : State := Tile0 (landing (coming 6 none)) (fun t => { t with wall := 16484, freeze := some 100 })

theorem witness_LandingsComeAndAreWritten :
    (whole (landing (coming 6 none)) (coming 6 none) ∧ (coming 6 none).arrive = none ∧ (coming 6 none).kind.isQuery = false ∧
        (coming 6 none).issueWall + (coming 6 none).earliest ≤ (task.tile t0).wall + 1) ∧
      (whole (landing (coming 7 none)) (coming 7 none) ∧ (coming 7 none).arrive = none ∧
        (task.tile t0).wall + 1 < (coming 7 none).issueWall + (coming 7 none).earliest) ∧
      (let l := coming 6 (some 99)
       let s := landing l
       whole s l ∧ (s.ctx c0).results = [] ∧ (s.ctx c0).entering = none ∧ (s.ctx c0).st ≠ .saved ∧ l.rel = false ∧ l.waited = false ∧
         l.arrive = some 99 ∧ 99 < (s.tile t0).wall ∧ l.named ≤ (s.tile t0).core) ∧
      (∀ n, (coming 6 (some 99)).kind ≠ .lockTry n) ∧
      (c0.slot < 8 ∧ (frozen.tile t0).running = some 0 ∧ (frozen.tile t0).freeze = some 100 ∧ 100 + 16384 ≤ (frozen.tile t0).wall ∧
        (frozen.ctx c0).missing (frozen.tile t0).core (frozen.tile t0).wall = some (coming 6 none)) := by
  refine ⟨?_, ?_, ?_, fun n => by simp [coming], ?_⟩ <;> (try unfold whole) <;> (try dsimp only) <;> and_intros <;> decide +kernel

/-- No slot of tile 0 runs; slot 7 is Ready since this wall cycle. -/
def waiting7 : State :=
  (Tile0 task (fun t => { t with running := none })).modCtx ⟨0, 0, 7⟩ (fun c => { c with st := .ready, readySince := 100 })
/-- A task whose join count has come to 0, with a landing named for the next cycle. -/
def joined : State := Ctx0 (landing { coming 6 none with named := 91 }) (fun c => { c with st := .waiting, wait := .join })

theorem witness_ContextsAreSelected :
    ((waiting7.tile t0).running = none ∧ (waiting7.tile t0).pick = some 7 ∧ ((waiting7.tile t0).ctx 7).resume = none) ∧
      (task.tile t0).running = some 0 ∧
      ((joined.ctx c0).st = .waiting ∧ (joined.ctx c0).blockClear (joined.tile t0).core = true ∧ joined.waitMet c0 = true) := by
  and_intros <;> decide +kernel

/-! ## Traps -/

theorem witness_TakingATrap : c0.slot < 8 ∧ (task.ctx c0).tf = false ∧ (handling.ctx c0).tf = true := by decide +kernel

/-- The running slot 0 stands at a boundary. -/
def stands (s : State) : Prop :=
  (s.tile t0).running = some 0 ∧ (s.tile t0).atBoundary 0 = true ∧ (s.tile t0).preempts 0 = false ∧ (s.ctx c0).tf = false
def interrupted : State := Tile0 task (fun t => { t with irq := 0x8000 })
def wounded : State := Ctx0 task (fun c => { c with wound := some lock1, locks := [⟨lock1, .s, false⟩] })
def fault1 (arrived : Bool) : LateFault := ⟨.ue, none, .m, 0x1000000000000008, 0, 5, none, arrived, none, false⟩
def faulted : State := Ctx0 task (fun c => { c with late := [fault1 true] })
def asking : State := Ctx0 task (fun c => { c with request := some (.trap 15, 4095, 3) })

theorem witness_BoundariesTakeTraps :
    (stands interrupted ∧ (interrupted.tile t0).freeze = none ∧ (interrupted.tile t0).takeableIrq (interrupted.ctx c0) = some 15) ∧
      (stands wounded ∧ (wounded.tile t0).takeableIrq (wounded.ctx c0) = none ∧ (wounded.ctx c0).wound = some lock1 ∧
        (wounded.tile t0).woundNow (wounded.ctx c0) = true) ∧
      (stands faulted ∧ (faulted.tile t0).takeableIrq (faulted.ctx c0) = none ∧ (faulted.ctx c0).wound = none ∧
        (faulted.ctx c0).firstLate = some (fault1 true)) ∧
      (stands asking ∧ (asking.tile t0).takeableIrq (asking.ctx c0) = none ∧ (asking.ctx c0).wound = none ∧
        (asking.ctx c0).firstLate = none ∧ (asking.ctx c0).request = some (.trap 15, 4095, 3)) := by
  unfold stands; and_intros <;> decide +kernel

/-- A task whose trap entry began at core cycle 80 and wall cycle 90, with what it waits for. -/
def entering (ls : List Landing) (wall : Nat) : State :=
  Tile0 (Ctx0 task (fun c => { c with entering := some (80, 90), landings := ls, nest := true })) (fun t => { t with wall := wall })
def awaited : Landing := { coming 6 none with waited := true }
/-- A return whose restore ends in this wall cycle. -/
def returning : State := Ctx0 chief (fun c => { c with returning := some (88, 100) })

theorem witness_TrapEntriesAndReturns :
    (let s := Ctx0 task (fun c => { c with late := [fault1 false] })
     (s.ctx c0).late[0]? = some (fault1 false) ∧ (fault1 false).arrived = false ∧ (s.ctx c0).tf = false) ∧
      ((entering [awaited] 16474).ctx c0).entering = some (80, 90) ∧ 90 + 16384 ≤ ((entering [awaited] 16474).tile t0).wall ∧
      ((entering [awaited] 16474).ctx c0).landings = [awaited] ∧ awaited.waited = true ∧ awaited.settled = false ∧
      ((entering [awaited] 16474).ctx c0).nest = true ∧
      (let s := entering [] 100
       (s.tile t0).running = some 0 ∧ (s.ctx c0).entering = some (80, 90) ∧ (s.ctx c0).landings = [] ∧ (s.ctx c0).capture = [] ∧
         (s.ctx c0).late = [] ∧ (s.ctx c0).request = none) ∧
      (let c := returning.ctx c0
       (returning.tile t0).running = some 0 ∧ c.returning = some (88, 100) ∧ 88 + 2 ≤ (returning.tile t0).core ∧
         100 ≤ (returning.tile t0).wall ∧ c.reissue = [] ∧ c.landings = [] ∧ c.capture = [] ∧ c.waitEnd = false) := by
  dsimp only; and_intros <;> decide +kernel

/-! ## Streams -/

/-- A queue entry that stands in the store queue, and one that stands in both, both of a context. -/
def stored (op : QOp) : QEntry := ⟨7, some 5, 3, false, true, false, op, 0⟩
def queued (e : QEntry) : State := Ctx0 task (fun c => { c with queue := [e] })

/-- A closed packet of 16 bytes, uncompressed, on output stream 4, bound to tile 1; its header names stream 9. -/
def closing : State :=
  let s := Tile0 (queued (stored (.sclose 4 0))) (fun t => t.modOut 4 (fun x => { x with d0 := 0x0000100000280000, opened := [(0, true)] }))
  (s.writeWord .port t0 0 0x0009000000000000).writeWord .port t0 8 0x0000000000040000

/-- A packet on its way to tile 0 for input stream 4, whose sid is 9, and a stream of two buffers of which one is Free. -/
def packet (good : Bool) (len : Nat) (whole : Bool) : NetPacket :=
  let h1 := sealHeader 0x0009000000000000 (BitVec.ofNat 64 (len * 2 ^ 14)) len
  { (default : NetPacket) with
    id := 7, dest := t0, hdr0 := 0x0009000000000000, hdr1 := if good then h1 else ~~~h1, wire := List.replicate 16 1
    sender := ⟨0, 1, 4⟩, whole := whole, transit := false }
def receiving (p : NetPacket) (b : BufState) : State :=
  let s := Tile0 task (fun t => t.modIn 4 (fun x => { x with
    d0 := 0x8000000804000240
    bufs := [{ (default : Buf) with st := .current }, { (default : Buf) with st := b, pkt := 7, wire := 16 }] }))
  { s with packets := [p] }

/-- The same packet for a tile of node 1, which is a member. -/
def closingAway : State :=
  Node0 (Tile0 closing (fun t => t.modOut 4 (fun x => { x with d0 := 0x0010100000280000 }))) (fun x => { x with members := some (BitVec.allOnes 4096) })
/-- A packet that says it is compressed, by the scheme of a number. -/
def squeezed (enc : Nat) : NetPacket :=
  { packet true 16 true with hdr1 := sealHeader 0x0009000000000000 (BitVec.ofNat 64 (16 * 2 ^ 14 + enc * 2 ^ 27)) 16 }
def startsNow (s : State) (n i : Nat) : Prop :=
  let e := stored (.sclose n i)
  (s.ctx c0).headOf .store = some e ∧ e.op = .sclose n i ∧ s.allAhead c0 e = true ∧
    ((s.tile t0).outS n).opened.find? (fun p => p.2) = some (i, true) ∧ (s.node 0).egressOf 0 n = none
def comesNow (s : State) (p : NetPacket) : Prop :=
  s.packetAt t0 7 = some p ∧ p.started = true ∧ (s.tile t0).holds 7 = false ∧ s.heldBack t0 = false
def heldNow (s : State) (p : NetPacket) : Prop :=
  let x := (s.tile t0).inS 4
  s.packetAt t0 7 = some p ∧ x.bufs.findIdx? (fun b => b.st == .receiving && b.pkt == 7) = some 1 ∧ p.whole = true ∧
    s.heldBack t0 = false ∧ s.isNext p = true ∧ p.wire.length ≤ (x.buf 1).wire
def checked (p : NetPacket) : Bool :=
  headerCrc ((wordBytes p.hdr0 ++ wordBytes p.hdr1).take 14) == BitVec.ofNat 16 (wfld p.hdr1 48 16)
/-- The input stream bound in mode 1 to an entry whose need the share does not hold. -/
def needing (s : State) : State :=
  Tile0 s (fun t => { t.modIn 4 (fun x => { x with d0 := 0x9008000804000240 }) with slots := 8 })

theorem witness_PacketsTravel :
    (startsNow closing 4 0 ∧ outNode ((closing.tile t0).outS 4).d0 = 0) ∧
      (startsNow closingAway 4 0 ∧ outNode ((closingAway.tile t0).outS 4).d0 = 1 ∧ (routeBundle closingAway 0 1).isSome = true) ∧
      OnItsWay { task with net := [.creditArrival t0 4 127] } (.creditArrival t0 4 127) ∧
      (let p := packet true 16 true
       let s := receiving p .free
       comesNow s p ∧ checked p = true ∧ (s.tile t0).entryFor (hdrStream p.hdr0) = some 4 ∧
         ((s.tile t0).inS 4).bufs.findIdx? (fun b => b.st == .free) = some 1) ∧
      (let p := packet false 16 true
       let s := receiving p .free
       comesNow s p ∧ checked p = false ∧ (s.tile t0).entryFor (hdrStream p.hdr0) = some 4) ∧
      (let p := packet true 16 true
       let s := Tile0 (receiving p .free) (fun t => t.modIn 4 (fun x => { x with d0 := 0x8000000804000280 }))
       comesNow s p ∧ checked p = true ∧ (s.tile t0).entryFor (hdrStream p.hdr0) = none) ∧
      (let p := packet true 16 true
       let s := receiving p .receiving
       let x := (s.tile t0).inS 4
       heldNow s p ∧ hdrElen p.hdr1 = inBsize x.d0 ∧ hdrWlen p.hdr1 ≤ 8192 ∧
         decodePayload (hdrEnc p.hdr1) (hdrElen p.hdr1) p.wire = some (List.replicate 16 1) ∧ inMode x.d0 ≠ 1) ∧
      (let p := packet true 16 true
       let s := needing (receiving p .receiving)
       let x := (s.tile t0).inS 4
       heldNow s p ∧ hdrElen p.hdr1 ≤ inBsize x.d0 ∧ inMode x.d0 = 1 ∧ inValid (x.binding (s.tile t0).wall) = true ∧
         inTord x.d0 = false ∧ (s.tile t0).needFits (inEntry (x.binding (s.tile t0).wall)) = false) ∧
      (let p := packet true 17 true
       let s := receiving p .receiving
       heldNow s p ∧ inBsize ((s.tile t0).inS 4).d0 < hdrElen p.hdr1) ∧
      (let p := squeezed 2
       let s := receiving p .receiving
       heldNow s p ∧ hdrElen p.hdr1 ≤ inBsize ((s.tile t0).inS 4).d0 ∧ hdrWlen p.hdr1 ≤ 8192 ∧
         decodePayload (hdrEnc p.hdr1) (hdrElen p.hdr1) p.wire = none) ∧
      (let y : InStream := { (task.tile t0).inS 4 with next := -1 }
       y.nextHeld = none ∧ y.skips = false) := by
  unfold OnItsWay startsNow comesNow heldNow; dsimp only; and_intros <;> decide +kernel

/-! ## Tasks -/

/-- A Free slot of a tile of two, a Ready packet of a bound stream of mode 1 whose entry is 256, or a descriptor of entry 4,095. -/
def offering : State :=
  let s := (placed 2 0).modTile t0 (fun t => t.modIn 4 (fun x => { x with
    d0 := 0x9008000804000240, bufs := [{ (default : Buf) with st := .ready, stamp := some 256 }] }))
  Tile0 s (fun t => { t with need := t.need.set 0 0x8000007FF8000000 })
def descriptor : DequeEntry := ⟨11, 12, 0x00000007FFF00000, 0, 0, 0, 0, 0⟩
def stacked : State := Tile0 (placed 2 0) (fun t => { t with deque := [descriptor] })
/-- Tile 1 of the same stage holds two descriptors, of which its own task takes one. -/
def neighboured : State :=
  (Tile0 (placed 2 0) (fun t => { t with width := 2 })).modTile ⟨0, 1⟩ (fun t => { t with slots := 2, width := 2, deque := [descriptor, descriptor] })

theorem witness_TasksAreCreated :
    (let u := offering
     let t := u.tile t0
     t.freeSlots = [1] ∧ t.admitted ≠ t.wall + 1 ∧ u.nextCandidate t0 = some ⟨4, 0, 0, [(4, 0)]⟩ ∧ u.nextTree t0 = some 1) ∧
      (let u := stacked
       let t := u.tile t0
       t.freeSlots = [1] ∧ t.admitted ≠ t.wall + 1 ∧ u.nextCandidate t0 = some ⟨32, 0, 0, []⟩ ∧ t.deque = [descriptor]) ∧
      (let s := neighboured
       (s.tile t0).freeSlots = [1] ∧ s.victim t0 = some (1, descriptor) ∧ s.steals t0 = true ∧
         (s.tile t0).admitted ≠ (s.tile t0).wall + 1 ∧ 1 ≠ t0.tile) ∧
      (OnItsWay { task with net := [.joinMessage c0 0] } (.joinMessage c0 0) ∧ (task.ctx c0).live = true) := by
  unfold OnItsWay; dsimp only; and_intros <;> decide +kernel

theorem witness_TreesAreCancelled :
    (let s : State := { task with net := [.treeCancel 0 0] }
     OnItsWay s (.treeCancel 0 0) ∧ (s.haltTree 0 0).treeQuiet 0 0 = false) ∧
      (let s : State := { task with net := [.treeCancel 0 5] }
       OnItsWay s (.treeCancel 0 5) ∧ (s.haltTree 0 5).treeQuiet 0 5 = true) ∧ c0.slot < 8 := by
  unfold OnItsWay; dsimp only; and_intros <;> decide +kernel

/-! ## Queued accesses, barriers and copies -/

/-- An access of the last aligned dword below the save region, a load's and a store's. -/
def unit1 (bs : List Byte) : UnitAcc := ⟨0xAEFFF8, 8, bs, 0, true, none⟩
def loadEntry (issued : Bool) : QEntry := ⟨7, some 5, 3, true, false, issued, .load [unit1 []], 0⟩
def storeEntry : QEntry := ⟨7, some 5, 3, false, true, true, .store [unit1 (List.replicate 8 9)] 8, 0⟩
def copy1 (stage : Nat) : CopyJob := ⟨7, 0, 0, some 5, 3, ⟨0x100, 0x200, 0, 32, 0, 0⟩, [], [], 0, stage, false, [], false, false⟩
def copyRunning (stage : Nat) : State := Tile0 task (fun t => { t with copies := [copy1 stage] })
def mineIs (s : State) (e : QEntry) (u : UnitAcc) : Prop :=
  s.ownerOf e.id = some c0 ∧ (s.ctx c0).queue.find? (fun f => f.id == e.id) = some e ∧ e.issued = true ∧ remoteUnit c0 u = false ∧
    s.clear c0 e u = true ∧ winOf u.ptr ≠ 4 ∧ winOf u.ptr ≠ 5 ∧ s.unitBarred c0 e.level u.ptr u.size e.op.writes = false ∧
    s.poisoned (targetTile c0 u.ptr) (ptrOff u.ptr) = false

theorem witness_AccessesArePerformed :
    (let e := loadEntry false
     let s := queued e
     (s.ctx c0).headOf .load = some e ∧ (s.ctx c0).atHead e = true ∧ e.op = .load [unit1 []] ∧
       e.op.units.all (fun u => !remoteUnit c0 u) = true) ∧
      (mineIs (queued (loadEntry true)) (loadEntry true) (unit1 []) ∧ (loadEntry true).op = .load [unit1 []] ∧
        (queued (loadEntry true)).taints c0 (memKey .sram t0 (ptrOff (unit1 []).ptr)) = false) ∧
      (mineIs (queued storeEntry) storeEntry (unit1 (List.replicate 8 9)) ∧
        meetsMailbox (ptrOff (unit1 []).ptr) (List.replicate 8 (9 : Byte)).length = false) ∧
      (let e : QEntry := ⟨7, some 5, 3, true, true, true, .atom true .add (unit1 []) 5, 0⟩
       mineIs (queued e) e (unit1 []) ∧ meetsMailbox (ptrOff (unit1 []).ptr) 8 = false) ∧
      (let e := stored (.barr 31 4294967295)
       let s := queued e
       (s.ctx c0).headOf .store = some e ∧ s.allAhead c0 e = true) ∧
      (let e := stored (.copy (copy1 0).desc)
       let s := queued e
       (s.ctx c0).headOf .store = some e ∧ (s.ctx c0).writesAhead e.id = true ∧ (s.tile t0).copies.length < 16) ∧
      (((copyRunning 0).tile t0).copies.find? (fun i => i.id == (copy1 0).id) = some (copy1 0) ∧ (copy1 0).waits = false ∧
        (copy1 0).stopped = false ∧ (copy1 0).stage = 0 ∧ ((copyRunning 0).tile t0).copyHalts (copy1 0) = false ∧
        (copy1 0).desc.mode ≠ 2) ∧
      (((copyRunning 1).tile t0).copies.find? (fun i => i.id == (copy1 1).id) = some (copy1 1) ∧ (copy1 1).stage = 1 ∧
        (targetTile c0 (copy1 1).srcPiece.1).node = 0 ∧
        (copyRunning 1).unitBarred c0 (copy1 1).desc.lvl (copy1 1).srcPiece.1 (copy1 1).srcPiece.2 false = false) ∧
      (let j := { copy1 2 with held := [(0x200, 1, false)] }
       let s := Tile0 task (fun t => { t with copies := [j] })
       (s.tile t0).copies.find? (fun i => i.id == j.id) = some j ∧ j.stage = 2 ∧ j.piece false ≠ []) ∧
      (((copyRunning 2).tile t0).copies.find? (fun i => i.id == (copy1 2).id) = some (copy1 2) ∧ (copy1 2).stage = 2 ∧
        (copy1 2).piece false = []) := by
  unfold mineIs; dsimp only; and_intros <;> decide +kernel

theorem witness_StoredBytesAlone :
    Memory.wf task.mem = true ∧ meetsMailbox 0xAEFFF8 (List.replicate 8 (0 : Byte)).length = false ∧
      (task.bankWrite t0 t0 0xAEFFF8 (List.replicate 8 0) false).isSome = true := by
  and_intros <;> decide +kernel

/-! ## The matrix engine at work -/

/-- The engine idle with a set Ready, and at work on an operation; one that finishes in this wall cycle with an error. -/
def readied : State := Tile0 task (fun t => { t with shadowSt := .ready 0 0 0 })
def op1 : ActiveOp := ⟨0, 0, 0, 2, 0, 101, 0, 1, 0, false, false, 0, Vector.replicate 16 0, 0, Vector.replicate 16 0⟩
def operating (o : ActiveOp) : State := Tile0 task (fun t => { t with op := some o })
def dueIs (s : State) (o : ActiveOp) : Prop :=
  (s.tile t0).op = some o ∧ o.halted = false ∧ o.finish ≤ (s.tile t0).wall + 1 ∧ s.engineFree t0 o = true ∧ o.orphan = false ∧
    o.slot < 8 ∧ ((s.tile t0).ctx o.slot).serial = o.serial ∧ (s.tile t0).psstat.getLsbD (48 + o.slot) = false

theorem witness_EngineRuns :
    ((readied.tile t0).pending = [] ∧ (readied.tile t0).shadowSt = .ready 0 0 0 ∧ (readied.tile t0).op = none) ∧
      (dueIs (operating op1) op1 ∧ op1.err ≠ 0 ∧ op1.err ≠ 4) ∧
      (let o := { op1 with err := 0, kind := 3 }
       let s := operating o
       dueIs s o ∧ (s.runEngine t0 o none (setPasses (s.tile t0).active)).2.2.1 = 0) ∧
      (let o := { op1 with err := 0, kind := 1 }
       let s := operating o
       dueIs s o ∧ (s.runEngine t0 o none (setPasses (s.tile t0).active)).2.2.1 = 0) ∧
      (let o := { op1 with finish := 102 }
       ((operating o).tile t0).op = some o ∧ ((operating o).tile t0).wall + 1 < o.finish) ∧
      (let s := Ctx0 (operating op1) (fun c => { c with queue := [{ storeEntry with seq := 0 }] })
       (s.tile t0).op = some op1 ∧ s.engineFree t0 op1 = false) := by
  unfold dueIs; dsimp only; and_intros <;> decide +kernel

/-! ## The fold -/

/-- View 0's sequence 5 with its record and its root filled to 15 positions, and the page of position 15 under descriptor 3. -/
def folded (st : Nat) : State :=
  let s := viewing
  let s := s.setFoldRec 0 (seqBucket 5) (seqRecord false false 5 15)
  let s := s.setFoldRec 0 (rootBucket 5 0) (rootRecord 5 0 0 15)
  let s := s.setRootLoc 0 (rootBucket 5 0) 0 (mkLoc 0 0x1E0)
  let s := s.setDirEntry 0 (mkLoc 0 0x1E0) 0 (BitVec.ofNat 64 (mkLoc 0 0x1E1))
  let s := s.setDirEntry 0 (mkLoc 0 0x1E1) 0 0x8000000000000003
  s.setPd 0 3 (mkPd0 st 1 0 0x100000) (mkPd1 0 0 1)

/-- A transfer in the fold unit of tile 0, of the row at position 15 or of sequence 5. -/
def job (fn : Nat) (opa : Word) (done : Bool) : FoldJob := ⟨7, false, 0, 0, some 5, 3, ⟨fn, 15, opa, 0, 0, 0, some 0, 0⟩, done, false, []⟩
def hint (shape : Option Word) (rows : Nat) : FoldJob :=
  { job 5 0x400002000000F000 false with req := { (job 5 0x400002000000F000 false).req with shape := shape, rowsDone := rows } }
def working (s : State) (j : FoldJob) : State := Tile0 s (fun t => { t with fold := [j] })
def runsNow (s : State) (j : FoldJob) : Prop :=
  (s.tile t0).fold.find? (fun m => m.id == j.id) = some j ∧ (s.tile t0).mayRun j = true
def rowNow (s : State) (j : FoldJob) (v : View) : Prop :=
  runsNow s j ∧ (s.tile t0).viewOf j.req.opa = some v ∧ s.behindAll t0 j = true
def goesNow (s : State) (j : FoldJob) : Prop :=
  runsNow s j ∧ s.behindAll t0 j = true ∧ s.givesWay t0 j = false ∧ s.recordsBad 0 j.req = false

/-- What a row's search finds: the place, or none where it reads as zero, and whether what is there is free of poison. -/
def readHere (s : State) (j : FoldJob) (v : View) : Option (Option (TileRef × Nat) × Bool) :=
  match s.findRead t0 v j.req.opa (ptrPos j.req.opa) j.id false with
  | .ok (p, _, s1) => some (p, p.all (fun p => !s1.poisonIn .sram p.1 p.2 j.rowBytes))
  | .error _ => none
/-- Where a row goes, and whether all of it can be written. -/
def writeHere (s : State) (j : FoldJob) (v : View) : Option (TileRef × Nat) :=
  let n := j.rowBytes
  let off := (s.tile t0).rowOff j
  match s.findWrite t0 v j.req.opa (ptrPos j.req.opa) true with
  | .ok (p, _, s1) => if !s1.poisonIn .treg t0 off n && (s1.writeRange t0 p.1 p.2 (s1.readBytes .treg t0 off n) (fun _ => false)).2 == 0
      then some p else none
  | .error _ => none
def forks (s : State) : Bool :=
  match s.forkSeq 0 5 9 false 0 with
  | .ok _ => true
  | .error _ => false
def truncates (s : State) (len : Nat) : Bool :=
  match s.truncSeq 0 5 len (fun l h _ => if s.readersBelow 0 5 s.ids then some ⟨5, l, h, 0, 0, s.ids, len⟩ else none) with
  | .ok _ => true
  | .error _ => false
/-- A hint that has offered the page of descriptor 3, which is at a step of its move. -/
abbrev awaiting (st : Nat) : Nat × Nat × Nat := (3, 1, st)
def hinting (m : Nat × Nat × Nat) (ms : List (Nat × Nat × Nat)) : Prop :=
  let j := { hint (some 1) 0 with pages := [3] }
  let s := Node0 (working (folded stMoving) j) (fun x => { x with movers := [m] })
  runsNow s j ∧ s.behindAll t0 j = true ∧
    j.pages.filterMap (fun d => (s.node 0).mover (fun x => x.1 == d && [1, 2, 4, 6, 8, 9, 10].contains x.2.2)) = ms
def hints (s : State) (j : FoldJob) (v : View) : Bool :=
  match s.hintPages t0 j v with
  | .ok _ => true
  | .error _ => false

/-- The view with its pending end past position 15, and one without. -/
abbrev theView (pend : Nat) : View := ⟨true, 1, 5, 0, 0, true, 0, 16, pend, false⟩
abbrev rowPtr : Word := 0x400002000000F000

theorem witness_FoldUnitWorks :
    (let e := stored (.fold (job 0 rowPtr false).req)
     let s := queued e
     (s.ctx c0).headOf .store = some e ∧ e.op = .fold (job 0 rowPtr false).req ∧ (s.ctx c0).writesAhead e.id = true ∧
       ((s.tile t0).fold.filter (s.tile t0).inUnit).length < 8) ∧
      (let j := job 0 rowPtr false
       let s := working (folded stResident) j
       rowNow s j (theView 0) ∧ readHere s j (theView 0) = some (some (t0, 0x1003C0), true)) ∧
      (let j := job 0 rowPtr false
       let s := { working (folded stResident) j with poison := [memKey .sram t0 0x1003C0] }
       rowNow s j (theView 0) ∧ readHere s j (theView 0) = some (some (t0, 0x1003C0), false)) ∧
      (let j := job 0 rowPtr false
       let s := working viewing j
       rowNow s j (theView 0) ∧ readHere s j (theView 0) = none) ∧
      (let j := job 1 rowPtr false
       let s := working (folded stResident) j
       rowNow s j (theView 0) ∧ s.efw 0 (s.rootOf 0 (theView 0)) = ptrPos rowPtr ∧ writeHere s j (theView 0) = some (t0, 0x1003C0)) ∧
      (let j := job 1 rowPtr false
       let s := working (folded stRemote) j
       rowNow s j (theView 0) ∧ s.efw 0 (s.rootOf 0 (theView 0)) = ptrPos rowPtr ∧ writeHere s j (theView 0) = none) ∧
      (let j := job 1 0x4000020000010000 false
       let s := working (folded stResident) j
       rowNow s j (theView 0) ∧ s.efw 0 (s.rootOf 0 (theView 0)) < ptrPos 0x4000020000010000 ∧
         ((s.findSeq 0 5).map (fun o => recRo (s.foldRec 0 o))) = some false) ∧
      (let s := folded stResident
       let v := ((s.tile t0).views[0]?).getD default
       v.opened = true ∧ (s.walk 0 v.seqId.toNat v.layer.toNat v.head.toNat 0).pd = some 3 ∧ s.pdState 0 3 = stResident) ∧
      (let j := job 0 rowPtr true
       ((working task j).tile t0).fold.find? (fun m => m.id == 7 && m.finished) = some j) ∧
      (let j := job 4 5 false
       let s := working (folded stResident) j
       goesNow s j ∧ keySeq j.req.opa = 5 ∧ (s.findSeq 0 5).isSome = true ∧
         s.freeWaits t0 j = false) ∧
      (let j := job 4 0x3FFFFF false
       let s := working (folded stResident) j
       goesNow s j ∧ s.findSeq 0 (keySeq j.req.opa) = none) ∧
      (let j := job 2 0x24000000005 false
       let s := working (folded stResident) j
       goesNow s j ∧ keySeq j.req.opa = 5 ∧ keyFork j.req.opa = 9 ∧ ctlTie j.req.opb = false ∧ j.req.tree = 0 ∧ forks s = true) ∧
      (let j := job 3 0x24000000005 false
       let s := working (folded stResident) j
       goesNow s j ∧ keySeq j.req.opa = 5 ∧ keyLen j.req.opa = 9 ∧ truncates s 9 = true) ∧
      (let j := hint none 0
       let s := working (folded stResident) j
       runsNow s j ∧ s.behindAll t0 j = true ∧ (s.tile t0).viewOf j.req.opa = some (theView 0) ∧ hints s j (theView 0) = true) ∧
      (hinting (awaiting 1) [awaiting 1] ∧ hinting (awaiting 9) [awaiting 9] ∧ hinting (awaiting 4) [awaiting 4] ∧
        hinting (awaiting 8) [awaiting 8] ∧ hinting (awaiting 10) [awaiting 10] ∧ hinting (awaiting 3) [] ∧ hinting (awaiting 7) []) ∧
      (let s := folded stCompressed
       s.pdState 0 3 = stCompressed ∧ s.rangePoisoned ⟨0, s.pdTile 0 3⟩ (s.pdOff 0 3) (64 * s.pdClen 0 3) = false ∧
         (s.takeFrame 0).isSome = true) := by
  unfold rowNow goesNow hinting runsNow; dsimp only; and_intros <;> decide +kernel

/-- A message about page 3 from node 1, and moves of it. -/
def pageMsg : FoldMsg := ⟨0, 1, 3, 4, []⟩
def moving (m : Nat × Nat × Nat) (e : Event) : State := { Node0 (folded stResident) (fun x => { x with movers := [m] }) with net := [e] }

theorem witness_PagesTravel :
    (let s : State := { folded stResident with net := [.foldReleaseMsg pageMsg] }
     OnItsWay s (.foldReleaseMsg pageMsg)) ∧
      (let s : State := { folded stResident with net := [.foldFetchMsg pageMsg] }
       OnItsWay s (.foldFetchMsg pageMsg) ∧ s.pdState 0 3 = stResident) ∧
      (let s : State := { task with net := [.foldOfferMsg pageMsg] }
       OnItsWay s (.foldOfferMsg pageMsg) ∧ (s.node 0).fold = none) ∧
      (let s : State := { folded stResident with net := [.foldOfferMsg pageMsg] }
       OnItsWay s (.foldOfferMsg pageMsg) ∧ (s.node 0).fold.isSome = true ∧
         ((arrived s (.foldOfferMsg pageMsg)).roomForPage 0 1 1 4).isSome = true) ∧
      (let s := moving (3, 1, 1) (.foldAcceptMsg pageMsg)
       OnItsWay s (.foldAcceptMsg pageMsg) ∧ (s.node 0).mover (fun x => x.1 == 3 && x.2.2 == 1) = some (3, 1, 1)) ∧
      (let s := moving (3, 1, 1) (.foldRefuseMsg pageMsg)
       OnItsWay s (.foldRefuseMsg pageMsg) ∧
         (s.node 0).mover (fun x =>
           (x.1 == 3 && (x.2.2 == 1 || x.2.2 == 3 || (x.2.2 == 5 && x.2.1 == 1))) || (x.2.1 == 3 && (x.2.2 == 0 || x.2.2 == 9))) =
           some (3, 1, 1)) ∧
      (let s := moving (3, 1, 3) (.foldPageDataMsg pageMsg)
       OnItsWay s (.foldPageDataMsg pageMsg) ∧
         (s.node 0).mover (fun x => (x.1 == 3 && x.2.2 == 3) || (x.2.1 == 3 && (x.2.2 == 0 || x.2.2 == 9))) = some (3, 1, 3)) ∧
      (let s := moving (3, 1, 7) (.foldPageDataMsg pageMsg)
       (s.node 0).mover (fun x => x.1 == 3 && (x.2.2 == 6 || x.2.2 == 7)) = some (3, 1, 7)) ∧
      (let s := moving (3, 1, 2) (.foldMoveCompleteMsg pageMsg)
       OnItsWay s (.foldMoveCompleteMsg pageMsg) ∧
         (s.node 0).mover (fun x => x.1 == 3 && (x.2.2 == 2 || (x.2.2 == 5 && x.2.1 == 1))) = some (3, 1, 2) ∧ s.pdRelp 0 3 = false) := by
  unfold OnItsWay; dsimp only; and_intros <;> decide +kernel

/-! ## Locks at their home -/

/-- A message of tile 0's task about the lock, and node 0 with an object of given holders and waiters. -/
def lockMsg (m : LockMode) (w : Word) : CrookMsg := ⟨0, m, c0, lock1, 4, w, 6⟩
def claim (slot : Nat) (m : LockMode) : Claim := ⟨⟨0, 0, slot⟩, 4, m, 0, false, 6⟩
def homing (e : Event) (holders queue : List Claim) : State :=
  { Node0 (owning .s true) (fun x => { x with locks := if holders.isEmpty && queue.isEmpty then [] else [⟨lock1, holders, queue⟩] }) with net := [e] }
def asked (s : State) (pending : Bool) : State :=
  Ctx0 s (fun c => { c with st := .waiting, wait := .lock lock1 (.reg 15), waitSeq := 65536 + 6, tick := 4
                            locks := if pending then [⟨lock1, .x, true⟩] else [] })
def landed1 (k : LandKind) : Landing := { (default : Landing) with kind := k, id := 65536 + 6, addr := lock1, file := .e, reg := 15 }
def landed (s : State) (k : LandKind) : State := Ctx0 s (fun c => { c with landings := [landed1 k], tick := 4 })
def mineNow (s : State) (m : CrookMsg) (id : Nat) : Prop :=
  m.tick = (s.ctx m.ctx).tick % 2 ^ 56 ∧ (m.id = 0 ∨ id % 65536 = m.id % 65536)
def lateWound (since : Nat) : State := Ctx0 (owning .s false) (fun c => { c with wound := some lock1, xstat := 0x80, woundSince := since })

theorem witness_LocksAreServed :
    (let m := lockMsg .x 0
     let s := homing (.crookAcquireMsg m) [] []
     let h := s.node 0
     let o := h.lockObj lock1
     FirstAsk s (.crookAcquireMsg m) ∧ o.queue = [] ∧ o.holders.all (fun x => h.compat m.mode x.mode) = true ∧ h.roomHolder o = true) ∧
      (let m := lockMsg .s 0
       let s := homing (.crookTryMsg m) [claim 1 .s, claim 2 .s] []
       let h := s.node 0
       let o := h.lockObj lock1
       FirstAsk s (.crookTryMsg m) ∧ o.queue = [] ∧ o.holders.all (fun x => h.compat m.mode x.mode) = true ∧ h.roomHolder o = true) ∧
      (let m := lockMsg .x 0
       let s := homing (.crookTryMsg m) [claim 1 .s] []
       let h := s.node 0
       FirstAsk s (.crookTryMsg m) ∧ (h.lockObj lock1).holders.all (fun x => h.compat m.mode x.mode) = false) ∧
      (let m := lockMsg .x 0
       let s := homing (.crookUpgradeMsg m) [claim 0 .s] [claim 1 .x]
       let h := s.node 0
       let o := h.lockObj lock1
       FirstAsk s (.crookUpgradeMsg m) ∧ o.holders.find? (fun x => x.ctx == m.ctx) = some (claim 0 .s) ∧
         (o.holders.filter (fun x => x.ctx != m.ctx)).all (fun x => h.compat m.mode x.mode) = true) ∧
      (let m := lockMsg .is 0
       let s := homing (.crookReleaseMsg m) [claim 0 .s, claim 1 .s] []
       FirstAsk s (.crookReleaseMsg m) ∧ ((s.node 0).lockObj lock1).queue = []) ∧
      (let m := lockMsg .is 0
       let s := homing (.crookWithdrawMsg m) [claim 1 .x] [claim 0 .s]
       FirstAsk s (.crookWithdrawMsg m) ∧ ((s.node 0).lockObj lock1).queue = [claim 0 .s] ∧ (claim 0 .s).ctx = m.ctx) ∧
      FirstAsk (homing (.crookQueryMsg (lockMsg .is 0)) [] []) (.crookQueryMsg (lockMsg .is 0)) ∧
      (let m := lockMsg .x 0x0A00000000000000
       let s := asked (homing (.crookStatusMsg m) [] []) false
       OnItsWay s (.crookStatusMsg m) ∧ m.ctx.slot < 8 ∧ (s.ctx c0).landings.all (fun l => l.kind != .lockTry lock1) = true ∧
         (s.ctx c0).wait = .lock lock1 (.reg 15) ∧ mineNow s m (s.ctx c0).waitSeq ∧ wfld m.result 60 4 = 0 ∧
         (s.ctx c0).lockEntry lock1 = none ∧ (15 : BitVec 5).toNat < 16 ∧ (s.ctx c0).st ≠ .saved) ∧
      (let m := lockMsg .x 0x0A00000000000000
       let s := asked (homing (.crookStatusMsg m) [] []) true
       OnItsWay s (.crookStatusMsg m) ∧ (s.ctx c0).landings = [] ∧ (s.ctx c0).wait = .lock lock1 (.reg 15) ∧
         mineNow s m (s.ctx c0).waitSeq ∧ wfld m.result 60 4 = 0 ∧ (s.ctx c0).lockEntry lock1 = some ⟨lock1, .x, true⟩) ∧
      (let m := lockMsg .x 0x1E00000000000000
       let s := landed (homing (.crookStatusMsg m) [] []) (.lockTry lock1)
       OnItsWay s (.crookStatusMsg m) ∧ m.ctx.slot < 8 ∧ (s.ctx c0).landings = [landed1 (.lockTry lock1)] ∧
         mineNow s m (landed1 (.lockTry lock1)).id ∧ ((s.ctx c0).lockEntry lock1).isSome = true) ∧
      (let m := lockMsg .is 7
       let s := landed (homing (.crookQueryResultMsg m) [] []) .lockQuery
       OnItsWay s (.crookQueryResultMsg m) ∧ m.ctx.slot < 8 ∧ (s.ctx c0).landings = [landed1 .lockQuery] ∧
         (landed1 .lockQuery).addr = m.name ∧ (landed1 .lockQuery).value = none ∧ mineNow s m (landed1 .lockQuery).id) ∧
      OnItsWay (homing (.crookWoundMsg (lockMsg .is 0)) [] []) (.crookWoundMsg (lockMsg .is 0)) ∧
      (let s := homing (.woundDelivery c0 lock1) [] []
       OnItsWay s (.woundDelivery c0 lock1) ∧ c0.slot < 8 ∧ (s.ctx c0).st = .running ∧ (s.ctx c0).locks ≠ [] ∧ (s.ctx c0).wound = none) ∧
      (let s := asked (homing (.woundDelivery c0 lock1) [] []) true
       OnItsWay s (.woundDelivery c0 lock1) ∧ (s.ctx c0).st = .waiting ∧ (s.ctx c0).locks ≠ [] ∧
         (s.ctx c0).wait = .lock lock1 (.reg 15)) ∧
      (let s := Tile0 (lateWound 100) (fun t => { t with wall := 5100 })
       (s.ctx c0).woundLate (s.tile t0).wall = true ∧ (s.ctx c0).locks = [⟨lock1, .s, false⟩]) ∧
      (let s := Ctx0 (Tile0 (lateWound 100) (fun t => { t with wall := 5100 })) (fun c => { c with locks := [⟨lock1, .s, true⟩] })
       (s.ctx c0).woundLate (s.tile t0).wall = true ∧ ((s.ctx c0).locks.filter (fun e => !e.pending)).map (fun e => e.name) = []) ∧
      (let s := Tile0 (lateWound 101) (fun t => { t with wall := 5100 })
       (s.ctx c0).woundLate (s.tile t0).wall = false) := by
  unfold OnItsWay FirstAsk mineNow; dsimp only; and_intros <;> decide +kernel

/-! ## Saves -/

/-- Slot `k` of tile 0 in a state of its own, and one that has been saved on tile 1, whose stage is the same. -/
def slotIn (k : Nat) (st : CtxState) (saved : Bool) : State :=
  Tile0 ((placed 8 0).modCtx ⟨0, 0, k⟩ (fun c => { c with st := st })) (fun t => if saved then { t with psstat := 1#64 <<< (48 + k) } else t)
/-- The like with a valid record. -/
def recorded (k : Nat) : State := (slotIn k .saved true).writeWord .sram t0 (ctxRecBase k) (1 <<< 63)
def elsewhere : State :=
  ((placed 8 0).modTile ⟨0, 1⟩ (fun t => { t with slots := 8, psstat := 1#64 <<< 55 })).modCtx ⟨0, 1, 7⟩ (fun c => { c with st := .saved })
def saving (s : State) (halt : BitVec 8) : State :=
  Tile0 s (fun t => { t with psstat := psBusy, save := some ⟨0x4080000000000000, halt, 90, none⟩ })

theorem witness_SavesAreTaken :
    ((saving task 0).tile t0).psstat.getLsbD 63 = true ∧
      (let s := slotIn 7 .ready false
       let w : Word := 0x4081000000000000
       ¬(s.tile t0).psstat.getLsbD 63 = true ∧ cmdTile w = false ∧ (maskSlots (cmdCtx w)).all (fun j => ((s.tile t0).ctx j).savable) = true ∧
         cmdCtx w ≠ 0) ∧
      (let s := slotIn 7 .saved true
       let w : Word := 0x4080000000000000
       ¬(s.tile t0).psstat.getLsbD 63 = true ∧ cmdTile w = false ∧
         (maskSlots (cmdCtx w)).any (fun j => !((s.tile t0).ctx j).savable) = true) ∧
      (let s := slotIn 7 .ready false
       let w : Word := 0x8080000000000000
       ¬(s.tile t0).psstat.getLsbD 63 = true ∧ cmdTile w = false ∧
         (maskSlots (cmdCtx w)).any (fun j => !((s.tile t0).savedBit j && ((s.tile t0).ctx j).st == .saved &&
           (s.recWord ⟨0, 0, j⟩ 0).getLsbD 63)) = true) ∧
      (let s := recorded 7
       let w : Word := 0x8080000000000000
       ¬(s.tile t0).psstat.getLsbD 63 = true ∧ cmdTile w = false ∧ maskSlots (cmdCtx w) = [7] ∧ (s.tile t0).savedBit 7 = true ∧
         ((s.tile t0).ctx 7).st = .saved ∧ (s.recWord ⟨0, 0, 7⟩ 0).getLsbD 63 = true ∧ s.recordPoisoned ⟨0, 0, 7⟩ = false ∧
         (s.recWord ⟨0, 0, 7⟩ 0).getLsbD 60 = false ∧ (s.recWord ⟨0, 0, 7⟩ 0).getLsbD 62 = false) ∧
      (cmdTile 0xC080000000000000 = false ∧ cmdSrct 0xC080000000000000 = t0.tile) ∧
      (let s := placed 8 0
       cmdTile 0xC080010000000000 = false ∧
         (maskSlots (cmdCtx 0xC080010000000000)).any (fun j => !s.mayMove t0 (cmdSrct 0xC080010000000000) j) = true) ∧
      (let s := elsewhere
       let w : Word := 0xC080010000000000
       ¬(s.tile t0).psstat.getLsbD 63 = true ∧ cmdTile w = false ∧ cmdSrct w ≠ t0.tile ∧ maskSlots (cmdCtx w) = [7] ∧
         s.mayMove t0 (cmdSrct w) 7 = true) ∧
      (let s := saving (slotIn 7 .running false) 0x80
       let o : SaveOp := ⟨0x4080000000000000, 0x80, 90, none⟩
       (s.tile t0).save = some o ∧ cmdTile o.word = false ∧ maskSlots o.toHalt = [7] ∧
         (s.ctx ⟨0, 0, 7⟩).st = .running) ∧
      (let s := saving (slotIn 7 .ready false) 0x80
       (s.tile t0).save = some ⟨0x4080000000000000, 0x80, 90, none⟩ ∧ (s.ctx ⟨0, 0, 7⟩).st = .ready) ∧
      (let s := saving (slotIn 7 .waiting false) 0x80
       (s.tile t0).save = some ⟨0x4080000000000000, 0x80, 90, none⟩ ∧ (s.ctx ⟨0, 0, 7⟩).st = .waiting) ∧
      (let s := saving (slotIn 7 .saved false) 0
       let o : SaveOp := ⟨0x4080000000000000, 0, 90, none⟩
       (s.tile t0).save = some o ∧ o.toHalt = 0 ∧ cmdTile o.word = false ∧ ((s.tile t0).saveSlots o).all (s.tile t0).quiet = true) := by
  dsimp only; and_intros <;> decide +kernel

/-! ## Droves -/

/-- A drove of the stage of tile 0, in a state and a state of its generations; and an image that no manifest describes. -/
def drove1 (st : DroveState) (g : GenState) (standby : List Segment) : DroveEntry := ⟨true, 0, st, 1, 2, g, false, [], [], [], standby⟩
def droving (st : DroveState) (g : GenState) (standby : List Segment) : State :=
  Node0 task (fun x => { x with booted := true, droves := [drove1 st g standby] })
def hereIs (s : State) (e : DroveEntry) : Prop := s.droveAt 0 0 = some e
def emptied : State := Ctx0 (droving .removing .one []) (fun c => { c with st := .free })
def segment (node : Nat) (hash : List Byte) : Segment := ⟨node, 0, 4, 2, 0x8F0000, hash, [1]⟩
def badImage : DroveImage := ⟨0, [], [], [], 1, [], [], [], []⟩

/-- The manifest of an image of one segment, of another node, its byte at 41 blocks of 64 behind the signature. -/
def manifest1 : List Byte :=
  wordsBytes [0x4C4D415A4E314D46, 0x0001000000000001] ++ List.replicate 32 0 ++ wordsBytes [5, 2625, 0x00100420008F0000, 41 * 2 ^ 32 + 1] ++
    List.replicate 32 0

theorem witness_DrovesComeAndGo :
    ((droving .resident .one []).node 0).booted = true ∧ ((droving .resident .one []).node 0).failed = false ∧
      badImage.manifestGood = false ∧ ((Node0 task (fun x => { x with booted := true })).node 0).drove badImage.drove = none ∧
      (let s := droving .resident .one []
       hereIs s (drove1 .resident .one []) ∧ (drove1 .resident .one []).st = .resident ∧ s.droveTiles 0 0 = [0]) ∧
      (hereIs emptied (drove1 .removing .one []) ∧ emptied.withdrawable 0 (drove1 .removing .one []) = true) ∧
      (hereIs (droving .resident .one []) (drove1 .resident .one []) ∧ (2 : BitVec 4) ≠ (drove1 .resident .one []).act ∧
        (1 : BitVec 4) = (drove1 .resident .one []).act) ∧
      hereIs (droving .resident .failed []) (drove1 .resident .failed []) ∧ (2 : BitVec 4) = (drove1 .resident .failed []).stb ∧
      hereIs (droving .resident .verified []) (drove1 .resident .verified []) ∧
      hereIs (droving .resident .switched []) (drove1 .resident .switched []) ∧
      hereIs (droving .resident .loading []) (drove1 .resident .loading []) ∧
      (wfld (0 : Word) 0 4 ≠ 1 ∧ wfld (0 : Word) 0 4 ≠ 2 ∧ wfld (0 : Word) 0 4 ≠ 4 ∧ wfld (3 : Word) 0 4 ≠ 1 ∧ wfld (3 : Word) 0 4 ≠ 2 ∧
        wfld (3 : Word) 0 4 ≠ 4) ∧
      (let e := drove1 .resident .loading [segment 0 []]
       let s := droving .resident .loading [segment 0 []]
       hereIs s e ∧ e.genReady 0 = true ∧ (s.verify (e.coming 0)).1 = false) ∧
      ((droving .resident .switched []).tagCount 0 0 2 = 0 ∧
        (Ctx0 (droving .resident .switched []) (fun c => { c with gen := 2 })).tagCount 0 0 2 ≠ 0) ∧
      OnItsWay { task with net := [.musterSegmentMsg 0 64 [1]] } (.musterSegmentMsg 0 64 [1]) := by
  unfold OnItsWay hereIs; dsimp only; and_intros <;> decide +kernel

/-- A key of the node, an image of one segment of another node that the key's holder may have signed, one that also binds a host queue to
a tile it does not place, and a node with the key. -/
def key1 : DroveKey := ⟨true, [7]⟩
def image1 : DroveImage := ⟨5, manifest1, sha3 key1.public, [9], 1, [segment 1 (List.replicate 32 0)], [], [], []⟩
def image2 : DroveImage := { image1 with queues := [⟨0, 0, 5, 4, 1, false⟩] }
def keyed : State := Node0 task (fun x => { x with booted := true, keys := x.keys.set 0 key1 })
def checkedBut (im : DroveImage) : Prop :=
  (keyed.node 0).booted = true ∧ (keyed.node 0).failed = false ∧ im.manifestGood = true ∧
    im.tilesSigned ((keyed.node 0).segments im) 0 = true ∧ (keyed.node 0).hasRoom im.drove = true ∧ (keyed.node 0).drove im.drove = none

theorem signed_of_verified (im : DroveImage) (hm : im.manifest = manifest1) (hi : im.keyId = sha3 key1.public) (hs : im.signature = [9])
    (h : Config.mldsaVerify key1.public (sha3 (manifest1 ++ sha3 key1.public)) [9] = true) : (keyed.node 0).signedBy im = true := by
  have hk : key1 ∈ (keyed.node 0).keys.toList := by decide +kernel
  unfold Node.signedBy
  rw [List.any_eq_true]
  refine ⟨key1, hk, ?_⟩
  rw [hm, hi, hs, h]
  simp only [beq_self_eq_true, Bool.and_true]
  decide +kernel

/-- Whether a signature is good is not the model's to say (log entry 8): where the verification holds, the load's other conditions do,
and so do those of a load refused for its placement. -/
theorem witness_DroveLoads (h : Config.mldsaVerify key1.public (sha3 (manifest1 ++ sha3 key1.public)) [9] = true) :
    checkedBut image1 ∧ (keyed.node 0).signedBy image1 = true ∧ keyed.placementCode 0 image1 ((keyed.node 0).segments image1) = 0 ∧
      ((keyed.muster 0 image1).verify (written ((keyed.node 0).segments image1) 0 image1.gen)).1 = true ∧
      checkedBut image2 ∧ (keyed.node 0).signedBy image2 = true ∧
      keyed.placementCode 0 image2 ((keyed.node 0).segments image2) ≠ 0 := by
  refine ⟨?_, signed_of_verified image1 (by simp only [image1]) (by simp only [image1]) (by simp only [image1]) h, ?_, ?_, ?_, signed_of_verified image2 (by simp only [image2, image1])
    (by simp only [image2, image1]) (by simp only [image2, image1]) h, ?_⟩
  · unfold checkedBut; and_intros <;> decide +kernel
  · decide +kernel
  · decide +kernel
  · unfold checkedBut; and_intros <;> decide +kernel
  · decide +kernel

/-! ## The host -/

/-- Host queue 0, enabled with one record of zeros at its head and one credit, bound to input stream 4 of tile 0. -/
def binding1 : QueueBinding := ⟨0, 0, 0, 4, 1, false⟩
def queueing (en : Bool) : State :=
  let s := Node0 (droving .resident .one []) (fun x => { x with queues := [(0, { HostQueue.reset with
    base := 0x1000, cfg := if en then 0x8000000000060000 else 0, tail := 1, binding := some binding1, credits := 1 })] })
  s.hostWrite 0x1000 (List.replicate 64 0)
def asking2 (req : Word) (e : Event) : State := { Tile0 task (fun t => { t with mbreq := req }) with net := [e] }
def outgoing : NetPacket := { (default : NetPacket) with id := 6, dest := ⟨0, 256 + 8192 + 8191⟩, whole := true }
def egressing : State :=
  { Node0 task (fun x => { x with queues := [(16383, { HostQueue.reset with cfg := 0x8000000000060000 })] }) with packets := [outgoing] }

/-- A stage of which stream 4 of tile 0 has one sender, output stream 31 of the same tile; and its repair in progress. -/
def sender1 : CtxRef := ⟨0, 0, 31⟩
def sending (e : Event) (opened : Bool) : State :=
  let i : TileInit := { (default : TileInit) with senders := [(4, 0, 0, 31, 2)] }
  let s := Node0 task (fun x => { x with droves := [{ drove1 .resident .one [] with tiles := [i] }] })
  { Tile0 s (fun t => t.modOut 31 (fun x => { x with opened := if opened then [(0, false)] else [] })) with net := [e] }
def repairing (s : State) : State := Node0 s (fun x => { x with resync := some ⟨0, 4, [], [sender1]⟩ })

/-- The queue with a Ready record of a form: its bytes changed, or its drove's needs beyond the share. -/
def feeding : State := Tile0 (queueing true) (fun t => t.modIn 4 (fun x => { x with d0 := 0x9000000804000240 }))
def lacking : State := Tile0 (queueing true) (fun t => { t.modIn 4 (fun x => { x with d0 := 0x9008000804000240 }) with slots := 8 })
def turnNow (s : State) : Prop :=
  let h := (s.node 0).queue 0
  h.binding = some binding1 ∧ h.ready = true ∧ s.heldRecord 0 0 = false ∧ s.ingressTurn 0 = some 0
def formed (s : State) : Bool :=
  let ws := s.ingressRecord 0 0
  recGood ws && recDrove ws == s.boundDrove 0 binding1 && decide (recElen ws ≤ inBsize ((s.tile t0).inS 4).d0)

theorem witness_HostReachesNodes :
    ((task.node 0).recovery = false ∧ (task.node 0).failed = false) ∧
      ((Node0 task (fun x => { x with rascfg := 1 <<< 63 })).node 0).locked = true ∧
      OnItsWay (asking2 0 (.mailboxAccess t0 0)) (.mailboxAccess t0 0) ∧
      (let s := asking2 0x80000000020080F8 (.mailboxComplete t0)
       FirstMailbox s t0 ∧ (s.tile t0).mbreq.getLsbD 62 = false ∧ barListed (wfld (s.tile t0).mbreq 0 26 / 8 * 8) = true) ∧
      (let s := asking2 0xC000000000000400 (.mailboxComplete t0)
       FirstMailbox s t0 ∧ (s.tile t0).mbreq.getLsbD 62 = true ∧ barListed (wfld (s.tile t0).mbreq 0 26 / 8 * 8) = true ∧
         (s.node 0).locked = false) ∧
      (let s := asking2 0x8000000002008100 (.mailboxComplete t0)
       FirstMailbox s t0 ∧ barListed (wfld (s.tile t0).mbreq 0 26 / 8 * 8) = false) ∧
      (let s := Node0 (asking2 0xC000000000000400 (.mailboxComplete t0)) (fun x => { x with rascfg := 1 <<< 63 })
       FirstMailbox s t0 ∧ (s.tile t0).mbreq.getLsbD 62 = true ∧ (s.node 0).locked = true ∧
         blockLocks (wfld (s.tile t0).mbreq 0 26 / 8 * 8) = true) ∧
      (let h := ((queueing true).node 0).queue 0
       ((64 : Word).setWidth 16 - h.head).toNat ≤ h.entries ∧ h.entries < ((65 : Word).setWidth 16 - h.head).toNat) ∧
      (let h := ((queueing false).node 0).queue 0
       h.en = false ∧ h.binding = some binding1 ∧ (0x8000000000060000 : Word).getLsbD 63 = true ∧
         6 ≤ wfld (0x8000000000060000 : Word) 16 4 ∧ (0x80000000000507FF : Word).getLsbD 63 = true ∧
         wfld (0x80000000000507FF : Word) 16 4 < 6) ∧
      (turnNow feeding ∧ formed feeding = true ∧ (feeding.tile t0).overNeed = false ∧ recElen (feeding.ingressRecord 0 0) = 0) ∧
      (let s := feeding.hostWrite 0x100A [4]
       turnNow s ∧ formed s = true ∧ (s.tile t0).overNeed = false ∧ recInl (s.ingressRecord 0 0) = false ∧
         recElen (s.ingressRecord 0 0) ≠ 0) ∧
      (let s := feeding.hostWrite 0x1008 [1]
       turnNow s ∧ formed s = false) ∧
      (turnNow lacking ∧ formed lacking = true ∧ (lacking.tile t0).overNeed = true) ∧
      (let s := Node0 feeding (fun x => { x with droves := [] })
       let h := (s.node 0).queue 0
       h.en = true ∧ h.tail ≠ h.head ∧ s.heldRecord 0 0 = true) ∧
      (egressing.egressNext 0 8191 = some outgoing ∧ ((egressing.node 0).queue (8192 + 8191)).en = true ∧
        ((egressing.node 0).msixWord (2 * ((egressing.node 0).queue (8192 + 8191)).vec + 1)).getLsbD 32 = true) ∧
      (let s := Node0 egressing (fun x => { x with msixTable := [(1, 0)] })
       s.egressNext 0 8191 = some outgoing ∧ ((s.node 0).msixWord (2 * ((s.node 0).queue (8192 + 8191)).vec + 1)).getLsbD 32 = false) ∧
      ((task.node 0).resync = none ∧ ((repairing task).node 0).resync ≠ none) ∧
      (let s := sending (.holdMsg 0 0 (holdWord 0 4)) false
       OnItsWay s (.holdMsg 0 0 (holdWord 0 4)) ∧ s.heldSenders 0 0 (holdWord 0 4) = [sender1] ∧ sender1.slot < 32 ∧
         s.drained sender1 = true ∧ 0 < unnamedNode) ∧
      (let s := sending (.holdMsg 0 0 (holdWord 0 4)) true
       OnItsWay s (.holdMsg 0 0 (holdWord 0 4)) ∧ s.heldSenders 0 0 (holdWord 0 4) = [sender1] ∧ s.drained sender1 = false) ∧
      (let e := Event.holdAnswerMsg 0 0 (holdWord 0 4) 0
       let s := repairing (sending e false)
       OnItsWay s e ∧ (s.node 0).resync = some ⟨0, 4, [], [sender1]⟩ ∧ holdTile (holdWord 0 4) = 0 ∧ holdStream (holdWord 0 4) = 4 ∧
         s.streamBusy t0 4 = false) ∧
      (let e := Event.holdEndMsg 0 0 (holdWord 0 4) 0x7F
       let s := Tile0 (sending e false) (fun t => t.modOut 31 (fun x => { x with hold := true }))
       OnItsWay s e ∧ s.heldSenders 0 0 (holdWord 0 4) = [sender1] ∧ sender1.tile = wfld (0x7F : Word) 8 8 ∧
         s.holding sender1 = true) := by
  unfold OnItsWay FirstMailbox turnNow; dsimp only; and_intros <;> decide +kernel

/-! ## Links -/

/-- A flit of TYPE 2 with sequence number 0, as it leaves, and one in error. -/
def flit1 : Flit := Flit.sealed ⟨0x2000000000000018, List.replicate 8 0, 0⟩ 0 none false
def badFlit : Flit := { flit1 with trail := ~~~flit1.trail }
def linked (f : Link → Link) (es : List Event) : State := { task.modLink 0 125 f with net := es }
def linkUp (s : State) : Prop :=
  (s.node 0).failed = false ∧ (s.node 0).silent = false ∧ ((s.node 0).link 125).down = false ∧ ((s.node 0).link 125).replaying = false

/-- A remote request for the end of a tile's bytes. -/
def request1 (offset size : Nat) : RemoteReq := ⟨0, 0, offset, size, 1, 0, 0, 0, List.replicate 16 1, 3⟩
/-- The same where node 0's record of its drove's windows grants the whole of tile 0. -/
def granting (e : Event) : State := { Node0 task (fun x => { x with exports := [⟨0, 0xC000000000000000, 0, 0xBFFFFF⟩] }) with net := [e] }
def requesting (e : Event) : State := { task with net := [e] }
def banked1 (s : State) (e : Event) (q : RemoteReq) : State :=
  (arrived s e).markBank ⟨q.home, q.tile⟩ q.offset (2 * (q.srcNode * 65536 + q.id) + 1) (q.size == 128) true
def bars (s : State) (q : RemoteReq) (wr : Bool) : Bool :=
  s.homeBars ⟨q.home, q.tile⟩ (s.tile ⟨q.srcNode, q.srcTile⟩).drove (s.requestLevel q) q.offset q.size wr

theorem witness_MessagesCrossLinks :
    (let s := linked (fun l => { l with credit := [flit1], replay := List.replicate 1023 flit1 }) []
     let l := (s.node 0).link 125
     linkUp s ∧ bundleTo (neighbour 0 125) 0 = some 63 ∧ l.resend = 0 ∧ l.replay.length < 1024 ∧ l.credit = [flit1]) ∧
      (let e := Event.linkFlitReceive 0 125 badFlit
       linkUp (linked id [e]) ∧ OnItsWay (linked id [e]) e ∧ badFlit.good = false) ∧
      (let e := Event.linkFlitReceive 0 125 flit1
       let s := linked id [e]
       linkUp s ∧ OnItsWay s e ∧ flit1.good = true ∧ flit1.ty ≠ 0 ∧ flit1.lseq = ((s.node 0).link 125).rxSeq) ∧
      (let e := Event.linkFlitReceive 0 125 flit1
       let s := linked (fun l => { l with rxSeq := 2047 }) [e]
       let l := (s.node 0).link 125
       linkUp s ∧ OnItsWay s e ∧ flit1.lseq ≠ l.rxSeq ∧ (l.rxSeq + 4096 - flit1.lseq) % 4096 < 2048) ∧
      (OnItsWay (requesting (.creditFlit 0 [0xFFF7F00000000])) (.creditFlit 0 [0xFFF7F00000000]) ∧
        wfld (0xFFF7F00000000 : Word) 52 12 = 0) ∧
      (let s := linked (fun l => { l with owed := 1 }) []
       bundleTo (neighbour 0 125) 0 = some 63 ∧ 0 < ((s.node 0).link 125).owed) ∧
      (let q := request1 0xBFFF80 128
       q.offset + q.size = 0xC00000 ∧ q.size = 128 ∧ (OnItsWay (granting (.remoteLoad q)) (.remoteLoad q) ∧
         bars (granting (.remoteLoad q)) q false = false) ∧ OnItsWay (granting (.remoteStore q)) (.remoteStore q) ∧
         bars (granting (.remoteStore q)) q true = false) ∧
      (let q := request1 0xBFFF81 128
       OnItsWay (requesting (.remoteLoad q)) (.remoteLoad q) ∧ ¬(q.offset + q.size ≤ 0xC00000 ∧ q.size ≤ 128)) ∧
      (let q := request1 0xAEFFF8 8
       let s := granting (.remoteAtom q)
       q.offset % q.size = 0 ∧ bars s q true = false ∧ OnItsWay s (.remoteAtom q) ∧
         ((banked1 s (.remoteAtom q) q).bankAtom ⟨1, 256⟩ t0 q.offset q.size (atomOp (q.sub.setWidth 8 <<< 5)) (reqOperand q 0)
           (q.pmask.getLsbD 0)).isSome = true) ∧
      (let q := request1 0xAEFFF8 4
       let s := granting (.remoteAtomCas q)
       bars s q true = false ∧ OnItsWay s (.remoteAtomCas q) ∧ ((banked1 s (.remoteAtomCas q) q).bankAtom ⟨1, 256⟩ t0 q.offset q.size
         (.cas (BitVec.ofNat 64 (reqOperand q 0))) (reqOperand q 1) (q.pmask.getLsbD 0)).isSome = true) ∧
      (let q := request1 0xAEFFFC 4
       let s := granting (.remoteRed q)
       bars s q true = false ∧ OnItsWay s (.remoteRed q) ∧ ((banked1 s (.remoteRed q) q).bankAtom ⟨1, 256⟩ t0 q.offset q.size
         (atomOp (q.sub.setWidth 8 <<< 5)) (reqOperand q 0) (q.pmask.getLsbD 0)).isSome = true) ∧
      (let q := request1 0xAEFFFC 8
       OnItsWay (requesting (.remoteAtom q)) (.remoteAtom q) ∧ q.offset % q.size ≠ 0) ∧
      (let q := request1 0xAEFFF8 8
       OnItsWay (requesting (.remoteStore q)) (.remoteStore q) ∧ bars (requesting (.remoteStore q)) q true = true) ∧
      OnItsWay (requesting (.remoteUnknownOperation (request1 0 1))) (.remoteUnknownOperation (request1 0 1)) ∧
      (let a : RemoteResp := ⟨0, 0, 0, 0, List.replicate 8 1, 3⟩
       let s := Node0 (requesting (.remoteResponse a)) (fun x => { x with requests := [(3, (c0, 7))] })
       OnItsWay s (.remoteResponse a) ∧ (s.node 0).requests.find? (fun y => y.1 == 3) = some (3, c0, 7) ∧
         (s.tile t0).copies.all (fun j => j.id != 7) = true) ∧
      OnItsWay (requesting (.tickExchangeMsg 0 9)) (.tickExchangeMsg 0 9) ∧
      OnItsWay (requesting (.membershipUpdateMsg 0 63 7)) (.membershipUpdateMsg 0 63 7) ∧
      OnItsWay (requesting (.movePointMsg 0 0x1FFF)) (.movePointMsg 0 0x1FFF) := by
  unfold linkUp OnItsWay; dsimp only; and_intros <;> decide +kernel

/-! ## Errors, power, failure -/

/-- A unit of tile 0's SRAM and its record: suspect since tick 0, with a RETD of one day and a THRESH of two. -/
def unit0 : RasUnit := ⟨0, 0, 0⟩
def unitIn (st : UnitState) (tick : Nat) : State :=
  Node0 task (fun x => { x with rascfg := 0x01010002, units := [⟨unit0, st, [0], 0⟩], tick := BitVec.ofNat 56 tick })
/-- One crossing is one error. -/
def strict (s : State) : State := Node0 s (fun x => { x with rascfg := 0x01010001 })
def coming2 (e : Event) : State := { task with net := [e] }
def locked1 : State := Node0 task (fun x => { x with rascfg := 1 <<< 63 })
/-- Node 0 with a drove and no task, failed or not, and node 1 a spare. -/
def leaving (failed : Bool) : State :=
  { (Node0 emptied (fun x => { x with failed := failed })).modNode 1 (fun x => { x with booted := true }) with net := [.transhumance 0 1] }

theorem witness_NodesFailAndRecover :
    (let q := ((unitIn .good 0).node 0).unitRec unit0
     q.st = .good ∧ q.buckets = [0] ∧ 1 < ((unitIn .good 0).node 0).thresh ∧ unit0.cls = 0) ∧
      (let x := (strict (unitIn .good 0)).node 0
       (x.unitRec unit0).st = .good ∧ (x.unitRec unit0).buckets = [0] ∧ x.thresh = 1) ∧
      (let x := (strict (unitIn .suspect (ticksPerDay - 1))).node 0
       unit0.cls = 0 ∧ (x.unitRec unit0).st = .suspect ∧ (x.unitRec unit0).buckets = [0] ∧ x.thresh = 1 ∧
         x.served - (x.unitRec unit0).crossed < x.retd * ticksPerDay ∧ x.units.all (fun y => y.st != .retired) = true ∧ x.replaced = []) ∧
      (let x := (unitIn .suspect ticksPerDay).node 0
       (x.unitRec unit0).st = .suspect ∧ x.retd * ticksPerDay ≤ x.served - (x.unitRec unit0).crossed) ∧
      (let x := (unitIn .suspect (ticksPerDay - 1)).node 0
       x.served - (x.unitRec unit0).crossed < x.retd * ticksPerDay) ∧
      OnItsWay (coming2 (.counterHourBucket 0)) (.counterHourBucket 0) ∧
      OnItsWay (coming2 (.bankRetirement t0 191)) (.bankRetirement t0 191) ∧
      (let s := (coming2 (.tileCoreRetirement ⟨0, 255⟩)).writeWord .sram ⟨0, 255⟩ saveBase (1 <<< 63)
       OnItsWay s (.tileCoreRetirement ⟨0, 255⟩) ∧ s.tileSaved ⟨0, 255⟩ = true ∧ (s.node 0).ftile.getLsbD (255 / 16) = true) ∧
      (task.tileSaved t0 = false ∧ task.tileSaved ⟨0, 255⟩ = false) ∧
      (let s := (coming2 (.laneRetirement 0 1022)).modLink 0 125 (fun l => { l with replaying := true })
       OnItsWay s (.laneRetirement 0 1022) ∧ (s.node 0).laneBundle 1022 = some 125 ∧ s.replays 0 125 = true) ∧
      (let s := task.modLink 0 125 (fun l => { l with replaying := true })
       (s.node 0).laneBundle 1022 = some 125 ∧ ((s.node 0).link 125).replaying = true) ∧
      (bundleTo (neighbour 0 125) 0 = some 63 ∧ OnItsWay (coming2 (.bundleDown 0 125)) (.bundleDown 0 125)) ∧
      ((task.node 0).locked = false ∧ (task.node 0).recovery = false ∧ (task.node 0).failed = false ∧ (locked1.node 0).locked = true) ∧
      ((task.node 0).booted = false ∧ (task.node 0).recovery = false ∧
        ((Node0 task (fun x => { x with recovery := true })).node 0).recovery = true) ∧
      ((Node0 task (fun x => { x with attReq := true })).node 0).attReq = true ∧
      ((leaving true).isSpare 0 1 = true ∧ ((leaving true).node 0).droves.any (fun e => e.valid) = true ∧
        ((leaving true).node 0).failed = true) ∧
      ((leaving false).isSpare 0 1 = true ∧ ((leaving false).node 0).droves.any (fun e => e.valid) = true ∧
        ((leaving false).node 0).failed = false ∧ OnItsWay (leaving false) (.transhumance 0 1) ∧ (leaving false).mayLeave 0 = true) := by
  unfold OnItsWay; dsimp only; and_intros <;> decide +kernel

/-- Whether the ROM accepts an image depends on its signature and on the fuses (log entry 8): either way one clause of the boot is met. -/
theorem witness_Boots (im : FirmwareImage) : firmwareGood 0 im = true ∨ firmwareGood 0 im = false := by
  cases firmwareGood 0 im <;> simp

/-! ## The machine -/

/-- The task while a bundle is checked, and while its operations execute. -/
def probing : State := { task with issue := { task.issue with mode := .probe } }
def committing : State := { task with issue := { task.issue with mode := .commit } }

theorem witness_SquashedOperations :
    (guardOf (.movi ⟨false, 1⟩ (.reg 1) 5) = some ⟨false, 1⟩ ∧ task.cur.guard ⟨false, 1⟩ = false) ∧
      (guardOf (.movi ⟨true, 0⟩ (.reg 1) 5) = some ⟨true, 0⟩ ∧ probing.cur.guard ⟨true, 0⟩ = false) := by
  and_intros <;> decide +kernel

theorem witness_ChecksChangeNothing : guardOf (.fence always .t) = some always ∧ probing.issue.mode = .probe := by
  and_intros <;> decide +kernel

theorem witness_RegisterOperationsKeepState :
    registerOnly (.movi always (.reg 1) 5) = true ∧ committing.issue.mode = .commit ∧ committing.slot < 8 ∧
      ∃ t, exec (.movi always (.reg 1) 5) committing = .next t := by
  refine ⟨by decide +kernel, by decide +kernel, by decide +kernel, ?_⟩
  exact ⟨_, rfl⟩

theorem witness_ResetState : (⟨4095, 255, 7⟩ : CtxRef).slot < 8 ∧ (0 : Nat) < 7 ∧ (7 : Nat) < 8 ∧ (31 : Nat) < 32 ∧ (15 : Nat) < 16 := by
  decide

/-- What the check and the execution of one operation at a task's bundle come to. -/
def checkOf (s : State) (sl : Slot) (x : BitVec 32) (i : Instr) : Option (State × Nat × Bool) :=
  let w := (s.atCycle t0).settled t0 0
  let word := fun (n : Nat) => if n = slotIdx sl then x else 0
  match exec i { w with
    focus := t0
    issue := { Issue.idle with mode := .probe, words := #v[word 0, word 1, word 2, word 3], ops := [(sl, i)] } } with
  | .next q => some (q, q.issue.fails.length, q.issue.stay)
  | _ => none
/-- Whether the operation then executes to a next state. -/
def completes (s : State) (sl : Slot) (x : BitVec 32) (i : Instr) : Bool :=
  let w := (s.atCycle t0).settled t0 0
  let word := fun (n : Nat) => if n = slotIdx sl then x else 0
  match exec i { w with
    focus := t0
    issue := { Issue.idle with mode := .commit, words := #v[word 0, word 1, word 2, word 3], ops := [(sl, i)] } } with
  | .next _ => true
  | _ => false
def checks (s : State) (sl : Slot) (x : BitVec 32) (i : Instr) : Option (Nat × Bool) := (checkOf s sl x i).map (fun q => q.2)

/-- Whether the bundle reads a cell of bad parity. -/
def badAt (s : State) (sl : Slot) (x : BitVec 32) (i : Instr) : Bool :=
  let w := (s.atCycle t0).settled t0 0
  let word := fun (n : Nat) => if n = slotIdx sl then x else 0
  (State.badRead exec { w with
    focus := t0
    issue := { Issue.idle with mode := .probe, words := #v[word 0, word 1, word 2, word 3], ops := [(sl, i)] } }).isSome

/-- A task at the word of an operation of a slot, at wall cycle 100 and so at tick 6. -/
def fetchingAt (s : State) (sl : Slot) (x : Nat) : State :=
  (Node0 s (fun x => { x with tick := 6 })).writeBytes .imem t0 80 ((List.range 16).map (fun i => BitVec.ofNat 8 (x * 2 ^ (32 * slotIdx sl) / 256 ^ i)))
def blockedTask : State := Tile0 (streaming 0) (fun t => t.modOut 4 (fun x => { x with free := 0 }))
def reaches (s : State) : Prop :=
  s.focus = t0 ∧ s.agenda = [] ∧ s.auto = none ∧ (s.node 0).failed = false ∧ (s.atCycle t0).reachesChecks t0 0

theorem witness_StepRunsInstruction :
    (let s := fetchingAt task .a 0x44010005
     let w := (s.atCycle t0).settled t0 0
     reaches s ∧ (∀ n, n < 4 → w.imemWord t0 5 n = if n = 0 then 0x44010005 else 0) ∧
       decodeWord .a 0x44010005 = .ok (.movi always (.reg 1) 5) ∧ checks s .a 0x44010005 (.movi always (.reg 1) 5) = some (0, false) ∧
       badAt s .a 0x44010005 (.movi always (.reg 1) 5) = false ∧
       completes s .a 0x44010005 (.movi always (.reg 1) 5) = true) ∧
      (let i := Instr.sopen always 4
       let s := fetchingAt blockedTask .m (((i.encode).map (fun e => e.2.toNat)).getD 0)
       reaches s ∧ (((i.encode).map (fun e => (decodeWord .m e.2).toOption)).getD none) = some i ∧
         checks s .m (((i.encode).map (fun e => e.2)).getD 0) i = some (0, true)) ∧
      (let i := Instr.tret always
       let s := fetchingAt task .a (((i.encode).map (fun e => e.2.toNat)).getD 0)
       reaches s ∧ (((i.encode).map (fun e => (decodeWord .a e.2).toOption)).getD none) = some i ∧
         checks s .a (((i.encode).map (fun e => e.2)).getD 0) i = some (1, false)) ∧
      (let s := fetchingAt (Ctx0 task (fun c => { c with bad := [.reg .a 1] })) .a (((Instr.mov always (.reg 2) (.reg 1)).encode.map
         (fun e => e.2.toNat)).getD 0)
       reaches s ∧ badAt s .a (((Instr.mov always (.reg 2) (.reg 1)).encode.map (fun e => e.2)).getD 0) (.mov always (.reg 2) (.reg 1)) = true) ∧
      (let s : State := { task with agenda := [.pastureTick 0, .movi always (.reg 1) 5] }
       s.agenda = .pastureTick 0 :: [.movi always (.reg 1) 5] ∧ (Instr.pastureTick 0).isSlotOp = false ∧
         (Instr.pastureTick 0).wf = true ∧ (match exec (.pastureTick 0) { s with agenda := [.movi always (.reg 1) 5], issue := Issue.idle } with
           | .next t => t.issue.mode != .probe
           | _ => false) = true ∧ (Instr.movi always (.reg 1) 5).isSlotOp = true) := by
  unfold reaches State.reachesChecks State.atBundle; dsimp only; and_intros <;> decide +kernel

theorem witness_EncodedInstructionsDecode :
    (Instr.movi ⟨true, 7⟩ (.reg 31) 0xFFFF).wf = true ∧ (Instr.movi ⟨true, 7⟩ (.reg 31) 0xFFFF).isSlotOp = true := by decide +kernel

theorem witness_DecodedWordsEncode :
    decodeWord .a 0b010001_1_111_011111_1111111111111111#32 = .ok (.movi ⟨true, 7⟩ (.reg 31) 0xFFFF) := by decide +kernel

theorem witness_MemoryStaysCanonical :
    Memory.wf (fetching 0x44010005).mem = true ∧ Memory.wf (fetching 0x44010005).hostMem = true ∧
      (match step (fetching 0x44010005) with | .next _ => true | _ => false) = true := by
  and_intros <;> decide +kernel

/-- The last node, the ends of its bundles and of its lanes. -/
theorem witness_BundlesAndLanes :
    ((63 : Nat) < 64 ∧ (62 : Nat) < 63 ∧ (63 : Nat) ≤ 63 ∧ (125 : Nat) < 126 ∧ neighbour 4095 62 = 4094 ∧ neighbour 4095 63 = 63 ∧
        neighbour 4095 125 = 4031) ∧
      (1007 < 1008 ∧ usedBundle (64 * (1007 / 63) + 1007 % 63) = some 125 ∧ usedBundle (64 * 15 + 63) = none) ∧
      (OnItsWay (coming2 (.laneRetirement 0 1023)) (.laneRetirement 0 1023) ∧ (task.node 0).laneBundle 1023 = none) := by
  unfold OnItsWay; decide +kernel

/-! ## The clauses stated beside the first ones -/

/-- Link 4,095 outside the stack; a count past the last; no loop register free. -/
def calling : State := Ctx0 atEnd (fun c => { c with sbase := 64, slim := 16 })
def looping : State := withA (Ctx0 task (fun c => { c with lc := Vector.replicate 4 (1 <<< 63) })) 1 65536

theorem witness_CallsAndLoopsTrap :
    (let s := calling
     let here : Word := s.cur.pc.setWidth 64
     s.issue.mode = .direct ∧ s.cur.guard always = true ∧ s.cur.poisonRd = false ∧ (here + (1 : BitVec 16).signExtend 64).toNat ≤ 4095 ∧
       ¬StackOk s (.reg 31) (here + 1) ∧ 4095 < (here + (2 : BitVec 16).signExtend 64).toNat) ∧
      4095 < atEnd.cur.pc.toNat + 1 + (1 : BitVec 12).toNat ∧
      (let s := looping
       s.issue.mode = .direct ∧ s.cur.guard always = true ∧ s.cur.poisonRd = false ∧ s.cur.pc.toNat + 1 + (0 : BitVec 12).toNat ≤ 4095 ∧
         65535 < (s.cur.srcA (.reg 1)).toInt ∧ (0 : Int) < (1 : BitVec 10).toNat ∧ ((1 : BitVec 10).toNat : Int) ≤ 65535 ∧
         ∀ k, k < 4 → (s.cur.loopReg k).getLsbD 63 = true) := by
  unfold StackOk; decide +kernel

/-- A frame with every latch entry valid and 20 records, of which record 19 is one to issue again, or one to land. -/
def framed (kind : Nat) : State :=
  (chief.writeWord .spill t0 (chief.here.frameOff 0 0) 0x0000140CFFFF0000).writeWord .spill t0 (chief.here.frameOff 0 (0xC0 + 16 * 19))
    (BitVec.ofNat 64 (kind * 2 ^ 60))
/-- A deferred record with a further item, with the interrupted level 0 and a handler of its group there. -/
def deferring2 : State := chief.writeWord .spill t0 (chief.here.frameOff 0 0) (1 <<< 52 ||| 1 <<< 8)

theorem witness_FramesAreRestored :
    (∀ k ∈ [1, 3], let s := framed k
      Runs s always false (s.cur.level ≠ 0) ∧ s.me.slot < 8 ∧ (s.frameWord s.me 0).getLsbD 52 = false ∧
        wfld (s.frameWord s.me 0) 40 8 = 20 ∧ (s.frameWord s.me 0).getLsbD 16 = true ∧
        [3, 5, 6].contains (wfld (s.frameWord s.me (0xC0 + 16 * 19)) 60 4) = decide (k = 3)) ∧
      (let s := deferring2
       Runs s always false (s.cur.level ≠ 0) ∧ s.me.slot < 8 ∧ (s.frameWord s.me 0).getLsbD 52 = true ∧ Memory.wf s.mem = true ∧
         0 < wfld (s.frameWord s.me 0) 8 8) ∧
      (deferring.me.slot < 8 ∧ wfld (deferring.frameWord deferring.me 0) 8 8 = 0 ∧ Memory.wf deferring.mem = true) := by
  unfold Runs; decide +kernel

theorem witness_PacketsEnd :
    task.cur.cur.find? (fun e => e.1 == 4) = none ∧
      (let s := streaming 0
       s.slot < 8 ∧ s.cur.cur.find? (fun e => e.1 == 4) = some (4, 0) ∧ 0 < (s.here.inS 4).bufs.length ∧
         ((s.here.inS 4).buf 0).sender.node = s.focus.node ∧ ((s.here.inS 4).buf 0).sender.tile < 256) := by
  decide +kernel

theorem witness_PacketsOpen :
    (streaming 0).slot < 8 ∧ Memory.wf (streaming 0).mem = true ∧ (streaming 0).cur.openBuf 4 = none ∧ building.slot < 8 ∧
      building.cur.openBuf 4 = some 0 := by
  decide +kernel

/-- The engine at work for another task, or for one whose set is Ready too. -/
def engine (o : ActiveOp) (q : ShadowState) : State := Tile0 task (fun t => { t with op := some o, shadowSt := q })
def opOf (slot : Nat) (err : BitVec 4) : ActiveOp := { (default : ActiveOp) with slot := slot, finish := 101, err := err }

theorem witness_EngineAborts :
    (let o := opOf 0 0
     let s := engine o (.ready 0 0 0)
     s.here.op = some o ∧ o.slot = s.slot ∧ o.serial = s.cur.serial ∧ o.err = 0 ∧ s.here.shadowSt.mine s.slot s.cur.serial = true) ∧
      (let o := opOf 0 1
       let s := engine o .free
       s.here.op = some o ∧ ¬((o.slot = s.slot ∧ o.serial = s.cur.serial) ∧ o.err = 0)) ∧
      (let o := opOf 1 0
       let s := engine o (.filling 1)
       s.here.op = some o ∧ ¬((o.slot = s.slot ∧ o.serial = s.cur.serial) ∧ o.err = 0) ∧
         s.here.shadowSt.mine s.slot s.cur.serial = false) ∧
      task.here.op = none := by
  decide +kernel

/-- The word in e2 of a fork that joins, or begins a tree; every tree number of tile 0 live. -/
def forking (w : Word) (jcnt : Nat) : State := Ctx0 (withE task 2 w) (fun c => { c with jcnt := jcnt })
def crowd : List DequeEntry := (List.range 4096).map (fun i => ⟨0, 0, BitVec.ofNat 64 (i * 2 ^ 32), 0, 0, 0, 0, 0⟩)
def crowded : State := Node0 (withE task 2 0x20000) (fun x => { x with tiles := x.tiles ++ [(1, { Tile.reset with deque := crowd })] })

theorem crowded_live (i : Nat) (hi : i < 4096) : crowded.treeLive 0 (treeId t0 i) = true := by
  have h1 : (1, ({ Tile.reset with deque := crowd } : Tile)) ∈ (crowded.node 0).tiles := List.mem_append_right _ (List.mem_singleton.2 rfl)
  have h2 : (⟨0, 0, BitVec.ofNat 64 (i * 2 ^ 32), 0, 0, 0, 0, 0⟩ : DequeEntry) ∈ crowd := List.mem_map.2 ⟨i, List.mem_range.2 hi, rfl⟩
  have h3 : (dqTree (BitVec.ofNat 64 (i * 2 ^ 32)) == treeId t0 i) = true := by
    rw [beq_iff_eq]; apply BitVec.eq_of_toNat_eq
    simp only [dqTree, wfld, fld, treeId, BitVec.toNat_ofNat, Nat.shiftRight_eq_div_pow]; omega
  unfold State.treeLive
  rw [Bool.or_eq_true, List.any_eq_true]
  refine .inl ⟨_, h1, ?_⟩
  rw [Bool.or_eq_true, List.any_eq_true (l := crowd)]
  exact .inr ⟨_, h2, h3⟩

theorem crowded_full : crowded.nextTree crowded.focus = none := by
  unfold State.nextTree
  rw [Option.map_eq_none_iff, List.find?_eq_none]
  intro i hi
  have h := crowded_live (((crowded.tile crowded.focus).lastTree.toNat + 1 + i) % 4096) (Nat.mod_lt _ (by omega))
  have e : treeId crowded.focus ((crowded.tile crowded.focus).lastTree.toNat + 1 + i) =
      treeId t0 (((crowded.tile crowded.focus).lastTree.toNat + 1 + i) % 4096) := by
    unfold treeId; rw [Nat.mod_mod]; rfl
  have f : crowded.focus.node = 0 := rfl
  rw [e, f, h]; decide

theorem witness_ForksAnswerZero :
    (let s := forking 0x10000 65535
     s.here.needFits (forkEntry (s.cur.srcE (.reg 2))) = true ∧ (s.cur.srcE (.reg 2)).getLsbD 16 = true ∧ 65535 ≤ s.cur.jcnt) ∧
      (let s := forking 0x30000 65534
       s.here.needFits (forkEntry (s.cur.srcE (.reg 2))) = true ∧ s.here.deque.length < 64 ∧ (s.cur.srcE (.reg 2)).getLsbD 16 = true ∧
         s.cur.jcnt < 65535 ∧ (s.cur.srcE (.reg 2)).getLsbD 17 = true ∧ (s.nextTree s.focus).isSome = true ∧ s.slot < 8) ∧
      (crowded.here.needFits (forkEntry (crowded.cur.srcE (.reg 2))) = true ∧ (crowded.cur.srcE (.reg 2)).getLsbD 17 = true ∧
        crowded.nextTree crowded.focus = none) ∧
      (placed 8 0).here.needFits 0 = false := by
  refine ⟨by decide +kernel, by decide +kernel, ⟨by decide +kernel, by decide +kernel, crowded_full⟩, by decide +kernel⟩

theorem witness_ReleasesAndQueries :
    (let s := owning .s true
     Runs s always false True ∧ (s.cur.locks.filter (fun e => !e.pending || s.cur.granted.contains e.name)) = []) ∧
      (let s := owning .s false
       (s.cur.locks.filter (fun e => !e.pending || s.cur.granted.contains e.name)).map (fun e => e.name) = [lock1]) ∧
      (let s := withE task 4 lock1
       let m := fun (n : Nat) => (⟨n, .is, s.me, lock1, 0, 0, 0⟩ : CrookMsg)
       s.hasHome s.me (m (wfld (s.cur.srcE (.reg 4)) 40 12)) = true ∧ s.hasHome s.me (m 4095) = false) := by
  unfold Runs; decide +kernel

/-- The notice ring of the stage with a number of entries not yet taken. -/
def ringed (used : Word) : State := handling.writeWord .sram t0 (saveBase + 0x1C08) used
def ringUsed (s : State) : Nat :=
  let o : TileRef := ⟨0, (s.tile t0).origin⟩
  (wfld (s.readWord .sram o (saveBase + 0x1C08)) 0 32 + 2 ^ 32 - wfld (s.readWord .sram o (saveBase + 0x1C00)) 0 32) % 2 ^ 32

theorem witness_DoubleTraps :
    (((ringed 63).ctx c0).tf = true ∧ Memory.wf (ringed 63).mem = true ∧ ringUsed (ringed 63) < 64) ∧
      (((ringed 64).ctx c0).tf = true ∧ Memory.wf (ringed 64).mem = true ∧ ringUsed (ringed 64) = 64) := by
  decide +kernel

theorem witness_LinesAndFaults :
    OnItsWay { task with net := [.interruptPending t0 15] } (.interruptPending t0 15) ∧ ¬OnItsWay task (.interruptPending t0 0) ∧
      (let s := entering [awaited] 16474
       (s.ctx c0).landings = [awaited] ∧ 90 + 16384 ≤ (s.tile t0).wall) := by
  unfold OnItsWay; decide +kernel

/-- A node that passes a packet of the stream of `closingAway` on. -/
def awayPart (s : State) : Nat :=
  let h0 := s.readWord .port t0 ((s.tile t0).outS 4 |>.place 0)
  let h1 := s.readWord .port t0 (((s.tile t0).outS 4).place 0 + 8)
  let wire := encodePayload (hdrEnc h1) (s.readBytes .port t0 (((s.tile t0).outS 4).place 0 + 16) (hdrElen h1))
  let bytes := wordBytes h0 ++ wordBytes (sealHeader h0 h1 wire.length) ++ wire
  ((messageFlits 1 1 (outTile ((s.tile t0).outS 4).d0) (hdrStream h0) (bytes.take 64) (bytes.drop 64)).head?.map flitPart).getD 0
def relayingAway : State := Node0 closingAway (fun x => x.setPart relayKey (awayPart closingAway) [{ (default : Flit) with ctl := 7 }])

theorem witness_PacketsFollowRelayed :
    (closingAway.node 0).relaying (awayPart closingAway) = none ∧
      (startsNow relayingAway 4 0 ∧ outNode ((relayingAway.tile t0).outS 4).d0 = 1 ∧ (routeBundle relayingAway 0 1).isSome = true ∧
        (relayingAway.node 0).relaying (awayPart relayingAway) ≠ none) := by
  unfold startsNow; decide +kernel

/-- Sequence 5 tied to tree 5, its one record in its bucket. -/
def tied : State :=
  let s := (folded stResident).setFoldRec 0 (seqBucket 5) (seqRecord false true 5 15)
  { s.setFoldRec 0 (seqBucket 5 + 8) (BitVec.ofNat 64 (5 * 2 ^ 32 + wfld (s.foldRec 0 (seqBucket 5 + 8)) 0 32)) with net := [.treeCancel 0 5] }

theorem witness_TreesGoWhole :
    ((task.node 0).answers = true ∧ ((Node0 task (fun x => { x with recovery := true })).node 0).answers = false) ∧
      ¬OnItsWay task (.treeCancel 0 0) ∧
      (let s := tied
       let u := s.haltTree 0 5
       OnItsWay s (.treeCancel 0 5) ∧ u.treeQuiet 0 5 = true ∧ 5 ∈ u.tiedSeqs 0 5 ∧ Memory.wf u.mem = true ∧ (s.node 0).fold.isSome = true ∧
         (((List.range 8).map (fun i => seqBucket 5 + 16 * i)).filter (fun o =>
           (u.foldRec 0 o).getLsbD 63 && wfld (u.foldRec 0 o) 39 22 == 5)).length ≤ 1) ∧
      (let s := Ctx0 (owning .s false) (fun c => { c with queue := [storeEntry, loadEntry true] })
       (s.ctx c0).grants ≠ [] ∧ storeEntry ∈ (s.ctx c0).queue ∧ storeEntry.op.writes = true) := by
  unfold OnItsWay; decide +kernel

/-- An atomic that returns its value to a landing, and tile 1's write of bytes that a barrier of tile 0 watches one of. -/
def fetchingOld : State :=
  let e : QEntry := ⟨7, some 5, 3, true, true, true, .atom true .add (unit1 []) 5, 0⟩
  Ctx0 (queued e) (fun c => { c with landings := [{ (default : Landing) with id := 7, kind := .atom 8 }] })
def watched : State :=
  Tile0 task (fun t => { t with barriers := t.barriers.set 31 ⟨1, false, 0x8000000000000000 + BitVec.ofNat 64 (0xAEFFFF * 2 ^ 24 + 0xAEFFFF)⟩ })

theorem witness_AtomicsLandAndBarriersCount :
    (let s := fetchingOld
     let e : QEntry := ⟨7, some 5, 3, true, true, true, .atom true .add (unit1 []) 5, 0⟩
     mineIs s e (unit1 []) ∧ c0.slot < 8 ∧ (s.ctx c0).landings.map (fun l => (l.id, l.got.length)) = [(7, 0)]) ∧
      (Memory.wf watched.mem = true ∧ (watched.bankWrite ⟨0, 1⟩ t0 0xAEFFF8 (List.replicate 8 0) false).isSome = true ∧
        (watched.tile t0).pending = [] ∧ ((watched.tile t0).barrier 31).cfg.getLsbD 63 = true ∧
        ((watched.tile t0).barrier 31).cfg.getLsbD 24 = true) := by
  unfold mineIs; decide +kernel

/-- A status of the lock for the task, whose lock set holds the lock or a pending entry of it. -/
def answering (stat : Word) (pending : Bool) : State :=
  Ctx0 (asked (homing (.crookStatusMsg (lockMsg .x stat)) [] []) true) (fun c => { c with locks := [⟨lock1, .s, pending⟩] })
abbrev lock2 : Word := 0x1FFFFFFFE

def statusNow (stat : Word) (p : Bool) : Prop :=
  let m := lockMsg .x stat
  let s := answering stat p
  OnItsWay s (.crookStatusMsg m) ∧ m.ctx.slot < 8 ∧ (s.ctx c0).landings.all (fun l => l.kind != .lockTry lock1) = true ∧
    (s.ctx c0).wait = .lock lock1 (.reg 15) ∧ mineNow s m (s.ctx c0).waitSeq ∧ (s.ctx c0).lockEntry lock1 = some ⟨lock1, .s, p⟩ ∧
    (s.ctx c0).st ≠ .saved

theorem witness_StatusesAndWounds :
    (statusNow 0x0A00000000000000 false ∧ statusNow 0x1E00000000000000 true ∧ statusNow 0x1200000000000000 false ∧
        statusNow 0x4E00000000000000 true ∧ statusNow 0x4E00000000000000 false) ∧
      (let s := Ctx0 (homing (.woundDelivery c0 lock1) [] []) (fun c => { c with st := .waiting, wait := .lock lock2 (.reg 15) })
       OnItsWay s (.woundDelivery c0 lock1) ∧ (s.ctx c0).st = .waiting ∧ (s.ctx c0).locks ≠ [] ∧ (s.ctx c0).wait = .lock lock2 (.reg 15)) ∧
      (let s := Tile0 (lateWound 100) (fun t => { t with wall := 5100 })
       (s.ctx c0).woundLate (s.tile t0).wall = true ∧ (s.ctx c0).grants = [lock1]) ∧
      (let s := Ctx0 (Tile0 (lateWound 100) (fun t => { t with wall := 5100 })) (fun c => { c with locks := [⟨lock1, .s, true⟩] })
       (s.ctx c0).woundLate (s.tile t0).wall = true ∧ (s.ctx c0).grants = []) ∧
      (let s := homing (.crookUe 0 lock1) [claim 1 .s] [claim 2 .x]
       ∀ q ∈ ((s.node 0).lockObj lock1).holders ++ ((s.node 0).lockObj lock1).queue, q.ctx.node = 0) := by
  unfold statusNow OnItsWay mineNow; dsimp only; and_intros <;> decide +kernel

/-- A save that halts slot 7 alone; the slot's context in an ordinary state, wounded, or under a live frame. -/
def halting (f : Ctx → Ctx) : State := saving ((slotIn 7 .running false).modCtx ⟨0, 0, 7⟩ f) 0x80
def haltsSlot7 (s : State) : Prop :=
  (s.tile t0).save = some ⟨0x4080000000000000, 0x80, 90, none⟩ ∧ maskSlots 0x80 = [7] ∧ Memory.wf s.mem = true

theorem witness_HaltsAndMoves :
    (((Node0 task (fun x => { x with recovery := true })).node 0).answers = false ∧ ((saving task 0).node 0).answers = true ∧
        ((slotIn 7 .ready false).node 0).answers = true ∧ (elsewhere.node 0).answers = true) ∧
      (haltsSlot7 (halting id) ∧ ((halting id).ctx ⟨0, 0, 7⟩).tf = false ∧ ((halting id).ctx ⟨0, 0, 7⟩).resume = none ∧
        ((halting id).ctx ⟨0, 0, 7⟩).wound = none) ∧
      (let s := halting (fun c => { c with wound := some lock1 })
       haltsSlot7 s ∧ (s.ctx ⟨0, 0, 7⟩).wound.isSome = true) ∧
      (let s := halting (fun c => { c with xstat := 0x80 })
       haltsSlot7 s ∧ (s.ctx ⟨0, 0, 7⟩).tf = true) ∧
      (let w : Word := 0xC080010000000000
       cmdSrct w ≠ t0.tile ∧ 7 < (elsewhere.tile ⟨0, cmdSrct w⟩).nsl ∧ Memory.wf elsewhere.mem = true) := by
  unfold haltsSlot7; and_intros <;> decide +kernel

/-- An image of one segment of node 0 whose bytes are not those that were hashed. -/
def manifest3 : List Byte :=
  wordsBytes [0x4C4D415A4E314D46, 0x0001000000000001] ++ List.replicate 32 0 ++ wordsBytes [5, 2625, 0x00000420008F0000, 41 * 2 ^ 32 + 1] ++
    List.replicate 32 0
def image3 : DroveImage := { image1 with manifest := manifest3, gen := 2, segments := [segment 0 (List.replicate 32 0)] }
/-- An image that places tile 0, with a segment of a kind written last. -/
def image4 (kind : Nat) : DroveImage :=
  { image1 with tiles := [(default : TileInit)], segments := [segment 0 [], ⟨0, 0, kind, 2, 0x10, [], [1, 2, 3]⟩] }

/-- The like of `witness_DroveLoads` for a load whose segments are not read back. -/
theorem witness_DroveReadsBack (h : Config.mldsaVerify key1.public (sha3 (manifest3 ++ sha3 key1.public)) [9] = true) :
    checkedBut image3 ∧ (keyed.node 0).signedBy image3 = true ∧ keyed.placementCode 0 image3 ((keyed.node 0).segments image3) = 0 ∧
      ((keyed.muster 0 image3).verify (written ((keyed.node 0).segments image3) 0 image3.gen)).1 = false := by
  refine ⟨by unfold checkedBut; decide +kernel, ?_, by decide +kernel, by decide +kernel⟩
  have hk : key1 ∈ (keyed.node 0).keys.toList := by decide +kernel
  unfold Node.signedBy
  rw [List.any_eq_true]
  refine ⟨key1, hk, ?_⟩
  have e : image3.manifest = manifest3 ∧ image3.keyId = sha3 key1.public ∧ image3.signature = [9] := 
    ⟨by simp only [image3], by simp only [image3, image1], by simp only [image3, image1]⟩
  rw [e.1, e.2.1, e.2.2, h]
  simp only [beq_self_eq_true, Bool.and_true]
  decide +kernel

/-- Whether a byte reads back is not the model's to say (log entry 8): where the first does, the generation verifies. -/
theorem witness_GenerationVerifies (h : Config.loadError 0 = false) :
    let e := drove1 .resident .loading [segment 0 (sha3 [1])]
    let s := droving .resident .loading [segment 0 (sha3 [1])]
    hereIs s e ∧ e.genReady 0 = true ∧ (s.verify (e.coming 0)).1 = true := by
  refine ⟨by unfold hereIs; decide +kernel, by decide +kernel, ?_⟩
  have hc : (drove1 .resident .loading [segment 0 (sha3 [1])]).coming 0 = [segment 0 (sha3 [1])] := by decide +kernel
  have hf : (droving .resident .loading [segment 0 (sha3 [1])]).free = 0 := rfl
  have hg : (segment 0 (sha3 [1])).good = true := by unfold Segment.good; simp only [segment, beq_self_eq_true]
  have hr : (List.range 4).any (fun k => !Config.loadError (0 + 4 * 0 + k)) = true :=
    List.any_eq_true.2 ⟨0, by decide, congrArg (!·) h⟩
  rw [hc]
  unfold State.verify
  rw [hf, List.zipIdx_singleton, List.all_cons, List.all_nil, Bool.and_true]
  rw [hg, hr, Bool.and_self]

theorem witness_DrovesAreSettled :
    (∀ kind ∈ [0, 1],
      let im := image4 kind
      (keyed.node 0).drove im.drove = none ∧ im.foldOf 0 = none ∧ Memory.wf keyed.mem = true ∧ (∃ i ∈ im.tiles, i.node = 0) ∧
        ((written ((keyed.node 0).segments im) 0 im.gen).getLast?.map (fun g => g.kind)) = some kind) ∧
      ((((Node0 task (fun x => { x with recovery := true })).node 0).answers = false) ∧
        ((droving .resident .one []).node 0).answers = true) ∧
      (emptied.droveTiles 0 0 = [0] ∧ Memory.wf emptied.mem = true) := by
  decide +kernel

/-- Egress queue 0 bound to output stream 31 of tile 0 with a CAP of 64, its ring of 64 entries full up to its head at 0. -/
def binding2 (cap : Nat) : QueueBinding := ⟨0, 8192, 0, 31, cap, true⟩
def egress1 (en : Bool) (cap credits : Nat) : State :=
  Node0 task (fun x => { x with queues := [(8192, { HostQueue.reset with
    cfg := if en then 0x8000000000060000 else 0x60000, tail := 0xFFC0, binding := some (binding2 cap), credits := credits })] })
/-- A stream of which host queue 0 is the one sender, with a packet of it on its way or none. -/
def queueSends (e : Event) (out : Bool) : State :=
  let i : TileInit := { (default : TileInit) with senders := [(4, 0, 256, 0, 2)] }
  let s := Node0 (queueing true) (fun x => { x with droves := [{ drove1 .resident .one [] with tiles := [i] }] })
  { s with net := [e], packets := if out then [{ (default : NetPacket) with sender := ⟨0, 256, 0⟩ }] else [] }

theorem witness_QueuesReturnCredits :
    ((task.node 0).recovery = false ∧ (task.node 0).failed = false ∧
        ((Node0 task (fun x => { x with recovery := true })).node 0).recovery = true) ∧
      (let he := ((egress1 true 64 64).node 0).queue 8192
       he.entries < (he.head - 0xFFBF).toNat ∧ (he.head - 0).toNat ≤ he.entries ∧ (he.head - 0xFFC1).toNat ≤ he.entries ∧
         0 < ((0 : BitVec 16) - he.tail).toNat ∧ 0 < ((0xFFC1 : BitVec 16) - he.tail).toNat ∧ he.en = true ∧
         he.binding = some (binding2 64)) ∧
      (((egress1 false 64 0).node 0).queue 8192).en = false ∧
      (let w : Word := 0x8000000000060000
       w.getLsbD 63 = true ∧ 6 ≤ wfld w 16 4 ∧ 2 ^ wfld w 16 4 < (binding2 65).cap ∧ (binding2 64).cap ≤ 2 ^ wfld w 16 4 ∧
         (((egress1 false 64 63).node 0).queue 8192).credits < (binding2 64).cap) ∧
      (let s := Node0 feeding (fun x => { x with queues := x.queues.map (fun q => (q.1, { q.2 with hold := true })) })
       ((s.node 0).queue 0).hold = true ∧ s.heldRecord 0 0 = false) := by
  dsimp only; and_intros <;> decide +kernel

theorem witness_QueuesHold :
    (∀ out ∈ [true, false],
      let s := queueSends (.holdMsg 0 0 (holdWord 0 4)) out
      OnItsWay s (.holdMsg 0 0 (holdWord 0 4)) ∧ s.heldSenders 0 0 (holdWord 0 4) = [⟨0, 256, 0⟩] ∧ s.drained ⟨0, 256, 0⟩ = !out) ∧
      (let s : State := { task with net := [.holdMsg 0 1 (holdWord 0 4)] }
       OnItsWay s (.holdMsg 0 1 (holdWord 0 4)) ∧ s.heldSenders 0 1 (holdWord 0 4) = []) ∧
      (let s : State := { task with net := [.holdMsg 0 0 (holdWord 0 4)] }
       OnItsWay s (.holdMsg 0 0 (holdWord 0 4)) ∧ s.heldSenders 0 0 (holdWord 0 4) = []) ∧
      (queueSends (.pastureTick 0) false).sendersAt 0 t0 4 = [(⟨0, 256, 0⟩, 2)] ∧
      (sending (.pastureTick 0) false).sendersAt 0 t0 4 = [(sender1, 2)] := by
  unfold OnItsWay; dsimp only; and_intros <;> decide +kernel

/-- A flit of a type for node 0 or 1, the first of its message and perhaps its last; and an access of the task that a response answers. -/
def flitOf (ty dnode : Nat) (last : Bool) : Flit :=
  ⟨BitVec.ofNat 64 (ty * 2 ^ 60 + dnode * 2 ^ 48 + (if last then 0x18 else 0x10)), List.replicate 8 0, 0⟩
def inTransit : NetPacket := { (default : NetPacket) with id := 6, dest := t0, transit := true }
def relayed : State := Node0 task (fun x => { x with members := some (BitVec.allOnes 4096) })
def sentUnit (bs : List Byte) : UnitAcc := { unit1 bs with sent := some 3 }
def answeredBy (e : QEntry) (ls : List Landing) : State := Ctx0 (queued e) (fun c => { c with landings := ls })

theorem witness_FlitsAndResponses :
    ((flitOf 2 0 false).ty ≠ 1 ∧ (flitOf 2 0 false).isLast = false) ∧
      ((flitOf 2 0 true).ty ≠ 1 ∧ (flitOf 2 0 true).isLast = true ∧ (flitOf 2 0 true).isFirst = true ∧ (flitOf 2 0 true).dnode = 0) ∧
      ((flitOf 3 1 true).isLast = true ∧ (flitOf 3 1 true).dnode ≠ 0 ∧
        (routeBundle relayed 0 1).isSome = true ∧ routeBundle relayed 0 1 ≠ some 125) ∧
      (let s : State := { task with packets := [inTransit] }
       (flitOf 1 0 false).ty = 1 ∧ (flitOf 1 0 false).dnode = 0 ∧ s.packetOf 0 125 (flitOf 1 0 false) = some inTransit) ∧
      ((flitOf 1 1 true).dnode ≠ 0 ∧ (relayed.node 0).partials = []) ∧
      (let e : QEntry := ⟨7, some 5, 3, false, true, true, .store [sentUnit (List.replicate 8 9)] 8, 0⟩
       ((answeredBy e []).ctx c0).queue = [e] ∧ e.op.units = [sentUnit (List.replicate 8 9)] ∧
         ((answeredBy e []).ctx c0).late = [] ∧ (∀ v ∈ e.op.units, v.sent = some 3)) ∧
      (let e : QEntry := ⟨7, some 5, 3, true, false, true, .load [sentUnit []], 0⟩
       let s := answeredBy e [{ (default : Landing) with id := 7 }]
       (s.ctx c0).queue = [e] ∧ (s.ctx c0).landings.map (fun l => l.id) = [7] ∧ s.entryBad c0 e = false) ∧
      (spHas (task.node 0).tiles 0 = true ∧ outNode ((task.tile t0).outS 31).d0 = 0) := by
  dsimp only; and_intros <;> decide +kernel

/-- Node 0 in recovery; and one that a spare takes over, with a drove that no other node has. -/
def recovering : State := Node0 task (fun x => { x with recovery := true })
def deadDrove : DroveEntry := drove1 .resident .one []
def kept : State := (leaving true).modNode 2 (fun x => { x with droves := [deadDrove] })

theorem witness_NodesInRecovery :
    (recovering.node 0).recovery = true ∧ (recovering.node 0).failed = false ∧
      Config.imageWritten (recovering.node 0).imageWindow = Config.imageWritten (recovering.node 0).imageWindow ∧
      (task.node 0).failed = false ∧ ((leaving true).node 0).failed = true := by
  refine ⟨by decide +kernel, by decide +kernel, rfl, by decide +kernel, by decide +kernel⟩

theorem spGet_default {α : Type} (d : α) (m : Sparse α) (k : Nat) (h : m.all (fun e => e.1 != k) = true) : spGet d m k = d := by
  induction m with
  | nil => rfl
  | cons e r ih =>
    rw [List.all_cons, Bool.and_eq_true] at h
    unfold spGet
    rw [if_neg (by simpa using h.1), ih h.2]

/-- No other node has the drove of node 0. -/
theorem leaving_alone (m : Nat) (h : m ≠ 0) : ((leaving true).node m).drove 0 = none := by
  by_cases h1 : m = 1
  · subst h1; decide +kernel
  · have k : (leaving true).nodes.map (fun e => e.1) = [0, 1] := by decide +kernel
    have a : (leaving true).nodes.all (fun e => e.1 != m) = true := by
      rw [List.all_eq_true]
      intro e he
      have : e.1 ∈ [0, 1] := k ▸ List.mem_map_of_mem he
      simp only [List.mem_cons, List.not_mem_nil, or_false] at this
      simp only [bne_iff_ne, ne_eq]
      omega
    unfold State.node
    rw [spGet_default _ _ _ a]
    decide +kernel

theorem witness_SparesTakeOver :
    (let s := Ctx0 (leaving false) (fun c => { c with st := .running })
     s.isSpare 0 1 = true ∧ (s.node 0).droves.any (fun e => e.valid) = true ∧ (s.node 0).failed = false ∧
       OnItsWay s (.transhumance 0 1) ∧ s.mayLeave 0 = false) ∧
      ((leaving false).isSpare 0 1 = true ∧ 0 ∈ (leaving false).usedTiles 0 ∧ Memory.wf (leaving false).mem = true) ∧
      ((leaving true).isSpare 0 1 = true ∧ ((leaving true).node 0).droves.filter (fun e => e.valid) = [drove1 .removing .one []] ∧
        ((leaving true).node 0).fold = none) ∧
      (∀ m, m ≠ 0 → ((leaving true).node m).failed = false → ((leaving true).node m).drove 0 = none) ∧
      (kept.isSpare 0 1 = true ∧ (kept.node 2).failed = false ∧ (kept.node 2).drove 0 = some deadDrove) := by
  unfold OnItsWay; dsimp only; and_intros <;> first | decide +kernel | exact fun m h _ => leaving_alone m h

end Sys2Proof.Tests
end

section
/-! Reading the reset state: every node, tile and context slot of it is the reset one. -/

namespace Sys2Proof.Machine

@[simp] theorem State.node_reset (n : Nat) : State.reset.node n = Node.reset := rfl
@[simp] theorem State.tile_reset (r : TileRef) : State.reset.tile r = Tile.reset := rfl
@[simp] theorem State.ctx_reset (c : CtxRef) : State.reset.ctx c = Ctx.reset := by
  simp only [State.ctx, State.tile_reset, Tile.ctx, Tile.reset, Vector.getElem?_replicate]
  split <;> rfl

theorem Ctx.regA_reset (n : Nat) : Ctx.reset.regA n = 0 := by
  simp only [Ctx.regA, Ctx.reset, Vector.getElem?_replicate]
  split <;> rfl
theorem Ctx.regV_reset (n : Nat) : Ctx.reset.regV n = 0 := by
  simp only [Ctx.regV, Ctx.reset, Vector.getElem?_replicate]
  split <;> rfl
theorem Ctx.regM_reset (n : Nat) : Ctx.reset.regM n = 0 := by
  simp only [Ctx.regM, Ctx.reset, Vector.getElem?_replicate]
  split <;> rfl
theorem Ctx.regE_reset (n : Nat) : Ctx.reset.regE n = 0 := by
  simp only [Ctx.regE, Ctx.reset, Vector.getElem?_replicate]
  split <;> rfl
theorem Ctx.pred_reset {n : Nat} (h : 0 < n) : Ctx.reset.pred n = false := by
  simp [Ctx.pred, Ctx.reset, Nat.ne_of_gt h]

end Sys2Proof.Machine

namespace Sys2Proof.Laws

open Sys2Proof.Machine

/-- Settles O54: every slot, tile and node that is read in the reset state is the reset one, whose fields are as written. -/
theorem resetState : Obligations.ResetState := by
  unfold Obligations.ResetState
  refine ⟨?slots, ?tiles, ?nodes, rfl, rfl, rfl⟩
  case slots =>
    intro c _
    rw [State.ctx_reset]
    refine ⟨rfl, rfl, rfl, rfl, rfl, rfl, rfl, rfl, rfl, rfl, rfl, rfl, rfl, rfl, rfl, rfl, rfl, rfl, rfl, rfl, rfl, rfl, rfl, rfl,
      rfl, rfl, ?_, ?_, ?_⟩
    · exact fun n _ => ⟨Ctx.regA_reset n, Ctx.regV_reset n, Ctx.regM_reset n⟩
    · exact fun n _ => Ctx.regE_reset n
    · exact fun n h _ => Ctx.pred_reset h
  case tiles =>
    intro r
    rw [State.tile_reset]
    and_intros <;> rfl
  case nodes =>
    intro n
    rw [State.node_reset]
    and_intros <;> rfl

end Sys2Proof.Laws
end

section
/-! Messages under way: what posting, passing on and dropping them leaves of everything else. -/

namespace Sys2Proof.Machine

/-! One update of a node, a link, a message -/

theorem State.node_modNode_eq (s : State) (n m : Nat) (f : Node → Node) :
    (s.modNode n f).node m = if m = n then f (s.node m) else s.node m := by
  split
  · rename_i h
    rw [h, State.node_modNode]
  · rename_i h
    exact s.node_modNode_of_ne n f h

@[simp] theorem Node.link_setLink (x : Node) (b : Nat) (l : Link) : (x.setLink b l).link b = l := spGet_spPut_self ..
theorem Node.link_setLink_of_ne (x : Node) {b c : Nat} (l : Link) (h : c ≠ b) : (x.setLink b l).link c = x.link c :=
  spGet_spPut_of_ne _ _ _ h

@[simp] theorem State.link_modLink (s : State) (n b : Nat) (f : Link → Link) :
    ((s.modLink n b f).node n).link b = f ((s.node n).link b) := by
  rw [State.modLink, State.node_modNode, Node.link_setLink]

section
variable (s : State) (e : Event)
@[simp] theorem arrived_mem : (arrived s e).mem = s.mem := rfl
@[simp] theorem arrived_poison : (arrived s e).poison = s.poison := rfl
@[simp] theorem arrived_packets : (arrived s e).packets = s.packets := rfl
@[simp] theorem arrived_net : (arrived s e).net = s.net.erase e := rfl
@[simp] theorem node_arrived (m : Nat) : (arrived s e).node m = s.node m := rfl
@[simp] theorem tile_arrived (r : TileRef) : (arrived s e).tile r = s.tile r := rfl
end

/-- A message that is on its way is taken by what it does. -/
theorem State.taking_of_onItsWay {s : State} {e : Event} (f : State → State) (h : OnItsWay s e) :
    s.taking e f = .next (f (arrived s e)) := congrArg Host.Outcome.next (if_pos h)

theorem State.gives_taking {s : State} {i : Instr} {e : Event} {f : State → State} {p : State → Prop}
    (hi : exec i s = s.taking e f) (h : OnItsWay s e) (hp : p (f (arrived s e))) : Gives i s p :=
  ⟨_, hi.trans (State.taking_of_onItsWay f h), hp⟩

/-- A message posted by its own destination is sent there directly (R404). -/
theorem State.post_self {s : State} {n : Nat} {e : Event} {c : FlitClass} {fs : List Flit} (h : eventFlits e = some (c, n, fs)) :
    s.post n e = s.send e := by
  simp [State.post, h]

/-- Posting a message sends it, queues its flits on one link of its sender, or, where no route carries it, does nothing. -/
theorem State.post_cases (s : State) (n : Nat) (e : Event) :
    s.post n e = s.send e ∨ (∃ b c fs, s.post n e = s.modLink n b (fun l => l.push c fs)) ∨ s.post n e = s := by
  unfold State.post
  split
  · exact .inl rfl
  · split
    · exact .inl rfl
    · split
      · exact .inr (.inl ⟨_, _, _, rfl⟩)
      · exact .inr (.inr rfl)

/-! Agreement off the links -/

/-- Two states agree in everything but the messages on their way, and the links and parts of messages of nodes. -/
structure AgreeOffLinks (s t : State) : Prop where
  mem : t.mem = s.mem
  poison : t.poison = s.poison
  hostMem : t.hostMem = s.hostMem
  packets : t.packets = s.packets
  nodes : ∀ m, ∃ ls ps, t.node m = { s.node m with links := ls, partials := ps }

namespace AgreeOffLinks

/-- What a node holds beside its links is the same. -/
theorem field {s t : State} {α : Type} (h : AgreeOffLinks s t) (m : Nat) (f : Node → α)
    (hf : ∀ x ls ps, f { x with links := ls, partials := ps } = f x := by intros; rfl) : f (t.node m) = f (s.node m) := by
  obtain ⟨ls, ps, hm⟩ := h.nodes m
  rw [hm, hf]

theorem tile {s t : State} (h : AgreeOffLinks s t) (r : TileRef) : t.tile r = s.tile r :=
  congrArg (fun x => spGet Tile.reset x r.tile) (h.field r.node Node.tiles)

theorem refl (s : State) : AgreeOffLinks s s := ⟨rfl, rfl, rfl, rfl, fun _ => ⟨_, _, rfl⟩⟩

theorem trans {s t u : State} (h : AgreeOffLinks s t) (k : AgreeOffLinks t u) : AgreeOffLinks s u := by
  refine ⟨k.mem.trans h.mem, k.poison.trans h.poison, k.hostMem.trans h.hostMem, k.packets.trans h.packets, fun m => ?_⟩
  obtain ⟨_, _, h1⟩ := h.nodes m
  obtain ⟨ls, ps, h2⟩ := k.nodes m
  exact ⟨ls, ps, by rw [h2, h1]⟩

theorem foldl {α : Type} {f : State → α → State} {s t : State} (l : List α) (k : AgreeOffLinks s t)
    (h : ∀ s a, AgreeOffLinks s (f s a)) : AgreeOffLinks s (l.foldl f t) := by
  induction l generalizing t with
  | nil => exact k
  | cons a l ih => exact ih (k.trans (h t a))

theorem modNode (s : State) (n : Nat) {f : Node → Node} (hf : ∀ x, ∃ ls ps, f x = { x with links := ls, partials := ps }) :
    AgreeOffLinks s (s.modNode n f) := by
  refine ⟨rfl, rfl, rfl, rfl, fun m => ?_⟩
  rw [State.node_modNode_eq]
  split
  · exact hf _
  · exact ⟨_, _, rfl⟩

theorem modLink (s : State) (n b : Nat) (f : Link → Link) : AgreeOffLinks s (s.modLink n b f) :=
  modNode s n (fun _ => ⟨_, _, rfl⟩)

theorem setPart (s : State) (n b p : Nat) (fs : Node → List Flit) : AgreeOffLinks s (s.modNode n (fun x => x.setPart b p (fs x))) :=
  modNode s n (fun _ => ⟨_, _, rfl⟩)

theorem sendAll (s : State) (es : List Event) : AgreeOffLinks s (s.sendAll es) := ⟨rfl, rfl, rfl, rfl, fun _ => ⟨_, _, rfl⟩⟩
theorem send (s : State) (e : Event) : AgreeOffLinks s (s.send e) := sendAll s [e]
theorem arrived (s : State) (e : Event) : AgreeOffLinks s (arrived s e) := ⟨rfl, rfl, rfl, rfl, fun _ => ⟨_, _, rfl⟩⟩

theorem post (s : State) (n : Nat) (e : Event) : AgreeOffLinks s (s.post n e) := by
  obtain h | ⟨b, c, fs, h⟩ | h := s.post_cases n e <;> rw [h]
  · exact send s e
  · exact modLink s n b _
  · exact refl s

theorem filterPackets {s t : State} (h : AgreeOffLinks s t) (p : NetPacket → Bool) :
    AgreeOffLinks { s with packets := s.packets.filter p } { t with packets := t.packets.filter p } :=
  ⟨h.mem, h.poison, h.hostMem, congrArg (List.filter p) h.packets, h.nodes⟩

theorem pushFlit (s : State) (n : Nat) (f : Flit) : AgreeOffLinks s (s.pushFlit n f) := by
  unfold State.pushFlit
  split
  · exact modLink ..
  · exact refl s

theorem passOn (s : State) (n b p : Nat) : AgreeOffLinks s (s.passOn n b p) := by
  unfold State.passOn
  split
  · exact refl s
  · dsimp only
    split
    · exact setPart ..
    · exact (setPart s n b p _).trans ((modLink ..).trans (setPart ..))

theorem passWaiting (s : State) (n p : Nat) : AgreeOffLinks s (s.passWaiting n p) := by
  unfold State.passWaiting
  refine foldl _ (refl s) (fun s e => ?_)
  split
  · exact refl s
  · exact passOn ..

theorem forgetBundle (s : State) (m b : Nat) : AgreeOffLinks s (s.forgetBundle m b) := by
  unfold State.forgetBundle
  exact foldl _ (modNode s m (fun _ => ⟨_, _, rfl⟩)) (fun s _ => passWaiting s m _)

theorem forgetNode (s : State) (n : Nat) : AgreeOffLinks s (s.forgetNode n) := by
  unfold State.forgetNode
  refine foldl _ (refl s) (fun s e => ?_)
  split
  · exact forgetBundle ..
  · exact refl s

theorem leaveBundle (s : State) (n b : Nat) : AgreeOffLinks s (s.leaveBundle n b) := by
  unfold State.leaveBundle
  dsimp only
  split
  · exact refl s
  · exact foldl _ ((modNode s _ (fun _ => ⟨_, _, rfl⟩)).trans (modLink ..)) (fun s f => pushFlit s n f)

theorem answerAll (s : State) (home : Nat) : AgreeOffLinks s (s.answerAll home) := by
  unfold State.answerAll
  refine foldl _ (refl s) (fun s e => ?_)
  split
  · exact refl s
  · refine foldl _ (refl s) (fun s t => foldl _ (refl s) (fun s k => ?_))
    split
    · exact refl s
    · exact (sendAll ..).trans (sendAll ..)

theorem sendHolds (s : State) (r : TileRef) (st : Nat) : AgreeOffLinks s (s.sendHolds r st) :=
  foldl _ (send ..) (fun s _ => post s r.node _)

/-- The move point is made on the spare, and told to the others. -/
theorem announceMove (s : State) (n k : Nat) (ns : List Nat) :
    AgreeOffLinks (s.modNode k (fun x => x.movePoint k n k)) (s.announceMove n k ns) :=
  foldl _ (refl _) (fun s _ => post s k _)

end AgreeOffLinks

/-! Bundles that are down -/

/-- One direction of a bundle is down. -/
def LinkDown (s : State) (n b : Nat) : Prop := ((s.node n).link b).down = true

theorem LinkDown.modNode {s : State} {n b m : Nat} {f : Node → Node} (h : LinkDown s n b) (hf : ∀ x, (f x).links = x.links) :
    LinkDown (s.modNode m f) n b := by
  unfold LinkDown Node.link at *
  rw [State.node_modNode_eq]
  split
  · rwa [hf]
  · exact h

theorem LinkDown.modLink {s : State} {n b m c : Nat} {f : Link → Link} (h : LinkDown s n b)
    (hf : ∀ l : Link, l.down = true → (f l).down = true) : LinkDown (s.modLink m c f) n b := by
  unfold LinkDown at *
  by_cases hn : n = m
  · subst hn
    by_cases hb : b = c
    · subst hb
      rw [State.link_modLink]
      exact hf _ h
    · rw [State.modLink, State.node_modNode, Node.link_setLink_of_ne _ _ hb]
      exact h
  · rwa [State.modLink, State.node_modNode_of_ne _ _ _ hn]

theorem LinkDown.pushFlit {s : State} {n b m : Nat} (h : LinkDown s n b) (g : Flit) : LinkDown (s.pushFlit m g) n b := by
  unfold State.pushFlit
  split
  · refine h.modLink (fun l hl => ?_)
    unfold Link.push
    split <;> exact hl
  · exact h

theorem LinkDown.pushFlits {s : State} {n b m : Nat} (h : LinkDown s n b) (fs : List Flit) :
    LinkDown (fs.foldl (fun s f => s.pushFlit m f) s) n b := by
  induction fs generalizing s with
  | nil => exact h
  | cons f fs ih => exact ih (h.pushFlit f)

/-- A bundle that leaves service brings no other back. -/
theorem LinkDown.leaveBundle {s : State} {n b m c : Nat} (h : LinkDown s n b) : LinkDown (s.leaveBundle m c) n b := by
  unfold State.leaveBundle
  dsimp only
  split
  · exact h
  · refine LinkDown.pushFlits ?_ _
    exact LinkDown.modLink (h.modNode (fun _ => rfl)) (fun _ _ => rfl)

end Sys2Proof.Machine
end

section
/-! What an error does to the record of its unit, and to the log (R425, R426). -/

namespace Sys2Proof.Machine

/-! The log -/

section
variable (s : State) (n kind : Nat) (u : RasUnit) (addr count : Nat)

@[simp] theorem State.rasLog_mem : (s.rasLog n kind u addr count).mem = s.mem := by
  unfold State.rasLog
  dsimp only
  split <;> rfl
@[simp] theorem State.rasLog_poison : (s.rasLog n kind u addr count).poison = s.poison := by
  unfold State.rasLog
  dsimp only
  split <;> rfl
@[simp] theorem State.rasLog_packets : (s.rasLog n kind u addr count).packets = s.packets := by
  unfold State.rasLog
  dsimp only
  split <;> rfl

/-- An entry of the log changes nothing else of its node. -/
theorem State.node_rasLog :
    ∃ l, (s.rasLog n kind u addr count).node n = { s.node n with nlog := (s.node n).nlog + 1, log := l } := by
  unfold State.rasLog
  dsimp only
  split <;> exact ⟨_, State.node_setNode ..⟩

/-- What a node holds beside its log stays. -/
theorem State.rasLog_field {α : Type} (f : Node → α) (hf : ∀ x k l, f { x with nlog := k, log := l } = f x := by intros; rfl) :
    f ((s.rasLog n kind u addr count).node n) = f (s.node n) := by
  obtain ⟨l, h⟩ := s.node_rasLog n kind u addr count
  rw [h, hf]

@[simp] theorem State.unitRec_rasLog (v : RasUnit) : ((s.rasLog n kind u addr count).node n).unitRec v = (s.node n).unitRec v :=
  s.rasLog_field n kind u addr count (fun x => x.unitRec v)
@[simp] theorem State.units_rasLog : ((s.rasLog n kind u addr count).node n).units = (s.node n).units :=
  s.rasLog_field n kind u addr count Node.units
@[simp] theorem State.replaced_rasLog : ((s.rasLog n kind u addr count).node n).replaced = (s.node n).replaced :=
  s.rasLog_field n kind u addr count Node.replaced
@[simp] theorem State.thresh_rasLog : ((s.rasLog n kind u addr count).node n).thresh = (s.node n).thresh :=
  s.rasLog_field n kind u addr count Node.thresh
@[simp] theorem State.retd_rasLog : ((s.rasLog n kind u addr count).node n).retd = (s.node n).retd :=
  s.rasLog_field n kind u addr count Node.retd
@[simp] theorem State.served_rasLog : ((s.rasLog n kind u addr count).node n).served = (s.node n).served :=
  s.rasLog_field n kind u addr count Node.served
@[simp] theorem State.failed_rasLog : ((s.rasLog n kind u addr count).node n).failed = (s.node n).failed :=
  s.rasLog_field n kind u addr count Node.failed
@[simp] theorem State.droves_rasLog : ((s.rasLog n kind u addr count).node n).droves = (s.node n).droves :=
  s.rasLog_field n kind u addr count Node.droves
@[simp] theorem State.nlog_rasLog : ((s.rasLog n kind u addr count).node n).nlog = (s.node n).nlog + 1 := by
  obtain ⟨l, h⟩ := s.node_rasLog n kind u addr count
  rw [h]
end

/-! Records of units -/

@[simp] theorem Node.nlog_setUnit (x : Node) (r : UnitRec) : (x.setUnit r).nlog = x.nlog := rfl
@[simp] theorem Node.replaced_setUnit (x : Node) (r : UnitRec) : (x.setUnit r).replaced = x.replaced := rfl

@[simp] theorem Node.unitRec_unit (x : Node) (u : RasUnit) : (x.unitRec u).unit = u := by
  unfold Node.unitRec
  cases h : x.units.find? (fun r => r.unit == u) with
  | none => rfl
  | some r => simpa using List.find?_some h

theorem Node.unitRec_setUnit (x : Node) {r : UnitRec} {u : RasUnit} (h : r.unit = u) : (x.setUnit r).unitRec u = r := by
  simp [Node.unitRec, Node.setUnit, h]

theorem Node.window_pos (x : Node) : 0 < x.window := Nat.lt_of_lt_of_le Nat.one_pos (Nat.le_max_left ..)

/-- One bucket counts as it stands. -/
theorem UnitRec.count_single (v : RasUnit) (st : UnitState) (amount crossed : Nat) {win : Nat} (h : 0 < win) :
    (⟨v, st, [amount], crossed⟩ : UnitRec).count win = amount := by
  obtain ⟨k, rfl⟩ := Nat.exists_eq_succ_of_ne_zero (Nat.ne_of_gt h)
  simp [UnitRec.count]

/-! Counting -/

section
variable (s : State) (n : Nat) (u : RasUnit) (amount addr : Nat)

/-- Errors below the threshold are counted. -/
theorem State.countErrors_below (hst : ((s.node n).unitRec u).st ≠ .retired) (hb : ((s.node n).unitRec u).buckets = [0])
    (h : amount < (s.node n).thresh) :
    s.countErrors n u amount addr = s.modNode n (fun x => x.setUnit { (s.node n).unitRec u with buckets := [amount] }) := by
  simp [State.countErrors, hb, hst, UnitRec.count_single _ _ _ _ (s.node n).window_pos, h]

/-- A good unit that crosses becomes suspect, and is scrubbed. -/
theorem State.countErrors_suspect (hst : ((s.node n).unitRec u).st = .good) (hb : ((s.node n).unitRec u).buckets = [0])
    (h : (s.node n).thresh ≤ amount) :
    s.countErrors n u amount addr = ((s.modNode n (fun x => x.setUnit { (s.node n).unitRec u with
      buckets := [0], st := .suspect, crossed := x.served })).rasLog n 3 u addr amount).scrub n u := by
  simp [State.countErrors, hb, hst, UnitRec.count_single _ _ _ _ (s.node n).window_pos, Nat.not_lt.mpr h]

/-- A suspect unit that crosses again in its days goes to its spare. -/
theorem State.countErrors_retired (hst : ((s.node n).unitRec u).st = .suspect) (hb : ((s.node n).unitRec u).buckets = [0])
    (h : (s.node n).thresh ≤ amount)
    (hd : (s.node n).served - ((s.node n).unitRec u).crossed < (s.node n).retd * ticksPerDay) :
    s.countErrors n u amount addr = (s.modNode n (fun x => x.setUnit { (s.node n).unitRec u with
      buckets := [0], st := .retired })).retireUnit n u addr amount := by
  simp [State.countErrors, hb, hst, UnitRec.count_single _ _ _ _ (s.node n).window_pos, Nat.not_lt.mpr h, hd]

theorem AgreeOffLinks.scrub : AgreeOffLinks s (s.scrub n u) := by
  unfold State.scrub
  split
  · exact modLink ..
  · exact refl s

/-- A unit of an SRAM bank of whose set no spare is used goes to one. -/
theorem State.retireUnit_bank (hc : u.cls = 0) (hu : ∀ r ∈ (s.node n).units, r.st = .retired → r.unit = u)
    (hr : (s.node n).replaced = []) :
    s.retireUnit n u addr amount = (s.rasLog n 4 u addr amount).send (.bankRetirement ⟨n, u.tile⟩ u.index) := by
  have none : (s.node n).units.filter (fun r => r.st == .retired && r.unit != u) = [] := by
    rw [List.filter_eq_nil_iff]
    intro r hm
    simpa using hu r hm
  have used : List.countP (sharesSpare u) [u] ≤ spareCount u.cls := by
    rw [hc]
    exact List.countP_le_length.trans (by simp [spareCount])
  simp only [State.retireUnit, none, hr, List.map_nil, List.nil_append]
  rw [if_pos used, hc]
  rfl
end

end Sys2Proof.Machine
end

section
/-! Errors, spares and the configuration of a node (R422 to R429, R435): what each step gives. -/

namespace Sys2Proof.Laws

open Sys2Proof.Machine

section
variable {s : State} {n k : Nat} {u : RasUnit}

/-! Corrected and uncorrected errors -/

/-- A corrected error is logged, and counted against its unit. -/
theorem exec_correctedError_eq : ∃ c, exec (.correctedError n u k) s =
    .next (((arrived s (.correctedError n u k)).rasLog n 1 u k c).countErrors n u 1 k) := ⟨_, rfl⟩

theorem correctedError_counted (hst : ((s.node n).unitRec u).st = .good) (hb : ((s.node n).unitRec u).buckets = [0])
    (ht : 1 < (s.node n).thresh) : Gives (.correctedError n u k) s (fun t =>
      (t.node n).unitRec u = { (s.node n).unitRec u with buckets := [1] } ∧ (t.node n).nlog = (s.node n).nlog + 1 ∧
        t.mem = s.mem ∧ t.poison = s.poison) := by
  obtain ⟨c, he⟩ := exec_correctedError_eq (s := s) (n := n) (u := u) (k := k)
  rw [State.countErrors_below _ _ _ _ _ (by simp [hst]) (by simpa using hb) (by simpa using ht)] at he
  exact ⟨_, he, by simp [Node.unitRec_setUnit], by simp, by simp, by simp⟩

/-- A good unit that crosses becomes suspect, whatever its errors were. -/
theorem countErrors_gives_suspect {v : State} {amount addr : Nat} (hst : ((v.node n).unitRec u).st = .good)
    (hb : ((v.node n).unitRec u).buckets = [0]) (h : (v.node n).thresh ≤ amount) :
    let t := v.countErrors n u amount addr
    ((t.node n).unitRec u).st = .suspect ∧ ((t.node n).unitRec u).crossed = (v.node n).served ∧
      (t.node n).nlog = (v.node n).nlog + 1 ∧ t.mem = v.mem ∧ t.poison = v.poison := by
  rw [v.countErrors_suspect n u amount addr hst hb h]
  have hs := fun w => AgreeOffLinks.scrub w n u
  dsimp only
  rw [(hs _).field n (fun x => x.unitRec u), (hs _).field n Node.nlog, (hs _).mem, (hs _).poison]
  simp [Node.unitRec_setUnit]

theorem correctedError_suspect (hst : ((s.node n).unitRec u).st = .good) (hb : ((s.node n).unitRec u).buckets = [0])
    (ht : (s.node n).thresh = 1) : Gives (.correctedError n u k) s (fun t =>
      ((t.node n).unitRec u).st = .suspect ∧ ((t.node n).unitRec u).crossed = (s.node n).served ∧
        (t.node n).nlog = (s.node n).nlog + 2 ∧ t.mem = s.mem) := by
  obtain ⟨c, he⟩ := exec_correctedError_eq (s := s) (n := n) (u := u) (k := k)
  obtain ⟨h1, h2, h3, h4, -⟩ := countErrors_gives_suspect (addr := k) (amount := 1) (n := n) (u := u)
    (v := (arrived s (.correctedError n u k)).rasLog n 1 u k c) (by simpa using hst) (by simpa using hb) (by simp [ht])
  refine ⟨_, he, h1, by simpa using h2, ?_, by simpa using h4⟩
  rw [h3, State.nlog_rasLog, node_arrived]
  bv_omega

theorem correctedError_retired (hc : u.cls = 0) (hst : ((s.node n).unitRec u).st = .suspect)
    (hb : ((s.node n).unitRec u).buckets = [0]) (ht : (s.node n).thresh = 1)
    (hd : (s.node n).served - ((s.node n).unitRec u).crossed < (s.node n).retd * ticksPerDay)
    (hu : (s.node n).units.all (fun y => y.st != .retired) = true) (hr : (s.node n).replaced = []) :
    Gives (.correctedError n u k) s (fun t => ((t.node n).unitRec u).st = .retired ∧
      Event.bankRetirement ⟨n, u.tile⟩ u.index ∈ t.net ∧ t.mem = s.mem) := by
  obtain ⟨c, he⟩ := exec_correctedError_eq (s := s) (n := n) (u := u) (k := k)
  rw [State.countErrors_retired _ _ _ _ _ (by simpa using hst) (by simpa using hb) (by simp [ht]) (by simpa using hd),
    State.retireUnit_bank _ _ _ _ _ hc ?only (by simpa using hr)] at he
  case only =>
    intro r hm hret
    simp only [State.node_modNode, Node.setUnit, State.unitRec_rasLog, node_arrived, Node.unitRec_unit, State.units_rasLog] at hm
    rcases List.mem_cons.mp hm with rfl | hm
    · simp
    · have := List.all_eq_true.mp hu r (List.mem_of_mem_filter hm)
      simp [hret] at this
  exact ⟨_, he, by simp [Node.unitRec_setUnit], by simp, by simp⟩

theorem uncorrectedError_poisons (hc : u.cls = 0) (hst : ((s.node n).unitRec u).st = .good)
    (hb : ((s.node n).unitRec u).buckets = [0]) : Gives (.uncorrectedError n u k) s (fun t =>
      t.poisoned ⟨n, u.tile⟩ (k % 2 ^ 24) = true ∧ ((t.node n).unitRec u).st = .suspect ∧ t.mem = s.mem) := by
  let key := memKey .sram ⟨n, u.tile⟩ (k % 2 ^ 24 / 8 * 8)
  have hs : s.spoil n u k = { s with poison := key :: s.poison.filter (fun j => j != key) } := by
    simp only [State.spoil, hc]
    rfl
  have hn : (s.spoil n u k).node n = s.node n := by rw [hs]; rfl
  obtain ⟨h1, -, -, h4, h5⟩ := countErrors_gives_suspect (addr := k) (amount := (s.node n).thresh) (n := n) (u := u)
    (v := (s.spoil n u k).rasLog n 2 u (k % 2 ^ 64) (((s.node n).unitRec u).count (s.node n).window))
    (by simpa [hn] using hst) (by simpa [hn] using hb) (by simp [hn])
  refine ⟨_, congrArg Host.Outcome.next (if_neg (by rw [hc]; decide)), ?_, h1, ?_⟩
  · unfold State.poisoned
    rw [h5, State.rasLog_poison, hs]
    exact List.contains_iff_mem.mpr (List.mem_cons_self ..)
  · rw [h4, State.rasLog_mem, hs]

/-! Reversion, buckets -/

theorem suspectReversion_good (hst : ((s.node n).unitRec u).st = .suspect)
    (hd : (s.node n).retd * ticksPerDay ≤ (s.node n).served - ((s.node n).unitRec u).crossed) :
    Gives (.suspectReversion n u) s (fun t =>
      (t.node n).unitRec u = { (s.node n).unitRec u with st := .good } ∧ t.mem = s.mem) := by
  refine ⟨_, congrArg Host.Outcome.next (if_pos ⟨hst, hd⟩), ?_, rfl⟩
  rw [State.node_modNode]
  exact Node.unitRec_setUnit _ (Node.unitRec_unit ..)

theorem suspectReversion_early
    (hd : (s.node n).served - ((s.node n).unitRec u).crossed < (s.node n).retd * ticksPerDay) :
    exec (.suspectReversion n u) s = .next s :=
  congrArg Host.Outcome.next (if_neg (fun h => Nat.not_le.mpr hd h.2))

theorem counterHourBucket_opens (h : OnItsWay s (.counterHourBucket n)) : Gives (.counterHourBucket n) s (fun t =>
    (t.node n).units = (s.node n).units.map (fun y => { y with buckets := 0 :: y.buckets.take ((s.node n).window - 1) }) ∧
      t.mem = s.mem) :=
  State.gives_taking (exec_counterHourBucket s) h ⟨by simp, rfl⟩

/-! Spares -/

theorem bankRetirement_gives {r : TileRef} (h : OnItsWay s (.bankRetirement r k)) : Gives (.bankRetirement r k) s (fun t =>
    (t.node r.node).fbank = (s.node r.node).fbank - 1 ∧ (t.tile r).banksRetired = k :: (s.tile r).banksRetired ∧
      t.mem = s.mem ∧ t.poison = s.poison) := by
  refine State.gives_taking (exec_bankRetirement s) h ⟨?_, ?_, rfl, rfl⟩
  · simp [State.modTile, State.setTile]
  · simp [State.tile, Node.takeOver, State.modTile, State.setTile]

theorem tileCoreRetirement_gives {r : TileRef} (h : OnItsWay s (.tileCoreRetirement r)) (hs : s.tileSaved r = true)
    (hf : (s.node r.node).ftile.getLsbD (r.tile / 16) = true) : Gives (.tileCoreRetirement r) s (fun t =>
      (t.node r.node).ftile.getLsbD (r.tile / 16) = false ∧ t.tile r = s.tile r ∧ t.mem = s.mem) := by
  have hc := List.contains_iff_mem.mp h
  refine ⟨_, congrArg Host.Outcome.next (if_pos (by simp [hc, hs, hf])), ?_, ?_, rfl⟩
  · simp
  · simp [State.tile, Node.takeOver]
    rfl

theorem tileCoreRetirement_waits {r : TileRef} (h : s.tileSaved r = false) : exec (.tileCoreRetirement r) s = .next s :=
  congrArg Host.Outcome.next (if_neg (by simp [h]))

theorem laneRetirement_gives (h : OnItsWay s (.laneRetirement n k))
    (hr : ∀ c, (s.node n).laneBundle k = some c → s.replays n c = true) : Gives (.laneRetirement n k) s (fun t =>
      (t.node n).flane.getLsbD (k / 64) = false ∧ (t.node n).laneFails = k :: (s.node n).laneFails ∧ t.mem = s.mem) := by
  have ha : ((s.node n).laneBundle k).any (fun b => !s.replays n b) = false := by
    cases hl : (s.node n).laneBundle k with
    | none => rfl
    | some c => simp [hr c hl]
  refine ⟨_, (if_neg (by simp [ha])).trans (State.taking_of_onItsWay _ h), ?_, ?_, rfl⟩
  · simp
  · simp

theorem laneRetrained_gives {c : Nat} (hl : (s.node n).laneBundle k = some c) (hr : ((s.node n).link c).replaying = true) :
    Gives (.laneRetrained n k) s (fun t => (t.node n).link c =
      { (s.node n).link c with replaying := false, resend := ((s.node n).link c).replay.length } ∧ t.mem = s.mem) := by
  have he : exec (.laneRetrained n k) s = .next (match (s.node n).laneBundle k with
    | some b => s.modLink n b (fun l => if l.replaying then { l with replaying := false, resend := l.replay.length } else l)
    | none => s) := rfl
  rw [hl] at he
  exact ⟨_, he, (State.link_modLink ..).trans (if_pos hr), rfl⟩

/-- A bundle that goes down is logged, marked in both directions, and left from both its ends. -/
theorem exec_bundleDown_eq {c : Nat} (hb : bundleTo (neighbour n k) n = some c) (h : OnItsWay s (.bundleDown n k)) :
    ∃ v : State, v.mem = s.mem ∧ exec (.bundleDown n k) s = .next
      ((((v.modLink n k (fun l => { l with down := true })).modLink (neighbour n k) c (fun l => { l with down := true })).leaveBundle
        n k).leaveBundle (neighbour n k) c) := by
  refine ⟨(arrived s (.bundleDown n k)).rasLog n 6 ⟨1, 0, (s.node n).failedLane k⟩ 0 0, State.rasLog_mem .., ?_⟩
  refine ((exec_bundleDown s).trans (State.taking_of_onItsWay _ h)).trans ?_
  simp only [hb, node_arrived]

theorem bundleDown_gives {c : Nat} (hb : bundleTo (neighbour n k) n = some c) (h : OnItsWay s (.bundleDown n k)) :
    Gives (.bundleDown n k) s (fun t =>
      ((t.node n).link k).down = true ∧ ((t.node (neighbour n k)).link c).down = true ∧ t.mem = s.mem) := by
  obtain ⟨v, hv, he⟩ := exec_bundleDown_eq hb h
  let down := fun (l : Link) => { l with down := true }
  have h1 : LinkDown (v.modLink n k down) n k := congrArg Link.down (State.link_modLink ..)
  have h2 : LinkDown ((v.modLink n k down).modLink (neighbour n k) c down) (neighbour n k) c :=
    congrArg Link.down (State.link_modLink ..)
  refine ⟨_, he, (h1.modLink (fun _ _ => rfl)).leaveBundle.leaveBundle, h2.leaveBundle.leaveBundle, ?_⟩
  rw [(AgreeOffLinks.leaveBundle ..).mem, (AgreeOffLinks.leaveBundle ..).mem]
  exact hv

end

end Sys2Proof.Laws
end

section
/-! Configuration, failure, boot, attestation and reset of a node (R10, R426, R431, R434, R435): what each step gives. -/

namespace Sys2Proof.Machine

/-- A node that answers has neither failed nor gone to recovery. -/
theorem Node.answers_iff (x : Node) : x.answers = true ↔ x.recovery = false ∧ x.failed = false := by
  simp [Node.answers]

/-- A host write at the offset of a dword. -/
theorem exec_registerWrite_at {s : State} {n off : Nat} {w : Word} (h8 : off % 8 = 0) (hl : off < 2 ^ 26) :
    exec (.registerWrite n (BitVec.ofNat 26 off) w) s = .next (s.barWrite n off w) := by
  have ho : (BitVec.ofNat 26 off).toNat / 8 * 8 = off := by
    rw [BitVec.toNat_ofNat]
    omega
  exact congrArg (fun o => Host.Outcome.next (s.barWrite n o w)) ho

/-! Failure -/

section
variable (s : State) (n : Nat)

/-- A node that fails falls silent, and the packets in flight to it are lost. -/
theorem State.failNode_of_up (h : (s.node n).failed = false) :
    (∃ ls ps, (s.failNode n).node n = { s.node n with failed := true, silent := true, links := ls, partials := ps }) ∧
      (s.failNode n).mem = s.mem ∧ (s.failNode n).packets = s.packets.filter (fun p => p.dest.node != n) := by
  have hf := AgreeOffLinks.forgetNode (s.modNode n (fun x => { x with failed := true, silent := true })) n
  unfold State.failNode
  rw [h, if_neg Bool.false_ne_true]
  have ha := (hf.filterPackets (fun p => p.dest.node != n)).trans (AgreeOffLinks.answerAll _ n)
  obtain ⟨ls, ps, hn⟩ := ha.nodes n
  have hm : State.node _ n = _ := s.node_modNode n (fun x => { x with failed := true, silent := true })
  exact ⟨⟨ls, ps, hn.trans (congrArg (fun x : Node => { x with links := ls, partials := ps }) hm)⟩, ha.mem, ha.packets⟩

theorem State.failNode_of_failed (h : (s.node n).failed = true) : s.failNode n = s := if_pos h

theorem State.failNode_failed : ((s.failNode n).node n).failed = true := by
  cases h : (s.node n).failed with
  | true => rw [s.failNode_of_failed n h, h]
  | false =>
    obtain ⟨⟨ls, ps, hn⟩, -⟩ := s.failNode_of_up n h
    rw [hn]

theorem State.failNode_nlog : ((s.failNode n).node n).nlog = (s.node n).nlog := by
  cases h : (s.node n).failed with
  | true => rw [s.failNode_of_failed n h]
  | false =>
    obtain ⟨⟨ls, ps, hn⟩, -⟩ := s.failNode_of_up n h
    rw [hn]
end

/-! Where the keys of a tile's memories lie -/

section
variable {n i off : Nat}

theorem memKey_sram_lt (hn : n < 4096) (hi : i < 256) (ho : off < 2 ^ 24) : memKey .sram ⟨n, i⟩ off < 2 ^ 44 := by
  simp only [memKey, MemSpace.code]
  omega
theorem memKey_imem_space (hn : n < 4096) (hi : i < 256) (ho : off < 2 ^ 24) : memKey .imem ⟨n, i⟩ off / 2 ^ 44 = 1 := by
  simp only [memKey, MemSpace.code]
  omega
theorem memKey_imem_node (hn : n < 4096) (hi : i < 256) (ho : off < 2 ^ 24) : memKey .imem ⟨n, i⟩ off / 2 ^ 32 % 4096 = n := by
  simp only [memKey, MemSpace.code]
  omega
end

end Sys2Proof.Machine

namespace Sys2Proof.Laws

open Sys2Proof.Machine

section
variable {s : State} {n k : Nat} {w : Word} {im : FirmwareImage} {bs : List Byte}

/-- A step that changes one node gives that node so changed. -/
theorem gives_modNode {i : Instr} {f : Node → Node} {x : Node} (hi : exec i s = .next (s.modNode n f)) (hx : f (s.node n) = x) :
    Gives i s (fun t => t.node n = x) :=
  ⟨_, hi, (State.node_modNode ..).trans hx⟩

/-! Configuration and power -/

theorem rascfgLock_gives (ha : (s.node n).recovery = false ∧ (s.node n).failed = false) (hl : (s.node n).locked = false) :
    Gives (.rascfgLock n w) s (fun t => (t.node n).rascfg = w &&& 0x800000FFFFFF00FF ∧ t.mem = s.mem) := by
  refine ⟨_, rfl, ?_, rfl⟩
  simp [hl, (Node.answers_iff _).mpr ha]

theorem rascfgLock_discarded (h : (s.node n).locked = true ∨ ¬((s.node n).recovery = false ∧ (s.node n).failed = false)) :
    Gives (.rascfgLock n w) s (fun t => t.node n = s.node n ∧ t.mem = s.mem) := by
  refine ⟨_, rfl, (State.node_modNode ..).trans (if_pos ?_), rfl⟩
  rcases h with h | h
  · simp [h]
  · simp [Bool.eq_false_iff.mpr (mt (Node.answers_iff _).mp h)]

theorem pwrcapWrite_gives (ha : (s.node n).recovery = false ∧ (s.node n).failed = false) (hl : (s.node n).locked = false) :
    Gives (.pwrcapWrite n w) s (fun t => (t.node n).pwrcap.toNat = max 600 (min 1200 (wfld w 0 16)) ∧ t.mem = s.mem) := by
  refine ⟨_, rfl, ?_, rfl⟩
  simp only [State.node_modNode, hl, (Node.answers_iff _).mpr ha, Bool.not_true, Bool.or_self, Bool.false_eq_true, if_false,
    BitVec.toNat_ofNat]
  omega

theorem throttleStep_gives {b : Bool} : Gives (.throttleStep n b) s (fun t => (t.node n).pwrstat.toNat =
    (if b then max 1 ((s.node n).pwrstat.toNat - 1) else min 8 ((s.node n).pwrstat.toNat + 1)) ∧ t.mem = s.mem) := by
  refine ⟨_, rfl, ?_, rfl⟩
  simp only [State.node_modNode, BitVec.toNat_ofNat]
  have := (s.node n).pwrstat.isLt
  split <;> omega

/-! Failure -/

theorem failNode_gives {i : Instr} (he : exec i s = .next (s.failNode n)) (hf : (s.node n).failed = false) : Gives i s (fun t =>
    (t.node n).failed = true ∧ (t.node n).silent = true ∧ t.mem = s.mem ∧
      t.packets = s.packets.filter (fun p => p.dest.node != n)) := by
  obtain ⟨⟨ls, ps, hn⟩, hm, hp⟩ := s.failNode_of_up n hf
  exact ⟨_, he, s.failNode_failed n, by rw [hn], hm, hp⟩

theorem failNode_failed_twice (hf : (s.node n).failed = true) :
    exec (.laneSilence n) s = .next s ∧ exec (.powerLoss n) s = .next s :=
  ⟨congrArg Host.Outcome.next (s.failNode_of_failed n hf), congrArg Host.Outcome.next (s.failNode_of_failed n hf)⟩

theorem powerLoss_gives (hf : (s.node n).failed = false) : Gives (.powerLoss n) s (fun t =>
    (t.node n).failed = true ∧ (t.node n).silent = true ∧ t.mem = s.mem) := by
  obtain ⟨t, he, h1, h2, h3, -⟩ := failNode_gives (i := .powerLoss n) rfl hf
  exact ⟨t, he, h1, h2, h3⟩

theorem thermalTrip_gives : Gives (.thermalTrip n) s (fun t => (t.node n).failed = true ∧ (t.node n).nlog = (s.node n).nlog + 1) :=
  ⟨_, rfl, State.failNode_failed .., (State.failNode_nlog ..).trans (State.nlog_rasLog ..)⟩

/-! Boot and recovery -/

theorem boot_accepted (hb : (s.node n).booted = false) (hr : (s.node n).recovery = false) (hg : firmwareGood n im = true) :
    Gives (.boot n im) s (fun t => t.node n =
      { s.node n with booted := true, recovery := false, fwHash := sha3 im.bytes, fwVersion := im.version }) := by
  refine gives_modNode rfl ?_
  simp only [hb, hr, Bool.or_self, Bool.false_eq_true, if_false, Node.started, hg, if_true]

theorem boot_recovers (hb : (s.node n).booted = false) (hr : (s.node n).recovery = false) (hg : firmwareGood n im = false) :
    Gives (.boot n im) s (fun t => t.node n = { s.node n with recovery := true }) := by
  refine gives_modNode rfl ?_
  simp only [hb, hr, Bool.or_self, Bool.false_eq_true, if_false, Node.started, hg]

theorem recoveryImage_taken (hr : (s.node n).recovery = true) (hi : im = Config.imageWritten (s.node n).imageWindow) :
    Gives (.recoveryImage n im) s (fun t => t.node n = if firmwareGood n im = true then
        { s.node n with booted := true, recovery := false, fwHash := sha3 im.bytes, fwVersion := im.version, imageWindow := [] }
      else { s.node n with recovery := true, imageWindow := [] }) := by
  refine gives_modNode rfl ?_
  rw [if_pos (by simp [hr, ← hi]), Node.started]
  split <;> rfl

theorem recoveryImage_other (hi : im ≠ Config.imageWritten (s.node n).imageWindow) :
    Gives (.recoveryImage n im) s (fun t => t.node n = s.node n) := by
  refine gives_modNode rfl ?_
  rw [if_neg (by simp [hi])]

/-- A write within the recovery image window is kept by a node in recovery. -/
theorem registerWrite_image {i : Nat} (hi : i < 2048) (hr : (s.node n).recovery = true) (hf : (s.node n).failed = false) :
    Gives (.registerWrite n (BitVec.ofNat 26 (0x8000 + 8 * i)) w) s (fun t =>
      t.node n = { s.node n with imageWindow := (8 * i, w) :: (s.node n).imageWindow }) := by
  have he := exec_registerWrite_at (s := s) (n := n) (w := w) (off := 0x8000 + 8 * i) (by omega) (by omega)
  rw [State.barWrite, if_pos (by omega), State.writeBlock, if_pos (by omega), Nat.add_sub_cancel_left] at he
  exact gives_modNode he (if_pos (by simp [hr, hf]))

/-! Attestation -/

theorem attestationRequest_gives (ha : (s.node n).recovery = false ∧ (s.node n).failed = false) (hl : bs.length = 32) :
    Gives (.attestationRequest n bs) s (fun t => t.node n = { s.node n with nonce := bs, attReq := true }) := by
  have hp : padTo 32 bs = bs := by simp [padTo, hl]
  refine gives_modNode rfl ?_
  rw [if_pos ((Node.answers_iff _).mpr ha), hp]

theorem attestationComplete_gives (ha : (s.node n).attReq = true) : Gives (.attestationComplete n) s (fun t =>
    t.node n = { s.node n with report := (s.node n).reportBytes n, attReq := false }) := by
  refine gives_modNode rfl ?_
  rw [if_pos ha]

/-! Reset -/

/-- What a module keeps across a reset does not rest on its links. -/
theorem acrossReset_forgetNode : ((s.forgetNode n).node n).acrossReset = (s.node n).acrossReset :=
  (AgreeOffLinks.forgetNode s n).field n Node.acrossReset

theorem reset_gives : Gives (.reset n) s (fun t => t.node n = (s.node n).acrossReset ∧
      (∀ m, m < 4096 → ∀ i off, i < 256 → off < 2 ^ 24 →
        t.mem.find? (fun c => c.1 == memKey .sram ⟨m, i⟩ off) = s.mem.find? (fun c => c.1 == memKey .sram ⟨m, i⟩ off)) ∧
      (n < 4096 → ∀ i off, i < 256 → off < 2 ^ 24 → t.mem.find? (fun c => c.1 == memKey .imem ⟨n, i⟩ off) = none)) := by
  refine ⟨_, rfl, (spGet_spPut_self ..).trans acrossReset_forgetNode, ?_, ?_⟩
  · intro m hm i off hi ho
    have hk := memKey_sram_lt hm hi ho
    dsimp only
    rw [(AgreeOffLinks.forgetNode s n).mem, List.find?_filter]
    congr 1
    funext c
    by_cases hc : c.1 = memKey .sram ⟨m, i⟩ off
    · rw [hc, Nat.div_eq_of_lt hk]
      simp
    · simp [hc]
  · intro hn i off hi ho
    refine List.find?_eq_none.mpr (fun c hc => ?_)
    have hk := (List.mem_filter.mp hc).2
    have hnode := memKey_imem_node hn hi ho
    have hspace := memKey_imem_space hn hi ho
    by_contra he
    rw [beq_iff_eq.mp he, hnode, hspace] at hk
    simp at hk
end

end Sys2Proof.Laws
end

section
/-! Memory moved and cleared: what a byte reads as afterwards. -/

namespace Sys2Proof.Machine

/-! Reading cells in canonical form -/

theorem Memory.get_eq_find {lo : Nat} {m : List Host.Cell} (hm : Memory.wfFrom lo m = true) (a : Nat) :
    Memory.get m a = ((m.find? (fun c => c.1 == a)).map Prod.snd).getD (memDefault a) := by
  induction m generalizing lo with
  | nil => rfl
  | cons c r ih =>
    obtain ⟨j, v⟩ := c
    obtain ⟨-, -, hr⟩ := Memory.wfFrom_cons.mp hm
    by_cases hj : j = a
    · simp [Memory.get, hj]
    · rw [List.find?_cons_of_neg (by simpa using hj), ← ih hr, Memory.get, if_neg hj]
      split
      · exact (Memory.get_of_lt hr (by omega)).symm
      · rfl

/-- No cell in canonical form reads as an unlisted one. -/
theorem Memory.wfFrom_ne_default {lo : Nat} {m : List Host.Cell} (hm : Memory.wfFrom lo m = true) :
    ∀ c ∈ m, c.2 ≠ memDefault c.1 := by
  induction m generalizing lo with
  | nil => simp
  | cons d r ih =>
    obtain ⟨-, hv, hr⟩ := Memory.wfFrom_cons.mp hm
    intro c hc
    rcases List.mem_cons.mp hc with rfl | hc
    · exact hv
    · exact ih hr c hc

/-- The cells that a test of their keys picks, found by key. -/
theorem find_filter_key (m : List Host.Cell) (p : Nat → Bool) (a : Nat) :
    (m.filter (fun c => p c.1)).find? (fun c => c.1 == a) = if p a then m.find? (fun c => c.1 == a) else none := by
  rw [List.find?_filter]
  split
  · rename_i h
    congr 1
    funext c
    by_cases hc : c.1 = a <;> simp [hc, h]
  · rename_i h
    refine List.find?_eq_none.mpr (fun c _ => ?_)
    by_cases hc : c.1 = a <;> simp [hc, h]

/-- Bytes cleared read as if nothing had written them; every other byte is as it was. -/
theorem Memory.get_zero {m : List Host.Cell} (hm : Memory.wf m = true) (k n a : Nat) :
    Memory.get (Memory.zero m k n) a = if k ≤ a ∧ a < k + n then memDefault a else Memory.get m a := by
  rw [Memory.get_eq_find (Memory.wf_zero k n hm), Memory.get_eq_find hm, Memory.zero,
    find_filter_key m (fun j => decide (j < k) || decide (k + n ≤ j))]
  split_ifs with h1 h2 h2
  · simp only [Bool.or_eq_true, decide_eq_true_eq] at h1
    omega
  · rfl
  · rfl
  · simp only [Bool.or_eq_true, decide_eq_true_eq] at h1
    omega

/-- The cells of a move that land at their places are found where they came from. -/
theorem find_shifted {m : List Host.Cell} {src dst n : Nat} (hm : Memory.wf m = true)
    (hd : ∀ j < n, memDefault (src + j) = memDefault (dst + j)) (a : Nat) :
    ((((Memory.below (Memory.from m src) (src + n)).map (fun c => (c.1 - src + dst, c.2))).filter (fun c => c.2 != memDefault c.1)).find?
      (fun c => c.1 == a)).map Prod.snd =
    if dst ≤ a ∧ a < dst + n then (m.find? (fun c => c.1 == a - dst + src)).map Prod.snd else none := by
  have hall : ∀ c ∈ (Memory.below (Memory.from m src) (src + n)).map (fun c => (c.1 - src + dst, c.2)),
      (c.2 != memDefault c.1) = true := by
    intro c hc
    obtain ⟨d, hdm, rfl⟩ := List.mem_map.mp hc
    obtain ⟨hfrom, hlt⟩ := List.mem_filter.mp hdm
    obtain ⟨hmem, hle⟩ := List.mem_filter.mp hfrom
    have hlt := of_decide_eq_true hlt
    have hle := of_decide_eq_true hle
    have := Memory.wfFrom_ne_default hm d hmem
    have hk := hd (d.1 - src) (by omega)
    rw [show src + (d.1 - src) = d.1 by omega, Nat.add_comm dst] at hk
    simpa [← hk] using this
  rw [List.filter_eq_self.mpr hall, List.find?_map, Option.map_map, Memory.below, Memory.from, List.filter_filter, List.find?_filter]
  split
  · rename_i h
    refine congrArg (fun p => (m.find? p).map Prod.snd) (funext fun c => ?_)
    rw [Bool.eq_iff_iff]
    simp only [Function.comp, Bool.and_eq_true, decide_eq_true_eq, beq_iff_eq]
    omega
  · rename_i h
    rw [Option.map_eq_none_iff, List.find?_eq_none]
    intro c _
    simp only [Function.comp, Bool.and_eq_true, decide_eq_true_eq, beq_iff_eq]
    omega

/-- Bytes moved are read at their new place; every other byte is as it was. -/
theorem Memory.get_move {m : List Host.Cell} {src dst n : Nat} (hm : Memory.wf m = true)
    (hd : ∀ j < n, memDefault (src + j) = memDefault (dst + j)) (a : Nat) :
    Memory.get (Memory.move m src dst n) a = if dst ≤ a ∧ a < dst + n then Memory.get m (a - dst + src) else Memory.get m a := by
  have hdef : dst ≤ a ∧ a < dst + n → memDefault (a - dst + src) = memDefault a := by
    intro h
    have := hd (a - dst) (by omega)
    rwa [Nat.add_comm, show dst + (a - dst) = a by omega] at this
  rw [Memory.get_eq_find (Memory.wf_move src dst n hm), Memory.move, List.find?_append, List.find?_append, Option.map_or, Option.map_or,
    find_shifted hm hd, Memory.below, find_filter_key m (fun j => decide (j < dst)), Memory.from,
    find_filter_key m (fun j => decide (dst + n ≤ j)), Memory.get_eq_find hm, Memory.get_eq_find hm]
  simp only [decide_eq_true_eq]
  by_cases h1 : a < dst
  · rw [if_pos h1, if_neg (by omega), if_neg (by omega), if_neg (by omega)]
    simp
  · by_cases h2 : a < dst + n
    · rw [if_neg h1, if_pos (by omega), if_neg (by omega), if_pos (by omega), hdef (by omega)]
      simp
    · rw [if_neg h1, if_neg (by omega), if_pos (by omega), if_neg (by omega)]
      simp

/-! Whole memories of tiles -/

section
variable {sp sp' : MemSpace} {n k i j off len : Nat}

theorem memKey_zero_add : memKey sp ⟨n, i⟩ 0 + off = memKey sp ⟨n, i⟩ off := by
  simp only [memKey]
  omega

/-- A key lies in the first bytes of a tile's memory where it is one of these bytes' keys. -/
theorem memKey_within (hn : n < 4096) (hk : k < 4096) (hi : i < 256) (hj : j < 256) (ho : off < 2 ^ 24) (hl : len ≤ 2 ^ 24) :
    (memKey sp ⟨k, i⟩ 0 ≤ memKey sp' ⟨n, j⟩ off ∧ memKey sp' ⟨n, j⟩ off < memKey sp ⟨k, i⟩ 0 + len) ↔
      (sp' = sp ∧ n = k ∧ j = i ∧ off < len) := by
  cases sp <;> cases sp' <;> simp [memKey, MemSpace.code] <;> omega

/-- An unwritten byte reads as its kind of memory does. -/
theorem memDefault_memKey (hn : n < 4096) (hi : i < 256) (ho : off < 2 ^ 24) :
    memDefault (memKey sp ⟨n, i⟩ off) = if sp = .imem then 0xFF else 0 := by
  have h : memKey sp ⟨n, i⟩ off / 2 ^ 44 = sp.code := by
    simp only [memKey]
    omega
  rw [memDefault, h]
  cases sp <;> rfl

/-- The first bytes of a tile's memory moved to the like memory of another node. -/
theorem Memory.get_move_tile {m : List Host.Cell} {x : Nat} (hm : Memory.wf m = true) (hn : n < 4096) (hk : k < 4096) (hx : x < 4096)
    (hi : i < 256) (hj : j < 256) (ho : off < 2 ^ 24) (hl : len ≤ 2 ^ 24) :
    Memory.get (Memory.move m (memKey sp ⟨n, i⟩ 0) (memKey sp ⟨k, i⟩ 0) len) (memKey sp' ⟨x, j⟩ off) =
      if sp' = sp ∧ x = k ∧ j = i ∧ off < len then Memory.get m (memKey sp ⟨n, i⟩ off) else Memory.get m (memKey sp' ⟨x, j⟩ off) := by
  have hd : ∀ o < len, memDefault (memKey sp ⟨n, i⟩ 0 + o) = memDefault (memKey sp ⟨k, i⟩ 0 + o) := by
    intro o h
    rw [memKey_zero_add, memKey_zero_add, memDefault_memKey hn hi (by omega), memDefault_memKey hk hi (by omega)]
  rw [Memory.get_move hm hd]
  simp only [memKey_within hx hk hi hj ho hl]
  split
  · rename_i h
    obtain ⟨rfl, rfl, rfl, -⟩ := h
    rw [← memKey_zero_add (n := x) (off := off), ← memKey_zero_add (n := n) (off := off), Nat.add_sub_cancel_left, Nat.add_comm]
  · rfl
end

/-! A node's tiles carried to another (R431) -/

/-- One tile's SRAM and instruction memory moved to another node. -/
def Memory.carry (n k : Nat) (m : List Host.Cell) (t : Nat) : List Host.Cell :=
  Memory.move (Memory.move m (memKey .sram ⟨n, t⟩ 0) (memKey .sram ⟨k, t⟩ 0) 0xC00000) (memKey .imem ⟨n, t⟩ 0) (memKey .imem ⟨k, t⟩ 0) 0x10000

/-- Its instruction memory cleared. -/
def Memory.clear (n : Nat) (m : List Host.Cell) (t : Nat) : List Host.Cell := Memory.zero m (memKey .imem ⟨n, t⟩ 0) 0x10000

/-- The bytes of a tile that are carried. -/
def carriedByte (sp : MemSpace) (a : Nat) : Bool :=
  match sp with
  | .sram => decide (a < 0xC00000)
  | .imem => decide (a < 0x10000)
  | _ => false

section
variable {n k x i a t : Nat} {m : List Host.Cell} {ts : List Nat} {sp : MemSpace}

theorem Memory.wf_carry (hm : Memory.wf m = true) : Memory.wf (Memory.carry n k m t) = true :=
  Memory.wf_move _ _ _ (Memory.wf_move _ _ _ hm)

theorem Memory.wf_clear (hm : Memory.wf m = true) : Memory.wf (Memory.clear n m t) = true := Memory.wf_zero _ _ hm

theorem Memory.get_carry (hm : Memory.wf m = true) (hnk : n ≠ k) (hn : n < 4096) (hk : k < 4096) (hx : x < 4096) (ht : t < 256)
    (hi : i < 256) (ha : a < 2 ^ 24) :
    Memory.get (Memory.carry n k m t) (memKey sp ⟨x, i⟩ a) =
      if x = k ∧ i = t ∧ carriedByte sp a = true then Memory.get m (memKey sp ⟨n, i⟩ a) else Memory.get m (memKey sp ⟨x, i⟩ a) := by
  have h1 := Memory.wf_move (memKey .sram ⟨n, t⟩ 0) (memKey .sram ⟨k, t⟩ 0) 0xC00000 hm
  rw [Memory.carry, Memory.get_move_tile h1 hn hk hx ht hi ha (by omega), Memory.get_move_tile hm hn hk hx ht hi ha (by omega),
    Memory.get_move_tile hm hn hk hn ht ht ha (by omega)]
  by_cases hi' : i = t
  · subst hi'
    by_cases hx' : x = k <;> cases sp <;> simp [carriedByte, hnk, hx']
  · simp [hi']

/-- A list of tiles carried. -/
theorem Memory.get_foldl_carry (hm : Memory.wf m = true) (hnk : n ≠ k) (hn : n < 4096) (hk : k < 4096) (hx : x < 4096)
    (hts : ∀ t ∈ ts, t < 256) (hi : i < 256) (ha : a < 2 ^ 24) (hb : carriedByte sp a = true) :
    Memory.get (ts.foldl (Memory.carry n k) m) (memKey sp ⟨x, i⟩ a) =
      if x = k ∧ i ∈ ts then Memory.get m (memKey sp ⟨n, i⟩ a) else Memory.get m (memKey sp ⟨x, i⟩ a) := by
  induction ts generalizing m with
  | nil => simp
  | cons t ts ih =>
    have ht := hts t (List.mem_cons_self ..)
    have hsrc : Memory.get (Memory.carry n k m t) (memKey sp ⟨n, i⟩ a) = Memory.get m (memKey sp ⟨n, i⟩ a) :=
      (Memory.get_carry hm hnk hn hk hn ht hi ha).trans (if_neg (fun h => hnk h.1))
    rw [List.foldl_cons, ih (Memory.wf_carry hm) (fun t h => hts t (List.mem_cons_of_mem _ h)), hsrc,
      Memory.get_carry hm hnk hn hk hx ht hi ha]
    by_cases hx' : x = k
    · by_cases hit : i = t <;> simp [hx', hit, hb]
    · simp [hx']

theorem Memory.wf_foldl_carry (hm : Memory.wf m = true) : Memory.wf (ts.foldl (Memory.carry n k) m) = true := by
  induction ts generalizing m with
  | nil => exact hm
  | cons t ts ih => exact ih (Memory.wf_carry hm)

/-- The instruction memories of a list of tiles cleared. -/
theorem Memory.get_foldl_clear (hm : Memory.wf m = true) (hn : n < 4096) (hx : x < 4096) (hts : ∀ t ∈ ts, t < 256) (hi : i < 256)
    (ha : a < 2 ^ 24) : Memory.get (ts.foldl (Memory.clear n) m) (memKey sp ⟨x, i⟩ a) =
      if sp = .imem ∧ x = n ∧ i ∈ ts ∧ a < 0x10000 then 0xFF else Memory.get m (memKey sp ⟨x, i⟩ a) := by
  induction ts generalizing m with
  | nil => simp
  | cons t ts ih =>
    have ht := hts t (List.mem_cons_self ..)
    rw [List.foldl_cons, ih (Memory.wf_clear hm) (fun t h => hts t (List.mem_cons_of_mem _ h)), Memory.clear,
      Memory.get_zero hm, memDefault_memKey hx hi ha]
    simp only [memKey_within hx hn ht hi ha (by omega : (0x10000 : Nat) ≤ 2 ^ 24)]
    by_cases hsp : sp = .imem <;> by_cases hit : i = t <;> simp [hsp, hit]
    grind
end

end Sys2Proof.Machine
end

section
/-! Transhumance (R431, R432): a spare takes over what a node had. -/

namespace Sys2Proof.Machine

/-- Sparse data changed at every key. -/
theorem spGet_map {α : Type} (d : α) (g : Nat → α → α) (m : Sparse α) (k : Nat) (h : g k d = d) :
    spGet d (m.map (fun e => (e.1, g e.1 e.2))) k = g k (spGet d m k) := by
  induction m with
  | nil => exact h.symm
  | cons e r ih =>
    obtain ⟨j, v⟩ := e
    by_cases hj : j = k
    · simp [spGet, hj]
    · simpa [spGet, hj] using ih

/-! The stages of the move -/

/-- The memories of a list of tiles moved to another node. -/
def State.moveTiles (s : State) (n k : Nat) (ts : List Nat) : State :=
  ts.foldl (fun s t =>
    (s.moveBytes (memKey .sram ⟨n, t⟩ 0) (memKey .sram ⟨k, t⟩ 0) 0xC00000).moveBytes (memKey .imem ⟨n, t⟩ 0) (memKey .imem ⟨k, t⟩ 0) 0x10000) s

/-- The tiles left behind, as after reset, their instruction memories empty. -/
def State.clearTiles (s : State) (n : Nat) (ts : List Nat) : State :=
  ts.foldl (fun s t => (s.zeroBytes .imem ⟨n, t⟩ 0 0x10000).setTile ⟨n, t⟩ Tile.reset) s

section
variable (s : State) (n k m : Nat) (ts : List Nat)

theorem State.mem_moveTiles : (s.moveTiles n k ts).mem = ts.foldl (Memory.carry n k) s.mem :=
  (List.foldl_hom State.mem (fun _ _ => rfl)).symm

theorem State.mem_clearTiles : (s.clearTiles n ts).mem = ts.foldl (Memory.clear n) s.mem :=
  (List.foldl_hom State.mem (fun _ _ => rfl)).symm

/-- Clearing tiles changes nothing of a node but its tiles. -/
theorem State.node_clearTiles : ∃ xs, (s.clearTiles n ts).node m = { s.node m with tiles := xs } := by
  unfold State.clearTiles
  induction ts generalizing s with
  | nil => exact ⟨_, rfl⟩
  | cons t ts ih =>
    obtain ⟨xs, h⟩ := ih ((s.zeroBytes .imem ⟨n, t⟩ 0 0x10000).setTile ⟨n, t⟩ Tile.reset)
    refine ⟨xs, h.trans ?_⟩
    rw [State.setTile, State.node_modNode_eq]
    split <;> rfl

/-- A tile that is clear stays so. -/
theorem State.tile_clearTiles_of_reset {t : Nat} (h : s.tile ⟨n, t⟩ = Tile.reset) : (s.clearTiles n ts).tile ⟨n, t⟩ = Tile.reset := by
  unfold State.clearTiles
  induction ts generalizing s with
  | nil => exact h
  | cons u us ih =>
    refine ih _ ?_
    by_cases hu : t = u
    · rw [hu, State.tile_setTile]
    · rw [State.tile_setTile_of_ne _ _ _ (by simpa using hu)]
      exact h

theorem State.tile_clearTiles {t : Nat} (h : t ∈ ts) : (s.clearTiles n ts).tile ⟨n, t⟩ = Tile.reset := by
  induction ts generalizing s with
  | nil => cases h
  | cons u us ih =>
    rcases List.mem_cons.mp h with rfl | h
    · exact State.tile_clearTiles_of_reset _ n us (State.tile_setTile ..)
    · exact ih _ h

/-- The names of a node's tasks in locks and on its tiles' contexts once the spare has them. -/
def Node.renamed (n k j : Nat) (y : Node) : Node :=
  let claim := fun (c : Claim) => { c with ctx := movedRef n k c.ctx }
  { y with
    locks := y.locks.map (fun o => { o with holders := o.holders.map claim, queue := o.queue.map claim })
    tiles := if j = k then y.tiles.map (fun t => (t.1, { t.2 with
      ctxs := t.2.ctxs.map (fun c => { c with parent := c.parent.map (movedRef n k) }) })) else y.tiles }

theorem Node.renamed_reset (j : Nat) : Node.reset.renamed n k j = Node.reset := by
  unfold Node.renamed
  split <;> rfl

/-- What a node hands over: its droves and its fold region pass to the spare, and it keeps none; tasks and locks that name it are renamed;
and the spare announces the move. -/
theorem State.carryOver_stages : ∃ fk fn : Node → Node,
    (∀ y, (fk y).droves = (s.node n).droves ∧ (fk y).fold = (s.node n).fold) ∧ (∀ y, (fn y).droves = [] ∧ (fn y).fold = none) ∧
    (let v := (((s.moveTiles n k (s.usedTiles n)).modNode k fk).modNode n fn).clearTiles n (s.usedTiles n)
     s.carryOver n k =
      { v with nodes := v.nodes.map (fun (e : Nat × Node) => (e.1, e.2.renamed n k e.1)) }.announceMove n k (s.droveNodes n)) := by
  refine ⟨_, _, ?_, ?_, rfl⟩
  · exact fun _ => ⟨rfl, rfl⟩
  · exact fun _ => ⟨rfl, rfl⟩

end

/-! What the spare and the node hold afterwards -/

section
variable {s : State} {n k : Nat}

theorem State.isSpare_ne (h : s.isSpare n k = true) : n ≠ k := by
  simp only [State.isSpare, Bool.and_eq_true, bne_iff_ne] at h
  exact h.1.1.1.1

theorem State.usedTiles_lt (s : State) (n : Nat) : ∀ i ∈ s.usedTiles n, i < 256 :=
  fun _ h => List.mem_range.mp (List.mem_of_mem_filter h)

/-- The spare takes over the droves and the fold region, the node keeps none, and its used tiles are as after reset. -/
theorem State.node_carryOver (h : n ≠ k) :
    ((s.carryOver n k).node k).droves = (s.node n).droves.map (movedEntry n k) ∧ ((s.carryOver n k).node n).droves = [] ∧
      ((s.carryOver n k).node k).fold = (s.node n).fold ∧ ((s.carryOver n k).node n).fold = none ∧
      ∀ i ∈ s.usedTiles n, (s.carryOver n k).tile ⟨n, i⟩ = Tile.reset := by
  obtain ⟨fk, fn, hfk, hfn, he⟩ := s.carryOver_stages n k
  rw [he]
  generalize hu : ((s.moveTiles n k (s.usedTiles n)).modNode k fk).modNode n fn = u
  let v := u.clearTiles n (s.usedTiles n)
  let w : State := { v with nodes := v.nodes.map (fun (e : Nat × Node) => (e.1, e.2.renamed n k e.1)) }
  have ha := AgreeOffLinks.announceMove w n k (s.droveNodes n)
  have hw : ∀ m, w.node m = (v.node m).renamed n k m := fun m =>
    spGet_map Node.reset (fun j y => y.renamed n k j) v.nodes m (Node.renamed_reset ..)
  have hk : (w.modNode k (fun x => x.movePoint k n k)).node k = ((v.node k).renamed n k k).movePoint k n k := by
    rw [State.node_modNode, hw]
  have hn : (w.modNode k (fun x => x.movePoint k n k)).node n = (v.node n).renamed n k n := by
    rw [State.node_modNode_of_ne _ _ _ h, hw]
  obtain ⟨tk, hvk⟩ := u.node_clearTiles n k (s.usedTiles n)
  obtain ⟨tn, hvn⟩ := u.node_clearTiles n n (s.usedTiles n)
  have huk : u.node k = fk ((s.moveTiles n k (s.usedTiles n)).node k) := by
    rw [← hu, State.node_modNode_of_ne _ _ _ h.symm, State.node_modNode]
  have hun : ∃ y, u.node n = fn y := ⟨_, by rw [← hu, State.node_modNode]⟩
  obtain ⟨y, hun⟩ := hun
  have hdk : (v.node k).droves = (s.node n).droves ∧ (v.node k).fold = (s.node n).fold := by
    rw [show v.node k = _ from hvk, huk]
    exact hfk _
  have hdn : (v.node n).droves = [] ∧ (v.node n).fold = none := by
    rw [show v.node n = _ from hvn, hun]
    exact hfn _
  refine ⟨?_, ?_, ?_, ?_, fun i hi => ?_⟩
  · rw [ha.field k Node.droves, hk]
    exact congrArg (List.map (movedEntry n k)) hdk.1
  · rw [ha.field n Node.droves, hn]
    exact hdn.1
  · rw [ha.field k Node.fold, hk]
    exact hdk.2
  · rw [ha.field n Node.fold, hn]
    exact hdn.2
  · rw [ha.tile, State.tile, hn, Node.renamed, if_neg h]
    exact u.tile_clearTiles n _ hi

/-- The bytes of the node's used tiles are read at the spare, and its instruction memory there is empty. -/
theorem State.mem_carryOver : (s.carryOver n k).mem = (s.usedTiles n).foldl (Memory.clear n) ((s.usedTiles n).foldl (Memory.carry n k) s.mem) := by
  obtain ⟨fk, fn, -, -, he⟩ := s.carryOver_stages n k
  rw [he, (AgreeOffLinks.announceMove ..).mem, State.modNode_mem]
  dsimp only
  rw [State.mem_clearTiles, State.modNode_mem, State.modNode_mem, State.mem_moveTiles]

theorem State.readByte_carryOver (h : n ≠ k) (hm : Memory.wf s.mem = true) (hn : n < 4096) (hk : k < 4096) {i : Nat}
    (hi : i ∈ s.usedTiles n) :
    (∀ a < 0xC00000, (s.carryOver n k).readByte .sram ⟨k, i⟩ a = s.readByte .sram ⟨n, i⟩ a) ∧
      (∀ a < 0x10000, (s.carryOver n k).readByte .imem ⟨k, i⟩ a = s.readByte .imem ⟨n, i⟩ a ∧
        (s.carryOver n k).readByte .imem ⟨n, i⟩ a = 0xFF) := by
  have ht := s.usedTiles_lt n
  have hw := Memory.wf_foldl_carry (n := n) (k := k) (ts := s.usedTiles n) hm
  simp only [State.readByte, State.mem_carryOver]
  refine ⟨fun a ha => ?_, fun a ha => ⟨?_, ?_⟩⟩
  · rw [Memory.get_foldl_clear hw hn hk ht (ht i hi) (by omega), if_neg (by simp),
      Memory.get_foldl_carry hm h hn hk hk ht (ht i hi) (by omega) (by simpa [carriedByte] using ha), if_pos ⟨rfl, hi⟩]
  · rw [Memory.get_foldl_clear hw hn hk ht (ht i hi) (by omega), if_neg (by simp [h.symm]),
      Memory.get_foldl_carry hm h hn hk hk ht (ht i hi) (by omega) (by simpa [carriedByte] using ha), if_pos ⟨rfl, hi⟩]
  · rw [Memory.get_foldl_clear hw hn hn ht (ht i hi) (by omega), if_pos ⟨rfl, rfl, hi, ha⟩]

end

/-! A drove rebuilt -/

/-- An element put in the place of a list before which none is picked is the one picked. -/
theorem find_set_of_none_before {α : Type} {l : List α} {p : α → Bool} {i : Nat} {e : α} (hi : i < l.length) (he : p e = true)
    (hb : ∀ j (h : j < l.length), j < i → p l[j] = false) : (l.set i e).find? p = some e := by
  rw [List.find?_eq_some_iff_getElem]
  refine ⟨he, i, by simpa using hi, List.getElem_set_self _, fun j hj => ?_⟩
  rw [List.getElem_set_ne (by omega), hb j (by omega) hj]
  rfl

/-- An entry placed in the drove table is found there. -/
theorem Node.drove_setDrove (x : Node) {e : DroveEntry} (hv : e.valid = true) : (x.setDrove e).drove e.drove = some e := by
  have he : (e.valid && e.drove == e.drove) = true := by simp [hv]
  unfold Node.setDrove Node.drove
  cases h1 : x.droves.findIdx? (fun y => y.drove == e.drove) with
  | some k =>
    obtain ⟨hk, -, hb⟩ := List.findIdx?_eq_some_iff_getElem.mp h1
    exact find_set_of_none_before hk he (fun j _ hj => by simpa using fun _ => by simpa using hb j hj)
  | none =>
    have hno := List.findIdx?_eq_none_iff.mp h1
    cases h2 : x.droves.findIdx? (fun y => !y.valid && y.st == .absent) with
    | some k =>
      obtain ⟨hk, -, -⟩ := List.findIdx?_eq_some_iff_getElem.mp h2
      exact find_set_of_none_before hk he (fun j h _ => by simpa using fun _ => by simpa using hno _ (List.getElem_mem h))
    | none =>
      have hf : x.droves.find? (fun y => y.valid && y.drove == e.drove) = none :=
        List.find?_eq_none.mpr (fun y hy => by simpa using fun _ => by simpa using hno y hy)
      simp [hf, hv]

section
variable (s : State) (n k : Nat) (d : BitVec 32)

/-- A drove that cannot be rebuilt is logged as a failure. -/
def State.rebuildFails (s : State) (k : Nat) : State := s.rasLog k 5 ⟨0, 0, 0⟩ 0 0

/-- A drove of a lost node is rebuilt on the spare from an entry that another node keeps, or the failure is logged. -/
theorem State.rebuildDrove_cases : s.rebuildDrove n k d = s.rebuildFails k ∨
    ∃ (m : Nat) (y : DroveEntry) (v : State) (xs : Node → List Export), m ≠ n ∧ (s.node m).failed = false ∧ (s.node m).drove d = some y ∧ s.rebuildDrove n k d =
      v.modNode k (fun x => { (x.setDrove { movedEntry n k y with standby := [] }) with exports := xs x }) := by
  unfold State.rebuildDrove
  dsimp only
  split
  · exact .inl rfl
  · rename_i m hm
    have hp := List.find?_some hm
    simp only [State.lost, Bool.and_eq_true, bne_iff_ne, Bool.not_eq_true'] at hp
    split
    · exact .inl rfl
    · rename_i y hy
      split
      · exact .inl rfl
      · split
        · exact .inl rfl
        · exact .inr ⟨m, y, _, _, hp.1.1, hp.1.2, hy, rfl⟩

/-- Where no other node keeps an entry of it, it cannot be rebuilt. -/
theorem State.rebuildDrove_of_none (h : ∀ m, m ≠ n → (s.node m).failed = false → (s.node m).drove d = none) :
    s.rebuildDrove n k d = s.rebuildFails k := by
  obtain he | ⟨m, y, v, xs, hm, hf, hy, -⟩ := s.rebuildDrove_cases n k d
  · exact he
  · rw [h m hm hf] at hy
    cases hy
end

end Sys2Proof.Machine

namespace Sys2Proof.Laws

open Sys2Proof.Machine

section
variable {s : State} {n k : Nat}

/-- The transhumance of a node with droves to a spare. -/
theorem exec_transhumance_spare (hs : s.isSpare n k = true) (hv : (s.node n).droves.any (fun e => e.valid) = true) :
    exec (.transhumance n k) s = .next
      (if (s.node n).failed then { s with net := s.net.filter (fun e => e != Event.transhumance n k) }.leaveFailed n k
      else if s.net.contains (.transhumance n k) then
        (if s.mayLeave n then (arrived s (.transhumance n k)).carryOver n k else s)
      else (s.beginLeave n).send (.transhumance n k)) := by
  refine congrArg Host.Outcome.next (if_neg ?_)
  rw [hs, List.all_eq_not_any_not]
  simpa using hv

theorem transhumance_failed (hs : s.isSpare n k = true) (hv : (s.node n).droves.any (fun e => e.valid) = true)
    (hf : (s.node n).failed = true) : exec (.transhumance n k) s =
      .next ({ s with net := s.net.filter (fun e => e != Event.transhumance n k) }.leaveFailed n k) := by
  rw [exec_transhumance_spare hs hv, if_pos hf]

/-- That of a node that has not failed waits until it may be left. -/
theorem transhumance_under_way (hs : s.isSpare n k = true) (hv : (s.node n).droves.any (fun e => e.valid) = true)
    (hf : (s.node n).failed = false) (hw : OnItsWay s (.transhumance n k)) : exec (.transhumance n k) s =
      .next (if s.mayLeave n then (arrived s (.transhumance n k)).carryOver n k else s) := by
  unfold OnItsWay at hw
  rw [exec_transhumance_spare hs hv, if_neg (by rw [hf]; decide), if_pos hw]

theorem rebuildDrove_gives (d : BitVec 32) :
    let t := s.rebuildDrove n k d
    ((t.node k).nlog = (s.node k).nlog + 1 ∧ t.mem = s.mem ∧ (t.node k).droves = (s.node k).droves) ∨
      ∃ m y, m ≠ n ∧ (s.node m).failed = false ∧ (s.node m).drove d = some y ∧
        (t.node k).drove d = some { movedEntry n k y with standby := [] } := by
  obtain he | ⟨m, y, v, xs, hm, hf, hy, he⟩ := s.rebuildDrove_cases n k d
  · left
    rw [he]
    exact ⟨State.nlog_rasLog .., State.rasLog_mem .., State.droves_rasLog ..⟩
  · right
    refine ⟨m, y, hm, hf, hy, ?_⟩
    have hp := List.find?_some hy
    simp only [Bool.and_eq_true, beq_iff_eq] at hp
    rw [he, State.node_modNode, ← hp.2]
    exact Node.drove_setDrove _ (e := { movedEntry n k y with standby := [] }) hp.1

theorem leaveFailed_logs {e : DroveEntry} (hv : (s.node n).droves.filter (fun e => e.valid) = [e]) (hf : (s.node n).fold = none)
    (h : ∀ m, m ≠ n → (s.node m).failed = false → (s.node m).drove e.drove = none) :
    ((s.leaveFailed n k).node k).nlog = (s.node k).nlog + 1 ∧ (s.leaveFailed n k).mem = s.mem := by
  have ha := AgreeOffLinks.announceMove (s.rebuildFails k) n k (s.droveNodes n)
  have he : s.leaveFailed n k = (s.rebuildFails k).announceMove n k (s.droveNodes n) := by
    simp only [State.leaveFailed, hv, hf, List.foldl_cons, List.foldl_nil, s.rebuildDrove_of_none n k e.drove h]
  rw [he, ha.field k Node.nlog, ha.mem, State.node_modNode]
  exact ⟨State.nlog_rasLog .., State.rasLog_mem ..⟩

end

end Sys2Proof.Laws
end

section
/-! O50 from what each step gives. -/

namespace Sys2Proof.Laws

open Sys2Proof.Machine

/-- Settles O50: each clause is what its step gives. -/
theorem nodesFailAndRecover : Obligations.NodesFailAndRecover := by
  unfold Obligations.NodesFailAndRecover
  intro s n k u im w b r bs
  refine ⟨correctedError_counted, fun hst ⟨hb, ht⟩ => correctedError_suspect hst hb ht,
    fun hc hst ⟨hb, ht⟩ => correctedError_retired hc hst hb ht, uncorrectedError_poisons, suspectReversion_good, suspectReversion_early,
    counterHourBucket_opens, rfl, bankRetirement_gives, tileCoreRetirement_gives, tileCoreRetirement_waits, laneRetirement_gives,
    fun c => laneRetrained_gives, fun c => bundleDown_gives, rascfgLock_gives, rascfgLock_discarded, failNode_gives rfl, failNode_failed_twice,
    thermalTrip_gives, powerLoss_gives, throttleStep_gives, pwrcapWrite_gives, boot_accepted, boot_recovers, recoveryImage_taken,
    recoveryImage_other, fun i => registerWrite_image, attestationRequest_gives, attestationComplete_gives, transhumance_failed,
    fun hs hv hf hw hl => (transhumance_under_way hs hv hf hw).trans (by rw [hl, if_pos rfl]),
    fun hs hv hf hw hl => (transhumance_under_way hs hv hf hw).trans (by rw [hl]; rfl), ?carried,
    fun d _ => rebuildDrove_gives d, fun e _ hv hf h => leaveFailed_logs hv hf h, reset_gives⟩
  case carried =>
    intro hs
    have hne := State.isSpare_ne hs
    obtain ⟨hdk, hdn, hfk, hfn, ht⟩ := State.node_carryOver (s := s) hne
    exact ⟨hdk, hdn, hfk, hfn, fun i hi => ⟨ht i hi, fun hm hn hk => State.readByte_carryOver hne hm hn hk hi⟩⟩

end Sys2Proof.Laws
end

section
/-! The management region, its mailbox and the control of the host's queues (R409 to R411, R414): what each step gives. -/

namespace Sys2Proof.Machine

/-! Queues of a node -/

section
variable (s : State) (n k : Nat) (f : HostQueue → HostQueue)

@[simp] theorem State.node_modQueue : (s.modQueue n k f).node n =
    { s.node n with queues := spPut (s.node n).queues k (f ((s.node n).queue k)) } := State.node_modNode ..
@[simp] theorem State.queue_modQueue : ((s.modQueue n k f).node n).queue k = f ((s.node n).queue k) := by
  rw [State.node_modQueue]
  exact spGet_spPut_self ..
end

/-! The region -/

theorem State.dgen_arrived (s : State) (e : Event) (n : Nat) (d : DroveEntry) : (arrived s e).dgen n d = s.dgen n d := by
  have h : ∀ g, (arrived s e).tagCount n d.drove g = s.tagCount n d.drove g := fun g => rfl
  simp only [State.dgen, h]

theorem State.readBlock_arrived (s : State) (e : Event) (n off : Nat) : (arrived s e).readBlock n off = s.readBlock n off := by
  unfold State.readBlock
  rfl

theorem State.readDrove_arrived (s : State) (e : Event) (n off : Nat) : (arrived s e).readDrove n off = s.readDrove n off := by
  have h : (arrived s e).droveAt n (off / 64) = s.droveAt n (off / 64) := rfl
  unfold State.readDrove
  rw [h]
  split
  · rfl
  · exact State.dgen_arrived ..
  · rfl

/-- A read of the region does not depend on what is on its way. -/
theorem State.barRead_arrived (s : State) (e : Event) (n off : Nat) : (arrived s e).barRead n off = s.barRead n off := by
  simp only [State.barRead, State.readBlock_arrived, State.readDrove_arrived, node_arrived, tile_arrived]

section
variable {s : State} {n off : Nat} {w : Word}

/-- A write of a scheduler block of a node that answers. -/
theorem State.barWrite_sched (ha : (s.node n).answers = true) (h1 : 0x100000 ≤ off) (h2 : off < 0x200000) :
    s.barWrite n off w = s.writeSched ⟨n, (off - 0x100000) / 0x1000⟩ (off % 0x1000) w := by
  have hl : barListed off = true := by simp [barListed, h1, h2]
  rw [State.barWrite, if_neg (by omega), if_neg (by simp [hl, ha]), if_neg (by omega), if_pos h2]

/-- A write of the node block outside the image window is discarded by a node that does not answer. -/
theorem State.writeBlock_unanswered (ha : (s.node n).answers = false) (ho : off < 0x8000) : s.writeBlock n off w = s := by
  rw [State.writeBlock, if_neg (by omega), if_pos (by simp [ha])]

/-- A locked register keeps its value. -/
theorem State.writeBlock_locked (hl : (s.node n).locked = true) (hb : blockLocks off = true) (ho : off < 0x8000) :
    s.writeBlock n off w = s := by
  rw [State.writeBlock, if_neg (by omega), if_pos (by simp [hl, hb])]

/-- The first two registers of the block are read-only. -/
theorem State.writeBlock_readOnly : s.writeBlock n 0 w = s ∧ s.writeBlock n 8 w = s := by
  constructor <;> simp [State.writeBlock]

theorem State.writeBlock_swint (ha : (s.node n).answers = true) : s.writeBlock n 0x18 w = s.swint n w := by
  simp [State.writeBlock, ha, blockLocks]

theorem State.writeBlock_mbin7 (ha : (s.node n).answers = true) : s.writeBlock n 0x78 w = s.mbin7 n w := by
  simp [State.writeBlock, ha, blockLocks]
end

end Sys2Proof.Machine

namespace Sys2Proof.Laws

open Sys2Proof.Machine

section
variable {s : State} {n k : Nat} {w : Word} {r : TileRef}

/-! Registers -/

theorem registerWrite_need (ha : (s.node n).recovery = false ∧ (s.node n).failed = false) {i j : Nat} (hi : i < 256) (hj : j < 16) :
    Gives (.registerWrite n (BitVec.ofNat 26 (0x100000 + 0x1000 * i + 8 * j)) w) s (fun u =>
      ((u.tile ⟨n, i⟩).need[j]?).getD 0 = w &&& 0xFFFFFFFFF8000000 ∧ (u.mem = s.mem ∧ u.packets = s.packets ∧ u.net = s.net) ∧
        ∀ y, y ≠ i → u.tile ⟨n, y⟩ = s.tile ⟨n, y⟩) := by
  have he := exec_registerWrite_at (s := s) (n := n) (w := w) (off := 0x100000 + 0x1000 * i + 8 * j) (by omega) (by omega)
  rw [State.barWrite_sched ((Node.answers_iff _).mpr ha) (by omega) (by omega),
    show (0x100000 + 0x1000 * i + 8 * j - 0x100000) / 0x1000 = i by omega,
    show (0x100000 + 0x1000 * i + 8 * j) % 0x1000 = 8 * j by omega, State.writeSched, if_pos (by omega),
    Nat.mul_div_cancel_left _ (by decide)] at he
  refine ⟨_, he, ?_, ⟨rfl, rfl, rfl⟩, fun y hy => State.tile_modTile_of_ne _ _ _ (by simpa using hy)⟩
  rw [State.tile_modTile, Vector.getElem?_setIfInBounds_self_of_lt hj]
  rfl

theorem registerWrite_schstat (ha : (s.node n).recovery = false ∧ (s.node n).failed = false) {i : Nat} (hi : i < 256) :
    Gives (.registerWrite n (BitVec.ofNat 26 (0x100000 + 0x1000 * i + 0x80)) w) s (fun u =>
      (u.tile ⟨n, i⟩).schstat = w &&& 0xFFFFFFFF00000000 ∧ (u.mem = s.mem ∧ u.packets = s.packets ∧ u.net = s.net)) := by
  have he := exec_registerWrite_at (s := s) (n := n) (w := w) (off := 0x100000 + 0x1000 * i + 0x80) (by omega) (by omega)
  rw [State.barWrite_sched ((Node.answers_iff _).mpr ha) (by omega) (by omega),
    show (0x100000 + 0x1000 * i + 0x80 - 0x100000) / 0x1000 = i by omega,
    show (0x100000 + 0x1000 * i + 0x80) % 0x1000 = 0x80 by omega, State.writeSched, if_neg (by omega), if_pos rfl] at he
  exact ⟨_, he, by rw [State.tile_modTile], rfl, rfl, rfl⟩

theorem registerWrite_readOnly : exec (.registerWrite n 0 w) s = .next s ∧ exec (.registerWrite n 8 w) s = .next s :=
  ⟨congrArg Host.Outcome.next State.writeBlock_readOnly.1, congrArg Host.Outcome.next State.writeBlock_readOnly.2⟩

theorem registerWrite_locked (hl : (s.node n).locked = true) : exec (.registerWrite n 0x400 w) s = .next s :=
  congrArg Host.Outcome.next (State.writeBlock_locked hl (by decide) (by decide : (0x400 : Nat) < 0x8000))

theorem swint_gives (ha : (s.node n).recovery = false ∧ (s.node n).failed = false) :
    exec (.swint n w) s = .next { s with net := s.net ++ [.interruptPending ⟨n, wfld w 0 8⟩ 2] } :=
  congrArg Host.Outcome.next (State.writeBlock_swint ((Node.answers_iff _).mpr ha))

theorem mbin7Write_gives (ha : (s.node n).recovery = false ∧ (s.node n).failed = false) : Gives (.mbin7Write n w) s (fun u =>
    (u.node n).mbin = (s.node n).mbin.set 7 w ∧
      u.net = s.net ++ [.interruptPending ⟨n, wfld ((s.node n).mbin[0]) 0 8⟩ 1] ∧ u.mem = s.mem ∧ u.packets = s.packets) := by
  refine ⟨_, congrArg Host.Outcome.next (State.writeBlock_mbin7 ((Node.answers_iff _).mpr ha)), ?_, ?_, rfl, rfl⟩
  · rw [State.mbin7, State.raiseLine, State.node_send, State.node_modNode]
    exact Vector.ext (fun i hi => by rw [Vector.getElem_setIfInBounds, Vector.getElem_set])
  · simp [State.mbin7, State.raiseLine]

/-- A node that does not answer discards what is written to it. -/
theorem writes_unanswered (ha : ¬((s.node n).recovery = false ∧ (s.node n).failed = false)) :
    exec (.swint n w) s = .next s ∧ exec (.mbin7Write n w) s = .next s ∧ exec (.qtailWrite n k w) s = .next s ∧
      exec (.qcfgWrite n k w) s = .next s ∧ exec (.cresync n w) s = .next s := by
  have h : (s.node n).answers = false := Bool.eq_false_iff.mpr (mt (Node.answers_iff _).mp ha)
  have hn : ¬(s.node n).answers = true := by simp [h]
  exact ⟨congrArg Host.Outcome.next (State.writeBlock_unanswered h (by decide : (0x18 : Nat) < 0x8000)),
    congrArg Host.Outcome.next (State.writeBlock_unanswered h (by decide : (0x78 : Nat) < 0x8000)),
    congrArg Host.Outcome.next (if_neg hn), congrArg Host.Outcome.next (if_neg hn), congrArg Host.Outcome.next (if_neg hn)⟩

/-! The mailbox -/

theorem mailboxAccess_accepted (h : OnItsWay s (.mailboxAccess r w)) : exec (.mailboxAccess r w) s =
    .next ((arrived s (.mailboxAccess r w)).send (.mailboxComplete r)) :=
  (exec_mailboxAccess s).trans (State.taking_of_onItsWay _ h)

/-- The first accepted access of a node's mailboxes is performed. -/
theorem mailboxComplete_first (h : FirstMailbox s r) : exec (.mailboxComplete r) s =
    .next ((arrived s (.mailboxComplete r)).mailboxDone r) :=
  (if_pos h).trans (State.taking_of_onItsWay _ (List.contains_iff_mem.mpr (List.mem_of_find?_eq_some h)))

theorem mailboxComplete_read (h : FirstMailbox s r) (hw : (s.tile r).mbreq.getLsbD 62 = false)
    (hl : barListed (wfld (s.tile r).mbreq 0 26 / 8 * 8) = true) : Gives (.mailboxComplete r) s (fun u =>
      (u.tile r).mbdata = s.barRead r.node (wfld (s.tile r).mbreq 0 26 / 8 * 8) ∧
        (u.tile r).mbreq = (s.tile r).mbreq &&& 0x7FFFFFFFFFFFFFFF ∧
        (u.tile r).mbstat = (s.tile r).mbstat ||| 0x8000000000000000 ∧ u.mem = s.mem) := by
  refine ⟨_, mailboxComplete_first h, ?_⟩
  simp only [State.mailboxDone, tile_arrived, node_arrived, hw, hl, Bool.not_true, Bool.false_and, Bool.or_self, Bool.false_eq_true,
    if_false, State.tile_modTile, State.barRead_arrived]
  exact ⟨trivial, trivial, trivial, rfl⟩

theorem mailboxComplete_write (h : FirstMailbox s r) (hw : (s.tile r).mbreq.getLsbD 62 = true)
    (hl : barListed (wfld (s.tile r).mbreq 0 26 / 8 * 8) = true)
    (hk : ((s.node r.node).locked && blockLocks (wfld (s.tile r).mbreq 0 26 / 8 * 8)) = false) : exec (.mailboxComplete r) s =
      .next (((arrived s (.mailboxComplete r)).barWrite r.node (wfld (s.tile r).mbreq 0 26 / 8 * 8) (s.tile r).mbdata).modTile r
        (fun y => { y with mbreq := y.mbreq &&& 0x7FFFFFFFFFFFFFFF, mbstat := y.mbstat ||| 0x8000000000000000 })) := by
  rw [mailboxComplete_first h]
  simp only [State.mailboxDone, tile_arrived, node_arrived, hw, hl, Bool.not_true, Bool.true_and, hk, Bool.or_self, Bool.false_eq_true,
    if_false, if_true]

theorem mailboxComplete_refused (h : FirstMailbox s r)
    (hb : barListed (wfld (s.tile r).mbreq 0 26 / 8 * 8) = false ∨ (s.tile r).mbreq.getLsbD 62 = true ∧
      (s.node r.node).locked = true ∧ blockLocks (wfld (s.tile r).mbreq 0 26 / 8 * 8) = true) :
    Gives (.mailboxComplete r) s (fun u => (u.tile r).mbdata = (s.tile r).mbdata ∧
      (u.tile r).mbreq = (s.tile r).mbreq &&& 0x7FFFFFFFFFFFFFFF ∧
        (u.tile r).mbstat = (s.tile r).mbstat ||| 0xC000000000000000 ∧ u.mem = s.mem) := by
  have hbad : (!barListed (wfld (s.tile r).mbreq 0 26 / 8 * 8) || ((s.tile r).mbreq.getLsbD 62 && (s.node r.node).locked &&
      blockLocks (wfld (s.tile r).mbreq 0 26 / 8 * 8))) = true := by
    rcases hb with hb | ⟨h1, h2, h3⟩
    · simp [hb]
    · simp [h1, h2, h3]
  refine ⟨_, mailboxComplete_first h, ?_⟩
  simp only [State.mailboxDone, tile_arrived, node_arrived, hbad, if_true, State.tile_modTile]
  exact ⟨trivial, trivial, trivial, rfl⟩

end

end Sys2Proof.Laws
end

section
/-! The host's queues (R411 to R414): what each step gives. -/

namespace Sys2Proof.Machine

/-! Fields -/

/-- A field of a masked word whose bits the mask keeps. -/
theorem wfld_and {w m : Word} {lo len : Nat} (h : ∀ i < len, m.getLsbD (lo + i) = true) : wfld (w &&& m) lo len = wfld w lo len := by
  refine Nat.eq_of_testBit_eq (fun i => ?_)
  simp only [wfld, fld, BitVec.toNat_and, Nat.testBit_mod_two_pow, Nat.testBit_shiftRight, Nat.testBit_and]
  by_cases hi : i < len
  · have := h i hi
    rw [BitVec.getLsbD] at this
    simp [hi, this]
  · simp [hi]

/-- A field that is written reads as it was written. -/
theorem wfld_setFld {w : Word} {lo len v : Nat} (hl : lo + len ≤ 64) (hv : v < 2 ^ len) : wfld (setFld w lo len v) lo len = v := by
  refine Nat.eq_of_testBit_eq (fun i => ?_)
  have key : ∀ j < len, (setFld w lo len v).getLsbD (lo + j) = v.testBit j := by
    intro j hj
    simp only [setFld, BitVec.getLsbD_or, BitVec.getLsbD_and, BitVec.getLsbD_not, BitVec.getLsbD_ofNat, Nat.mod_eq_of_lt hv,
      Nat.testBit_shiftLeft, Nat.testBit_two_pow_sub_one, show lo + j < 64 by omega, Nat.add_sub_cancel_left, Nat.le_add_right, hj]
    simp
  simp only [wfld, fld, Nat.testBit_mod_two_pow, Nat.testBit_shiftRight]
  by_cases hi : i < len
  · simpa [hi, BitVec.getLsbD] using key i hi
  · have : v.testBit i = false := Nat.testBit_lt_two_pow (Nat.lt_of_lt_of_le hv (Nat.pow_le_pow_right (by decide) (Nat.le_of_not_lt hi)))
    simp [hi, this]

theorem wfld_lt (w : Word) (lo len : Nat) : wfld w lo len < 2 ^ len := Nat.mod_lt _ (Nat.two_pow_pos len)

/-! Queue control -/

section
variable {s : State} {n k : Nat} {w : Word} {b : QueueBinding}

/-- An index beyond the ring is refused. -/
theorem State.writeQtail_refused (h : ((s.node n).queue k).entries < (if 8192 ≤ k then ((s.node n).queue k).head - w.setWidth 16
    else w.setWidth 16 - ((s.node n).queue k).head).toNat) : s.writeQtail n k w = s.modQueue n k (fun q => q.refuse 2) := by
  rw [State.writeQtail]
  exact if_pos (by simpa using h)

theorem State.writeQtail_ingress (hk : k < 8192)
    (h : (w.setWidth 16 - ((s.node n).queue k).head).toNat ≤ ((s.node n).queue k).entries) :
    s.writeQtail n k w = s.modQueue n k (fun q => { q with tail := w.setWidth 16 }) := by
  simp only [State.writeQtail, Nat.not_le.mpr hk, decide_false, Bool.false_and, Bool.false_eq_true, if_false, if_neg (Nat.not_lt.mpr h)]

/-- The entries that an egress write passes return their credits. -/
theorem State.writeQtail_egress (hk : 8192 ≤ k)
    (h : (((s.node n).queue k).head - w.setWidth 16).toNat ≤ ((s.node n).queue k).entries)
    (hb : ((s.node n).queue k).binding = some b) (hp : 0 < (w.setWidth 16 - ((s.node n).queue k).tail).toNat) :
    s.writeQtail n k w =
      let s1 := s.modQueue n k (fun q => { q with tail := w.setWidth 16 })
      if ((s.node n).queue k).en then s1.post n (.creditArrival ⟨n, b.tile⟩ (BitVec.ofNat 5 b.stream)
        (w.setWidth 16 - ((s.node n).queue k).tail).toNat)
      else s1.modQueue n k (fun q => { q with credits := q.credits - (w.setWidth 16 - ((s.node n).queue k).tail).toNat }) := by
  simp only [State.writeQtail, hk, decide_true, if_true, if_neg (Nat.not_lt.mpr h), hp, Bool.and_self, hb]

/-- What a write of `QCFG` keeps of its word. -/
theorem qcfg_fields (w : Word) : (w &&& 0x80000000000F07FF).getLsbD 63 = w.getLsbD 63 ∧ wfld (w &&& 0x80000000000F07FF) 16 4 = wfld w 16 4 :=
  ⟨by simp, wfld_and (by decide)⟩

theorem State.writeQcfg_small (he : ((s.node n).queue k).en = false) (hw : w.getLsbD 63 = true) (hl : wfld w 16 4 < 6) :
    s.writeQcfg n k w = s.modQueue n k (fun q => q.refuse 1) := by
  obtain ⟨h1, h2⟩ := qcfg_fields w
  simp only [State.writeQcfg, he, Bool.false_eq_true, if_false, h1, h2, hw, hl, decide_true, Bool.true_or, Bool.and_self, if_true]

/-- An enable of a bound queue of enough entries. -/
theorem State.writeQcfg_enable (he : ((s.node n).queue k).en = false) (hb : ((s.node n).queue k).binding = some b)
    (hw : w.getLsbD 63 = true) (hl : 6 ≤ wfld w 16 4) : s.writeQcfg n k w =
      let s1 := s.modQueue n k (fun q => { q with cfg := w &&& 0x80000000000F07FF })
      if 8192 ≤ k ∧ 2 ^ wfld w 16 4 < b.cap then s.modQueue n k (fun q => q.refuse 3)
      else if 8192 ≤ k ∧ ((s.node n).queue k).credits < b.cap then (s1.modQueue n k (fun q => { q with credits := b.cap })).post n
        (.creditArrival ⟨n, b.tile⟩ (BitVec.ofNat 5 b.stream) (b.cap - ((s.node n).queue k).credits))
      else s1 := by
  obtain ⟨h1, h2⟩ := qcfg_fields w
  simp only [State.writeQcfg, he, Bool.false_eq_true, if_false, h1, h2, hw, Nat.not_lt.mpr hl, decide_false, hb, Option.isNone_some,
    Bool.or_self, Bool.and_false, Bool.true_and, Option.map_some, Option.getD_some, Bool.and_true, Bool.not_true, Bool.and_eq_true,
    decide_eq_true_eq]
end

end Sys2Proof.Machine

namespace Sys2Proof.Laws

open Sys2Proof.Machine

section
variable {s : State} {n k : Nat} {w : Word} {b : QueueBinding}

theorem exec_qtailWrite_of_live (ha : (s.node n).recovery = false ∧ (s.node n).failed = false) :
    exec (.qtailWrite n k w) s = .next (s.writeQtail n k w) :=
  congrArg Host.Outcome.next (if_pos ((Node.answers_iff _).mpr ha))

theorem exec_qcfgWrite_of_live (ha : (s.node n).recovery = false ∧ (s.node n).failed = false) :
    exec (.qcfgWrite n k w) s = .next (s.writeQcfg n k w) :=
  congrArg Host.Outcome.next (if_pos ((Node.answers_iff _).mpr ha))

/-- A step that changes one queue of a node leaves memory, packets and messages. -/
theorem gives_modQueue {i : Instr} {f : HostQueue → HostQueue} (hi : exec i s = .next (s.modQueue n k f)) :
    Gives i s (fun u => (u.node n).queue k = f ((s.node n).queue k) ∧ u.mem = s.mem ∧ u.packets = s.packets ∧ u.net = s.net) :=
  ⟨_, hi, State.queue_modQueue .., rfl, rfl, rfl⟩

theorem qtailWrite_ingress (ha : (s.node n).recovery = false ∧ (s.node n).failed = false) (hk : k < 8192)
    (h : (w.setWidth 16 - ((s.node n).queue k).head).toNat ≤ ((s.node n).queue k).entries) : Gives (.qtailWrite n k w) s (fun u =>
      (u.node n).queue k = { (s.node n).queue k with tail := w.setWidth 16 } ∧
        (u.mem = s.mem ∧ u.packets = s.packets ∧ u.net = s.net) ∧ (u.node n).tiles = (s.node n).tiles) := by
  refine ⟨_, (exec_qtailWrite_of_live ha).trans (congrArg Host.Outcome.next (State.writeQtail_ingress hk h)), State.queue_modQueue ..,
    ⟨rfl, rfl, rfl⟩, ?_⟩
  rw [State.node_modQueue]

theorem qtailWrite_ingress_refused (ha : (s.node n).recovery = false ∧ (s.node n).failed = false) (hk : k < 8192)
    (h : ((s.node n).queue k).entries < (w.setWidth 16 - ((s.node n).queue k).head).toNat) : Gives (.qtailWrite n k w) s (fun u =>
      (u.node n).queue k = ((s.node n).queue k).refuse 2 ∧ u.mem = s.mem ∧ u.packets = s.packets ∧ u.net = s.net) :=
  gives_modQueue ((exec_qtailWrite_of_live ha).trans
    (congrArg Host.Outcome.next (State.writeQtail_refused (by rwa [if_neg (Nat.not_le.mpr hk)]))))

theorem qtailWrite_egress_refused (ha : (s.node n).recovery = false ∧ (s.node n).failed = false)
    (h : ((s.node n).queue (8192 + k)).entries < (((s.node n).queue (8192 + k)).head - w.setWidth 16).toNat) :
    Gives (.qtailWrite n (8192 + k) w) s (fun u => (u.node n).queue (8192 + k) = ((s.node n).queue (8192 + k)).refuse 2 ∧
      u.mem = s.mem ∧ u.packets = s.packets ∧ u.net = s.net) :=
  gives_modQueue ((exec_qtailWrite_of_live ha).trans
    (congrArg Host.Outcome.next (State.writeQtail_refused (by rwa [if_pos (Nat.le_add_right ..)]))))

/-- Credits of an egress queue are sent to a tile of the queue's own node. -/
theorem State.post_credits (s : State) (n t m : Nat) (st : BitVec 5) :
    s.post n (.creditArrival ⟨n, t⟩ st m) = s.send (.creditArrival ⟨n, t⟩ st m) := State.post_self rfl

theorem qtailWrite_egress_enabled (ha : (s.node n).recovery = false ∧ (s.node n).failed = false)
    (h : (((s.node n).queue (8192 + k)).head - w.setWidth 16).toNat ≤ ((s.node n).queue (8192 + k)).entries)
    (hb : ((s.node n).queue (8192 + k)).binding = some b) (hp : 0 < (w.setWidth 16 - ((s.node n).queue (8192 + k)).tail).toNat)
    (he : ((s.node n).queue (8192 + k)).en = true) : Gives (.qtailWrite n (8192 + k) w) s (fun u =>
      (u.node n).queue (8192 + k) = { (s.node n).queue (8192 + k) with tail := w.setWidth 16 } ∧
        u.net = s.net ++ [.creditArrival ⟨n, b.tile⟩ (BitVec.ofNat 5 b.stream)
          (w.setWidth 16 - ((s.node n).queue (8192 + k)).tail).toNat] ∧ u.mem = s.mem ∧ u.packets = s.packets) := by
  refine ⟨_, exec_qtailWrite_of_live ha, ?_⟩
  rw [State.writeQtail_egress (Nat.le_add_right ..) h hb hp]
  simp only [he, if_true, State.post_credits, State.node_send, State.queue_modQueue]
  exact ⟨trivial, rfl, rfl, rfl⟩

theorem qtailWrite_egress_disabled (ha : (s.node n).recovery = false ∧ (s.node n).failed = false)
    (h : (((s.node n).queue (8192 + k)).head - w.setWidth 16).toNat ≤ ((s.node n).queue (8192 + k)).entries)
    (hb : ((s.node n).queue (8192 + k)).binding = some b) (hp : 0 < (w.setWidth 16 - ((s.node n).queue (8192 + k)).tail).toNat)
    (he : ((s.node n).queue (8192 + k)).en = false) : Gives (.qtailWrite n (8192 + k) w) s (fun u =>
      (u.node n).queue (8192 + k) = { (s.node n).queue (8192 + k) with
        tail := w.setWidth 16
        credits := ((s.node n).queue (8192 + k)).credits - (w.setWidth 16 - ((s.node n).queue (8192 + k)).tail).toNat } ∧
        u.mem = s.mem ∧ u.packets = s.packets ∧ u.net = s.net) := by
  refine ⟨_, exec_qtailWrite_of_live ha, ?_⟩
  rw [State.writeQtail_egress (Nat.le_add_right ..) h hb hp]
  simp only [he, Bool.false_eq_true, if_false, State.queue_modQueue]
  exact ⟨trivial, rfl, rfl, rfl⟩

theorem qcfgWrite_small (ha : (s.node n).recovery = false ∧ (s.node n).failed = false) (he : ((s.node n).queue k).en = false)
    (hw : w.getLsbD 63 = true) (hl : wfld w 16 4 < 6) : Gives (.qcfgWrite n k w) s (fun u =>
      (u.node n).queue k = ((s.node n).queue k).refuse 1 ∧ u.mem = s.mem ∧ u.packets = s.packets ∧ u.net = s.net) :=
  gives_modQueue ((exec_qcfgWrite_of_live ha).trans (congrArg Host.Outcome.next (State.writeQcfg_small he hw hl)))

theorem qcfgWrite_ingress (ha : (s.node n).recovery = false ∧ (s.node n).failed = false) (hk : k < 8192)
    (he : ((s.node n).queue k).en = false) (hb : ((s.node n).queue k).binding = some b) (hw : w.getLsbD 63 = true)
    (hl : 6 ≤ wfld w 16 4) : Gives (.qcfgWrite n k w) s (fun u =>
      (u.node n).queue k = { (s.node n).queue k with cfg := w &&& 0x80000000000F07FF } ∧
        u.mem = s.mem ∧ u.packets = s.packets ∧ u.net = s.net) := by
  have hn : ¬8192 ≤ k := Nat.not_le.mpr hk
  refine gives_modQueue (f := fun q => { q with cfg := w &&& 0x80000000000F07FF })
    ((exec_qcfgWrite_of_live ha).trans (congrArg Host.Outcome.next ?_))
  rw [State.writeQcfg_enable he hb hw hl]
  simp only [hn, false_and, if_false]

theorem qcfgWrite_egress_refused (ha : (s.node n).recovery = false ∧ (s.node n).failed = false)
    (he : ((s.node n).queue (8192 + k)).en = false) (hb : ((s.node n).queue (8192 + k)).binding = some b) (hw : w.getLsbD 63 = true)
    (hl : 6 ≤ wfld w 16 4) (hc : 2 ^ wfld w 16 4 < b.cap) : Gives (.qcfgWrite n (8192 + k) w) s (fun u =>
      (u.node n).queue (8192 + k) = ((s.node n).queue (8192 + k)).refuse 3 ∧ u.mem = s.mem ∧ u.packets = s.packets ∧ u.net = s.net) :=
  gives_modQueue ((exec_qcfgWrite_of_live ha).trans
    (congrArg Host.Outcome.next ((State.writeQcfg_enable he hb hw hl).trans (if_pos ⟨Nat.le_add_right .., hc⟩))))

theorem qcfgWrite_egress (ha : (s.node n).recovery = false ∧ (s.node n).failed = false)
    (he : ((s.node n).queue (8192 + k)).en = false) (hb : ((s.node n).queue (8192 + k)).binding = some b) (hw : w.getLsbD 63 = true)
    (hl : 6 ≤ wfld w 16 4) (hc : b.cap ≤ 2 ^ wfld w 16 4) (hf : ((s.node n).queue (8192 + k)).credits < b.cap) :
    Gives (.qcfgWrite n (8192 + k) w) s (fun u =>
      (u.node n).queue (8192 + k) = { (s.node n).queue (8192 + k) with cfg := w &&& 0x80000000000F07FF, credits := b.cap } ∧
        u.net = s.net ++ [.creditArrival ⟨n, b.tile⟩ (BitVec.ofNat 5 b.stream) (b.cap - ((s.node n).queue (8192 + k)).credits)] ∧
        u.mem = s.mem ∧ u.packets = s.packets) := by
  refine ⟨_, exec_qcfgWrite_of_live ha, ?_⟩
  rw [State.writeQcfg_enable he hb hw hl]
  simp only [Nat.not_lt.mpr hc, and_false, if_false, Nat.le_add_right, hf, and_self, if_true, State.post_credits]
  simp only [State.node_send, State.queue_modQueue]
  exact ⟨trivial, rfl, rfl, rfl⟩

end

end Sys2Proof.Laws
end

section
/-! Ingress and egress of the host's queues (R364, R412 to R414): what each step gives. -/

namespace Sys2Proof.Machine

/-! The record at a queue's head -/

/-- The record at a queue's head depends on the queue and on host memory alone. -/
theorem State.ingressRecord_congr {s t : State} {n k : Nat} (hq : (t.node n).queue k = (s.node n).queue k)
    (hm : t.hostMem = s.hostMem) : t.ingressRecord n k = s.ingressRecord n k := by
  simp only [State.ingressRecord, State.hostWord, State.hostRead, hq, hm]

/-- A record keeps to its form, names the drove of its queue's tile, and fits the buffer it goes to. -/
def State.recordFormed (s : State) (n k : Nat) (b : QueueBinding) : Prop :=
  recGood (s.ingressRecord n k) = true ∧ recDrove (s.ingressRecord n k) = s.boundDrove n b ∧
    recElen (s.ingressRecord n k) ≤ inBsize ((s.tile ⟨n, b.tile⟩).inS b.stream).d0

theorem State.recordFormed_iff (s : State) (n k : Nat) (b : QueueBinding) : s.recordFormed n k b ↔
    ¬(!recGood (s.ingressRecord n k) || recDrove (s.ingressRecord n k) != s.boundDrove n b ||
      decide (inBsize ((s.tile ⟨n, b.tile⟩).inS b.stream).d0 < recElen (s.ingressRecord n k))) = true := by
  simp [State.recordFormed, and_assoc]

/-- A node with the ingress queue it serves. -/
def State.serving (s : State) (n k : Nat) : State := s.modNode n (fun x => { x with lastQueue := k })

section
variable (s : State) (n k : Nat)

theorem State.node_serving : (s.serving n k).node n = { s.node n with lastQueue := k } := State.node_modNode ..
theorem State.queue_serving : ((s.serving n k).node n).queue k = (s.node n).queue k := by
  rw [State.node_serving]
  rfl
theorem State.tile_serving (i : Nat) : (s.serving n k).tile ⟨n, i⟩ = s.tile ⟨n, i⟩ := by
  rw [State.tile, State.node_serving]
  rfl
theorem State.ingressRecord_serving : (s.serving n k).ingressRecord n k = s.ingressRecord n k :=
  State.ingressRecord_congr (s.queue_serving n k) rfl
end

/-! A record done -/

section
variable (s : State) (n k code : Nat)

/-- `NREF` counts a refused record, and stays at its maximum. -/
theorem nref_step (w : Word) (hc : code ≠ 0) :
    wfld (if code = 0 ∨ wfld w 0 32 = 2 ^ 32 - 1 then w else setFld w 0 32 (wfld w 0 32 + 1)) 0 32 =
      min (2 ^ 32 - 1) (wfld w 0 32 + 1) := by
  have hlt := wfld_lt w 0 32
  split
  · omega
  · rw [wfld_setFld (by decide) (by omega)]
    omega

/-- A refused record: the head passes it, its status goes to host memory, and `NREF` counts it. -/
theorem State.endRecord_refused (hc : code ≠ 0) :
    let q := (s.node n).queue k
    let u := s.endRecord n k code
    ((u.node n).queue k).head = q.head + 1 ∧ (u.mem = s.mem ∧ u.packets = s.packets ∧ u.net = s.net) ∧
      u.hostMem = (s.hostWrite (q.base.toNat + 64 * q.entries + 8 * (q.head.toNat % q.entries))
        (wordBytes (BitVec.ofNat 64 (code * 2 ^ 56 + wfld ((s.ingressRecord n k).getD 0 0) 32 32)))).hostMem ∧
      wfld ((u.node n).queue k).stat 0 32 = min (2 ^ 32 - 1) (wfld q.stat 0 32 + 1) := by
  intro q u
  have hu : (u.node n).queue k = { q with head := q.head + 1, stat := _ } := State.queue_modQueue ..
  rw [hu]
  exact ⟨rfl, ⟨rfl, rfl, rfl⟩, rfl, nref_step code q.stat hc⟩
end

/-! A record taken -/

section
variable {s : State} {n k : Nat} {b : QueueBinding}

theorem HostQueue.ready_iff (q : HostQueue) :
    q.ready = true ↔ (((q.en = true ∧ q.tail ≠ q.head) ∧ 0 < q.credits) ∧ q.binding.isSome = true) ∧ q.hold = false := by
  simp [HostQueue.ready]

/-- A queue whose turn it is has its record answered. -/
theorem State.takeRecord_turn (hb : ((s.node n).queue k).binding = some b) (hr : ((s.node n).queue k).ready = true)
    (hh : s.heldRecord n k = false) (ht : s.ingressTurn n = some k) : s.takeRecord n k = (s.serving n k).answerRecord n k b := by
  obtain ⟨⟨⟨⟨he, hne⟩, -⟩, -⟩, -⟩ := (HostQueue.ready_iff _).mp hr
  simp only [State.takeRecord, he, beq_false_of_ne hne, Bool.not_true, Bool.or_self, Bool.false_eq_true, if_false, hh, hb, hr, ht,
    bne_self_eq_false]
  rfl

/-- A queue on hold keeps its record. -/
theorem State.takeRecord_hold (hq : ((s.node n).queue k).hold = true) (hh : s.heldRecord n k = false) : s.takeRecord n k = s := by
  have hr : ((s.node n).queue k).ready = false := by simp [HostQueue.ready, hq]
  simp only [State.takeRecord, hh, hr, Bool.not_false, Bool.true_or, if_true, Bool.false_eq_true, if_false]
  split
  · rfl
  · split <;> rfl

/-- A record whose drove is not Resident wakes the loader at most. -/
theorem State.takeRecord_held (he : ((s.node n).queue k).en = true) (hne : ((s.node n).queue k).tail ≠ ((s.node n).queue k).head)
    (hh : s.heldRecord n k = true) : s.takeRecord n k = s.wakeLoader n (recDrove (s.ingressRecord n k)) := by
  simp only [State.takeRecord, he, beq_false_of_ne hne, Bool.not_true, Bool.or_self, Bool.false_eq_true, if_false, hh, if_true]

theorem Node.queues_setDrove (x : Node) (e : DroveEntry) : (x.setDrove e).queues = x.queues := by
  unfold Node.setDrove
  split
  · rfl
  · split <;> rfl

theorem State.wakeLoader_queue (d : BitVec 32) : ((s.wakeLoader n d).node n).queue k = (s.node n).queue k := by
  unfold State.wakeLoader
  dsimp only
  split
  · rfl
  · rw [State.node_modNode, Node.queue, Node.queues_setDrove]
    rfl

theorem State.wakeLoader_rest (d : BitVec 32) : let u := s.wakeLoader n d
    u.hostMem = s.hostMem ∧ u.mem = s.mem ∧ u.packets = s.packets ∧ u.net = s.net := by
  unfold State.wakeLoader
  dsimp only
  split <;> exact ⟨rfl, rfl, rfl, rfl⟩

theorem State.answerRecord_unformed (h : ¬s.recordFormed n k b) : s.answerRecord n k b = s.endRecord n k 3 :=
  if_pos (not_not.mp (mt (s.recordFormed_iff n k b).mpr h))

theorem State.answerRecord_overNeed (h : s.recordFormed n k b) (hn : (s.tile ⟨n, b.tile⟩).overNeed = true) :
    s.answerRecord n k b = s.endRecord n k 2 :=
  (if_neg ((s.recordFormed_iff n k b).mp h)).trans (if_pos hn)

/-- A record that neither its form nor a need refuses is sent, unless its payload cannot be read. -/
theorem State.answerRecord_sent (h : s.recordFormed n k b) (hn : (s.tile ⟨n, b.tile⟩).overNeed = false) :
    s.answerRecord n k b =
      let ws := s.ingressRecord n k
      let act := (((s.node n).drove (recDrove ws)).map (fun e => e.act)).getD 0
      if recInl ws || recElen ws == 0 then (s.ingressPacket n k b ws act).endRecord n k 0
      else
        let s1 := { s with free := s.free + 1 }
        if Config.hostError s.free then s1.endRecord n k 4 else (s1.ingressPacket n k b ws act).endRecord n k 0 :=
  (if_neg ((s.recordFormed_iff n k b).mp h)).trans (if_neg (by simp [hn]))

theorem State.recordFormed_serving : (s.serving n k).recordFormed n k b ↔ s.recordFormed n k b := by
  simp only [State.recordFormed, State.boundDrove, State.ingressRecord_serving, State.tile_serving]
end

/-! Egress -/

/-- A packet taken into an egress ring: beside host memory, the packet leaves, the head advances, and the vector is signalled. -/
theorem State.egress_eq {s : State} {n k : Nat} {p : NetPacket} (hp : s.egressNext n k = some p)
    (he : ((s.node n).queue (8192 + k)).en = true) : ∃ hm, s.egress n k =
      ((({ s with packets := s.packets.filter (fun y => y.id != p.id), hostMem := hm } : State).modQueue n (8192 + k)
        (fun q => { q with head := q.head + 1 })).modNode n (fun x => x.signal ((s.node n).queue (8192 + k)).vec)) := by
  simp only [State.egress, hp, he, Bool.not_true, Bool.false_eq_true, if_false]
  exact ⟨_, rfl⟩

section
variable {x : Node} {v : Nat}

/-- A vector that its entry does not mask is sent. -/
theorem Node.signal_unmasked (h : (x.msixWord (2 * v + 1)).getLsbD 32 = false) : (x.signal v).msix = x.msix ++ [v] := by
  rw [Node.signal, if_neg (by rw [h]; exact Bool.false_ne_true)]

/-- A vector that its entry masks is pending. -/
theorem Node.signal_masked (h : (x.msixWord (2 * v + 1)).getLsbD 32 = true) :
    (x.signal v).msix = x.msix ∧ v ∈ (x.signal v).msixPend := by
  rw [Node.signal, if_pos h]
  split
  · exact ⟨rfl, by simpa using ‹x.msixPend.contains v = true›⟩
  · exact ⟨rfl, List.mem_cons_self ..⟩

theorem Node.queue_signal (x : Node) (v k : Nat) : (x.signal v).queue k = x.queue k := by
  unfold Node.signal
  split
  · split <;> rfl
  · rfl

theorem State.msix_modQueue (s : State) (n k : Nat) (f : HostQueue → HostQueue) :
    ((s.modQueue n k f).node n).msix = (s.node n).msix ∧ ∀ i, ((s.modQueue n k f).node n).msixWord i = (s.node n).msixWord i := by
  rw [State.node_modQueue]
  exact ⟨rfl, fun _ => rfl⟩
end

end Sys2Proof.Machine

namespace Sys2Proof.Laws

open Sys2Proof.Machine

section
variable {s : State} {n k : Nat} {b : QueueBinding} {p : NetPacket}

theorem ingressRecord_hold (hq : ((s.node n).queue k).hold = true) (hh : s.heldRecord n k = false) :
    exec (.ingressRecord n k) s = .next s := congrArg Host.Outcome.next (State.takeRecord_hold hq hh)

theorem ingressRecord_held (he : ((s.node n).queue k).en = true) (hne : ((s.node n).queue k).tail ≠ ((s.node n).queue k).head)
    (hh : s.heldRecord n k = true) : Gives (.ingressRecord n k) s (fun u =>
      (u.node n).queue k = (s.node n).queue k ∧ u.hostMem = s.hostMem ∧ u.mem = s.mem ∧ u.packets = s.packets ∧ u.net = s.net) :=
  ⟨_, congrArg Host.Outcome.next (State.takeRecord_held he hne hh), State.wakeLoader_queue _, State.wakeLoader_rest _⟩

section
variable (hb : ((s.node n).queue k).binding = some b) (hr : ((s.node n).queue k).ready = true) (hh : s.heldRecord n k = false)
  (ht : s.ingressTurn n = some k)
include hb hr hh ht

theorem exec_ingressRecord_turn : exec (.ingressRecord n k) s = .next ((s.serving n k).answerRecord n k b) :=
  congrArg Host.Outcome.next (State.takeRecord_turn hb hr hh ht)

/-- A record that is refused with a code. -/
theorem ingressRecord_refused {code : Nat} (hc : code ≠ 0)
    (ha : (s.serving n k).answerRecord n k b = (s.serving n k).endRecord n k code) : Gives (.ingressRecord n k) s (fun u =>
      ((u.node n).queue k).head = ((s.node n).queue k).head + 1 ∧ (u.mem = s.mem ∧ u.packets = s.packets ∧ u.net = s.net) ∧
        u.hostMem = (s.hostWrite (((s.node n).queue k).base.toNat + 64 * ((s.node n).queue k).entries +
          8 * (((s.node n).queue k).head.toNat % ((s.node n).queue k).entries))
          (wordBytes (BitVec.ofNat 64 (code * 2 ^ 56 + wfld ((s.ingressRecord n k).getD 0 0) 32 32)))).hostMem ∧
        wfld ((u.node n).queue k).stat 0 32 = min (2 ^ 32 - 1) (wfld ((s.node n).queue k).stat 0 32 + 1)) := by
  have h := (s.serving n k).endRecord_refused n k code hc
  rw [State.queue_serving, State.ingressRecord_serving] at h
  exact ⟨_, (exec_ingressRecord_turn hb hr hh ht).trans (congrArg Host.Outcome.next ha), h⟩

/-- A record that neither its form nor a need refuses. -/
theorem ingressRecord_sent (hf : s.recordFormed n k b) (hn : (s.tile ⟨n, b.tile⟩).overNeed = false) :
    exec (.ingressRecord n k) s = .next (
      let ws := s.ingressRecord n k
      let s1 := s.serving n k
      let act := (((s.node n).drove (recDrove ws)).map (fun e => e.act)).getD 0
      if recInl ws || recElen ws == 0 then (s1.ingressPacket n k b ws act).endRecord n k 0
      else
        let s2 := { s1 with free := s.free + 1 }
        if Config.hostError s.free then s2.endRecord n k 4 else (s2.ingressPacket n k b ws act).endRecord n k 0) := by
  rw [exec_ingressRecord_turn hb hr hh ht,
    State.answerRecord_sent (State.recordFormed_serving.mpr hf) (by rw [State.tile_serving, hn]), State.ingressRecord_serving,
    State.node_serving]
  rfl
end

/-- A packet goes to its egress ring, and its vector is signalled, or pending where it is masked. -/
theorem egressPacket_gives (hp : s.egressNext n k = some p) (he : ((s.node n).queue (8192 + k)).en = true) :
    Gives (.egressPacket n k) s (fun u =>
      ((u.node n).queue (8192 + k)).head = ((s.node n).queue (8192 + k)).head + 1 ∧
        u.packets = s.packets.filter (fun y => y.id != p.id) ∧ u.mem = s.mem ∧
        (((s.node n).msixWord (2 * ((s.node n).queue (8192 + k)).vec + 1)).getLsbD 32 = false →
          (u.node n).msix = (s.node n).msix ++ [((s.node n).queue (8192 + k)).vec]) ∧
        (((s.node n).msixWord (2 * ((s.node n).queue (8192 + k)).vec + 1)).getLsbD 32 = true →
          (u.node n).msix = (s.node n).msix ∧ ((s.node n).queue (8192 + k)).vec ∈ (u.node n).msixPend)) := by
  obtain ⟨hm, hu⟩ := State.egress_eq hp he
  refine ⟨_, congrArg Host.Outcome.next hu, ?_⟩
  obtain ⟨hx, hw⟩ := State.msix_modQueue { s with packets := s.packets.filter (fun y => y.id != p.id), hostMem := hm } n (8192 + k)
    (fun q => { q with head := q.head + 1 })
  have hm := congrArg (BitVec.getLsbD · 32) (hw (2 * ((s.node n).queue (8192 + k)).vec + 1))
  rw [State.node_modNode, Node.queue_signal, State.queue_modQueue]
  exact ⟨rfl, rfl, rfl, fun h => (Node.signal_unmasked (hm.trans h)).trans (congrArg (· ++ _) hx),
    fun h => (Node.signal_masked (hm.trans h)).imp_left (·.trans hx)⟩

end

end Sys2Proof.Laws
end

section
/-! The repair of a stream's credits (R430): what each step gives. -/

namespace Sys2Proof.Machine

/-! Holds -/

theorem holdFields_and (w : Word) : holdTile (w &&& 0x8000000000001FFF) = holdTile w ∧ holdStream (w &&& 0x8000000000001FFF) = holdStream w :=
  ⟨wfld_and (by decide), wfld_and (by decide)⟩

/-- A node that starts a repair. -/
def Node.startResync (x : Node) (w : Word) (cs : List (CtxRef × Nat)) : Node :=
  { x with
    cresync := w &&& 0x8000000000001FFF
    resync := some ⟨holdTile w, holdStream w, [], cs.map (fun x => x.1)⟩ }

theorem State.writeCresync_starts {s : State} {n : Nat} {w : Word} (hr : (s.node n).resync = none) (hw : w.getLsbD 63 = true) :
    s.writeCresync n w = (s.modNode n (fun x => x.startResync w (s.sendersAt n ⟨n, holdTile w⟩ (holdStream w)))).sendHolds
      ⟨n, holdTile w⟩ (holdStream w) := by
  obtain ⟨ht, hst⟩ := holdFields_and w
  have hv : (w &&& 0x8000000000001FFF).getLsbD 63 = true := by
    rw [BitVec.getLsbD_and, hw]
    rfl
  simp only [State.writeCresync, hr, Option.isSome_none, Bool.false_eq_true, if_false, hv, if_true, ht, hst]
  rfl

theorem Tile.outS_modOut (t : Tile) {st : Nat} (f : OutStream → OutStream) (h : st < 32) : (t.modOut st f).outS st = f (t.outS st) := by
  rw [Tile.outS, Tile.modOut, Tile.setOut, Vector.getElem?_setIfInBounds_self_of_lt h]
  rfl

section
variable {s : State} {c : CtxRef}

theorem State.senderOut_modOut (f : OutStream → OutStream) (h : c.slot < 32) :
    (s.modTile (tileOf c) (fun t => t.modOut c.slot f)).senderOut c = f (s.senderOut c) := by
  rw [State.senderOut, State.tile_modTile, Tile.outS_modOut _ _ h]
  rfl

theorem State.setHold_tile (ht : c.tile < 256) :
    s.setHold c = s.modTile (tileOf c) (fun t => t.modOut c.slot (fun x => { x with hold := true })) := if_pos ht

theorem State.setHold_queue (ht : 256 ≤ c.tile) :
    s.setHold c = s.modQueue c.node (c.tile - 256) (fun q => { q with hold := true }) := if_neg (Nat.not_lt.mpr ht)

/-- The hold of a sender on a tile. -/
theorem State.senderOut_setHold (ht : c.tile < 256) (hs : c.slot < 32) :
    (s.setHold c).senderOut c = { s.senderOut c with hold := true } := by
  rw [State.setHold_tile ht, State.senderOut_modOut _ hs]

theorem State.setHold_rest (s : State) (c : CtxRef) :
    (s.setHold c).net = s.net ∧ (s.setHold c).mem = s.mem ∧ (s.setHold c).packets = s.packets := by
  unfold State.setHold
  split <;> exact ⟨rfl, rfl, rfl⟩

/-- A hold does not change whether its sender has drained. -/
theorem State.drained_setHold (h : c.tile < 256 → c.slot < 32) : (s.setHold c).drained c = s.drained c := by
  obtain ⟨-, -, hp⟩ := s.setHold_rest c
  by_cases ht : c.tile < 256
  · rw [State.drained, State.senderOut_setHold ht (h ht), hp]
    rfl
  · simp only [State.drained, Nat.not_lt.mp ht, decide_true, Bool.true_or, hp]
end

/-! A hold that comes -/

section
variable {s : State} {n src : Nat} {w : Word} {c : CtxRef}

theorem State.holdSource_named (h : src < unnamedNode) : s.holdSource n src w = src := if_pos h

/-- A hold for one sender: it holds, and answers where it has drained. -/
theorem exec_holdMsg_one (ho : OnItsWay s (.holdMsg n src w)) (hn : src < unnamedNode) (hc : s.heldSenders n src w = [c])
    (hs : c.tile < 256 → c.slot < 32) : exec (.holdMsg n src w) s = .next (
      if s.drained c then (arrived (s.setHold c) (.holdMsg n src w)).post n (.holdAnswerMsg src n w (BitVec.ofNat 64 c.tile))
      else s.setHold c) := by
  have hd := State.drained_setHold (s := s) hs
  refine congrArg Host.Outcome.next ((if_pos ho).trans ?_)
  simp only [State.holdSource_named hn, hc, List.foldl_cons, List.foldl_nil, List.all_cons, List.all_nil, Bool.and_true, hd,
    List.isEmpty_cons, Bool.false_eq_true, if_false]
  rfl

/-- A hold for no sender is answered where it is from. -/
theorem exec_holdMsg_none (ho : OnItsWay s (.holdMsg n src w)) (hn : src < unnamedNode) (hc : s.heldSenders n src w = []) :
    exec (.holdMsg n src w) s = .next (
      if src = n then (arrived s (.holdMsg n src w)).post n (.holdAnswerMsg src n w 256) else arrived s (.holdMsg n src w)) := by
  refine congrArg Host.Outcome.next ((if_pos ho).trans ?_)
  simp only [State.holdSource_named hn, hc, List.foldl_nil, List.all_nil, List.isEmpty_nil, if_true]
  rfl
end

end Sys2Proof.Machine

namespace Sys2Proof.Laws

open Sys2Proof.Machine

section
variable {s : State} {n src k cap : Nat} {w v : Word} {c : CtxRef} {q : Resync}

/-! The repair starts -/

theorem cresync_starts (ha : (s.node n).recovery = false ∧ (s.node n).failed = false) (hr : (s.node n).resync = none)
    (hw : w.getLsbD 63 = true) : Gives (.cresync n w) s (fun u =>
      (u.node n).cresync = w &&& 0x8000000000001FFF ∧
        (∃ y, (u.node n).resync = some y ∧ y.tile = holdTile w ∧ y.stream = holdStream w ∧ y.answers = []) ∧ u.mem = s.mem) := by
  refine ⟨_, congrArg Host.Outcome.next ((if_pos ((Node.answers_iff _).mpr ha)).trans (State.writeCresync_starts hr hw)), ?_⟩
  have hs := AgreeOffLinks.sendHolds (s.modNode n (fun x => x.startResync w (s.sendersAt n ⟨n, holdTile w⟩ (holdStream w))))
    ⟨n, holdTile w⟩ (holdStream w)
  exact ⟨(hs.field n Node.cresync).trans (congrArg Node.cresync (State.node_modNode ..)),
    ⟨_, (hs.field n Node.resync).trans (congrArg Node.resync (State.node_modNode ..)), rfl, rfl, rfl⟩, hs.mem⟩

theorem cresync_under_way (hr : (s.node n).resync ≠ none) : exec (.cresync n w) s = .next s := by
  have h : s.writeCresync n w = s := if_pos (Option.isSome_iff_ne_none.mpr hr)
  refine congrArg Host.Outcome.next ?_
  rw [h]
  exact ite_self s

/-! Its senders hold -/

theorem holdMsg_drained (ho : OnItsWay s (.holdMsg n src w)) (hn : src < unnamedNode) (hc : s.heldSenders n src w = [c])
    (ht : c.tile < 256) (hs : c.slot < 32) (hd : s.drained c = true) :
    ∃ u : State, exec (.holdMsg n src w) s = .next (u.post n (.holdAnswerMsg src n w (BitVec.ofNat 64 c.tile))) ∧
      (u.senderOut c).hold = true ∧ (u.senderOut c).free = (s.senderOut c).free ∧ u.net = s.net.erase (.holdMsg n src w) ∧
        u.mem = s.mem := by
  obtain ⟨hnet, hmem, -⟩ := s.setHold_rest c
  have ho' : (arrived (s.setHold c) (.holdMsg n src w)).senderOut c = { s.senderOut c with hold := true } :=
    State.senderOut_setHold ht hs
  refine ⟨arrived (s.setHold c) (.holdMsg n src w), (exec_holdMsg_one ho hn hc (fun _ => hs)).trans (by rw [if_pos hd]), ?_, ?_,
    congrArg (List.erase · _) hnet, hmem⟩ <;> rw [ho']

theorem holdMsg_waits (ho : OnItsWay s (.holdMsg n src w)) (hn : src < unnamedNode) (hc : s.heldSenders n src w = [c])
    (ht : c.tile < 256) (hs : c.slot < 32) (hd : s.drained c = false) :
    Gives (.holdMsg n src w) s (fun u => (u.senderOut c).hold = true ∧ u.net = s.net ∧ u.mem = s.mem) := by
  obtain ⟨hnet, hmem, -⟩ := s.setHold_rest c
  refine ⟨_, (exec_holdMsg_one ho hn hc (fun _ => hs)).trans (by rw [if_neg (by simp [hd])]), ?_, hnet, hmem⟩
  rw [State.senderOut_setHold ht hs]

/-- The hold of a host queue. -/
theorem holdMsg_queue (ho : OnItsWay s (.holdMsg n src w)) (hn : src < unnamedNode) (hc : s.heldSenders n src w = [c])
    (ht : 256 ≤ c.tile) (hcn : c.node = n) : Gives (.holdMsg n src w) s (fun u =>
      ((u.node n).queue (c.tile - 256)).hold = true ∧ (s.drained c = false → u.net = s.net) ∧
        (s.drained c = true → src = n →
          u.net = s.net.erase (.holdMsg n src w) ++ [.holdAnswerMsg n n w (BitVec.ofNat 64 c.tile)])) := by
  obtain ⟨hnet, -, -⟩ := s.setHold_rest c
  have hq : (((s.setHold c).node n).queue (c.tile - 256)).hold = true := by
    rw [State.setHold_queue ht, hcn, State.queue_modQueue]
  refine ⟨_, exec_holdMsg_one ho hn hc (fun h => absurd h (Nat.not_lt.mpr ht)), ?_⟩
  cases hd : s.drained c with
  | false => exact ⟨hq, fun _ => hnet, fun h => absurd h Bool.false_ne_true⟩
  | true =>
    rw [if_pos rfl]
    refine ⟨?_, fun h => absurd h.symm Bool.false_ne_true, fun _ hsrc => ?_⟩
    · rw [(AgreeOffLinks.post ..).field n (fun x => (x.queue (c.tile - 256)).hold)]
      exact hq
    · subst hsrc
      rw [State.post_self (e := .holdAnswerMsg src src w (BitVec.ofNat 64 c.tile)) rfl]
      exact congrArg (fun l => l.erase (.holdMsg src src w) ++ [.holdAnswerMsg src src w (BitVec.ofNat 64 c.tile)]) hnet

theorem holdMsg_none_elsewhere (ho : OnItsWay s (.holdMsg n src w)) (hn : src < unnamedNode) (hc : s.heldSenders n src w = [])
    (hne : src ≠ n) : exec (.holdMsg n src w) s = .next (arrived s (.holdMsg n src w)) :=
  (exec_holdMsg_none ho hn hc).trans (by rw [if_neg hne])

theorem holdMsg_none_here (ho : OnItsWay s (.holdMsg n n w)) (hn : n < unnamedNode) (hc : s.heldSenders n n w = []) :
    exec (.holdMsg n n w) s = .next ((arrived s (.holdMsg n n w)).post n (.holdAnswerMsg n n w 256)) :=
  (exec_holdMsg_none ho hn hc).trans (by rw [if_pos rfl])

/-! The repair ends -/

theorem endResync_one (hc : s.sendersAt n ⟨n, q.tile⟩ q.stream = [(c, cap)]) (hcn : c.node = n) :
    ((s.endResync n q).node n).resync = none ∧ ((s.endResync n q).node n).cresync = setFld (s.node n).cresync 63 1 0 ∧
      (s.endResync n q).mem = s.mem ∧
      (c.tile < 256 → (s.endResync n q).net = s.net ++ [.holdEndMsg n n (holdWord q.tile q.stream)
        (BitVec.ofNat 64 (c.tile * 256 + (cap - ((s.tile ⟨n, q.tile⟩).inS q.stream).holds c)))]) ∧
      (256 ≤ c.tile → ((s.endResync n q).node n).queue (c.tile - 256) =
        { (s.node n).queue (c.tile - 256) with credits := cap - ((s.tile ⟨n, q.tile⟩).inS q.stream).holds c, hold := false }) := by
  unfold State.endResync
  simp only [hc, List.foldl_cons, List.foldl_nil, hcn]
  by_cases ht : c.tile < 256
  · simp only [if_pos ht]
    rw [State.post_self (e := .holdEndMsg n n _ _) rfl, State.node_send, State.node_modNode]
    exact ⟨rfl, rfl, rfl, fun _ => rfl, fun h => absurd ht (Nat.not_lt.mpr h)⟩
  · simp only [if_neg ht]
    rw [State.queue_modQueue, State.node_modQueue, State.node_modNode]
    exact ⟨rfl, rfl, rfl, fun h => absurd h ht, fun _ => rfl⟩

theorem holdAnswerMsg_last (ho : OnItsWay s (.holdAnswerMsg n src w v)) (hn : src < unnamedNode) (hr : (s.node n).resync = some q)
    (ht : q.tile = holdTile w) (hst : q.stream = holdStream w) (hq : q.senders = [⟨src, v.toNat, k⟩])
    (hb : s.streamBusy ⟨n, q.tile⟩ q.stream = false) :
    exec (.holdAnswerMsg n src w v) s = .next ((arrived s (.holdAnswerMsg n src w v)).endResync n q) := by
  have hgot : q.senders.all (fun c => (q.answers ++ q.senders.filter (fun c => c.node == src && c.tile == v.toNat)).contains c) = true := by
    simp [hq]
  refine congrArg Host.Outcome.next ((if_pos ho).trans ?_)
  change Option.getD (match ((arrived s (.holdAnswerMsg n src w v)).node n).resync with | none => _ | some q => _) s = _
  simp only [node_arrived, hr, ne_eq, ← ht, ← hst, not_true_eq_false, or_self, if_false, if_pos hn, hgot, if_true]
  exact congrArg (Option.getD · s) (if_neg (Bool.eq_false_iff.mp hb))

theorem holdEndMsg_gives (ho : OnItsWay s (.holdEndMsg n src w v)) (hn : src < unnamedNode) (hc : s.heldSenders n src w = [c])
    (ht : c.tile = wfld v 8 8) (hs : c.slot < 32) (hh : s.holding c = true) : Gives (.holdEndMsg n src w v) s (fun u =>
      (u.senderOut c).free = wfld v 0 7 ∧ (u.senderOut c).hold = false ∧ u.mem = s.mem) := by
  refine State.gives_taking (exec_holdEndMsg s) ho ?_
  have hc' : (arrived s (.holdEndMsg n src w v)).heldSenders n src w = [c] := hc
  have hh' : (arrived s (.holdEndMsg n src w v)).holding c = true := hh
  simp only [if_pos hn, List.flatMap_cons, List.flatMap_nil, List.append_nil, hc', ht, hh', List.filter_cons, List.filter_nil,
    BEq.rfl, Bool.and_self, if_true, List.foldl_cons, List.foldl_nil, State.senderOut_modOut _ hs]
  exact ⟨trivial, trivial, rfl⟩

end

end Sys2Proof.Laws
end

section
/-! O48 from what each step gives. -/

namespace Sys2Proof.Laws

open Sys2Proof.Machine

/-- Settles O48: each clause is what its step gives. -/
theorem hostReachesNodes : Obligations.HostReachesNodes := by
  unfold Obligations.HostReachesNodes
  intro s n k src w v r b p q c cap
  refine ⟨fun ha i j => registerWrite_need ha, fun ha i => registerWrite_schstat ha, registerWrite_readOnly,
    fun _ => registerWrite_locked, swint_gives, mbin7Write_gives, writes_unanswered, mailboxAccess_accepted, mailboxComplete_read,
    mailboxComplete_write, mailboxComplete_refused, qtailWrite_ingress, qtailWrite_ingress_refused, qcfgWrite_ingress, qcfgWrite_small,
    qtailWrite_egress_refused, qtailWrite_egress_enabled, qtailWrite_egress_disabled,
    fun ha ⟨he, hb, hw, hl⟩ => qcfgWrite_egress_refused ha he hb hw hl, fun ha ⟨he, hb, hw, hl⟩ => qcfgWrite_egress ha he hb hw hl,
    ingressRecord_hold, ?inline, ?read, ?unformed, ?overNeed, ingressRecord_held, egressPacket_gives, cresync_starts, cresync_under_way,
    holdMsg_drained, holdMsg_waits, holdMsg_queue, holdMsg_none_elsewhere, holdMsg_none_here, endResync_one, holdAnswerMsg_last,
    holdEndMsg_gives⟩
  case inline =>
    intro ⟨hb, hr, hh, ht⟩ hf hn hi
    refine (ingressRecord_sent hb hr hh ht hf hn).trans (congrArg Host.Outcome.next (if_pos ?_))
    simpa using hi
  case read =>
    intro ⟨hb, hr, hh, ht⟩ hf hn hi hl
    refine (ingressRecord_sent hb hr hh ht hf hn).trans (congrArg Host.Outcome.next (if_neg ?_))
    simpa using ⟨hi, hl⟩
  case unformed =>
    intro ⟨hb, hr, hh, ht⟩ hf
    exact ingressRecord_refused hb hr hh ht (by decide) (State.answerRecord_unformed (mt State.recordFormed_serving.mp hf))
  case overNeed =>
    intro ⟨hb, hr, hh, ht⟩ hf hn
    exact ingressRecord_refused hb hr hh ht (by decide)
      (State.answerRecord_overNeed (State.recordFormed_serving.mpr hf) (by rw [State.tile_serving, hn]))

end Sys2Proof.Laws
end

section
/-! Squashed and checked operations (R15, R16, R45): what a false guard and a check leave of the state, and what predicates and masks
read as after a write. -/

namespace Sys2Proof.Machine

/-! Predicates and masks -/

section
variable (c : Ctx) {n j : Nat} (b : Bool) (x y : MaskReg)

theorem Ctx.pred_writePred (h0 : 0 < n) (h8 : n < 8) : (c.writePred n b).pred n = b := by
  have hn : n ≠ 0 := Nat.ne_of_gt h0
  cases b <;> simp [Ctx.writePred, Ctx.pred, hn, h8]

theorem Ctx.pred_writePred_of_ne (h : j ≠ n) : (c.writePred n b).pred j = c.pred j := by
  unfold Ctx.writePred
  split
  · rfl
  · have hb : (1#8 <<< n).getLsbD j = false := by
      rw [BitVec.getLsbD_shiftLeft, BitVec.getLsbD_one]
      by_cases hj : j < n
      · simp [hj]
      · simp [show j - n ≠ 0 by omega]
    cases b with
    | true => simp only [Ctx.pred, if_true, BitVec.getLsbD_or, hb, Bool.or_false]
    | false =>
      simp only [Ctx.pred, Bool.false_eq_true, if_false, BitVec.getLsbD_and, BitVec.getLsbD_not, hb, Bool.not_false, Bool.and_true]
      by_cases h8 : j < 8
      · simp [h8]
      · simp [h8, BitVec.getLsbD_of_ge c.p j (by omega)]

theorem Ctx.mask_writeMask (h0 : 0 < n) (h8 : n < 8) : (c.writeMask n x y).mask n = (x &&& y) ||| (c.mask n &&& ~~~y) := by
  have hn : n ≠ 0 := Nat.ne_of_gt h0
  simp [Ctx.writeMask, Ctx.mask, hn, h8]

theorem Ctx.mask_writeMask_of_ne (h : j ≠ n) : (c.writeMask n x y).mask j = c.mask j := by
  unfold Ctx.writeMask
  split
  · rfl
  · simp [Ctx.mask, Ne.symm h]

end

end Sys2Proof.Machine

namespace Sys2Proof.Laws

open Sys2Proof.Machine

section
variable {s : State} {i : Instr} {g : Guard}

/-- An operation of a slot whose guard reads false does nothing, in whatever mode it is run (R16). -/
theorem exec_guard_false (hi : guardOf i = some g) (hg : s.cur.guard g = false) : exec i s = .next s := by
  by_cases hs : ∃ st, i = .sopen g st
  · obtain ⟨st, rfl⟩ := hs
    by_cases hm : s.issue.mode = .probe
    · obtain ⟨h, _⟩ | ⟨k, h⟩ := exec_sopen_checks (g := g) (st := st) hm
      · rw [hg] at h
        contradiction
      · rw [h, runOp_guard_false hg]
    · obtain ⟨sl, k, eff, h⟩ := exec_sopen_runs (g := g) (st := st) hm
      rw [h, runOp_guard_false hg]
  · obtain ⟨sl, k, eff, h⟩ := exec_isRunOp hi (fun st he => hs ⟨st, he⟩)
    rw [h, runOp_guard_false hg]

/-- In the check of its bundle an operation of a slot changes the issue record alone (R45). -/
theorem exec_probe (hi : guardOf i = some g) (hm : s.issue.mode = .probe) : ∃ q, exec i s = .next { s with issue := q } := by
  by_cases hs : ∃ st, i = .sopen g st
  · obtain ⟨st, rfl⟩ := hs
    obtain ⟨_, h⟩ | ⟨k, h⟩ := exec_sopen_checks (g := g) (st := st) hm
    · exact ⟨_, h⟩
    · rw [h]
      exact runOp_probe hm
  · obtain ⟨sl, k, eff, h⟩ := exec_isRunOp hi (fun st he => hs ⟨st, he⟩)
    rw [h]
    exact runOp_probe hm

end

/-- Settles O51: a false guard skips every operation, and p0 and k0 are constants that no write reaches. -/
theorem squashedOperations : Obligations.SquashedOperations := by
  unfold Obligations.SquashedOperations
  refine ⟨fun _ _ _ hi hg => exec_guard_false hi hg, fun c n b x y => ⟨rfl, rfl, rfl, rfl, fun h0 h8 => ⟨?_, ?_, ?_, ?_⟩⟩⟩
  · exact c.pred_writePred b h0 h8
  · exact fun j hj _ => c.pred_writePred_of_ne b hj
  · exact c.mask_writeMask x y h0 h8
  · exact fun j hj _ => c.mask_writeMask_of_ne x y hj

/-- Settles O52: the run of each operation of a slot in mode `probe` is a check. -/
theorem checksChangeNothing : Obligations.ChecksChangeNothing := by
  unfold Obligations.ChecksChangeNothing
  exact fun _ _ _ hi hm => exec_probe hi hm

end Sys2Proof.Laws
end

section
/-! What completes in one context (R20 to R24, R30, R37, R73): a single result that is due, and a single landing that may be written. -/

namespace Sys2Proof.Machine

/-! The slots of a tile are read from its contexts alone -/

theorem Tile.ctx_congr {t u : Tile} {k : Nat} (h : u.ctxs = t.ctxs) : u.ctx k = t.ctx k := by rw [Tile.ctx, Tile.ctx, h]
theorem Tile.ctx_of_ctxs {t u : Tile} {k : Nat} {f : Ctx → Ctx} (h : u.ctxs = (t.modCtx k f).ctxs) (hk : k < 8) :
    u.ctx k = f (t.ctx k) := (Tile.ctx_congr h).trans (t.ctx_modCtx f hk)
theorem Tile.ctx_of_ctxs_of_ne {t u : Tile} {j k : Nat} {f : Ctx → Ctx} (h : u.ctxs = (t.modCtx k f).ctxs) (hj : j ≠ k) :
    u.ctx j = t.ctx j := (Tile.ctx_congr h).trans (t.ctx_modCtx_of_ne f hj)

/-! A result completes -/

/-- The status of an `LKTRY` changes the lock set alone. -/
theorem Ctx.landLock_eq (c : Ctx) (w v : Word) : ∃ ls gs, c.landLock w v = { c with locks := ls, granted := gs } := by
  unfold Ctx.landLock
  dsimp only
  split
  · split
    · exact ⟨_, _, rfl⟩
    · split <;> exact ⟨_, _, rfl⟩
  · exact ⟨_, _, rfl⟩

/-- What completes with a result beside its effect is its flags, and the lock entry of an `LKTRY` alone. -/
theorem Ctx.finishResult_eq (c : Ctx) (r : Result) : ∃ ls gs, c.finishResult r = { c.orFlags r.flags with locks := ls, granted := gs } := by
  unfold Ctx.finishResult
  split
  · exact Ctx.landLock_eq ..
  · exact ⟨_, _, rfl⟩

/-- A context once a result's effect on it, a change of its files, and what goes with it have taken place, and the engine's flags. -/
def Ctx.completed (c : Ctx) (fl : BitVec 7) (bad : List Cell) (ls : List LockEntry) (gs : List Word) : Ctx :=
  { (({ c with bad := bad } : Ctx).orFlags fl).orEngine with locks := ls, granted := gs }

section
variable {t : Tile} {k : Nat} {r : Result} (hk : k < 8)
include hk

theorem Tile.ctx_complete_word {f : RFile} {n : BitVec 5} {sup : Bool} {v : Word} (h : r.effect = .word f n sup v) :
    ∃ bad ls gs, ((t.complete k r).modCtx k Ctx.orEngine).ctx k =
      ((t.ctx k).writeWord f n.toNat sup r.pushes v).completed r.flags bad ls gs := by
  obtain ⟨ls, gs, hf⟩ := Ctx.finishResult_eq
    (((t.ctx k).writeWord f n.toNat sup r.pushes v).rewrote (if sup then none else some (.reg f n)) (if r.pushes then some f else none)) r
  exact ⟨_, ls, gs, by simp only [Tile.complete, h, Tile.applyEffect, Tile.ctx_modCtx _ _ hk, hf]; rfl⟩

theorem Tile.ctx_complete_vec {n : BitVec 5} {sup : Bool} {v en : VReg} (h : r.effect = .vec n sup v en) :
    ∃ bad ls gs, ((t.complete k r).modCtx k Ctx.orEngine).ctx k =
      ((t.ctx k).writeVec n.toNat sup r.pushes v en).completed r.flags bad ls gs := by
  obtain ⟨ls, gs, hf⟩ := Ctx.finishResult_eq (((t.ctx k).writeVec n.toNat sup r.pushes v en).rewrote
    (if sup ∨ en ≠ BitVec.allOnes 1024 then none else some (.reg .v n)) (if r.pushes then some .v else none)) r
  exact ⟨_, ls, gs, by simp only [Tile.complete, h, Tile.applyEffect, Tile.ctx_modCtx _ _ hk, hf]; rfl⟩

theorem Tile.ctx_complete_pred {n : BitVec 3} {v : Bool} (h : r.effect = .pred n v) :
    ∃ bad ls gs, ((t.complete k r).modCtx k Ctx.orEngine).ctx k = ((t.ctx k).writePred n.toNat v).completed r.flags bad ls gs := by
  obtain ⟨ls, gs, hf⟩ := Ctx.finishResult_eq (((t.ctx k).writePred n.toNat v).rewrote (some (.pred n)) none) r
  exact ⟨_, ls, gs, by simp only [Tile.complete, h, Tile.applyEffect, Tile.ctx_modCtx _ _ hk, hf]; rfl⟩

end

/-! One context settles -/

/-- A context as its completions find it: what is due or may be written has been taken out of it. -/
def Ctx.drained (c : Ctx) : Ctx := { c with results := [], landings := [] }

/-- The only thing in flight of a context is a result that is due. -/
theorem Tile.settleSlot_result {t : Tile} {k : Nat} {x : Result} (he : (t.ctx k).entering = none) (hs : (t.ctx k).st ≠ .saved)
    (hr : (t.ctx k).results = [x]) (hl : (t.ctx k).landings = []) (hd : x.isDue t.core t.wall = true) :
    t.settleSlot k = ((t.setCtx k (t.ctx k).drained).complete k x).modCtx k Ctx.orEngine := by
  simp [Tile.settleSlot, he, hs, hr, hl, hd, sortResults, insertResult, Tile.modCtx, Ctx.drained]

/-- The only thing in flight of a context is a landing that may be written. -/
theorem Tile.settleSlot_landing {t : Tile} {k : Nat} {l : Landing} (he : (t.ctx k).entering = none) (hs : (t.ctx k).st ≠ .saved)
    (hr : (t.ctx k).results = []) (hl : (t.ctx k).landings = [l])
    (hw : l.writable (t.running == some k) t.core t.wall = true) :
    ∃ now pushes, t.settleSlot k = ((t.setCtx k (t.ctx k).drained).complete k { l.resultAt now with pushes := pushes }).modCtx k
      Ctx.orEngine := by
  refine ⟨if t.running == some k then t.core else t.wall, l.pushes && t.running == some k, ?_⟩
  simp [Tile.settleSlot, he, hs, hr, hl, hw, sortResults, insertResult, Tile.modCtx, Ctx.drained]

/-- A landing of the running context is written at its named cycle, one of another as soon as it is held (R30, R37). -/
theorem Landing.writable_of {l : Landing} {v : VReg} {w core wall : Nat} {run : Bool} (hv : l.value = some v) (ha : l.arrive = some w)
    (hw : w < wall) (hf : l.faulted = false) (hlost : l.lost = false) (hrel : l.rel = false) (hwt : l.waited = false)
    (hn : run = true → l.named ≤ core) : l.writable run core wall = true := by
  cases run <;> simp_all [Landing.writable, Landing.held]

/-! Registers after a write -/

section
variable (c : Ctx) {n j : Nat} (push : Bool) (w : Word) (x : VReg)

theorem Ctx.regA_writeWord (h : n < 32) : (c.writeWord .a n false push w).regA n = w := by simp [Ctx.writeWord, Ctx.regA, h]
theorem Ctx.regA_writeWord_of_ne (h : j ≠ n) : (c.writeWord .a n false push w).regA j = c.regA j := by
  simp [Ctx.writeWord, Ctx.regA, Ne.symm h]
theorem Ctx.regM_writeWord (h : n < 32) : (c.writeWord .m n false push w).regM n = w := by simp [Ctx.writeWord, Ctx.regM, h]
theorem Ctx.regM_writeWord_of_ne (h : j ≠ n) : (c.writeWord .m n false push w).regM j = c.regM j := by
  simp [Ctx.writeWord, Ctx.regM, Ne.symm h]
theorem Ctx.regV_writeVec_whole (h : n < 32) : (c.writeVec n false push x (BitVec.allOnes 1024)).regV n = x := by
  simp only [Ctx.writeVec, Ctx.regV, Bool.false_eq_true, if_false, BitVec.and_allOnes, BitVec.not_allOnes, BitVec.and_zero, BitVec.or_zero]
  simp [h]
theorem Ctx.regV_writeVec_of_ne (h : j ≠ n) (en : VReg) : (c.writeVec n false push x en).regV j = c.regV j := by
  simp [Ctx.writeVec, Ctx.regV, Ne.symm h]
theorem Ctx.writePred_eq (b : Bool) : ∃ p wp, c.writePred n b = { c with p := p, wp := wp } := by
  unfold Ctx.writePred
  split <;> exact ⟨_, _, rfl⟩
theorem Ctx.writeVec_eq (sup : Bool) (en : VReg) : ∃ v wv qv, c.writeVec n sup push x en = { c with v := v, wv := wv, qv := qv } :=
  ⟨_, _, _, rfl⟩
theorem Ctx.wp_writePred (b : Bool) (h0 : 0 < n) (h8 : n < 8) : (c.writePred n b).wp.getLsbD n = true := by
  simp [Ctx.writePred, Nat.ne_of_gt h0, h8]
theorem Ctx.wa_writeWord (h : n < 32) : (c.writeWord .a n false push w).wa.getLsbD n = true := by simp [Ctx.writeWord, h]
theorem Ctx.wm_writeWord (h : n < 32) : (c.writeWord .m n false push w).wm.getLsbD n = true := by simp [Ctx.writeWord, h]
theorem Ctx.wv_writeVec (h : n < 32) (en : VReg) : (c.writeVec n false push x en).wv.getLsbD n = true := by simp [Ctx.writeVec, h]

end

/-! What a completed effect leaves to be read -/

section
variable (c : Ctx) (fl : BitVec 7) (bad : List Cell) (ls : List LockEntry) (gs : List Word) (n : Nat)

theorem Ctx.regA_completed : (c.completed fl bad ls gs).regA n = c.regA n := rfl
theorem Ctx.regM_completed : (c.completed fl bad ls gs).regM n = c.regM n := rfl
theorem Ctx.regV_completed : (c.completed fl bad ls gs).regV n = c.regV n := rfl
theorem Ctx.pred_completed : (c.completed fl bad ls gs).pred n = c.pred n := rfl
theorem Ctx.wa_completed : (c.completed fl bad ls gs).wa = c.wa := rfl
theorem Ctx.wm_completed : (c.completed fl bad ls gs).wm = c.wm := rfl
theorem Ctx.wv_completed : (c.completed fl bad ls gs).wv = c.wv := rfl
theorem Ctx.wp_completed : (c.completed fl bad ls gs).wp = c.wp := rfl

end

end Sys2Proof.Machine
end

section
/-! The steps that complete results, bring landings and write them, and the choice of a context (R20 to R49, R73, R223, R368). -/

namespace Sys2Proof.Laws

open Sys2Proof.Machine

/-! Results -/

section
variable {s : State} {r : TileRef} {k : Nat} {x : Result} {n : BitVec 5} {q : BitVec 3} {v : Word} {b : Bool}

theorem exec_resultCompletion_running (h : (s.tile r).running = some k) :
    exec (.resultCompletion r) s = .next (s.modTile r (fun t => t.settleSlot k)) := by
  rw [exec_resultCompletion, execResultCompletion, State.modTile, h]
  rfl

/-- A context on whose tile a result alone is in flight, and due. -/
structure OneDue (s : State) (r : TileRef) (k : Nat) (x : Result) : Prop where
  running : (s.tile r).running = some k
  slot : k < 8
  results : (s.ctx ⟨r.node, r.tile, k⟩).results = [x]
  landings : (s.ctx ⟨r.node, r.tile, k⟩).landings = []
  entering : (s.ctx ⟨r.node, r.tile, k⟩).entering = none
  st : (s.ctx ⟨r.node, r.tile, k⟩).st = .running
  due : x.isDue (s.tile r).core (s.tile r).wall = true

/-- The registers, latches and control registers of a context that no result of a scalar register of the A file or of a predicate reaches. -/
def SameFiles (c d : Ctx) : Prop :=
  d.e = c.e ∧ d.m = c.m ∧ d.v = c.v ∧ d.k = c.k ∧ d.qm = c.qm ∧ d.qe = c.qe ∧ d.qv = c.qv ∧ d.results = [] ∧ d.lc = c.lc ∧
    d.xstat = c.xstat ∧ d.pc = c.pc

theorem sameFiles_completed_word (c : Ctx) (push : Bool) (fl : BitVec 7) (bad : List Cell) (ls : List LockEntry) (gs : List Word) :
    SameFiles c ((c.drained.writeWord .a n.toNat false push v).completed fl bad ls gs) :=
  ⟨rfl, rfl, rfl, rfl, rfl, rfl, rfl, rfl, rfl, rfl, rfl⟩

theorem sameFiles_completed_pred (c : Ctx) (fl : BitVec 7) (bad : List Cell) (ls : List LockEntry) (gs : List Word) :
    SameFiles c ((c.drained.writePred q.toNat b).completed fl bad ls gs) := by
  obtain ⟨p, wp, hw⟩ := c.drained.writePred_eq b (n := q.toNat)
  rw [hw]
  exact ⟨rfl, rfl, rfl, rfl, rfl, rfl, rfl, rfl, rfl, rfl, rfl⟩

theorem ctx_resultCompletion (h : OneDue s r k x) : Gives (.resultCompletion r) s (fun t =>
    t.ctx ⟨r.node, r.tile, k⟩ = ((((s.tile r).setCtx k (s.ctx ⟨r.node, r.tile, k⟩).drained).complete k x).modCtx k Ctx.orEngine).ctx k ∧
      t.mem = s.mem) := by
  obtain ⟨hrun, -, hres, hland, hent, hst, hdue⟩ := h
  have hns : (s.ctx ⟨r.node, r.tile, k⟩).st ≠ .saved := by rw [hst]; decide
  refine ⟨_, exec_resultCompletion_running hrun, ?_, rfl⟩
  have hs := Tile.settleSlot_result (t := s.tile r) (k := k) hent hns hres hland hdue
  exact (congrArg (Tile.ctx · k) (State.tile_modTile s r _)).trans (congrArg (Tile.ctx · k) hs)

theorem resultCompletion_word (h : OneDue s r k x) (hx : x.effect = .word .a n false v) :
    Gives (.resultCompletion r) s (fun t =>
      let c := s.ctx ⟨r.node, r.tile, k⟩
      let d := t.ctx ⟨r.node, r.tile, k⟩
      SameFiles c d ∧ d.p = c.p ∧ d.regA n.toNat = v ∧ d.wa.getLsbD n.toNat = true ∧ (∀ j, j ≠ n.toNat → d.regA j = c.regA j) ∧
        d.qa = (if x.pushes then #v[some v, c.qa[0], c.qa[1], c.qa[2]] else c.qa) ∧
        d.fflags = c.fflags ||| x.flags.setWidth 64 ||| (c.eflags.setWidth 64 <<< 8) ∧ t.mem = s.mem) := by
  obtain ⟨t, ht, hc, hm⟩ := ctx_resultCompletion h
  refine ⟨t, ht, ?_⟩
  generalize s.ctx ⟨r.node, r.tile, k⟩ = c at *
  obtain ⟨bad, ls, gs, hd⟩ := Tile.ctx_complete_word (t := (s.tile r).setCtx k c.drained) h.slot hx
  rw [hc, hd, Tile.ctx_setCtx _ _ h.slot]
  simp only [Ctx.regA_completed, Ctx.wa_completed]
  refine ⟨sameFiles_completed_word .., rfl, ?_, ?_, fun j hj => ?_, rfl, rfl, hm⟩
  · exact c.drained.regA_writeWord x.pushes v n.isLt
  · exact c.drained.wa_writeWord x.pushes v n.isLt
  · exact c.drained.regA_writeWord_of_ne x.pushes v hj

theorem resultCompletion_pred (h : OneDue s r k x) (hx : x.effect = .pred q b) :
    Gives (.resultCompletion r) s (fun t =>
      let c := s.ctx ⟨r.node, r.tile, k⟩
      let d := t.ctx ⟨r.node, r.tile, k⟩
      SameFiles c d ∧ d.a = c.a ∧ d.qa = c.qa ∧ d.pred 0 = true ∧ (q ≠ 0 → d.pred q.toNat = b ∧ d.wp.getLsbD q.toNat = true) ∧
        (∀ j, j < 8 → j ≠ q.toNat → d.pred j = c.pred j) ∧ t.mem = s.mem) := by
  obtain ⟨t, ht, hc, hm⟩ := ctx_resultCompletion h
  refine ⟨t, ht, ?_⟩
  generalize s.ctx ⟨r.node, r.tile, k⟩ = c at *
  obtain ⟨bad, ls, gs, hd⟩ := Tile.ctx_complete_pred (t := (s.tile r).setCtx k c.drained) h.slot hx
  rw [hc, hd, Tile.ctx_setCtx _ _ h.slot]
  obtain ⟨p', wp', hw⟩ := c.drained.writePred_eq b (n := q.toNat)
  simp only [Ctx.pred_completed, Ctx.wp_completed]
  refine ⟨sameFiles_completed_pred .., ?_, ?_, rfl, fun hq => ?_, fun j _ hj => c.drained.pred_writePred_of_ne b hj, hm⟩
  · rw [hw]; rfl
  · rw [hw]; rfl
  · have h0 : 0 < q.toNat := Nat.pos_of_ne_zero fun h => hq (BitVec.eq_of_toNat_eq h)
    exact ⟨c.drained.pred_writePred b h0 q.isLt, c.drained.wp_writePred b h0 q.isLt⟩

end

/-- Settles O31: the one result that is due is what settling its slot completes. -/
theorem resultsComplete : Obligations.ResultsComplete := by
  unfold Obligations.ResultsComplete
  intro s r k x n q v b me c files hrun hk hres hland hent hst hdue
  exact ⟨resultCompletion_word ⟨hrun, hk, hres, hland, hent, hst, hdue⟩, resultCompletion_pred ⟨hrun, hk, hres, hland, hent, hst, hdue⟩⟩

/-! Landings -/

section
variable {s : State} {c : CtxRef} {l : Landing} {v : VReg} {w : Nat}

/-- A context whose only landing is whole and on its way. -/
structure OneWhole (s : State) (c : CtxRef) (l : Landing) (v : VReg) : Prop where
  slot : c.slot < 8
  landings : (s.ctx c).landings = [l]
  value : l.value = some v
  faulted : l.faulted = false
  lost : l.lost = false

/-- A landing that has not come is the one a step brings. -/
theorem OneWhole.find (h : OneWhole s c l v) (ha : l.arrive = none) :
    ((s.tile (tileOf c)).ctx c.slot).landings.find? (fun x => x.id == l.id && x.arrive.isNone && !x.faulted && !x.lost) = some l := by
  rw [show ((s.tile (tileOf c)).ctx c.slot).landings = [l] from h.landings]
  simp [ha, h.faulted, h.lost]

theorem landingArrival_comes (h : OneWhole s c l v) (ha : l.arrive = none) (hq : l.kind.isQuery = false)
    (hw : l.issueWall + l.earliest ≤ (s.tile (tileOf c)).wall + 1) : Gives (.landingArrival c l.id) s (fun u =>
      (u.ctx c).landings = [{ l with arrive := some (s.tile (tileOf c)).wall }] ∧ u.mem = s.mem) := by
  have he : s.arriveLanding c l.id = s.modCtx c (fun x => x.modLanding l.id (fun l =>
      if l.value.isSome ∧ ¬l.faulted then { l with arrive := some (s.tile (tileOf c)).wall } else l)) := by
    simp [State.arriveLanding, h.find ha, Nat.not_lt.mpr hw, hq]
  refine ⟨_, rfl, ?_, by rw [he]; rfl⟩
  rw [he, State.ctx_modCtx _ _ h.slot]
  simp [Ctx.modLanding, h.landings, h.value, h.faulted]

theorem landingArrival_waits (h : OneWhole s c l v) (ha : l.arrive = none)
    (hw : (s.tile (tileOf c)).wall + 1 < l.issueWall + l.earliest) : exec (.landingArrival c l.id) s = .next s := by
  rw [exec_landingArrival, execLandingArrival]
  simp [State.arriveLanding, h.find ha, hw]

/-- What a landing leaves in the file it names, and of the files it does not name. -/
def LandedIn (l : Landing) (v : VReg) (x y : Ctx) : Prop :=
  (l.file = .m → y.regM l.reg.toNat = v.setWidth 64 ∧ y.wm.getLsbD l.reg.toNat = true ∧ y.v = x.v ∧
    (∀ j, j ≠ l.reg.toNat → y.regM j = x.regM j)) ∧
  (l.file = .v → y.regV l.reg.toNat = v ∧ y.wv.getLsbD l.reg.toNat = true ∧ y.m = x.m ∧
    (∀ j, j ≠ l.reg.toNat → y.regV j = x.regV j)) ∧
  (l.file = .a → y.regA l.reg.toNat = v.setWidth 64 ∧ y.wa.getLsbD l.reg.toNat = true) ∧
  (l.file ≠ .a → y.a = x.a) ∧ (l.file ≠ .e → y.e = x.e) ∧ y.p = x.p ∧ y.k = x.k

theorem landedIn_word (x : Ctx) (hf : l.file ≠ .v) (push : Bool) (fl : BitVec 7) (bad : List Cell) (ls : List LockEntry)
    (gs : List Word) : LandedIn l v x ((x.drained.writeWord l.file l.reg.toNat false push (v.setWidth 64)).completed fl bad ls gs) := by
  unfold LandedIn
  generalize l.file = f at hf
  simp only [Ctx.regA_completed, Ctx.regM_completed, Ctx.wa_completed, Ctx.wm_completed]
  cases f with
  | v => exact absurd rfl hf
  | a =>
    refine ⟨nofun, nofun, fun _ => ⟨?_, ?_⟩, fun h => absurd rfl h, fun _ => rfl, rfl, rfl⟩
    · exact x.drained.regA_writeWord push _ l.reg.isLt
    · exact x.drained.wa_writeWord push _ l.reg.isLt
  | m =>
    refine ⟨fun _ => ⟨?_, ?_, rfl, fun j hj => ?_⟩, nofun, nofun, fun _ => rfl, fun _ => rfl, rfl, rfl⟩
    · exact x.drained.regM_writeWord push _ l.reg.isLt
    · exact x.drained.wm_writeWord push _ l.reg.isLt
    · exact x.drained.regM_writeWord_of_ne push _ hj
  | e => exact ⟨nofun, nofun, nofun, fun _ => rfl, fun h => absurd rfl h, rfl, rfl⟩

theorem landedIn_vec (x : Ctx) (hl : l.file = .v) (push : Bool) (fl : BitVec 7) (bad : List Cell) (ls : List LockEntry) (gs : List Word) :
    LandedIn l v x ((x.drained.writeVec l.reg.toNat false push v (BitVec.allOnes 1024)).completed fl bad ls gs) := by
  unfold LandedIn
  rw [hl]
  simp only [Ctx.regV_completed, Ctx.wv_completed]
  obtain ⟨v', wv', qv', hw⟩ := x.drained.writeVec_eq (n := l.reg.toNat) push v false (BitVec.allOnes 1024)
  refine ⟨nofun, fun _ => ⟨?_, ?_, by rw [hw]; rfl, fun j hj => ?_⟩, nofun, fun _ => by rw [hw]; rfl, fun _ => by rw [hw]; rfl,
    by rw [hw]; rfl, by rw [hw]; rfl⟩
  · exact x.drained.regV_writeVec_whole push v l.reg.isLt
  · exact x.drained.wv_writeVec push v l.reg.isLt _
  · exact x.drained.regV_writeVec_of_ne push v hj _

/-- A landing completes as a write of its file, of a V register whole. -/
theorem ctx_complete_landing {t : Tile} {k : Nat} (x : Ctx) (hk : k < 8) (hv : l.value = some v) (due : Nat) (push : Bool) :
    LandedIn l v x ((((t.setCtx k x.drained).complete k { l.resultAt due with pushes := push }).modCtx k Ctx.orEngine).ctx k) ∧
      ((((t.setCtx k x.drained).complete k { l.resultAt due with pushes := push }).modCtx k Ctx.orEngine).ctx k).landings = [] := by
  have hx : (t.setCtx k x.drained).ctx k = x.drained := Tile.ctx_setCtx _ _ hk
  by_cases hf : l.file = .v
  · have he : l.effect = .vec l.reg false v (BitVec.allOnes 1024) := by simp [Landing.effect, hf, hv]
    obtain ⟨bad, ls, gs, h⟩ := Tile.ctx_complete_vec (t := t.setCtx k x.drained) (r := { l.resultAt due with pushes := push }) hk he
    rw [h, hx]
    exact ⟨landedIn_vec x hf push _ bad ls gs, rfl⟩
  · have he : l.effect = .word l.file l.reg false (v.setWidth 64) := by
      unfold Landing.effect
      rw [hv]
      cases hfl : l.file with
      | v => exact absurd hfl hf
      | _ => rfl
    obtain ⟨bad, ls, gs, h⟩ := Tile.ctx_complete_word (t := t.setCtx k x.drained) (r := { l.resultAt due with pushes := push }) hk he
    rw [h, hx]
    exact ⟨landedIn_word x hf push _ bad ls gs, by cases l.file <;> rfl⟩

theorem landingWrite_gives (h : OneWhole s c l v) (hr : (s.ctx c).results = []) (he : (s.ctx c).entering = none) (hs : (s.ctx c).st ≠ .saved)
    (hrel : l.rel = false) (hwt : l.waited = false) (ha : l.arrive = some w) (hw : w < (s.tile (tileOf c)).wall)
    (hn : (s.tile (tileOf c)).running = some c.slot → l.named ≤ (s.tile (tileOf c)).core) : Gives (.landingWrite c) s (fun u =>
      (u.ctx c).landings = [] ∧ u.mem = s.mem ∧ LandedIn l v (s.ctx c) (u.ctx c)) := by
  obtain ⟨now, push, hset⟩ := Tile.settleSlot_landing (t := s.tile (tileOf c)) (k := c.slot) he hs hr h.landings
    (Landing.writable_of h.value ha hw h.faulted h.lost hrel hwt (fun hrun => hn (by simpa using hrun)))
  have hu : (s.modTile (tileOf c) (fun t => t.settleSlot c.slot)).ctx c =
      ((((s.tile (tileOf c)).setCtx c.slot (s.ctx c).drained).complete c.slot { l.resultAt now with pushes := push }).modCtx c.slot
        Ctx.orEngine).ctx c.slot :=
    (congrArg (Tile.ctx · c.slot) (State.tile_modTile s (tileOf c) _)).trans (congrArg (Tile.ctx · c.slot) hset)
  obtain ⟨hland, hnone⟩ := ctx_complete_landing (t := s.tile (tileOf c)) (s.ctx c) h.slot h.value now push
  exact ⟨_, rfl, hu ▸ hnone, rfl, hu ▸ hland⟩

/-- A running context with the item of a freeze that has lasted too long (R35). -/
def Ctx.overdue (l : Landing) (core : Nat) (c : Ctx) : Ctx :=
  { c with issueAt := min c.issueAt core, late := c.late ++ [⟨.landingTimeout, l.fpc, .m, l.addr, 0, l.seq, none, true, none, false⟩] }

theorem State.freezeTimeout_late (hf : (s.tile (tileOf c)).freezeLate = true)
    (hm : (s.ctx c).missing (s.tile (tileOf c)).core (s.tile (tileOf c)).wall = some l) :
    s.freezeTimeout c = s.modTile (tileOf c) (fun t =>
      { t.modCtx c.slot (Ctx.overdue l (s.tile (tileOf c)).core) with freeze := some (s.tile (tileOf c)).wall }) := by
  simp only [State.freezeTimeout, hf, show ((s.tile (tileOf c)).ctx c.slot).missing _ _ = some l from hm]
  rfl

theorem landingTimeout_gives (hc : c.slot < 8) (hrun : (s.tile (tileOf c)).running = some c.slot) (hf : (s.tile (tileOf c)).freeze = some w)
    (hw : w + 16384 ≤ (s.tile (tileOf c)).wall)
    (hm : (s.ctx c).missing (s.tile (tileOf c)).core (s.tile (tileOf c)).wall = some l) : Gives (.landingTimeout (tileOf c)) s (fun u =>
      (u.tile (tileOf c)).freeze = some (s.tile (tileOf c)).wall ∧ ∃ f : LateFault, (u.ctx c).late = (s.ctx c).late ++ [f] ∧
        f.cause = .landingTimeout ∧ f.xaddr = l.addr ∧ f.fpc = l.fpc ∧ f.arrived = true ∧ u.mem = s.mem) := by
  have hlate : (s.tile (tileOf c)).freezeLate = true := by simp [Tile.freezeLate, hf, hw]
  have he : exec (.landingTimeout (tileOf c)) s = .next (s.freezeTimeout c) := by
    rw [exec_landingTimeout, execLandingTimeout, hrun]
    rfl
  rw [State.freezeTimeout_late hlate hm] at he
  refine ⟨_, he, by rw [State.tile_modTile], ⟨.landingTimeout, l.fpc, .m, l.addr, 0, l.seq, none, true, none, false⟩, ?_, rfl, rfl, rfl,
    rfl, rfl⟩
  rw [State.ctx, State.tile_modTile]
  exact congrArg Ctx.late (Tile.ctx_of_ctxs (f := Ctx.overdue l (s.tile (tileOf c)).core) (by rfl) hc)

end

/-- Settles O32: a landing reaches its buffer, is written by settling its slot, or is late. -/
theorem landingsComeAndAreWritten : Obligations.LandingsComeAndAreWritten := by
  unfold Obligations.LandingsComeAndAreWritten
  intro s c l v w t x whole
  refine ⟨fun ⟨hc, hl, hv, hf, hlost⟩ => landingArrival_comes ⟨hc, hl, hv, hf, hlost⟩,
    fun ⟨hc, hl, hv, hf, hlost⟩ => landingArrival_waits ⟨hc, hl, hv, hf, hlost⟩, ?_, landingTimeout_gives⟩
  intro ⟨hc, hl, hv, hf, hlost⟩ hr he hs _ hrel hwt ha hw hn
  exact landingWrite_gives ⟨hc, hl, hv, hf, hlost⟩ hr he hs hrel hwt ha hw hn

/-! The choice of a context -/

section
variable {s : State} {r : TileRef} {c : CtxRef} {k : Nat}

theorem blockSwitch_selects (hrun : (s.tile r).running = none) (hp : (s.tile r).pick = some k) (hk : k < 8)
    (hr : ((s.tile r).ctx k).resume = none) : Gives (.blockSwitch r) s (fun u =>
      (u.tile r).running = some k ∧ (u.tile r).switchUntil = some ((s.tile r).wall + 2) ∧ (u.tile r).lastSlot = k ∧
        ((u.tile r).ctx k).st = .running ∧ (∀ j, j ≠ k → (u.tile r).ctx j = (s.tile r).ctx j) ∧ u.mem = s.mem) := by
  have he : exec (.blockSwitch r) s = .next (s.blockSwitch r) := rfl
  unfold State.blockSwitch at he
  simp only [hrun, hp, hr] at he
  refine ⟨_, he, ?_⟩
  simp only [State.tile_modTile]
  have hset := fun u => Tile.ctx_of_ctxs (u := u) (t := s.tile r) (k := k) (f := fun c => { c with
    st := .running, blockStart := c.began, issueAt := (s.tile r).core })
  have hne := fun u j => Tile.ctx_of_ctxs_of_ne (u := u) (t := s.tile r) (k := k) (j := j) (f := fun c => { c with
    st := .running, blockStart := c.began, issueAt := (s.tile r).core })
  exact ⟨trivial, trivial, trivial, congrArg Ctx.st (hset _ (by rfl) hk), fun j hj => hne _ j (by rfl) hj, rfl⟩

theorem blockSwitch_running (h : (s.tile r).running = some k) : exec (.blockSwitch r) s = .next s := by
  rw [exec_blockSwitch, execBlockSwitch, State.blockSwitch, h]

theorem waitReady_gives (hc : c.slot < 8) (hw : (s.ctx c).st = .waiting) (hb : (s.ctx c).blockClear (s.tile (tileOf c)).core = true)
    (hm : s.waitMet c = true) : Gives (.waitReady c) s (fun u =>
      (u.ctx c).st = .ready ∧ (u.ctx c).wait = .none ∧ (u.ctx c).readySince = (s.tile (tileOf c)).wall ∧ (u.ctx c).a = (s.ctx c).a ∧
        u.mem = s.mem) := by
  have he : s.waitReady c = s.modCtx c (fun x => { x with st := .ready, wait := .none, readySince := (s.tile (tileOf c)).wall }) := by
    simp only [State.ctx] at hw hb
    simp [State.waitReady, hw, hb, hm]
  refine ⟨s.waitReady c, rfl, ?_⟩
  simp only [he, State.ctx_modCtx _ _ hc]
  exact ⟨trivial, trivial, trivial, trivial, rfl⟩

end

/-- Settles O33: a tile that runs none takes the context picked, and a wait that is met ends. -/
theorem contextsAreSelected : Obligations.ContextsAreSelected := by
  unfold Obligations.ContextsAreSelected
  exact fun s r c k => ⟨blockSwitch_selects, fun _ => blockSwitch_running, waitReady_gives⟩

end Sys2Proof.Laws
end

section
/-! What settling a slot leaves alone: the place of control, the queue and the pending request of every context, and which one runs.
A result writes registers (R20), so the bundle at the boundary is the one that stood there before (R33). -/

namespace Sys2Proof.Machine

/-- One context stands where another does, with the same queue and the same pending request. -/
structure SameControl (c d : Ctx) : Prop where
  pc : d.pc = c.pc
  queue : d.queue = c.queue
  request : d.request = c.request

theorem SameControl.refl (c : Ctx) : SameControl c c := ⟨rfl, rfl, rfl⟩
theorem SameControl.trans {c d e : Ctx} (h : SameControl c d) (g : SameControl d e) : SameControl c e :=
  ⟨g.pc.trans h.pc, g.queue.trans h.queue, g.request.trans h.request⟩

/-- A tile runs what another does, and slot `k` stands where it does there. -/
structure Tile.KeepsControl (k : Nat) (t u : Tile) : Prop where
  running : u.running = t.running
  ctx : SameControl (t.ctx k) (u.ctx k)

theorem Tile.KeepsControl.refl (k : Nat) (t : Tile) : t.KeepsControl k t := ⟨rfl, .refl _⟩
theorem Tile.KeepsControl.trans {k : Nat} {t u v : Tile} (h : t.KeepsControl k u) (g : u.KeepsControl k v) : t.KeepsControl k v :=
  ⟨g.running.trans h.running, h.ctx.trans g.ctx⟩

theorem Tile.keepsControl_of_ctxs {k : Nat} {t u : Tile} (hr : u.running = t.running) (hc : u.ctxs = t.ctxs) : t.KeepsControl k u :=
  ⟨hr, Tile.ctx_congr hc ▸ .refl _⟩

theorem Ctx.sameControl_writeWord (c : Ctx) (f : RFile) (n : Nat) (sup push : Bool) (v : Word) :
    SameControl c (c.writeWord f n sup push v) := by cases f <;> exact ⟨rfl, rfl, rfl⟩

theorem Ctx.sameControl_writePred (c : Ctx) (n : Nat) (v : Bool) : SameControl c (c.writePred n v) := by
  obtain ⟨p, wp, h⟩ := c.writePred_eq v (n := n)
  rw [h]
  exact ⟨rfl, rfl, rfl⟩

theorem Ctx.sameControl_writeMask (c : Ctx) (n : Nat) (v en : MaskReg) : SameControl c (c.writeMask n v en) := by
  unfold Ctx.writeMask
  split <;> exact ⟨rfl, rfl, rfl⟩

theorem Ctx.sameControl_writeCReg (c : Ctx) (r : CReg) (v : Word) : SameControl c (c.writeCReg r v) := by
  cases r <;> exact ⟨rfl, rfl, rfl⟩

theorem Ctx.sameControl_rewrote (c : Ctx) (x : Option Cell) (push : Option RFile) : SameControl c (c.rewrote x push) := ⟨rfl, rfl, rfl⟩

theorem Ctx.sameControl_finishResult (c : Ctx) (r : Result) : SameControl c (c.finishResult r) := by
  obtain ⟨ls, gs, h⟩ := c.finishResult_eq r
  rw [h]
  exact ⟨rfl, rfl, rfl⟩

section
variable {k : Nat} (hk : k < 8)
include hk

theorem Tile.keepsControl_modCtx (t : Tile) {f : Ctx → Ctx} (hf : SameControl (t.ctx k) (f (t.ctx k))) : t.KeepsControl k (t.modCtx k f) :=
  ⟨rfl, t.ctx_modCtx f hk ▸ hf⟩

theorem Tile.keepsControl_writeCReg (t : Tile) (r : CReg) (v : Word) : t.KeepsControl k (t.writeCReg k r v) := by
  unfold Tile.writeCReg
  split
  case h_6 => exact t.keepsControl_modCtx hk (Ctx.sameControl_writeCReg ..)
  all_goals exact Tile.keepsControl_of_ctxs rfl rfl

theorem Tile.keepsControl_applyEffect (t : Tile) (push : Bool) (e : Effect) : t.KeepsControl k (t.applyEffect k push e) := by
  unfold Tile.applyEffect
  cases e with
  | word f n sup v => exact t.keepsControl_modCtx hk ((Ctx.sameControl_writeWord ..).trans (Ctx.sameControl_rewrote ..))
  | vec n sup v en => exact t.keepsControl_modCtx hk ⟨rfl, rfl, rfl⟩
  | pred n v => exact t.keepsControl_modCtx hk ((Ctx.sameControl_writePred ..).trans (Ctx.sameControl_rewrote ..))
  | mask n v en => exact t.keepsControl_modCtx hk ((Ctx.sameControl_writeMask ..).trans (Ctx.sameControl_rewrote ..))
  | creg r v => exact t.keepsControl_writeCReg hk r v

theorem Tile.keepsControl_complete (t : Tile) (r : Result) : t.KeepsControl k (t.complete k r) :=
  (t.keepsControl_applyEffect hk r.pushes r.effect).trans (Tile.keepsControl_modCtx hk _ (Ctx.sameControl_finishResult ..))

theorem Tile.keepsControl_completeAll (rs : List Result) : ∀ t : Tile, t.KeepsControl k (rs.foldl (fun t r => t.complete k r) t) := by
  induction rs with
  | nil => exact fun t => .refl k t
  | cons r rs ih => exact fun t => (t.keepsControl_complete hk r).trans (ih _)

theorem Tile.keepsControl_settleSlot (t : Tile) : t.KeepsControl k (t.settleSlot k) := by
  unfold Tile.settleSlot
  dsimp only
  split
  · exact .refl k t
  · split
    · exact .refl k t
    · refine .trans ?_ (Tile.keepsControl_modCtx hk _ ⟨rfl, rfl, rfl⟩)
      exact .trans (t.keepsControl_modCtx hk ⟨rfl, rfl, rfl⟩) (Tile.keepsControl_completeAll hk _ _)

end

end Sys2Proof.Machine
end

section
/-! `BUNDLE_ISSUE` (R33, R45, R47, R102): the wall cycle of a tile down to the bundle that reaches its checks. -/

namespace Sys2Proof.Machine

section
variable {u : State} {r : TileRef} {k : Nat}

/-- At its boundary a pending class 4 request would be a trap, so none is pending. -/
theorem Tile.request_of_boundaryTrap {t : Tile} (h : t.boundaryTrap k = false) : (t.ctx k).request = none := by
  simp only [Tile.boundaryTrap, Bool.or_eq_false_iff] at h
  simpa using h.2

theorem Tile.requestOnly_of_boundaryTrap {t : Tile} (h : t.boundaryTrap k = false) : t.requestOnly k = false := by
  simp [Tile.requestOnly, Tile.request_of_boundaryTrap h]

theorem State.runCycle_atBundle (h : u.atBundle r k) : u.runCycle ⟨r.node, r.tile, k⟩ = (u.unheld r k).atIssue ⟨r.node, r.tile, k⟩ := by
  obtain ⟨_, _, _, _, _, _, hat, hpre, hhold, hfence, htrap, hclose⟩ := h
  unfold State.runCycle
  dsimp only
  have hreq := Tile.requestOnly_of_boundaryTrap htrap
  unfold State.ctx at hat hhold hfence hclose
  rw [if_neg (by exact Nat.not_lt.mpr hat), if_neg (by simpa [tileOf] using hpre), if_neg, if_neg (by simpa [tileOf] using hreq),
    if_neg (by simpa [tileOf] using htrap), if_neg (by simpa [tileOf] using hclose)]
  · rfl
  · rintro (hw | ⟨hf, -⟩)
    · exact absurd hhold (Nat.not_le.mpr hw)
    · exact absurd (hfence.symm.trans hf) (by decide)

theorem State.tile_settled : (u.settled r k).tile r = ((u.unheld r k).tile r).settleSlot k := by
  rw [State.settled, State.tile_modTile]

theorem State.keepsControl_settled (hk : k < 8) : ((u.unheld r k).tile r).KeepsControl k ((u.settled r k).tile r) :=
  State.tile_settled ▸ Tile.keepsControl_settleSlot hk _

theorem State.atIssue_reachesChecks (h : u.reachesChecks r k) :
    (u.unheld r k).atIssue ⟨r.node, r.tile, k⟩ = (u.settled r k).fetch ⟨r.node, r.tile, k⟩ := by
  obtain ⟨⟨hk, _⟩, hmiss, hfull, hfirm, hpoison⟩ := h
  have hpc : ((u.settled r k).ctx ⟨r.node, r.tile, k⟩).pc = ((u.unheld r k).ctx ⟨r.node, r.tile, k⟩).pc :=
    (State.keepsControl_settled hk).ctx.pc
  rw [hpc] at hpoison
  unfold State.ctx at hmiss hfull hfirm hpoison
  unfold State.atIssue
  dsimp only
  rw [if_neg (by simpa [tileOf] using hmiss), if_neg (by simpa [tileOf] using hfull), if_neg (by exact ne_true_of_eq_false hpoison),
    if_neg (by simpa [tileOf] using hfirm)]
  rfl

end

section
variable {s : State} {r : TileRef} {k : Nat}

theorem State.cycle_idle (h : ((s.tick r).blockSwitch r |>.tile r).running = none) :
    s.cycle r = ((s.tick r).blockSwitch r).pass r := by
  unfold State.cycle
  dsimp only
  rw [h]

theorem State.cycle_reachesChecks (h : ((s.tick r).blockSwitch r).reachesChecks r k) :
    s.cycle r = (((s.tick r).blockSwitch r).settled r k).fetch ⟨r.node, r.tile, k⟩ := by
  obtain ⟨_, hrun, hsw, hstuck, hent, hret, _⟩ := h.1
  rw [← State.atIssue_reachesChecks h, ← State.runCycle_atBundle h.1]
  unfold State.ctx at hstuck hent hret
  unfold State.cycle
  dsimp only
  rw [hrun]
  dsimp only
  rw [hsw]
  rw [if_neg Bool.false_ne_true, if_neg (by exact ne_true_of_eq_false hstuck), if_neg (by simpa [tileOf] using hent),
    if_neg (by simpa [tileOf] using hret)]

end

end Sys2Proof.Machine

namespace Sys2Proof.Laws

open Sys2Proof.Machine

section
variable {s : State} {r : TileRef} {k : Nat}

theorem execBundleIssue_failed (h : (s.node r.node).failed = true) :
    execBundleIssue r s = .next { s with focus := r, issue := Issue.idle } := by
  rw [execBundleIssue, if_pos h]

theorem execBundleIssue_idle (h : (s.node r.node).failed = false) (hn : ((s.atCycle r).tile r).running = none) :
    execBundleIssue r s = .next ((s.atCycle r).pass r) := by
  rw [execBundleIssue, if_neg (ne_true_of_eq_false h), State.cycle_idle hn]
  rfl

theorem execBundleIssue_reachesChecks (h : (s.node r.node).failed = false) (hc : (s.atCycle r).reachesChecks r k) :
    execBundleIssue r s = .next (((s.atCycle r).settled r k).fetch ⟨r.node, r.tile, k⟩) := by
  rw [execBundleIssue, if_neg (ne_true_of_eq_false h), State.cycle_reachesChecks hc]
  rfl

theorem fetch_ok {w : State} {b : Bundle} (h : w.bundleAt r (w.ctx ⟨r.node, r.tile, k⟩).pc.toNat = .ok b) :
    w.fetch ⟨r.node, r.tile, k⟩ = { w with
      focus := r
      issue := { Issue.idle with mode := .probe, words := b.words, xv := b.header.xv, xm := b.header.xm, xe := b.header.xe
                                 cbb := b.header.cbb, cbp := b.header.cbp, ops := b.ops } } := by
  unfold State.fetch
  simp only [show tileOf (⟨r.node, r.tile, k⟩ : CtxRef) = r from rfl, h]

theorem fetch_error {w : State} {x : BitVec 32} {sl : Slot} (h : w.bundleAt r (w.ctx ⟨r.node, r.tile, k⟩).pc.toNat = .error (x, sl)) :
    w.fetch ⟨r.node, r.tile, k⟩ = w.takeAt ⟨r.node, r.tile, k⟩
      ⟨.illegal, 5, slotIdx sl, (w.ctx ⟨r.node, r.tile, k⟩).pc.toNat, BitVec.ofNat 64 (x.toNat * 2 ^ 32 + slotIdx sl), 0⟩ := by
  unfold State.fetch
  simp only [show tileOf (⟨r.node, r.tile, k⟩ : CtxRef) = r from rfl, h]
  rfl

end

/-- Settles O30: the wall cycle is `State.cycle`, and at a boundary that nothing comes before it is the fetch of the settled state. -/
theorem bundlesIssue : Obligations.BundlesIssue := by
  unfold Obligations.BundlesIssue
  intro s r k me u w pc
  refine ⟨execBundleIssue_failed, execBundleIssue_idle, fun hf hc => ⟨fun b hb => ?_, fun x sl hb => ?_⟩⟩
  · exact (execBundleIssue_reachesChecks hf hc).trans (congrArg Host.Outcome.next (fetch_ok hb))
  · exact (execBundleIssue_reachesChecks hf hc).trans (congrArg Host.Outcome.next (fetch_error hb))

end Sys2Proof.Laws
end

section
/-! The frame of the register operations (R14, R20): an operation of the A or the V slot but `TRET` puts at most one result in flight,
may hold its context (`IFENCE`) or pop the tile's random state, and leaves word of itself in the issue record; nothing else. -/

namespace Sys2Proof.Machine

/-- A context with results put in flight and its hold set. -/
def Ctx.inFlight (c : Ctx) (xs : List Result) (w : Nat) (b : Bool) : Ctx :=
  { c with results := c.results ++ xs, holdUntil := w, fencing := b }

/-- All that a register operation may change from `s` to `t`. -/
structure RegisterFrame (s t : State) : Prop where
  rest : ∃ ns q, t = { s with nodes := ns, issue := q }
  others : ∀ r, r ≠ s.focus → t.tile r = s.tile r
  here : ∃ cs rng, t.here = { s.here with ctxs := cs, rng := rng }
  slots : ∀ k, k ≠ s.slot → t.here.ctx k = s.here.ctx k
  cur : ∃ xs w b, t.here.ctx s.slot = s.cur.inFlight xs w b ∧ xs.length ≤ 1

theorem RegisterFrame.refl (s : State) : RegisterFrame s s :=
  ⟨⟨_, _, rfl⟩, fun _ _ => rfl, ⟨_, _, rfl⟩, fun _ _ => rfl, ⟨[], s.cur.holdUntil, s.cur.fencing, by simp [Ctx.inFlight, State.cur],
    Nat.zero_le _⟩⟩

theorem RegisterFrame.focus {s t : State} (h : RegisterFrame s t) : t.focus = s.focus := by
  obtain ⟨⟨ns, q, he⟩, _⟩ := h
  rw [he]

theorem RegisterFrame.running {s t : State} (h : RegisterFrame s t) : t.here.running = s.here.running := by
  obtain ⟨cs, rng, he⟩ := h.here
  rw [he]

theorem RegisterFrame.slot {s t : State} (h : RegisterFrame s t) : t.slot = s.slot := congrArg (Option.getD · 0) h.running

/-- The issue record is of no account. -/
theorem RegisterFrame.issue {s t : State} (h : RegisterFrame s t) (q : Issue) : RegisterFrame s { t with issue := q } := by
  obtain ⟨⟨ns, p, he⟩, others, here, slots, cur⟩ := h
  exact ⟨⟨ns, q, by rw [he]⟩, others, here, slots, cur⟩

/-- Nor is the random state of the tile. -/
theorem RegisterFrame.popIf {s t : State} (h : RegisterFrame s t) (b : Bool) : RegisterFrame s (t.popIf b) := by
  unfold State.popIf
  split
  case isFalse => exact h
  case isTrue =>
    have hf := h.focus
    obtain ⟨⟨ns, q, he⟩, others, ⟨cs, rng, hh⟩, slots, cur⟩ := h
    have ht : (t.modHere (fun u => { u with rng := (rngPop u.rng).2 })).here = { t.here with rng := (rngPop t.here.rng).2 } :=
      State.tile_modTile ..
    refine ⟨⟨_, q, by rw [he]; rfl⟩, fun r hr => ?_, ⟨cs, _, by rw [ht, hh]⟩, fun k hk => ?_, ?_⟩
    · exact (State.tile_modTile_of_ne _ _ _ (by rwa [hf])).trans (others r hr)
    · rw [ht]
      exact slots k hk
    · rw [ht]
      exact cur

/-- A change of the issuing context that leaves but results in flight and a hold. -/
theorem RegisterFrame.modCur {s : State} {f : Ctx → Ctx} (hs : s.slot < 8) {xs : List Result} {w : Nat} {b : Bool}
    (hf : f s.cur = s.cur.inFlight xs w b) (hx : xs.length ≤ 1) : RegisterFrame s (s.modCur f) := by
  have ht : (s.modCur f).here = s.here.modCtx s.slot f := State.here_modCur s f
  refine ⟨⟨_, _, rfl⟩, fun r hr => State.tile_modTile_of_ne _ _ _ hr, ⟨_, s.here.rng, ht.trans rfl⟩, fun k hk => ?_, xs, w, b, ?_, hx⟩
  · rw [ht]
    exact Tile.ctx_modCtx_of_ne _ _ hk
  · rw [ht, Tile.ctx_modCtx _ _ hs]
    exact hf

section
variable {s : State} (hs : s.slot < 8)
include hs

theorem RegisterFrame.result (sl : Slot) (lat : Nat) (late : Bool) (e : Effect) (flags : BitVec 7) :
    RegisterFrame s (s.result sl lat late e flags) :=
  .modCur hs (xs := [_]) (w := s.cur.holdUntil) (b := s.cur.fencing) rfl (Nat.le_refl 1)

theorem RegisterFrame.resultWord (sl : Slot) (f : RFile) (lat : Nat) (d : Dst) (v : Word) :
    RegisterFrame s (s.resultWord sl f lat d v) := by cases d <;> exact .result hs ..

theorem RegisterFrame.hold : RegisterFrame s (s.modCur (fun c => { c with fencing := true, holdUntil := s.here.wall + 4 })) :=
  .modCur hs (xs := []) (w := s.here.wall + 4) (b := true) (by simp [Ctx.inFlight]) (Nat.zero_le 1)

theorem RegisterFrame.vresult (lat : Nat) (d : Dst) (lw : Nat) (r : List (Option Nat) × BitVec 7) (cv : Bool) :
    RegisterFrame s (s.vresult lat d lw r cv) := .result hs ..

end

theorem RegisterFrame.transfer {s t : State} (h : RegisterFrame s t) (w : Word) (leaves : Bool) : RegisterFrame s (t.transfer w leaves) :=
  h.issue _

theorem RegisterFrame.startLoop (s : State) (l : BitVec 12) (n : Int) : RegisterFrame s (s.startLoop l n) := by
  unfold State.startLoop
  dsimp only
  split
  · exact (RegisterFrame.refl s).issue _
  · split
    · exact .refl s
    · exact (RegisterFrame.refl s).issue _

end Sys2Proof.Machine

namespace Sys2Proof.Laws

open Sys2Proof.Machine

/-- An operation runs by `runOp`, and its effect on any state stands in the relation `R` to it. -/
def RunsWithin (R : State → State → Prop) (f : State → Out) : Prop :=
  ∃ sl g k eff, (∀ s, f s = runOp sl g k eff s) ∧ ∀ s, s.slot < 8 → R s (eff s)

/-- So does the execution of such an operation, a squashed one where the relation holds of a state and itself. -/
theorem RunsWithin.commit {R : State → State → Prop} {f : State → Out} {s t : State} (hf : RunsWithin R f) (hR : R s s)
    (hm : s.issue.mode = .commit) (hs : s.slot < 8) (h : f s = .next t) : R s t := by
  obtain ⟨sl, g, k, eff, he, hr⟩ := hf
  rw [he, runOp_commit hm, Host.Outcome.next.injEq] at h
  split at h
  · exact h ▸ hr s hs
  · exact h ▸ hR

/-- Every operation of the A and the V slot but `TRET` runs so within the frame. The conversions have no effect where their formats do not exist:
that is their `ILLEGAL` (R103). -/
theorem exec_registerOnly {i : Instr} (h : registerOnly i = true) (hn : i ≠ .nop) : RunsWithin RegisterFrame (exec i) := by
  cases i
  case nop => exact absurd rfl hn
  case add | sub | and | or | xor | andn | shl | shr | sar | rol | min | max | minu | maxu | addx | clz | ctz | popc | brev | bswap
      | sext | zext | mov | mul | mulh | mulhu | div | divu | rem | remu | extr | insr | sel | addi | subi | andi | ori | xori | shli |
      shri | sari | movi | movh1 | movh2 | movh3 | mfcr =>
    exact ⟨_, _, _, _, fun _ => rfl, fun _ hs => .resultWord hs ..⟩
  case cmp | pand | por | pnot | cmpi | mtcr | xmov | vcmp | vfcmp | kand | kor | knot | kmov =>
    exact ⟨_, _, _, _, fun _ => rfl, fun _ hs => .result hs ..⟩
  case br | jmp | ret => exact ⟨_, _, _, _, fun _ => rfl, fun s _ => (RegisterFrame.refl s).transfer ..⟩
  case call | callr => exact ⟨_, _, _, _, fun _ => rfl, fun _ hs => (RegisterFrame.resultWord hs ..).transfer ..⟩
  case loopi | loop => exact ⟨_, _, _, _, fun _ => rfl, fun s _ => .startLoop s ..⟩
  case trap => exact ⟨_, _, _, _, fun _ => rfl, fun s _ => (RegisterFrame.refl s).issue _⟩
  case ifence => exact ⟨_, _, _, _, fun _ => rfl, fun _ hs => .hold hs⟩
  case dchk | vdchk => exact ⟨_, _, _, _, fun _ => rfl, fun s _ => .refl s⟩
  case vadd | vsub | vmul | vmulh | vmulhU | vand | vor | vxor | vshl | vshr | vsar | vmin | vmax | vminU | vmaxU | vperm | vfadd |
      vfsub | vfmul | vfmax | vfmin | vshlImm | vshrImm | vsarImm | vabs | vneg | vsplatLane | vrot | vslide | vcompress | vscanF |
      vscanI | vfabs | vfneg | vfclass | vfrcp | vfrsq | vfexp2 | vflog2 | vunpack | vredsumF | vredmaxF | vredminF | vfma | vfms |
      vfnma | vfscale | vrope | vrand =>
    exact ⟨_, _, _, _, fun _ => rfl, fun _ hs => (RegisterFrame.vresult hs ..).popIf _⟩
  case vsel | vsplatImm | vexpand | vredsum | vredmax | vredmin | vcbx | vcbq | vpack =>
    exact ⟨_, _, _, _, fun _ => rfl, fun _ hs => .vresult hs ..⟩
  case vcvt | vqblk | vdqblk =>
    refine ⟨_, _, _, _, fun _ => rfl, fun s hs => ?_⟩
    dsimp only
    split
    · exact (RegisterFrame.vresult hs ..).popIf _
    · exact .refl s
  all_goals exact absurd h Bool.false_ne_true

/-- The execution of a register operation keeps its frame. -/
theorem registerFrame_exec {i : Instr} {s t : State} (h : registerOnly i = true) (hm : s.issue.mode = .commit) (hs : s.slot < 8)
    (he : exec i s = .next t) : RegisterFrame s t := by
  by_cases hn : i = .nop
  · subst hn
    rw [exec_nop, execNop, Host.Outcome.next.injEq] at he
    exact he ▸ .refl s
  · exact (exec_registerOnly h hn).commit (.refl s) hm hs he

/-- The issuing context once a register operation has executed. -/
theorem ctx_me_of_registerFrame {s t : State} (h : RegisterFrame s t) :
    ∃ xs w b, t.ctx s.me = s.cur.inFlight xs w b ∧ xs.length ≤ 1 := by
  obtain ⟨xs, w, b, hc, hx⟩ := h.cur
  refine ⟨xs, w, b, ?_, hx⟩
  rw [← hc, State.here, h.focus]
  rfl

/-- Settles O53: the frame of every such operation, read field by field. -/
theorem registerOperationsKeepState : Obligations.RegisterOperationsKeepState := by
  unfold Obligations.RegisterOperationsKeepState
  intro s t i hi hm hs he c d
  have h := registerFrame_exec hi hm hs he
  obtain ⟨xs, w, b, hd, hx⟩ := ctx_me_of_registerFrame h
  have hf := h.focus
  obtain ⟨⟨ns, q, hrest⟩, others, ⟨cs, rng, hhere⟩, slots, -⟩ := h
  have hd : d = c.inFlight xs w b := hd
  have hslots : ∀ k, k ≠ s.slot → (t.tile s.focus).ctx k = s.here.ctx k := hf ▸ slots
  rw [hd, hhere]
  refine ⟨hf, ?_⟩
  rw [hrest] at others hslots ⊢
  exact ⟨rfl, rfl, rfl, rfl, rfl, rfl, others, hslots, rfl, rfl, rfl, rfl, rfl, rfl, rfl, rfl, rfl, rfl, rfl, rfl, rfl, rfl, rfl, rfl, rfl,
    rfl, rfl, rfl, rfl, rfl, rfl, rfl, rfl, rfl, rfl, rfl, rfl, rfl, rfl, rfl, ⟨xs, rfl, hx⟩, rfl, rfl, rfl, rfl, rfl, rfl, rfl⟩

end Sys2Proof.Laws
end

section
/-! What the creation of a task reads and changes (R212, R224, R227): which trees are live, what a fresh slot holds, which packets a
candidate names, and their marking. -/

namespace Sys2Proof.Machine

/-! Whether something listed in sparse data meets a condition that the default does not -/

section
variable {α : Type} {d : α} {p : α → Bool}

theorem any_of_spGet (hd : p d = false) {k : Nat} : ∀ {m : Sparse α}, p (spGet d m k) = true → m.any (fun e => p e.2) = true
  | [], h => by rw [show spGet d [] k = d from rfl, hd] at h; cases h
  | (j, w) :: m, h => by
    rw [spGet] at h
    split at h
    · simp [h]
    · simp [any_of_spGet hd h]

/-- A value put in the place of one that meets the condition when it does changes nothing of that. -/
theorem any_spPut (hd : p d = false) {k : Nat} {v : α} : ∀ {m : Sparse α}, p v = p (spGet d m k) →
    (spPut m k v).any (fun e => p e.2) = m.any (fun e => p e.2)
  | [], h => by
    rw [show spGet d [] k = d from rfl, hd] at h
    simp [spPut, h]
  | (j, w) :: m, h => by
    by_cases hlt : k < j
    · have hin : p v = true → ((j, w) :: m).any (fun e => p e.2) = true := fun hv => any_of_spGet hd (h.symm.trans hv)
      rw [spPut, if_pos hlt, List.any_cons]
      cases hv : p v with
      | false => rfl
      | true => rw [hin hv]; rfl
    · rw [spPut, if_neg hlt]
      by_cases hkj : k = j
      · rw [if_pos hkj, List.any_cons, List.any_cons, h, spGet, if_pos hkj.symm]
      · rw [spGet, if_neg (Ne.symm hkj)] at h
        rw [if_neg hkj, List.any_cons, List.any_cons, any_spPut hd h]

end

/-! Live trees -/

/-- Whether a tile has a task or a descriptor of a tree. -/
def Tile.hasTree (id : BitVec 32) (t : Tile) : Bool :=
  t.ctxs.toList.any (fun c => c.live && c.tree == id) || t.deque.any (fun d => dqTree d.d2 == id)

theorem Tile.hasTree_reset (id : BitVec 32) : Tile.reset.hasTree id = false := by
  simp [Tile.hasTree, Tile.reset, Ctx.live, Ctx.reset]

section
variable {s : State} {r : TileRef} {f : Tile → Tile}

theorem State.treeLive_modTile (hc : (f (s.tile r)).ctxs = (s.tile r).ctxs) (hd : (f (s.tile r)).deque = (s.tile r).deque) (id : BitVec 32) :
    (s.modTile r f).treeLive r.node id = s.treeLive r.node id := by
  have ht : (f (s.tile r)).hasTree id = (spGet Tile.reset (s.node r.node).tiles r.tile).hasTree id := by
    rw [Tile.hasTree, hc, hd]
    rfl
  have hn : ((s.modTile r f).node r.node).tiles = spPut (s.node r.node).tiles r.tile (f (s.tile r)) := by
    rw [State.modTile, State.setTile, State.node_modNode]
  have h := any_spPut (Tile.hasTree_reset id) ht
  unfold State.treeLive
  rw [hn]
  exact congrArg (· || _) h

theorem State.nextTree_modTile (hc : (f (s.tile r)).ctxs = (s.tile r).ctxs) (hd : (f (s.tile r)).deque = (s.tile r).deque)
    (hl : (f (s.tile r)).lastTree = (s.tile r).lastTree) : (s.modTile r f).nextTree r = s.nextTree r := by
  simp only [State.nextTree, State.tile_modTile, hl, State.treeLive_modTile hc hd]

end

/-! A slot allocated -/

/-- What a fresh slot of a tile holds (R50, R225). -/
def Tile.freshCtx (t : Tile) : Ctx :=
  { Ctx.reset with st := .ready, xvec := t.xvec, serial := t.serial + 1, readySince := t.wall + 2, fflags := 0 }

section
variable {s : State} {r : TileRef} {k : Nat} {f : Ctx → Ctx}

theorem State.tile_allocate : (s.allocate r k f).tile r =
    { (s.tile r).setCtx k (f (s.tile r).freshCtx) with serial := (s.tile r).serial + 1 } := State.tile_modTile ..

theorem State.tile_allocate_of_ne {q : TileRef} (h : q ≠ r) : (s.allocate r k f).tile q = s.tile q := State.tile_modTile_of_ne _ _ _ h

theorem State.ctx_allocate (hk : k < 8) : (s.allocate r k f).ctx ⟨r.node, r.tile, k⟩ = f (s.tile r).freshCtx := by
  refine (congrArg (Tile.ctx · k) State.tile_allocate).trans ?_
  exact Tile.ctx_setCtx (s.tile r) (f (s.tile r).freshCtx) hk

end

/-! The packets of a task marked -/

/-- A packet becomes one of a task's. -/
def Tile.markCurrent (t : Tile) (q : Nat × Nat) : Tile := t.modIn q.1 (fun x => x.modBuf q.2 (fun b => { b with st := .current }))

/-- A packet's place is a buffer of a stream. -/
def Tile.HasBuf (t : Tile) (q : Nat × Nat) : Prop := q.1 < 32 ∧ q.2 < (t.inS q.1).bufs.length

section
variable {t : Tile} {p q : Nat × Nat}

theorem Tile.inS_modIn {st : Nat} {f : InStream → InStream} (h : st < 32) : (t.modIn st f).inS st = f (t.inS st) := by
  simp [Tile.inS, Tile.modIn, Tile.setIn, h]

theorem Tile.inS_modIn_of_ne {st j : Nat} {f : InStream → InStream} (h : j ≠ st) : (t.modIn st f).inS j = t.inS j := by
  simp [Tile.inS, Tile.modIn, Tile.setIn, Ne.symm h]

theorem InStream.buf_modBuf {x : InStream} {i : Nat} {f : Buf → Buf} (h : i < x.bufs.length) : (x.modBuf i f).buf i = f (x.buf i) := by
  simp [InStream.buf, InStream.modBuf, InStream.setBuf, h]

theorem InStream.buf_modBuf_of_ne {x : InStream} {i j : Nat} {f : Buf → Buf} (h : j ≠ i) : (x.modBuf i f).buf j = x.buf j := by
  simp [InStream.buf, InStream.modBuf, InStream.setBuf, Ne.symm h]

theorem Tile.inS_of_le {st : Nat} (h : 32 ≤ st) : (t.inS st).bufs = [] := by simp [Tile.inS, h]

theorem Tile.buf_markCurrent (h : t.HasBuf q) : (((t.markCurrent q).inS q.1).buf q.2).st = .current := by
  obtain ⟨h1, h2⟩ := h
  rw [Tile.markCurrent, Tile.inS_modIn h1, InStream.buf_modBuf h2]

theorem Tile.length_markCurrent (st : Nat) : ((t.markCurrent q).inS st).bufs.length = (t.inS st).bufs.length := by
  by_cases h : st = q.1
  · subst h
    by_cases h1 : q.1 < 32
    · simp [Tile.markCurrent, Tile.inS_modIn h1, InStream.modBuf, InStream.setBuf]
    · rw [Tile.inS_of_le (Nat.not_lt.mp h1), Tile.inS_of_le (Nat.not_lt.mp h1)]
  · rw [Tile.markCurrent, Tile.inS_modIn_of_ne h]

theorem Tile.HasBuf.markCurrent (h : t.HasBuf p) : (t.markCurrent q).HasBuf p := ⟨h.1, (Tile.length_markCurrent p.1).symm ▸ h.2⟩

/-- A packet that is a task's stays so when another becomes one. -/
theorem Tile.current_markCurrent (hp : t.HasBuf p) (h : ((t.inS p.1).buf p.2).st = .current) :
    (((t.markCurrent q).inS p.1).buf p.2).st = .current := by
  by_cases hq : q = p
  · subst hq
    exact Tile.buf_markCurrent hp
  · by_cases h1 : p.1 = q.1
    · have h2 : p.2 ≠ q.2 := fun h2 => hq (Prod.ext h1.symm h2.symm)
      rw [Tile.markCurrent, ← h1, Tile.inS_modIn hp.1, InStream.buf_modBuf_of_ne h2]
      exact h
    · rw [Tile.markCurrent, Tile.inS_modIn_of_ne h1]
      exact h

end

theorem Tile.current_foldl_markCurrent {p : Nat × Nat} (qs : List (Nat × Nat)) : ∀ t : Tile, t.HasBuf p →
    ((t.inS p.1).buf p.2).st = .current → (((qs.foldl Tile.markCurrent t).inS p.1).buf p.2).st = .current := by
  induction qs with
  | nil => exact fun _ _ h => h
  | cons q qs ih => exact fun t hp h => ih (t.markCurrent q) hp.markCurrent (Tile.current_markCurrent hp h)

theorem Tile.current_of_mem_marked (qs : List (Nat × Nat)) : ∀ t : Tile, (∀ q ∈ qs, t.HasBuf q) → ∀ q ∈ qs,
    (((qs.foldl Tile.markCurrent t).inS q.1).buf q.2).st = .current := by
  induction qs with
  | nil => exact fun _ _ _ hq => nomatch hq
  | cons p qs ih =>
    intro t hb q hq
    rcases List.mem_cons.mp hq with rfl | hq
    · have hp := hb q (List.mem_cons_self ..)
      exact Tile.current_foldl_markCurrent qs (t.markCurrent q) hp.markCurrent (Tile.buf_markCurrent hp)
    · exact ih (t.markCurrent p) (fun x hx => (hb x (List.mem_cons_of_mem _ hx)).markCurrent) q hq

theorem Tile.markCurrent_ctxs (t : Tile) (q : Nat × Nat) : (t.markCurrent q).ctxs = t.ctxs := rfl

theorem Tile.foldl_markCurrent_ctxs (qs : List (Nat × Nat)) : ∀ t : Tile, (qs.foldl Tile.markCurrent t).ctxs = t.ctxs := by
  induction qs with
  | nil => exact fun _ => rfl
  | cons q qs ih => exact fun t => (ih (t.markCurrent q)).trans (t.markCurrent_ctxs q)

/-! The packets a candidate names -/

/-- The older of the packet found so far and the next, if it is Ready (R210). -/
def InStream.older (x : InStream) (m : Option Nat) (e : Buf × Nat) : Option Nat :=
  if e.1.st != .ready then m
  else match m with
    | none => some e.2
    | some j => if e.1.order < (x.buf j).order then some e.2 else m

theorem InStream.oldest_eq (x : InStream) : x.oldest = x.bufs.zipIdx.foldl x.older none := rfl

theorem InStream.older_cases (x : InStream) (m : Option Nat) (e : Buf × Nat) : x.older m e = m ∨ x.older m e = some e.2 := by
  unfold InStream.older
  split
  · exact .inl rfl
  · split
    · exact .inr rfl
    · split
      · exact .inr rfl
      · exact .inl rfl

/-- A fold that keeps what it has or takes the next element gives what it began with or takes some element. -/
theorem foldl_keeps_or_takes {α β : Type} {g : Option β → α → Option β} {h : α → β} (hg : ∀ m e, g m e = m ∨ g m e = some (h e)) :
    ∀ (l : List α) (m : Option β) {y : β}, l.foldl g m = some y → m = some y ∨ ∃ e ∈ l, h e = y
  | [], _, _, hy => .inl hy
  | e :: l, m, y, hy => by
    rcases foldl_keeps_or_takes hg l (g m e) hy with hm | ⟨e', he', hy'⟩
    · rcases hg m e with hk | ht
      · exact .inl (hk ▸ hm)
      · exact .inr ⟨e, List.mem_cons_self .., Option.some.inj (ht.symm.trans hm)⟩
    · exact .inr ⟨e', List.mem_cons_of_mem _ he', hy'⟩

/-- The oldest Ready packet is in a buffer of its stream. -/
theorem InStream.oldest_lt {x : InStream} {i : Nat} (h : x.oldest = some i) : i < x.bufs.length := by
  rw [InStream.oldest_eq] at h
  rcases foldl_keeps_or_takes x.older_cases _ none h with hn | ⟨e, he, rfl⟩
  · cases hn
  · exact List.snd_lt_of_mem_zipIdx he

/-- A packet placed among ordered ones, by the order of their delivery. -/
def putDelivered (e : Nat × Nat) (l : List (Nat × Nat)) : List (Nat × Nat) :=
  l.filter (fun f => f.1 < e.1) ++ [e] ++ l.filter (fun f => e.1 ≤ f.1)

theorem mem_putDelivered {e f : Nat × Nat} {l : List (Nat × Nat)} (h : f ∈ putDelivered e l) : f = e ∨ f ∈ l := by
  simp only [putDelivered, List.mem_append, List.mem_filter, List.mem_singleton] at h
  rcases h with (⟨h, -⟩ | h) | ⟨h, -⟩
  · exact .inr h
  · exact .inl h
  · exact .inr h

theorem mem_foldl_putDelivered {f : Nat × Nat} : ∀ (bs : List (Buf × Nat)) (l : List (Nat × Nat)),
    f ∈ bs.foldl (fun l e => putDelivered (e.1.order, e.2) l) l → f ∈ l ∨ ∃ e ∈ bs, e.2 = f.2
  | [], _, h => .inl h
  | b :: bs, l, h => by
    rcases mem_foldl_putDelivered bs _ h with hl | ⟨e, he, hf⟩
    · rcases mem_putDelivered hl with rfl | hl
      · exact .inr ⟨b, List.mem_cons_self .., rfl⟩
      · exact .inl hl
    · exact .inr ⟨e, List.mem_cons_of_mem _ he, hf⟩

/-- So is every delivered packet. -/
theorem InStream.delivered_lt {x : InStream} {i : Nat} (h : i ∈ x.delivered) : i < x.bufs.length := by
  obtain ⟨f, hf, rfl⟩ := List.mem_map.mp h
  rcases mem_foldl_putDelivered _ [] hf with hn | ⟨e, he, hi⟩
  · cases hn
  · exact hi ▸ List.snd_lt_of_mem_zipIdx (List.mem_of_mem_filter he)

theorem inPair_lt (d : Word) : inPair d < 32 := Nat.mod_lt _ (by decide)

/-- The pairs of a join are packets of its two entries. -/
theorem Tile.hasBuf_of_mem_pairs {t : Tile} {st : Nat} (hst : st < 32) {q : (Nat × Nat) × (Nat × Nat)} (h : q ∈ t.pairs st) :
    t.HasBuf q.1 ∧ t.HasBuf q.2 := by
  obtain ⟨h1, h2⟩ := List.of_mem_zip h
  obtain ⟨i, hi, hi'⟩ := List.mem_map.mp h1
  obtain ⟨j, hj, hj'⟩ := List.mem_map.mp h2
  rw [← hi', ← hj']
  exact ⟨⟨hst, InStream.delivered_lt hi⟩, inPair_lt _, InStream.delivered_lt hj⟩

/-- The candidate of the higher effective class, the first of two of one class (R366). -/
def Candidate.higher (w : Nat) (m : Option Candidate) (c : Candidate) : Option Candidate :=
  match m with
  | none => some c
  | some d => if effClass d.pri d.since w < effClass c.pri c.since w then some c else some d

theorem Candidate.higher_cases (w : Nat) (m : Option Candidate) (c : Candidate) :
    Candidate.higher w m c = m ∨ Candidate.higher w m c = some c := by
  cases m with
  | none => exact .inr rfl
  | some d =>
    unfold Candidate.higher
    dsimp only
    split
    · exact .inr rfl
    · exact .inl rfl

section
variable {s : State} {r : TileRef}

theorem State.hasBuf_of_triggerOf {st : Nat} (hst : st < 32) {parts : List (Nat × Nat)} (h : s.triggerOf r st = some parts) :
    ∀ q ∈ parts, (s.tile r).HasBuf q := by
  unfold State.triggerOf at h
  dsimp only at h
  split at h
  · cases h
  · split at h
    · obtain ⟨i, hi, rfl⟩ := Option.map_eq_some_iff.mp h
      simpa using ⟨hst, InStream.oldest_lt hi⟩
    · split at h
      · cases h
      · obtain ⟨q, hq, rfl⟩ := Option.map_eq_some_iff.mp h
        simpa using Tile.hasBuf_of_mem_pairs hst (List.mem_of_find?_eq_some hq)
    · cases h

/-- A trigger's candidate names its stream and its packets. -/
theorem State.triggerCandidate_eq_some {st : Nat} {c : Candidate} (h : s.triggerCandidate r st = some c) :
    c.source = st ∧ s.triggerOf r st = some c.parts := by
  unfold State.triggerCandidate at h
  split at h
  · cases h
  · split at h
    · cases h
    · cases h
      exact ⟨rfl, by assumption⟩

theorem State.dequeCandidate_source {c : Candidate} (h : s.dequeCandidate r = some c) : c.source = 32 := by
  unfold State.dequeCandidate at h
  split at h
  · cases h
  · split at h
    · cases h
      rfl
    · cases h

theorem State.nextCandidate_mem {c : Candidate} (h : s.nextCandidate r = some c) : c ∈ s.candidates r := by
  rcases foldl_keeps_or_takes (g := Candidate.higher (s.tile r).wall) (h := id) (Candidate.higher_cases _) _ none h with hn | ⟨e, he, rfl⟩
  · cases hn
  · exact he

/-- The packets of the candidate admitted are in buffers. -/
theorem State.hasBuf_of_nextCandidate {c : Candidate} (h : s.nextCandidate r = some c) (hs : c.source ≠ 32) :
    ∀ q ∈ c.parts, (s.tile r).HasBuf q := by
  obtain ⟨k, hk, hc⟩ := List.mem_filterMap.mp (State.nextCandidate_mem h)
  obtain ⟨i, -, hi⟩ := List.mem_map.mp hk
  obtain ⟨d, hd, hif⟩ := Option.bind_eq_some_iff.mp hc
  split at hif
  case isFalse => cases hif
  case isTrue =>
    cases hif
    split at hd
    · exact absurd (State.dequeCandidate_source hd) hs
    · have hlt : k < 32 := by omega
      exact State.hasBuf_of_triggerOf hlt (State.triggerCandidate_eq_some hd).2

end

end Sys2Proof.Machine
end

section
/-! The steps that create tasks, and the message of one that has ended (R212, R217, R225, R227 to R229). -/

namespace Sys2Proof.Machine

/-- A tile that has admitted from a source in this wall cycle (R366). -/
def Tile.admits (src : Nat) (t : Tile) : Tile := { t with rotation := src, admitted := t.wall + 1 }

/-- A fresh slot as the task of packets (R212, R217). -/
def State.packetTask (s : State) (r : TileRef) (st : Nat) (parts : List (Nat × Nat)) (id : BitVec 32) (c : Ctx) : Ctx :=
  let p := (s.tile r).lead parts
  let h := s.bufHdr r p.1 p.2
  { c with pc := (s.tile r).entryOf parts, tree := id, tick := (s.node r.node).tick.toNat, pri := hdrPri h.2, hdr0 := h.1, hdr1 := h.2
           gen := hdrGen h.2, origin := some st, cur := parts.foldl (fun m q => spPut m q.1 q.2) [] }

/-- A fresh slot as the task of a descriptor, and with its operands (R227, R228). -/
def childCtx (r : TileRef) (e : DequeEntry) (c : Ctx) : Ctx :=
  { c with pc := dqEntry e.d2, tree := dqTree e.d2, tick := e.tick, pri := dqPri e.d2
           hdr1 := (dqPri e.d2).setWidth 64 <<< 30, gen := e.gen, parent := some (dqParent r.node e.d3)
           parentSeq := dqSerial e.d3, joining := dqJoin e.d2 }
def childTask (r : TileRef) (e : DequeEntry) (c : Ctx) : Ctx :=
  ((childCtx r e c).writeWord .a 0 false false e.d0).writeWord .a 1 false false e.d1

end Sys2Proof.Machine

namespace Sys2Proof.Laws

open Sys2Proof.Machine

section
variable {s : State} {r : TileRef} {k : Nat} {ks : List Nat} {cand : Candidate} {e : DequeEntry} {es : List DequeEntry} {id : BitVec 32}

/-! A task of packets -/

theorem tile_createByPacket {st : Nat} {parts : List (Nat × Nat)} (hid : s.nextTree r = some id) : (s.createByPacket r k st parts).tile r =
    { parts.foldl Tile.markCurrent ((s.allocate r k (s.packetTask r st parts id)).tile r) with lastTree := id.setWidth 12 } := by
  unfold State.createByPacket
  rw [hid]
  exact State.tile_modTile ..

theorem ctx_createByPacket {st : Nat} {parts : List (Nat × Nat)} (hid : s.nextTree r = some id) (hk : k < 8) :
    (s.createByPacket r k st parts).ctx ⟨r.node, r.tile, k⟩ = s.packetTask r st parts id (s.tile r).freshCtx := by
  rw [← State.ctx_allocate (f := s.packetTask r st parts id) hk]
  refine Tile.ctx_congr ((congrArg Tile.ctxs (tile_createByPacket hid)).trans ?_)
  exact Tile.foldl_markCurrent_ctxs parts _

theorem taskAdmission_packet (hf : (s.tile r).freeSlots = k :: ks) (ha : (s.tile r).admitted ≠ (s.tile r).wall + 1)
    (hc : s.nextCandidate r = some cand) (hs : cand.source ≠ 32) : exec (.taskAdmission r) s =
      .next ((s.modTile r (Tile.admits cand.source)).createByPacket r k cand.source cand.parts) := by
  rw [exec_taskAdmission, execTaskAdmission]
  simp only [State.admitTask, hf, ha, hc, hs, if_false]
  rfl

theorem bufHdr_admits (src st i : Nat) : (s.modTile r (Tile.admits src)).bufHdr r st i = s.bufHdr r st i := by
  simp only [State.bufHdr, State.tile_modTile]
  rfl

theorem packetTask_admits (src st : Nat) (parts : List (Nat × Nat)) (c : Ctx) :
    (s.modTile r (Tile.admits src)).packetTask r st parts id c =
      { c with pc := (s.tile r).entryOf parts, tree := id, tick := ((s.modTile r (Tile.admits src)).node r.node).tick.toNat
               pri := hdrPri (s.bufHdr r ((s.tile r).lead parts).1 ((s.tile r).lead parts).2).2
               hdr0 := (s.bufHdr r ((s.tile r).lead parts).1 ((s.tile r).lead parts).2).1
               hdr1 := (s.bufHdr r ((s.tile r).lead parts).1 ((s.tile r).lead parts).2).2
               gen := hdrGen (s.bufHdr r ((s.tile r).lead parts).1 ((s.tile r).lead parts).2).2, origin := some st
               cur := parts.foldl (fun m q => spPut m q.1 q.2) [] } := by
  unfold State.packetTask
  simp only [bufHdr_admits, State.tile_modTile]
  rfl

theorem taskAdmission_packet_gives (hf : (s.tile r).freeSlots = k :: ks) (ha : (s.tile r).admitted ≠ (s.tile r).wall + 1)
    (hc : s.nextCandidate r = some cand) (hk : k < 8) (hs : cand.source ≠ 32) (hid : s.nextTree r = some id) :
    Gives (.taskAdmission r) s (fun w =>
      w.ctx ⟨r.node, r.tile, k⟩ = (s.modTile r (Tile.admits cand.source)).packetTask r cand.source cand.parts id
        ((s.tile r).admits cand.source).freshCtx ∧
      (∀ q ∈ cand.parts, (((w.tile r).inS q.1).buf q.2).st = .current) ∧ (w.tile r).lastTree = id.setWidth 12) := by
  have hid' : (s.modTile r (Tile.admits cand.source)).nextTree r = some id :=
    (State.nextTree_modTile (f := Tile.admits cand.source) rfl rfl rfl).trans hid
  refine ⟨_, taskAdmission_packet hf ha hc hs, ?_, fun q hq => ?_, ?_⟩
  · rw [ctx_createByPacket hid' hk, State.tile_modTile]
  · rw [tile_createByPacket hid']
    have hb := fun q hq => State.hasBuf_of_nextCandidate hc hs q hq
    refine Tile.current_of_mem_marked cand.parts _ (fun q hq => ?_) q hq
    rw [State.tile_allocate, State.tile_modTile]
    exact hb q hq
  · rw [tile_createByPacket hid']

/-! A task of a descriptor -/

/-- What a slot holds that a descriptor's child has taken. -/
def IsChild (r : TileRef) (e : DequeEntry) (wall : Nat) (x : Ctx) : Prop :=
  x.st = .ready ∧ x.readySince = wall + 2 ∧ x.pc = dqEntry e.d2 ∧ x.tree = dqTree e.d2 ∧ x.regA 0 = e.d0 ∧ x.regA 1 = e.d1 ∧
    x.wa = 3 ∧ x.m = Vector.replicate 32 0 ∧ x.wm = 0 ∧ x.we = 0 ∧ x.wv = 0 ∧ x.wp = 0 ∧ x.wk = 0 ∧ x.cur = [] ∧ x.level = 0 ∧
    x.parent = some (dqParent r.node e.d3) ∧ x.joining = dqJoin e.d2

theorem isChild_childTask (t : Tile) : IsChild r e t.wall (childTask r e t.freshCtx) := by
  refine ⟨rfl, rfl, rfl, rfl, ?_, ?_, show (0#32 ||| 1#32 <<< 0) ||| 1#32 <<< 1 = 3 from by decide, rfl, rfl, rfl, rfl, rfl, rfl, rfl, rfl, rfl, rfl⟩
  · exact (Ctx.regA_writeWord_of_ne _ false e.d1 (by decide)).trans (Ctx.regA_writeWord _ false e.d0 (by decide))
  · exact Ctx.regA_writeWord _ false e.d1 (by decide)

theorem createChild_eq : s.createChild r k e = s.allocate r k (childTask r e) := rfl

theorem isChild_createChild (hk : k < 8) : IsChild r e (s.tile r).wall ((s.createChild r k e).ctx ⟨r.node, r.tile, k⟩) := by
  rw [createChild_eq, State.ctx_allocate hk]
  exact isChild_childTask _

theorem taskAdmission_child_gives (hf : (s.tile r).freeSlots = k :: ks) (ha : (s.tile r).admitted ≠ (s.tile r).wall + 1)
    (hc : s.nextCandidate r = some cand) (hk : k < 8) (hs : cand.source = 32) (hd : (s.tile r).deque = e :: es) :
    Gives (.taskAdmission r) s (fun w => IsChild r e (s.tile r).wall (w.ctx ⟨r.node, r.tile, k⟩) ∧ (w.tile r).deque = es) := by
  have he : exec (.taskAdmission r) s = .next (((s.modTile r (Tile.admits cand.source)).modTile r
      (fun t => { t with deque := es })).createChild r k e) := by
    rw [exec_taskAdmission, execTaskAdmission]
    simp only [State.admitTask, hf, ha, hc, hs, hd, if_false, if_true]
    rfl
  refine ⟨_, he, ?_, ?_⟩
  · have h := isChild_createChild (s := (s.modTile r (Tile.admits cand.source)).modTile r (fun t => { t with deque := es })) (r := r)
      (e := e) hk
    rw [State.tile_modTile, State.tile_modTile] at h
    exact h
  · rw [createChild_eq, State.tile_allocate, State.tile_modTile]
    rfl

theorem stealRound_gives {v : Nat} (hf : (s.tile r).freeSlots = k :: ks) (hk : k < 8) (hv : s.victim r = some (v, e))
    (hs : s.steals r = true) (ha : (s.tile r).admitted ≠ (s.tile r).wall + 1) (hne : v ≠ r.tile) : Gives (.stealRound r) s (fun w =>
      IsChild r e (s.tile r).wall (w.ctx ⟨r.node, r.tile, k⟩) ∧
        (w.tile ⟨r.node, v⟩).deque = (s.tile ⟨r.node, v⟩).deque.dropLast) := by
  have hrv : (⟨r.node, v⟩ : TileRef) ≠ r := fun h => hne (congrArg TileRef.tile h)
  have he : exec (.stealRound r) s = .next (((s.modTile ⟨r.node, v⟩ (fun t => { t with deque := t.deque.dropLast })).modTile r
      (fun t => { t with admitted := t.wall + 1 })).createChild r k e) := by
    rw [exec_stealRound, execStealRound]
    simp [State.stealRound, hf, hv, hs, ha]
  refine ⟨_, he, ?_, ?_⟩
  · have h := isChild_createChild (s := (s.modTile ⟨r.node, v⟩ (fun t => { t with deque := t.deque.dropLast })).modTile r
      (fun t => { t with admitted := t.wall + 1 })) (r := r) (e := e) hk
    rw [State.tile_modTile, State.tile_modTile_of_ne _ _ _ hrv.symm] at h
    exact h
  · rw [createChild_eq, State.tile_allocate_of_ne hrv, State.tile_modTile_of_ne _ _ _ hrv, State.tile_modTile]

/-! The end of a child -/

theorem joinMessage_arrives {c : CtxRef} {ser : Nat} (h : OnItsWay s (.joinMessage c ser)) : exec (.joinMessage c ser) s =
    .next (((arrived s (.joinMessage c ser)).modCtx c (fun x =>
      if x.live = true ∧ x.serial % 2 ^ 48 = ser % 2 ^ 48 then { x with jcnt := x.jcnt - 1 } else x)).endIfDead c.node
        (BitVec.ofNat 32 (ser / 2 ^ 48))) := by
  rw [exec_joinMessage, execJoinMessage, State.taking_of_onItsWay _ h]
  simp only [Bool.and_eq_true, beq_iff_eq]

end

/-- Settles O38: the task of packets, the child of a descriptor admitted or stolen, and the message that counts a child's end. -/
theorem tasksAreCreated : Obligations.TasksAreCreated := by
  unfold Obligations.TasksAreCreated
  intro s r k v ks cand e es id c ser t me p h fresh child join counted
  refine ⟨fun ⟨hf, ha, hc, hk⟩ hs hid => ?_, fun ⟨hf, ha, hc, hk⟩ hs hd => taskAdmission_child_gives hf ha hc hk hs hd,
    fun hf hk hv hs ha hne => stealRound_gives hf hk hv hs ha hne, joinMessage_arrives⟩
  obtain ⟨w, he, hw, hcur, hlast⟩ := taskAdmission_packet_gives hf ha hc hk hs hid
  rw [packetTask_admits] at hw
  refine ⟨w, he, ?_⟩
  dsimp only [me]
  rw [hw]
  exact ⟨rfl, rfl, rfl, rfl, rfl, rfl, rfl, rfl, rfl, rfl, rfl, rfl, rfl, rfl, rfl, rfl, rfl, hcur, rfl, rfl, hlast⟩

end Sys2Proof.Laws
end

section
/-! What a bundle of one operation decodes to (R88 to R92): its guard stands in its word, its word is no header. -/

namespace Sys2Proof

/-- A decoding gives operations of the guard `g` alone. -/
def Guarded (g : Guard) (x : Except Reject Instr) : Prop := ∀ i, x = .ok i → guardOf i = some g

theorem guarded_ok {g : Guard} {i : Instr} (h : guardOf i = some g) : Guarded g (.ok i) := fun _ he => Except.ok.inj he ▸ h

theorem guarded_error {g : Guard} {e : Reject} : Guarded g (.error e) := fun _ he => nomatch he

theorem guarded_bind {α : Type} {g : Guard} {x : Except Reject α} {f : α → Except Reject Instr} (h : ∀ a, Guarded g (f a)) :
    Guarded g (x >>= f) := by
  cases x with
  | error e => exact guarded_error
  | ok a => exact h a

theorem guarded_ite {g : Guard} {c : Prop} [Decidable c] {x y : Except Reject Instr} (hx : Guarded g x) (hy : Guarded g y) :
    Guarded g (if c then x else y) := by
  split
  · exact hx
  · exact hy

/-! The four opcode maps (Tables 3.7 to 3.10) give each operation the guard of its word: each proof follows the shape of its map, a test of a field, an
operation, a refusal, or a field read before the rest. -/

theorem guarded_decodeA (g : Guard) (f : Fields) : Guarded g (decodeA g f) := by
  unfold decodeA
  split
  all_goals repeat' first | apply guarded_ite | exact guarded_ok rfl | exact guarded_error | refine guarded_bind fun _ => ?_

theorem guarded_decodeV (g : Guard) (f : Fields) : Guarded g (decodeV g f) := by
  unfold decodeV
  split
  all_goals repeat' first | apply guarded_ite | exact guarded_ok rfl | exact guarded_error | refine guarded_bind fun _ => ?_

theorem guarded_decodeM (g : Guard) (f : Fields) : Guarded g (decodeM g f) := by
  unfold decodeM
  split
  all_goals repeat' first | apply guarded_ite | exact guarded_ok rfl | exact guarded_error | refine guarded_bind fun _ => ?_

theorem guarded_decodeE (g : Guard) (f : Fields) : Guarded g (decodeE g f) := by
  unfold decodeE
  split
  all_goals repeat' first | apply guarded_ite | exact guarded_ok rfl | exact guarded_error | refine guarded_bind fun _ => ?_

/-- Only the word of zeros has all its fields zero (R90). -/
theorem eq_zero_of_splitWord {x : BitVec 32} (h : splitWord x = ⟨0, false, 0, 0, 0, 0, 0⟩) : x = 0 := by
  simp only [splitWord, Fields.mk.injEq, BitVec.toNat_eq, BitVec.extractLsb'_toNat, Nat.shiftRight_eq_div_pow, BitVec.getLsbD,
    Nat.testBit_eq_decide_div_mod_eq, decide_eq_false_iff_not, BitVec.reduceToNat] at h
  obtain ⟨hop, hn, hp, hd, ha, hb, hfn⟩ := h
  apply BitVec.eq_of_toNat_eq
  rw [show (0 : BitVec 32).toNat = 0 from rfl]
  omega

/-- The opcode map of a slot. -/
def decodeSlot (g : Guard) (f : Fields) : Slot → Except Reject Instr
  | .a => decodeA g f
  | .v => decodeV g f
  | .m => decodeM g f
  | .e => decodeE g f

theorem guarded_decodeSlot (g : Guard) (f : Fields) (sl : Slot) : Guarded g (decodeSlot g f sl) := by
  cases sl
  · exact guarded_decodeA g f
  · exact guarded_decodeV g f
  · exact guarded_decodeM g f
  · exact guarded_decodeE g f

/-- What decodes from a word that is not `NOP`'s is in the opcode map of the slot, with the word's guard. -/
theorem decodeSlot_of_decodeWord {sl : Slot} {x : BitVec 32} {i : Instr} (hx : x ≠ 0) (h : decodeWord sl x = .ok i) :
    decodeSlot ⟨(splitWord x).n, (splitWord x).p⟩ (splitWord x) sl = .ok i := by
  unfold decodeWord decodeFields at h
  rw [if_neg (mt eq_zero_of_splitWord hx)] at h
  dsimp only at h
  split at h
  · cases h
  · next j hj =>
    split at h
    · cases h
      cases sl <;> exact hj
    · cases h

/-- An operation decoded from a word that is not `NOP`'s has the word's guard. -/
theorem exists_guardOf_of_decodeWord {sl : Slot} {x : BitVec 32} {i : Instr} (hx : x ≠ 0) (h : decodeWord sl x = .ok i) :
    ∃ g, guardOf i = some g := ⟨_, guarded_decodeSlot _ _ sl i (decodeSlot_of_decodeWord hx h)⟩

/-- The majors from 0x3C on are no operations of the A slot: they are the header's (R91). -/
theorem decodeA_of_header (g : Guard) {f : Fields} (h : 60 ≤ f.op.toNat) : decodeA g f = .error .reservedOpcode := by
  have hop : f.op.toNat = 60 ∨ f.op.toNat = 61 ∨ f.op.toNat = 62 ∨ f.op.toNat = 63 := by omega
  unfold decodeA
  rcases hop with hop | hop | hop | hop <;> rw [hop] <;> rfl

/-- No word of an operation of the A slot is a header (R91). -/
theorem isHeader_of_decodeWord {x : BitVec 32} {i : Instr} (hx : x ≠ 0) (h : decodeWord .a x = .ok i) : Machine.isHeader x = false := by
  by_contra hh
  have hop : 60 ≤ (splitWord x).op.toNat := by
    simp only [Bool.not_eq_false, Machine.isHeader, beq_iff_eq, BitVec.toNat_eq, BitVec.extractLsb'_toNat, BitVec.reduceToNat,
      Nat.shiftRight_eq_div_pow] at hh
    simp only [splitWord, BitVec.extractLsb'_toNat, Nat.shiftRight_eq_div_pow]
    omega
  have hd := decodeSlot_of_decodeWord hx h
  rw [decodeSlot, decodeA_of_header _ hop] at hd
  cases hd

end Sys2Proof

namespace Sys2Proof.Machine

/-- The word of a slot in a bundle of one operation. -/
def soleWord (sl : Slot) (x : BitVec 32) (n : Nat) : BitVec 32 := if n = slotIdx sl then x else 0

theorem slotOp_zero (sl : Slot) : slotOp sl 0#32 = .ok [] := rfl

theorem slotOp_of_decodeWord {sl : Slot} {x : BitVec 32} {i : Instr} (hx : x ≠ 0) (h : decodeWord sl x = .ok i) :
    slotOp sl x = .ok [(sl, i)] := by
  rw [slotOp, if_neg hx, h]

/-- A bundle of one operation and `NOP`s has no header and that operation alone (R88, R90, R91). -/
theorem decodeBundle_soleWord {sl : Slot} {x : BitVec 32} {i : Instr} (hx : x ≠ 0) (h : decodeWord sl x = .ok i) :
    decodeBundle (soleWord sl x 0) (soleWord sl x 1) (soleWord sl x 2) (soleWord sl x 3) =
      .ok ⟨#v[soleWord sl x 0, soleWord sl x 1, soleWord sl x 2, soleWord sl x 3], Header.zero, [(sl, i)]⟩ := by
  have hhead : isHeader (soleWord sl x 0) = false := by
    cases sl
    case a => exact isHeader_of_decodeWord hx h
    all_goals exact show isHeader 0 = false by decide
  have hops : slotOps [(.a, soleWord sl x 0), (.v, soleWord sl x 1), (.m, soleWord sl x 2), (.e, soleWord sl x 3)] = .ok [(sl, i)] := by
    have hop := slotOp_of_decodeWord hx h
    cases sl <;> simp [slotOps, soleWord, slotIdx, hop, slotOp_zero]
  unfold decodeBundle
  simp [hhead, hops]

end Sys2Proof.Machine
end

section
/-! How many entries an operation adds to the queues of its context (R244): the bound by which the entries of a bundle of one operation
fit queues that were not full (R47). -/

namespace Sys2Proof.Machine

/-- The queues of a tile's contexts have at most `n` more entries to issue than another's, and it runs what that one runs. -/
structure Tile.Grows (n : Nat) (t u : Tile) : Prop where
  running : u.running = t.running
  loads : ∀ k, (u.ctx k).loadsQueued ≤ (t.ctx k).loadsQueued + n
  stores : ∀ k, (u.ctx k).storesQueued ≤ (t.ctx k).storesQueued + n

/-- The same of the tile in focus, which stays in focus. -/
structure State.Grows (n : Nat) (s t : State) : Prop where
  focus : t.focus = s.focus
  here : s.here.Grows n (t.tile s.focus)

theorem Tile.Grows.refl (t : Tile) : t.Grows 0 t := ⟨rfl, fun _ => Nat.le_refl _, fun _ => Nat.le_refl _⟩

theorem Tile.Grows.of_ctxs {t u : Tile} (hr : u.running = t.running) (hc : u.ctxs = t.ctxs) : t.Grows 0 u :=
  ⟨hr, fun _ => Tile.ctx_congr hc ▸ Nat.le_refl _, fun _ => Tile.ctx_congr hc ▸ Nat.le_refl _⟩

theorem Tile.Grows.trans {m n : Nat} {t u v : Tile} (h : t.Grows m u) (g : u.Grows n v) : t.Grows (m + n) v :=
  ⟨g.running.trans h.running, fun k => by have := h.loads k; have := g.loads k; omega,
    fun k => by have := h.stores k; have := g.stores k; omega⟩

theorem State.Grows.trans {m n : Nat} {s t u : State} (h : s.Grows m t) (g : t.Grows n u) : s.Grows (m + n) u := by
  refine ⟨g.focus.trans h.focus, h.here.trans ?_⟩
  have := g.here
  rwa [State.here, h.focus] at this

theorem State.Grows.mono {m n : Nat} {s t : State} (h : s.Grows m t) (hmn : m ≤ n) : s.Grows n t :=
  ⟨h.focus, h.here.running, fun k => (h.here.loads k).trans (Nat.add_le_add_left hmn _),
    fun k => (h.here.stores k).trans (Nat.add_le_add_left hmn _)⟩

/-- What follows an enqueuing and adds nothing, and what goes before it. -/
theorem State.Grows.andThen {n : Nat} {s t u : State} (h : s.Grows n t) (g : t.Grows 0 u) : s.Grows n u := h.trans g
theorem State.Grows.after {n : Nat} {s t u : State} (g : t.Grows n u) (h : s.Grows 0 t) : s.Grows n u := Nat.zero_add n ▸ h.trans g

/-- A step that leaves the tile in focus. -/
theorem State.Grows.of_tile {s t : State} (hf : t.focus = s.focus) (ht : t.tile s.focus = s.tile s.focus) : s.Grows 0 t :=
  ⟨hf, ht ▸ .refl _⟩

theorem State.Grows.refl (s : State) : s.Grows 0 s := .of_tile rfl rfl

theorem State.Grows.issue {n : Nat} {s t : State} (h : s.Grows n t) (q : Issue) : s.Grows n { t with issue := q } := ⟨h.focus, h.here⟩

theorem State.Grows.modTile {n : Nat} {f : Tile → Tile} (s : State) (r : TileRef) (hf : (s.tile r).Grows n (f (s.tile r))) :
    s.Grows n (s.modTile r f) := by
  by_cases h : s.focus = r
  · subst h
    exact ⟨rfl, by rw [State.tile_modTile]; exact hf⟩
  · exact (State.Grows.of_tile (s := s) (t := s.modTile r f) rfl (State.tile_modTile_of_ne _ _ _ h)).mono (Nat.zero_le n)

/-- A change of a tile beside its contexts. -/
theorem State.Grows.modTile_of_ctxs {f : Tile → Tile} (s : State) (r : TileRef) (hr : (f (s.tile r)).running = (s.tile r).running)
    (hc : (f (s.tile r)).ctxs = (s.tile r).ctxs) : s.Grows 0 (s.modTile r f) := .modTile s r (.of_ctxs hr hc)

/-! A change of one context -/

/-- A context slot that a tile does not have is read as reset. -/
theorem Tile.ctx_of_le (t : Tile) {k : Nat} (h : 8 ≤ k) : t.ctx k = Ctx.reset := by simp [Tile.ctx, h]

theorem Tile.Grows.modCtx {n : Nat} (t : Tile) {k : Nat} {f : Ctx → Ctx} (hl : (f (t.ctx k)).loadsQueued ≤ (t.ctx k).loadsQueued + n)
    (hs : (f (t.ctx k)).storesQueued ≤ (t.ctx k).storesQueued + n) : t.Grows n (t.modCtx k f) := by
  have h : ∀ j, (t.modCtx k f).ctx j = t.ctx j ∨ (j = k ∧ (t.modCtx k f).ctx j = f (t.ctx j)) := by
    intro j
    by_cases hj : j = k
    · subst hj
      by_cases h8 : j < 8
      · exact .inr ⟨rfl, t.ctx_modCtx f h8⟩
      · exact .inl ((Tile.ctx_of_le _ (Nat.not_lt.mp h8)).trans (Tile.ctx_of_le _ (Nat.not_lt.mp h8)).symm)
    · exact .inl (t.ctx_modCtx_of_ne f hj)
  refine ⟨rfl, fun j => ?_, fun j => ?_⟩
  · rcases h j with h | ⟨rfl, h⟩
    · exact h ▸ Nat.le_add_right ..
    · exact h ▸ hl
  · rcases h j with h | ⟨rfl, h⟩
    · exact h ▸ Nat.le_add_right ..
    · exact h ▸ hs

theorem Ctx.loadsQueued_le_of_sublist {c d : Ctx} (h : d.queue.Sublist c.queue) : d.loadsQueued ≤ c.loadsQueued :=
  (h.filter _).length_le
theorem Ctx.storesQueued_le_of_sublist {c d : Ctx} (h : d.queue.Sublist c.queue) : d.storesQueued ≤ c.storesQueued :=
  (h.filter _).length_le

/-- The queue of a context with one entry more. -/
theorem Ctx.loadsQueued_append {c d : Ctx} {e : QEntry} (h : d.queue = c.queue ++ [e]) : d.loadsQueued ≤ c.loadsQueued + 1 := by
  rw [Ctx.loadsQueued, h, List.filter_append, List.length_append]
  exact Nat.add_le_add_left (List.length_filter_le ..) _
theorem Ctx.storesQueued_append {c d : Ctx} {e : QEntry} (h : d.queue = c.queue ++ [e]) : d.storesQueued ≤ c.storesQueued + 1 := by
  rw [Ctx.storesQueued, h, List.filter_append, List.length_append]
  exact Nat.add_le_add_left (List.length_filter_le ..) _

section
variable (s : State) (r : CtxRef) {f : Ctx → Ctx}

theorem State.Grows.modCtx (hf : (f (s.ctx r)).queue.Sublist (s.ctx r).queue) : s.Grows 0 (s.modCtx r f) :=
  .modTile s (tileOf r) (f := fun t => t.setCtx r.slot (f (s.ctx r)))
    (.modCtx (s.tile (tileOf r)) (f := fun _ => f (s.ctx r)) (Ctx.loadsQueued_le_of_sublist hf) (Ctx.storesQueued_le_of_sublist hf))

theorem State.Grows.modCtx_append {e : QEntry} (hf : (f (s.ctx r)).queue = (s.ctx r).queue ++ [e]) : s.Grows 1 (s.modCtx r f) :=
  .modTile s (tileOf r) (f := fun t => t.setCtx r.slot (f (s.ctx r)))
    (.modCtx (s.tile (tileOf r)) (f := fun _ => f (s.ctx r)) (Ctx.loadsQueued_append hf) (Ctx.storesQueued_append hf))

theorem State.Grows.modCur (hf : (f s.cur).queue = s.cur.queue) : s.Grows 0 (s.modCur f) :=
  .modCtx s s.me (f := f) (hf ▸ .refl _)

end

/-! The shared operations of the slots -/

section
variable (s : State)

theorem State.grows_send (e : Event) : s.Grows 0 (s.send e) := .of_tile rfl rfl

theorem State.focus_post (n : Nat) (e : Event) : (s.post n e).focus = s.focus := by
  unfold State.post
  split
  · rfl
  · split
    · rfl
    · split <;> rfl

theorem State.grows_post (n : Nat) (e : Event) : s.Grows 0 (s.post n e) :=
  .of_tile (s.focus_post n e) ((AgreeOffLinks.post s n e).tile s.focus)

theorem State.grows_enqueue (r : CtxRef) (e : QEntry) : s.Grows 1 (s.enqueue r e) := .modCtx_append s r rfl

theorem State.grows_newId : s.Grows 0 s.newId.2 := .of_tile rfl rfl

theorem State.grows_queueOp (sl : Slot) (inLoad inStore : Bool) (op : QOp) : s.Grows 1 (s.queueOp sl inLoad inStore op) :=
  (State.grows_enqueue ..).after s.grows_newId

theorem State.grows_takeLanding (sl : Slot) (kind : LandKind) (l : BitVec 10) (file : RFile) (reg : BitVec 5) (addr : Word)
    (size earliest : Nat) (idem : Bool) : s.Grows 0 (s.takeLanding sl kind l file reg addr size earliest idem).2 :=
  s.grows_newId.andThen (.modCur _ rfl)

theorem State.grows_spillUe (x : Word) (access : Option Nat) : s.Grows 0 (s.spillUe x access) := .modCur _ rfl

theorem State.grows_pend (sl : Slot) (lat : Nat) (held : Bool) (a : ExtWrite) : s.Grows 0 (s.pend sl lat held a) := by
  unfold State.pend State.modHere
  exact .modTile_of_ctxs s s.focus rfl rfl

theorem State.grows_usesBarrier (r : CtxRef) (b : Nat) : s.Grows 0 (s.usesBarrier r b) := .modCtx s r (.refl _)

theorem State.grows_result (sl : Slot) (lat : Nat) (late : Bool) (e : Effect) (flags : BitVec 7) :
    s.Grows 0 (s.result sl lat late e flags) := .modCur _ rfl

theorem State.grows_resultWord (sl : Slot) (f : RFile) (lat : Nat) (d : Dst) (v : Word) : s.Grows 0 (s.resultWord sl f lat d v) := by
  cases d <;> exact s.grows_result ..

theorem State.grows_ask (r : CtxRef) (m : CrookMsg) (e : CrookMsg → Event) : s.Grows 0 (s.ask r m e) := by
  unfold State.ask
  split
  · exact .modCtx s r (.refl _)
  · exact s.grows_post ..

theorem State.grows_request (r : CtxRef) (m : CrookMsg) (e : CrookMsg → Event) : s.Grows 0 (s.request r m e) := by
  unfold State.request
  split
  · exact s.grows_ask ..
  · exact s.grows_send _

/-! Accesses -/

theorem State.grows_issueLoad (kind : LandKind) (l : BitVec 10) (file : RFile) (reg : BitVec 5) (addr : Word) (segs : List Word)
    (size : Nat) : s.Grows 1 (s.issueLoad kind l file reg addr segs size) := by
  unfold State.issueLoad
  dsimp only
  generalize ha : s.takeLanding _ _ _ _ _ _ _ _ _ = a
  have h : s.Grows 0 a.2 := ha ▸ s.grows_takeLanding ..
  split
  · exact (h.andThen (State.grows_spillUe ..)).mono (Nat.zero_le 1)
  · split
    · exact (h.andThen (.modCur _ rfl)).mono (Nat.zero_le 1)
    · exact (State.grows_enqueue ..).after (h.andThen (.modCur _ rfl))

theorem State.grows_foldl {α : Type} {f : State → α → State} (h : ∀ (t : State) a, t.Grows 0 (f t a)) (l : List α) : s.Grows 0 (l.foldl f s) := by
  induction l generalizing s with
  | nil => exact .refl s
  | cons a l ih => exact (h s a).andThen (ih _)

theorem State.grows_writeBytes (sp : MemSpace) (r : TileRef) (off : Nat) (bs : List Byte) : s.Grows 0 (s.writeBytes sp r off bs) :=
  .of_tile rfl rfl

theorem State.grows_writeWord (sp : MemSpace) (r : TileRef) (off : Nat) (w : Word) : s.Grows 0 (s.writeWord sp r off w) := .of_tile rfl rfl

theorem State.grows_zeroBytes (sp : MemSpace) (r : TileRef) (off n : Nat) : s.Grows 0 (s.zeroBytes sp r off n) := .of_tile rfl rfl

theorem State.Grows.marks {n : Nat} {s t : State} (h : s.Grows n t) (ps : List Nat) (ts : List (Nat × CtxRef)) :
    s.Grows n { t with poison := ps, tainted := ts } := ⟨h.focus, h.here⟩

theorem State.grows_storeSpill (r : CtxRef) (p : Word) (bs : List Byte) : s.Grows 0 (s.storeSpill r p bs) := by
  have hbytes : ∀ (part : List Nat) (k off : Nat), s.Grows 0 (bs.zipIdx.foldl (fun s b =>
      if part.any (fun u => decide (u ≤ k + b.2) && decide (k + b.2 < u + 8)) then s
      else s.writeBytes .spill (tileOf r) (off + b.2) [b.1]) s) := by
    refine fun part k off => s.grows_foldl (fun s b => ?_) _
    split
    · exact .refl s
    · exact s.grows_writeBytes ..
  unfold State.storeSpill
  dsimp only
  split
  · exact s.grows_writeBytes ..
  · split
    · exact (hbytes ..).marks ..
    · exact ((hbytes ..).marks ..).andThen (State.grows_spillUe ..)

theorem State.grows_issueStore (segs : List Word) (size : Nat) (data : List Byte) : s.Grows 1 (s.issueStore segs size data) := by
  have hspill : ∀ xs : List (Word × Nat), s.Grows 0 (xs.foldl (fun t x =>
      if winOf x.1 = 1 then t.storeSpill s.me x.1 ((data.drop x.2).take size) else t) s) := by
    refine fun xs => s.grows_foldl (fun t x => ?_) _
    split
    · exact t.grows_storeSpill ..
    · exact .refl t
  unfold State.issueStore
  dsimp only
  split
  · exact (hspill _).mono (Nat.zero_le 1)
  · exact (State.grows_queueOp ..).after (hspill _)

/-! Streams -/

theorem State.grows_detect (r : CtxRef) (f : LateFault) : s.Grows 0 (s.detect r f) := by
  refine .modCtx s r ?_
  dsimp only
  split <;> exact .refl _

theorem State.grows_issuePkt (hdr : Bool) (l : BitVec 10) (x : RFile) (d b : BitVec 5) : s.Grows 0 (s.issuePkt hdr l x d b) := by
  unfold State.issuePkt
  dsimp only
  generalize ha : s.takeLanding _ _ _ _ _ _ _ _ _ = a
  have h : s.Grows 0 a.2 := ha ▸ s.grows_takeLanding ..
  split
  · exact h.andThen (.modCur _ rfl)
  · exact h.andThen (State.grows_detect ..)

theorem State.grows_returnCredit (src : Nat) (dst : CtxRef) (k : Nat) : s.Grows 0 (s.returnCredit src dst k) := by
  unfold State.returnCredit
  split
  · exact s.grows_post ..
  · refine .of_tile rfl ?_
    by_cases h : s.focus.node = dst.node
    · rw [State.tile, h, State.node_modNode, State.tile, h]
    · rw [State.tile, State.node_modNode_of_ne _ _ _ h, State.tile]

theorem State.grows_freeBuffer (r : TileRef) (st i : Nat) : s.Grows 0 (s.freeBuffer r st i) :=
  (State.Grows.modTile_of_ctxs s r rfl rfl).andThen (State.grows_returnCredit ..)

theorem State.grows_donePacket (r : CtxRef) (st : Nat) : s.Grows 0 (s.donePacket r st) := by
  unfold State.donePacket
  split
  · exact .refl s
  · exact (s.grows_freeBuffer ..).andThen (.modCtx _ r (.refl _))

theorem State.grows_openPacket (st : Nat) : s.Grows 0 (s.openPacket st) := by
  have h : s.Grows 0 (s.modHere (fun t => t.modOut st (fun x =>
      { x with free := x.free - 1, opened := x.opened ++ [(if (s.here.outS st).opened.any (fun o => o.1 == 0) then 1 else 0, false)] }))) :=
    .modTile_of_ctxs s s.focus rfl rfl
  unfold State.openPacket
  dsimp only
  exact (((h.andThen (.modCur _ rfl)).andThen (State.grows_zeroBytes ..)).andThen (State.grows_writeWord ..)).andThen
    (State.grows_writeWord ..)

theorem State.grows_discardOpen (r : CtxRef) (st : Nat) : s.Grows 0 (s.discardOpen r st) := by
  unfold State.discardOpen
  split
  · exact .refl s
  · exact (State.Grows.modTile_of_ctxs s (tileOf r) rfl rfl).andThen (.modCtx _ r List.filter_sublist)

theorem State.grows_modHere_modOut (st : Nat) (f : OutStream → OutStream) : s.Grows 0 (s.modHere (fun t => t.modOut st f)) :=
  .modTile_of_ctxs s s.focus rfl rfl

/-! Fold transfers, the engine, codebooks, forks, locks -/

theorem State.grows_issueFold (fn treg : Nat) (a b : Word) : s.Grows 1 (s.issueFold fn treg a b) := by
  unfold State.issueFold
  dsimp only
  split
  · exact (s.grows_queueOp ..).andThen (State.grows_usesBarrier ..)
  · exact s.grows_queueOp ..

theorem State.grows_issueEngine (w : EngineWrite) : s.Grows 0 (s.issueEngine w) := by
  unfold State.issueEngine
  split
  · exact (s.grows_pend ..).issue _
  · exact s.grows_pend ..

theorem State.grows_issueCodebook (a : CbAct) : s.Grows 0 (s.issueCodebook a) := by
  unfold State.issueCodebook
  split
  · exact (s.grows_pend ..).issue _
  · exact s.grows_pend ..

theorem State.grows_abortEngine (r : CtxRef) : s.Grows 0 (s.abortEngine r) := by
  unfold State.abortEngine
  refine (State.Grows.of_tile (s := s) (t := (s.choose 16).2) rfl rfl).andThen (.modTile_of_ctxs _ (tileOf r) ?_ ?_)
  · rfl
  · rfl

theorem State.grows_fork (a0 a1 w : Word) : s.Grows 0 (s.fork a0 a1 w).2 := by
  have hhere : ∀ {f : Tile → Tile}, (f s.here).running = s.here.running → (f s.here).ctxs = s.here.ctxs → s.Grows 0 (s.modHere f) :=
    fun hr hc => .modTile_of_ctxs s s.focus hr hc
  unfold State.fork
  dsimp only
  split
  · dsimp only
    exact hhere rfl rfl
  · split
    · exact .refl s
    · split
      · exact .refl s
      · dsimp only
        split
        · exact (hhere rfl rfl).andThen (.modCur _ rfl)
        · exact hhere rfl rfl

theorem State.grows_issueLock (e : CrookMsg → Event) (d : Dst) (w : Word) (m : LockMode) : s.Grows 0 (s.issueLock e d w m) :=
  ((s.grows_newId.andThen (.modCur _ rfl)).andThen (State.grows_request ..)).issue _

theorem State.grows_releaseEntries (r : CtxRef) : s.Grows 1 (s.releaseEntries r) := by
  unfold State.releaseEntries
  dsimp only
  split
  case isTrue h => exact (State.Grows.modCtx s r (by simp)).mono (Nat.zero_le 1)
  case isFalse h => exact (State.Grows.modCtx_append _ r (by simp; rfl)).after s.grows_newId

/-! The return from a trap -/

theorem State.grows_setFrameWord (r : CtxRef) (off : Nat) (w : Word) : s.Grows 0 (s.setFrameWord r off w) := .of_tile rfl rfl

theorem State.grows_nextDeferred (r : CtxRef) : s.Grows 0 (s.nextDeferred r) := by
  have h : s.Grows 0 (s.modCtx r (fun c => { c with deferSeq := (s.ctx r).deferSeq.drop 1 })) := .modCtx s r (.refl _)
  unfold State.nextDeferred
  dsimp only
  split
  · exact h.andThen (State.grows_setFrameWord ..)
  · have hset := fun (t : State) => t.grows_setFrameWord r
    exact ((((h.andThen (hset ..)).andThen (hset ..)).andThen (hset ..)).andThen (hset ..)).andThen (State.grows_writeBytes ..)

theorem State.frameLatches_queue (r : CtxRef) (c : Ctx) : (s.frameLatches r c).queue = c.queue := rfl

theorem State.grows_restoreFrame (r : CtxRef) (rpc : BitVec 12) : s.Grows 0 (s.restoreFrame r rpc) := by
  unfold State.restoreFrame
  dsimp only
  refine .modCtx s r ?_
  dsimp only
  rw [State.frameLatches_queue]
  exact .refl _

theorem State.grows_takeDeferred (r : CtxRef) : s.Grows 0 (s.takeDeferred r) := by
  unfold State.takeDeferred
  dsimp only
  exact ((State.Grows.modCtx s r (.refl _)).andThen (.modCtx _ r (.refl _))).andThen (State.grows_nextDeferred ..)

theorem State.grows_trapReturn (r : CtxRef) : s.Grows 0 (s.trapReturn r) := by
  unfold State.trapReturn
  dsimp only
  split
  · exact s.grows_takeDeferred r
  · exact (s.grows_restoreFrame ..).andThen (.modCtx _ r (.refl _))

end

end Sys2Proof.Machine
end

section
/-! Every operation of a slot adds at most one entry to a queue of its context (R244). -/

namespace Sys2Proof.Laws

open Sys2Proof.Machine

theorem RunsWithin.imp {R R' : State → State → Prop} {f : State → Out} (h : RunsWithin R f) (hi : ∀ s t, R s t → R' s t) :
    RunsWithin R' f := by
  obtain ⟨sl, g, k, eff, he, hr⟩ := h
  exact ⟨sl, g, k, eff, he, fun s hs => hi _ _ (hr s hs)⟩

/-- A register operation adds none. -/
theorem grows_of_registerFrame {s t : State} (h : RegisterFrame s t) : s.Grows 0 t := by
  have hq : ∀ k, (t.here.ctx k).queue = (s.here.ctx k).queue := by
    intro k
    by_cases hk : k = s.slot
    · obtain ⟨xs, w, b, hc, -⟩ := h.cur
      rw [hk, hc]
      rfl
    · rw [h.slots k hk]
  refine ⟨h.focus, ?_⟩
  rw [← h.focus]
  exact ⟨h.running, fun k => Ctx.loadsQueued_le_of_sublist (hq k ▸ .refl _), fun k => Ctx.storesQueued_le_of_sublist (hq k ▸ .refl _)⟩

section
variable {g : Guard}

theorem grows_ldsp {d : Dst} {i : BitVec 10} : RunsWithin (State.Grows 1) (execLdsp g d i) := by
  refine ⟨_, _, _, _, fun _ => rfl, fun s _ => ?_⟩
  split
  · split
    · exact (s.grows_spillUe ..).mono (Nat.zero_le 1)
    · exact (s.grows_resultWord ..).mono (Nat.zero_le 1)
  · exact (State.Grows.refl s).mono (Nat.zero_le 1)

theorem grows_stsp {a : Src} {i : BitVec 10} : RunsWithin (State.Grows 1) (execStsp g a i) := by
  refine ⟨_, _, _, _, fun _ => rfl, fun s _ => ?_⟩
  split
  · exact ((s.grows_writeWord ..).marks ..).mono (Nat.zero_le 1)
  · exact (State.Grows.refl s).mono (Nat.zero_le 1)

theorem grows_swr {st : BitVec 5} {a b : Src} : RunsWithin (State.Grows 1) (execSwr g st a b) := by
  refine ⟨_, _, _, _, fun _ => rfl, fun s _ => ?_⟩
  dsimp only
  split
  · exact (State.Grows.refl s).mono (Nat.zero_le 1)
  · exact s.grows_queueOp ..

theorem grows_sclose {st : BitVec 5} {a : Src} : RunsWithin (State.Grows 1) (execSclose g st a) := by
  refine ⟨_, _, _, _, fun _ => rfl, fun s _ => ?_⟩
  dsimp only
  split
  · exact (State.Grows.refl s).mono (Nat.zero_le 1)
  · exact ((State.grows_queueOp ..).after ((s.grows_writeWord ..).andThen (State.grows_modHere_modOut ..))).andThen (.modCur _ rfl)

theorem grows_stag {st : BitVec 5} {a b : Src} : RunsWithin (State.Grows 1) (execStag g st a b) := by
  refine ⟨_, _, _, _, fun _ => rfl, fun s _ => ?_⟩
  dsimp only
  split
  · exact (State.Grows.refl s).mono (Nat.zero_le 1)
  · exact ((s.grows_writeWord ..).andThen (State.grows_writeWord ..)).mono (Nat.zero_le 1)

theorem grows_runTransfer {fn : Nat} {t : BitVec 4} {a b : Src} : RunsWithin (State.Grows 1) (runTransfer fn g t a b) := by
  refine ⟨_, _, _, _, fun _ => rfl, fun s _ => ?_⟩
  dsimp only
  split
  · exact (s.grows_issueFold ..).andThen (.modTile_of_ctxs _ _ rfl rfl)
  · exact s.grows_issueFold ..

theorem grows_ewr {a : Src} {r : EReg} : RunsWithin (State.Grows 1) (execEwr g a r) := by
  refine ⟨_, _, _, _, fun _ => rfl, fun s _ => ?_⟩
  split
  · exact (s.grows_issueEngine ..).mono (Nat.zero_le 1)
  · exact ((s.grows_pend ..).andThen (State.grows_usesBarrier ..)).mono (Nat.zero_le 1)
  · exact (State.Grows.refl s).mono (Nat.zero_le 1)

theorem grows_cpy {q : BitVec 2} : RunsWithin (State.Grows 1) (execCpy g q) := by
  refine ⟨_, _, _, _, fun _ => rfl, fun s _ => ?_⟩
  dsimp only
  split
  · exact (s.grows_queueOp ..).andThen (State.grows_usesBarrier ..)
  · exact s.grows_queueOp ..

theorem grows_tcancel {a : Src} : RunsWithin (State.Grows 1) (execTcancel g a) := by
  refine ⟨_, _, _, _, fun _ => rfl, fun s _ => ?_⟩
  dsimp only
  split
  · exact ((s.grows_send _).andThen (.modCur _ rfl)).mono (Nat.zero_le 1)
  · exact (s.grows_send _).mono (Nat.zero_le 1)

theorem grows_lkqry {l : BitVec 10} {d : BitVec 4} {a : Src} : RunsWithin (State.Grows 1) (execLkqry g l d a) := by
  refine ⟨_, _, _, _, fun _ => rfl, fun s _ => ?_⟩
  dsimp only
  split
  · exact ((s.grows_takeLanding ..).andThen (State.grows_ask ..)).mono (Nat.zero_le 1)
  · exact ((s.grows_takeLanding ..).andThen (State.grows_send ..)).mono (Nat.zero_le 1)

theorem grows_cbld {k : BitVec 2} {a b : Src} : RunsWithin (State.Grows 1) (execCbld g k a b) := by
  refine ⟨_, _, _, _, fun _ => rfl, fun s _ => ?_⟩
  dsimp only
  split
  · exact (s.grows_spillUe ..).mono (Nat.zero_le 1)
  · exact (s.grows_issueCodebook ..).mono (Nat.zero_le 1)

end

/-- An operation of the M or the E slot, or `TRET`. -/
def memoryOp (i : Instr) : Bool :=
  match i with
  | .tret _ => true
  | i => match i.toFields with
    | some (sl, _) => sl == .m || sl == .e
    | none => false

/-- What has a guard is an operation of the one kind or the other. -/
theorem registerOnly_or_memoryOp {i : Instr} {g : Guard} (h : guardOf i = some g) : registerOnly i = true ∨ memoryOp i = true := by
  have hk : (!(guardOf i).isSome || (registerOnly i || memoryOp i)) = true := by cases i <;> rfl
  rw [h] at hk
  simpa using hk

/-- Every operation of a slot but `SOPEN`, which is run of its own, and `NOP`. -/
theorem exec_grows {i : Instr} {g : Guard} (h : guardOf i = some g) (hs : ∀ st, i ≠ .sopen g st) : RunsWithin (State.Grows 1) (exec i) := by
  rcases registerOnly_or_memoryOp h with hr | hm
  · have hn : i ≠ .nop := by
      rintro rfl
      cases h
    exact (exec_registerOnly hr hn).imp fun _ _ hf => (grows_of_registerFrame hf).mono (Nat.zero_le 1)
  cases i
  case sopen => cases h; exact absurd rfl (hs _)
  case tret => exact ⟨_, _, _, _, fun _ => rfl, fun s _ => ((s.grows_trapReturn ..).issue _).mono (Nat.zero_le 1)⟩
  case ldB | ldH | ldW | ldD | ldBu | ldHu | ldWu | ldv | ldvs | ldvg => exact ⟨_, _, _, _, fun _ => rfl, fun s _ => s.grows_issueLoad ..⟩
  case atomW | atomD | atomCasW | atomCasD =>
    exact ⟨_, _, _, _, fun _ => rfl, fun s _ => (State.grows_enqueue ..).after (s.grows_takeLanding ..)⟩
  case redW | redD | mark | fence => exact ⟨_, _, _, _, fun _ => rfl, fun s _ => s.grows_queueOp ..⟩
  case stB | stH | stW | stD | stv | stvs | stvx => exact ⟨_, _, _, _, fun _ => rfl, fun s _ => s.grows_issueStore ..⟩
  case ldsp => exact grows_ldsp
  case stsp => exact grows_stsp
  case shdr | srd => exact ⟨_, _, _, _, fun _ => rfl, fun s _ => (s.grows_issuePkt ..).mono (Nat.zero_le 1)⟩
  case swait => exact ⟨_, _, _, _, fun _ => rfl, fun s _ => ((s.grows_donePacket ..).issue _).mono (Nat.zero_le 1)⟩
  case sdone => exact ⟨_, _, _, _, fun _ => rfl, fun s _ => (s.grows_donePacket ..).mono (Nat.zero_le 1)⟩
  case swr => exact grows_swr
  case sclose => exact grows_sclose
  case sfree => exact ⟨_, _, _, _, fun _ => rfl, fun s _ => (s.grows_discardOpen ..).mono (Nat.zero_le 1)⟩
  case sbind | lkmat | cbwrNw => exact ⟨_, _, _, _, fun _ => rfl, fun s _ => (s.grows_pend ..).mono (Nat.zero_le 1)⟩
  case stag => exact grows_stag
  case fview | fseq | fprobe =>
    exact ⟨_, _, _, _, fun _ => rfl, fun s _ => ((s.grows_takeLanding ..).andThen (.modCur _ rfl)).mono (Nat.zero_le 1)⟩
  case fldk | fapp => exact grows_runTransfer
  case ffork | ftrunc | ffree | fhint => exact ⟨_, _, _, _, fun _ => rfl, fun s _ => s.grows_issueFold ..⟩
  case ewr => exact grows_ewr
  case erd | estat | cpyq => exact ⟨_, _, _, _, fun _ => rfl, fun s _ => (s.grows_resultWord ..).mono (Nat.zero_le 1)⟩
  case ego | mloadw | mmac | mdrain => exact ⟨_, _, _, _, fun _ => rfl, fun s _ => (s.grows_issueEngine ..).mono (Nat.zero_le 1)⟩
  case eabort => exact ⟨_, _, _, _, fun _ => rfl, fun s _ => (s.grows_abortEngine ..).mono (Nat.zero_le 1)⟩
  case cpy => exact grows_cpy
  case binit | badd =>
    exact ⟨_, _, _, _, fun _ => rfl, fun s _ => ((s.grows_pend ..).andThen (State.grows_usesBarrier ..)).mono (Nat.zero_le 1)⟩
  case barr => exact ⟨_, _, _, _, fun _ => rfl, fun s _ => (s.grows_queueOp ..).andThen (State.grows_usesBarrier ..)⟩
  case bwait => exact ⟨_, _, _, _, fun _ => rfl, fun s _ => ((s.grows_usesBarrier ..).issue _).mono (Nat.zero_le 1)⟩
  case gbar =>
    exact ⟨_, _, _, _, fun _ => rfl, fun s _ => ((State.Grows.modTile_of_ctxs s s.focus rfl rfl).issue _).mono (Nat.zero_le 1)⟩
  case tfork => exact ⟨_, _, _, _, fun _ => rfl, fun s _ => ((s.grows_fork ..).andThen (State.grows_resultWord ..)).mono (Nat.zero_le 1)⟩
  case tjoin | texit | tyield => exact ⟨_, _, _, _, fun _ => rfl, fun s _ => ((State.Grows.refl s).issue _).mono (Nat.zero_le 1)⟩
  case tcancel => exact grows_tcancel
  case lktry =>
    exact ⟨_, _, _, _, fun _ => rfl, fun s _ =>
      (((s.grows_takeLanding ..).andThen (.modCur _ rfl)).andThen (State.grows_request ..)).mono (Nat.zero_le 1)⟩
  case lkqry => exact grows_lkqry
  case lkacq => exact ⟨_, _, _, _, fun _ => rfl, fun s _ => ((s.grows_issueLock ..).andThen (.modCur _ rfl)).mono (Nat.zero_le 1)⟩
  case lkupg => exact ⟨_, _, _, _, fun _ => rfl, fun s _ => (s.grows_issueLock ..).mono (Nat.zero_le 1)⟩
  case lkrel => exact ⟨_, _, _, _, fun _ => rfl, fun s _ => (s.grows_queueOp ..).andThen (.modCur _ rfl)⟩
  case lkrela => exact ⟨_, _, _, _, fun _ => rfl, fun s _ => s.grows_releaseEntries ..⟩
  case cbwr | cbinv => exact ⟨_, _, _, _, fun _ => rfl, fun s _ => (s.grows_issueCodebook ..).mono (Nat.zero_le 1)⟩
  case cbld => exact grows_cbld
  all_goals exact absurd hm Bool.false_ne_true

/-- The execution of a checked operation of a slot adds at most one entry to a queue of its context. -/
theorem grows_exec {i : Instr} {g : Guard} {s t : State} (h : guardOf i = some g) (hm : s.issue.mode = .commit) (hs : s.slot < 8)
    (he : exec i s = .next t) : s.Grows 1 t := by
  have hrefl : s.Grows 1 s := (State.Grows.refl s).mono (Nat.zero_le 1)
  by_cases hi : ∃ st, i = .sopen g st
  · obtain ⟨st, rfl⟩ := hi
    simp only [exec_sopen, execSopen, hm, runOp_commit hm, Host.Outcome.next.injEq] at he
    split at he
    · split at he
      · exact he ▸ ((State.Grows.refl s).issue _).mono (Nat.zero_le 1)
      · exact he ▸ (s.grows_openPacket ..).mono (Nat.zero_le 1)
    · exact he ▸ hrefl
  · exact (exec_grows h fun st hst => hi ⟨st, hst⟩).commit hrefl hm hs he

/-- One entry more fits queues that were not full (R47). -/
theorem overfull_of_grows {s t : State} (h : s.Grows 1 t) (hf : s.cur.queueFull = false) : t.cur.overfull = false := by
  have hhere : t.here = t.tile s.focus := congrArg t.tile h.focus
  have hslot : t.slot = s.slot := congrArg (Option.getD · 0) ((congrArg Tile.running hhere).trans h.here.running)
  have hl : t.cur.loadsQueued ≤ s.cur.loadsQueued + 1 := by
    rw [State.cur, hslot, hhere]
    exact h.here.loads _
  have hs : t.cur.storesQueued ≤ s.cur.storesQueued + 1 := by
    rw [State.cur, hslot, hhere]
    exact h.here.stores _
  simp only [Ctx.queueFull, Ctx.overfull, Bool.or_eq_false_iff, decide_eq_false_iff_not] at hf ⊢
  omega

end Sys2Proof.Laws
end

section
/-! A step that runs a bundle of one operation (R45, R88, R90, R222, R424), and a step that the agenda chooses. -/

namespace Sys2Proof.Laws

open Sys2Proof.Machine

theorem runOps_singleton (run : Instr → State → Out) (sl : Slot) (i : Instr) (s : State) : runOps run [(sl, i)] s = run i s := by
  unfold runOps
  cases run i s <;> rfl

/-- A state whose issue record holds a bundle of one operation for its checks, with no trap requested and room in the queues. -/
structure Sole (p : State) (sl : Slot) (i : Instr) : Prop where
  mode : p.issue.mode = .probe
  ops : p.issue.ops = [(sl, i)]
  request : p.cur.request = none
  full : p.cur.queueFull = false
  slot : p.slot < 8

section
variable {p q t : State} {sl : Slot} {i : Instr}

theorem runBundle_badRead (h : Sole p sl i) {y : Cell} {z : Slot} (hb : p.badRead exec = some (y, z)) :
    p.runBundle exec = .next (p.parityTrap y z) := by
  unfold State.runBundle
  rw [if_neg (not_not_intro h.mode), h.request, hb]
  rfl

/-- What a bundle of one operation comes to, by the outcome of its check. -/
theorem runBundle_checked (h : Sole p sl i) (hb : p.badRead exec = none) (hq : exec i p = .next q) :
    p.runBundle exec = (match firstFailure q.issue.fails with
      | some f => .next { q.issueTrap f with issue := Issue.idle }
      | none => if q.issue.stay then .next q.stayBlock
        else match exec i { p with issue := { p.issue with mode := .commit } } with
          | .next u => .next (if u.cur.overfull then { p with issue := Issue.idle }.stand p.focus else u.retire)
          | o => o) := by
  unfold State.runBundle
  rw [if_neg (not_not_intro h.mode), h.request, hb, h.ops]
  simp only [runOps_singleton, hq] <;> rfl

theorem runBundle_executes (h : Sole p sl i) (hb : p.badRead exec = none) (hq : exec i p = .next q) (hf : q.issue.fails = [])
    (hs : q.issue.stay = false) (ht : exec i { p with issue := { p.issue with mode := .commit } } = .next t)
    (ho : t.cur.overfull = false) : p.runBundle exec = .next t.retire := by
  rw [runBundle_checked h hb hq, hf, hs, ht, firstFailure]
  simp [ho]

theorem runBundle_stays (h : Sole p sl i) (hb : p.badRead exec = none) (hq : exec i p = .next q) (hf : q.issue.fails = [])
    (hs : q.issue.stay = true) : p.runBundle exec = .next q.stayBlock := by
  rw [runBundle_checked h hb hq, hf, hs, firstFailure]
  rfl

theorem runBundle_fails (h : Sole p sl i) (hb : p.badRead exec = none) (hq : exec i p = .next q) {f : Failure}
    (hf : q.issue.fails = [f]) : p.runBundle exec = .next { q.issueTrap f with issue := Issue.idle } := by
  rw [runBundle_checked h hb hq, hf]
  rfl

end

/-- Its entries fit the queues (R47). -/
theorem Sole.fits {p t : State} {sl : Slot} {i : Instr} (h : Sole p sl i) {g : Guard} (hg : guardOf i = some g)
    (ht : exec i { p with issue := { p.issue with mode := .commit } } = .next t) : t.cur.overfull = false :=
  overfull_of_grows (grows_exec (s := { p with issue := { p.issue with mode := .commit } }) hg rfl h.slot ht) h.full

/-- A state with a bundle of one operation brought to its checks. -/
def checking (w : State) (r : TileRef) (sl : Slot) (x : BitVec 32) (i : Instr) : State :=
  { w with
    focus := r
    issue := { Issue.idle with
      mode := .probe, words := #v[soleWord sl x 0, soleWord sl x 1, soleWord sl x 2, soleWord sl x 3], ops := [(sl, i)] } }

section
variable {s u w : State} {r : TileRef} {k : Nat} {sl : Slot} {x : BitVec 32} {i : Instr}

theorem slot_checking (h : (w.tile r).running = some k) : (checking w r sl x i).slot = k := congrArg (Option.getD · 0) h

theorem cur_checking (h : (w.tile r).running = some k) : (checking w r sl x i).cur = (w.tile r).ctx k := by
  rw [State.cur, slot_checking h]
  rfl

theorem tile_unheld : (u.unheld r k).tile r = (u.tile r).modCtx k (fun c => { c with fencing := false, holdUntil := 0 }) :=
  State.tile_modCtx ..

theorem running_settled (hk : k < 8) (h : (u.tile r).running = some k) : ((u.settled r k).tile r).running = some k := by
  rw [(State.keepsControl_settled hk).running, tile_unheld]
  exact h

theorem sole_checking (h : u.reachesChecks r k) : Sole (checking (u.settled r k) r sl x i) sl i := by
  obtain ⟨⟨hk, hrun, -, -, -, -, -, -, -, -, htrap, -⟩, -, hfull, -, -⟩ := h
  have hkeep := (State.keepsControl_settled (u := u) (r := r) hk).ctx
  have hw := running_settled hk hrun
  refine ⟨rfl, rfl, ?_, ?_, (slot_checking hw).symm ▸ hk⟩
  · rw [cur_checking hw, hkeep.request, tile_unheld, Tile.ctx_modCtx _ _ hk]
    exact Tile.request_of_boundaryTrap htrap
  · rw [cur_checking hw, Ctx.queueFull, Ctx.loadsQueued, Ctx.storesQueued, hkeep.queue]
    exact hfull

theorem fetch_checking (hw : ∀ n, n < 4 → w.imemWord r (w.ctx ⟨r.node, r.tile, k⟩).pc.toNat n = soleWord sl x n)
    (hx : x ≠ 0) (hd : decodeWord sl x = .ok i) : w.fetch ⟨r.node, r.tile, k⟩ = checking w r sl x i := by
  have hb : w.bundleAt r (w.ctx ⟨r.node, r.tile, k⟩).pc.toNat =
      .ok ⟨#v[soleWord sl x 0, soleWord sl x 1, soleWord sl x 2, soleWord sl x 3], Header.zero, [(sl, i)]⟩ := by
    rw [State.bundleAt, hw 0 (by decide), hw 1 (by decide), hw 2 (by decide), hw 3 (by decide)]
    exact decodeBundle_soleWord hx hd
  rw [fetch_ok hb]
  rfl

/-- A step of the machine of itself, once the outcome of its bundle is known. -/
theorem step_of_runBundle (ha : s.agenda = []) (hauto : s.auto = none) {p z : State} (hp : execBundleIssue s.focus s = .next p)
    (hz : p.runBundle exec = .next z) : step s = .next { z with focus := z.nextFocus } := by
  unfold step
  rw [ha]
  dsimp only
  rw [hauto]
  dsimp only
  unfold State.cycleStep
  rw [hp]
  dsimp only
  rw [hz]

theorem chosen_runs {t : State} (hi : i.isSlotOp = false) (hw : i.wf = true) (he : exec i s = .next t) (hm : t.issue.mode ≠ .probe) :
    s.chosen i = .next t := by
  unfold State.chosen
  rw [hi, hw, he]
  exact if_pos hm

theorem chosen_refused (h : i.isSlotOp = true ∨ i.wf = false) : s.chosen i = .fault .illFormedStep := by
  unfold State.chosen
  rcases h with h | h <;> simp [h]

end

theorem step_agenda {s : State} {i : Instr} {rest : List Instr} (ha : s.agenda = i :: rest) :
    step s = { s with agenda := rest, issue := Issue.idle }.chosen i := by
  unfold step
  rw [ha]

/-- Settles O55: the wall cycle brings the decoded operation to its checks, and `runBundle` runs it. -/
theorem stepRunsInstruction : Obligations.StepRunsInstruction := by
  unfold Obligations.StepRunsInstruction
  refine ⟨?_, ?_⟩
  · intro s k sl x i q t r u w pc word p passes ha hauto hf hc hw hx hd
    have hsole : Sole p sl i := sole_checking hc
    have hp : execBundleIssue s.focus s = .next p :=
      (execBundleIssue_reachesChecks hf hc).trans (congrArg Host.Outcome.next (fetch_checking hw hx hd))
    have hrun : ∀ z, p.runBundle exec = .next z → step s = passes z := fun z => step_of_runBundle ha hauto hp
    obtain ⟨g, hg⟩ := exists_guardOf_of_decodeWord hx hd
    refine ⟨fun y z hb => hrun _ (runBundle_badRead hsole hb), fun hb hq => ⟨fun hfl hs ht => ?_, fun hfl hs => ?_, fun f hfl => ?_⟩⟩
    · exact hrun _ (runBundle_executes hsole hb hq hfl hs ht (hsole.fits hg ht))
    · exact hrun _ (runBundle_stays hsole hb hq hfl hs)
    · exact hrun _ (runBundle_fails hsole hb hq hfl)
  · intro s i rest s1 ha
    exact ⟨fun hi hw _ t he hm => (step_agenda ha).trans (chosen_runs hi hw he hm), fun h => (step_agenda ha).trans (chosen_refused h)⟩

end Sys2Proof.Laws
end

section
/-! `NOP`, `TRAP`, `IFENCE`, `DCHK` and `XMOV` (R90, R137, R139 to R141), and the words of R88 and R92 to R94. -/

namespace Sys2Proof.Laws

open Sys2Proof.Machine

/-- Settles O56: the decoder evaluates each word and bundle to what is written. -/
theorem decodedWords : Obligations.DecodedWords := by
  unfold Obligations.DecodedWords
  and_intros <;> rfl

section
variable {s : State} {g : Guard} {k : BitVec 4} {a b : Src} {d : BitVec 5}

/-- An operation that asks only that its sources are set has its effect where it runs. -/
theorem runOp_reads_runs {sl : Slot} {unset : State → Bool} {eff : State → State} (h : Runs s g (unset s) True) :
    runOp sl g (fun s => Checks.reads (unset s)) eff s = .next (eff s) :=
  runOp_runs h (fun _ => ⟨rfl, rfl, rfl, rfl, fun ht => Bool.noConfusion ht⟩) rfl

theorem execTrap_runs (h : Runs s g false True) : execTrap g k s = .next { s with issue := { s.issue with trap := some k } } :=
  runOp_reads_runs (unset := fun _ => false) h

theorem execIfence_runs (h : Runs s g false True) :
    execIfence g s = .next (s.modCur (fun c => { c with fencing := true, holdUntil := s.here.wall + 4 })) :=
  runOp_reads_runs (unset := fun _ => false) h

theorem execDchk_runs (h : Runs s g (s.cur.unsetA a || s.cur.unsetA b) (s.cur.srcA a ^^^ s.cur.srcA b = 0))
    (he : s.cur.srcA a = s.cur.srcA b) : execDchk g a b s = .next s :=
  runOp_runs h (fun _ => ⟨rfl, rfl, rfl, if_pos he, fun ht => Bool.noConfusion ht⟩) rfl

/-- Of two values that differ the check is `DUPCHK` with their difference (R140). -/
theorem execDchk_traps (hm : s.issue.mode = .direct) (hg : s.cur.guard g = true) (hp : s.cur.poisonRd = false)
    (hd : s.cur.srcA a ^^^ s.cur.srcA b ≠ 0) :
    execDchk g a b s = .next (s.issueTrap ⟨4, .a, .dupchk, s.cur.srcA a ^^^ s.cur.srcA b⟩) := by
  refine runOp_traps hm ?_
  have hne : s.cur.srcA a ≠ s.cur.srcA b := fun he => hd (BitVec.xor_eq_zero_iff.mpr he)
  simp [opFailure, hp, hg, Checks.withOwn, Checks.reads, hne]

theorem execXmov_runs {df sf : RFile} (h : Runs s g (xmovUnset s.cur a sf) True) :
    execXmov g d a k df sf s = .next (s.result .a 2 true (xmovEffect d k (xmovSource s.cur a k sf) df) 0) :=
  runOp_reads_runs (unset := fun s => xmovUnset s.cur a sf) h

end

/-- Settles O6: each of them does what its one run of `runOp` does; for `XMOV` it remains that the word and its place are those of the
source and the destination file. -/
theorem systemOperations : Obligations.SystemOperations := by
  unfold Obligations.SystemOperations
  intro s g k a b d df sf diff word part
  rw [exec_nop, exec_trap, exec_ifence, exec_dchk, exec_xmov]
  refine ⟨rfl, execTrap_runs, execIfence_runs, execDchk_runs, execDchk_traps, fun h => (execXmov_runs h).trans ?_⟩
  cases sf <;> cases df <;> rfl

end Sys2Proof.Laws
end

section
/-! Every operation of a slot has a word, and every instruction is read back from its words. -/

namespace Sys2Proof.Laws

namespace RoundTrip

/-- The round trips of all instructions (R88, R97 to R101). -/
theorem decode_encode : ∀ i : Instr, Statement i
  | .nop => nop | .add g d a b => add g d a b | .sub g d a b => sub g d a b | .and g d a b => and g d a b | .or g d a b => or g d a b
  | .xor g d a b => xor g d a b | .andn g d a b => andn g d a b | .shl g d a b => shl g d a b | .shr g d a b => shr g d a b
  | .sar g d a b => sar g d a b | .rol g d a b => rol g d a b | .min g d a b => min g d a b | .max g d a b => max g d a b
  | .minu g d a b => minu g d a b | .maxu g d a b => maxu g d a b | .addx g d a b => addx g d a b | .clz g d a => clz g d a
  | .ctz g d a => ctz g d a | .popc g d a => popc g d a | .brev g d a => brev g d a | .bswap g d a => bswap g d a
  | .sext g d a w => sext g d a w | .zext g d a w => zext g d a w | .mov g d a => mov g d a | .mul g d a b => mul g d a b
  | .mulh g d a b => mulh g d a b | .mulhu g d a b => mulhu g d a b | .div g d a b => div g d a b | .divu g d a b => divu g d a b
  | .rem g d a b => rem g d a b | .remu g d a b => remu g d a b | .extr g d a b => extr g d a b | .insr g d a b => insr g d a b
  | .sel g d a b v k => sel g d a b v k | .cmp g c q a b => cmp g c q a b | .pand g d a b => pand g d a b | .por g d a b => por g d a b
  | .pnot g d a => pnot g d a | .addi g d a i => addi g d a i | .subi g d a i => subi g d a i | .andi g d a i => andi g d a i
  | .ori g d a i => ori g d a i | .xori g d a i => xori g d a i | .shli g d a i => shli g d a i | .shri g d a i => shri g d a i
  | .sari g d a i => sari g d a i | .cmpi g c q a i => cmpi g c q a i | .movi g d i => movi g d i | .movh1 g d i => movh1 g d i
  | .movh2 g d i => movh2 g d i | .movh3 g d i => movh3 g d i | .br g i => br g i | .jmp g a => jmp g a | .call g d i => call g d i
  | .callr g d a => callr g d a | .ret g a => ret g a | .loopi g l c => loopi g l c | .loop g l a => loop g l a
  | .mtcr g a r => mtcr g a r | .mfcr g d r => mfcr g d r | .trap g k => trap g k | .tret g => tret g | .ifence g => ifence g
  | .dchk g a b => dchk g a b | .xmov g d a k y z => xmov g d a k y z | .vadd g d a b w s => vadd g d a b w s
  | .vsub g d a b w s => vsub g d a b w s | .vmul g d a b w => vmul g d a b w | .vmulh g d a b w => vmulh g d a b w
  | .vmulhU g d a b w => vmulhU g d a b w | .vand g d a b => vand g d a b | .vor g d a b => vor g d a b | .vxor g d a b => vxor g d a b
  | .vshl g d a b w => vshl g d a b w | .vshr g d a b w => vshr g d a b w | .vsar g d a b w => vsar g d a b w
  | .vshlImm g d a w c => vshlImm g d a w c | .vshrImm g d a w c => vshrImm g d a w c | .vsarImm g d a w c => vsarImm g d a w c
  | .vmin g d a b w => vmin g d a b w | .vmax g d a b w => vmax g d a b w | .vminU g d a b w => vminU g d a b w
  | .vmaxU g d a b w => vmaxU g d a b w | .vabs g d a w => vabs g d a w | .vneg g d a w => vneg g d a w
  | .vcmp g c q a b w => vcmp g c q a b w | .vsel g d a b k => vsel g d a b k | .vsplatImm g d w i => vsplatImm g d w i
  | .vsplatLane g d a l w => vsplatLane g d a l w | .vperm g d a b w => vperm g d a b w | .vrot g d a w c => vrot g d a w c
  | .vslide g d a w x c => vslide g d a w x c | .vcompress g d a w => vcompress g d a w | .vexpand g d a w => vexpand g d a w
  | .vredsum g d a w => vredsum g d a w | .vredmax g d a w => vredmax g d a w | .vredmin g d a w => vredmin g d a w
  | .vredsumF g d a t => vredsumF g d a t | .vredmaxF g d a t => vredmaxF g d a t | .vredminF g d a t => vredminF g d a t
  | .vscanF g d a t => vscanF g d a t | .vscanI g d a w => vscanI g d a w | .vfadd g d a b t => vfadd g d a b t
  | .vfsub g d a b t => vfsub g d a b t | .vfmul g d a b t => vfmul g d a b t | .vfma g d a b t => vfma g d a b t
  | .vfms g d a b t => vfms g d a b t | .vfnma g d a b t => vfnma g d a b t | .vfmax g d a b t => vfmax g d a b t
  | .vfmin g d a b t => vfmin g d a b t | .vfscale g d a b t => vfscale g d a b t | .vfabs g d a t => vfabs g d a t
  | .vfneg g d a t => vfneg g d a t | .vfclass g d a t => vfclass g d a t | .vfcmp g c q a b t => vfcmp g c q a b t
  | .vfrcp g d a t => vfrcp g d a t | .vfrsq g d a t => vfrsq g d a t | .vfexp2 g d a t => vfexp2 g d a t
  | .vflog2 g d a t => vflog2 g d a t | .vrope g d a b => vrope g d a b | .vcvt g d a o m => vcvt g d a o m
  | .vqblk g d a o m => vqblk g d a o m | .vdqblk g d a o m => vdqblk g d a o m | .vcbx g d a w k => vcbx g d a w k
  | .vcbq g d a t k => vcbq g d a t k | .vpack g d a c => vpack g d a c | .vunpack g d a c => vunpack g d a c | .vrand g d => vrand g d
  | .kand g d a b => kand g d a b | .kor g d a b => kor g d a b | .knot g d a => knot g d a | .kmov g d a => kmov g d a
  | .vdchk g a b => vdchk g a b | .ldB g l x d b => ldB g l x d b | .ldH g l x d b => ldH g l x d b | .ldW g l x d b => ldW g l x d b
  | .ldD g l x d b => ldD g l x d b | .ldBu g l x d b => ldBu g l x d b | .ldHu g l x d b => ldHu g l x d b
  | .ldWu g l x d b => ldWu g l x d b | .ldv g l d b => ldv g l d b | .ldvs g l d b => ldvs g l d b | .ldvg g l d b => ldvg g l d b
  | .atomW g l x d b => atomW g l x d b | .atomD g l x d b => atomD g l x d b | .atomCasW g l x d b => atomCasW g l x d b
  | .atomCasD g l x d b => atomCasD g l x d b | .redW g b => redW g b | .redD g b => redD g b | .stB g d b => stB g d b
  | .stH g d b => stH g d b | .stW g d b => stW g d b | .stD g d b => stD g d b | .stv g d b => stv g d b | .stvs g d b => stvs g d b
  | .stvx g d b => stvx g d b | .ldsp g d i => ldsp g d i | .stsp g a i => stsp g a i | .mark g => mark g | .fence g s => fence g s
  | .shdr g l x d b => shdr g l x d b | .srd g l x d b => srd g l x d b | .swait g s => swait g s | .sdone g s => sdone g s
  | .sopen g s => sopen g s | .swr g s a b => swr g s a b | .sclose g s a => sclose g s a | .sfree g s => sfree g s
  | .sbind g s a => sbind g s a | .stag g s a b => stag g s a b | .fview g l x d b => fview g l x d b | .fseq g l x d b => fseq g l x d b
  | .fprobe g l x d b => fprobe g l x d b | .fldk g t a b => fldk g t a b | .fapp g t a b => fapp g t a b | .ffork g a b => ffork g a b
  | .ftrunc g a b => ftrunc g a b | .ffree g a b => ffree g a b | .fhint g a b => fhint g a b | .ewr g a r => ewr g a r
  | .erd g d r => erd g d r | .estat g d => estat g d | .ego g => ego g | .eabort g => eabort g | .mloadw g => mloadw g
  | .mmac g => mmac g | .mdrain g => mdrain g | .cpy g q => cpy g q | .cpyq g d => cpyq g d | .binit g a k => binit g a k
  | .barr g a k => barr g a k | .badd g a k => badd g a k | .bwait g k => bwait g k | .gbar g h w => gbar g h w
  | .tfork g d q b => tfork g d q b | .tjoin g => tjoin g | .tcancel g a => tcancel g a | .texit g => texit g | .tyield g => tyield g
  | .lktry g l m d s => lktry g l m d s | .lkqry g l d s => lkqry g l d s | .lkacq g d a m => lkacq g d a m
  | .lkupg g d a m => lkupg g d a m | .lkrel g a => lkrel g a | .lkrela g => lkrela g | .lkmat g a => lkmat g a
  | .cbwr g k a b => cbwr g k a b | .cbwrNw g k a b => cbwrNw g k a b | .cbld g k a b => cbld g k a b | .cbinv g k a => cbinv g k a
  | .bundleIssue t => bundleIssue t | .resultCompletion t => resultCompletion t | .landingArrival c k => landingArrival c k
  | .landingWrite c => landingWrite c | .landingTimeout t => landingTimeout t | .blockSwitch t => blockSwitch t
  | .waitReady c => waitReady c | .interruptPending t l => interruptPending t l | .trapEntry t => trapEntry t
  | .handlerEntry t => handlerEntry t | .lateFault c k => lateFault c k | .lostLanding c k => lostLanding c k
  | .returnBundleIssue t => returnBundleIssue t | .packetFirstFlit t k => packetFirstFlit t k
  | .packetReceived t st k => packetReceived t st k | .nextWrite t st v => nextWrite t st v
  | .creditArrival t st k => creditArrival t st k | .packetLaunch c => packetLaunch c | .taskAdmission t => taskAdmission t
  | .stealRound t => stealRound t | .joinMessage c k => joinMessage c k | .queueIssue c q => queueIssue c q
  | .bankAccept k => bankAccept k | .barrApply c => barrApply c | .cpyDispatch c => cpyDispatch c | .copyRow t k => copyRow t k
  | .shadowSwapIn t => shadowSwapIn t | .engineComplete t => engineComplete t | .foldDispatch c => foldDispatch c
  | .foldRow t k => foldRow t k | .foldWalk t v k => foldWalk t v k | .foldTransferComplete t k => foldTransferComplete t k
  | .foldRecordOp t k => foldRecordOp t k | .pagePromotion n k => pagePromotion n k | .pageMoveComplete n k => pageMoveComplete n k
  | .woundDelivery c w => woundDelivery c w | .woundReleaseTimeout c => woundReleaseTimeout c | .crookUe n w => crookUe n w
  | .pastureTick n => pastureTick n | .psctlSave t w => psctlSave t w | .psctlResumeInPlace t w => psctlResumeInPlace t w
  | .psctlResumeFromTile t w => psctlResumeFromTile t w | .preemptHalt t => preemptHalt t | .saveComplete t => saveComplete t
  | .treeCancel n k => treeCancel n k | .droveLoad n im => droveLoad n im | .droveRemoval n k => droveRemoval n k
  | .droveWithdrawal n k => droveWithdrawal n k | .dgcmdLoad n k g => dgcmdLoad n k g | .dgcmdSwitch n k => dgcmdSwitch n k
  | .dgcmdAbort n k => dgcmdAbort n k | .dgcmdInvalid n k w => dgcmdInvalid n k w | .generationVerified n k => generationVerified n k
  | .generationDrained n k => generationDrained n k | .tcmdCancel n k => tcmdCancel n k | .swint n w => swint n w
  | .mbin7Write n w => mbin7Write n w | .mailboxAccess t w => mailboxAccess t w | .mailboxComplete t => mailboxComplete t
  | .qtailWrite n k w => qtailWrite n k w | .qcfgWrite n k w => qcfgWrite n k w | .ingressRecord n k => ingressRecord n k
  | .egressPacket n k => egressPacket n k | .cresync n w => cresync n w | .linkFlitReceive n b fl => linkFlitReceive n b fl
  | .creditFlit n ws => creditFlit n ws | .remoteLoad r => remoteLoad r | .remoteStore r => remoteStore r | .remoteAtom r => remoteAtom r
  | .remoteAtomCas r => remoteAtomCas r | .remoteRed r => remoteRed r | .remoteUnknownOperation r => remoteUnknownOperation r
  | .remoteResponse r => remoteResponse r | .crookAcquireMsg m => crookAcquireMsg m | .crookTryMsg m => crookTryMsg m
  | .crookUpgradeMsg m => crookUpgradeMsg m | .crookReleaseMsg m => crookReleaseMsg m | .crookWithdrawMsg m => crookWithdrawMsg m
  | .crookQueryMsg m => crookQueryMsg m | .crookStatusMsg m => crookStatusMsg m | .crookWoundMsg m => crookWoundMsg m
  | .crookQueryResultMsg m => crookQueryResultMsg m | .foldReleaseMsg m => foldReleaseMsg m | .foldFetchMsg m => foldFetchMsg m
  | .foldOfferMsg m => foldOfferMsg m | .foldAcceptMsg m => foldAcceptMsg m | .foldRefuseMsg m => foldRefuseMsg m
  | .foldPageDataMsg m => foldPageDataMsg m | .foldMoveCompleteMsg m => foldMoveCompleteMsg m
  | .tickExchangeMsg n k => tickExchangeMsg n k | .holdMsg n src w => holdMsg n src w
  | .holdAnswerMsg n src w v => holdAnswerMsg n src w v | .holdEndMsg n src w v => holdEndMsg n src w v
  | .musterSegmentMsg n k bs => musterSegmentMsg n k bs | .membershipUpdateMsg n k w => membershipUpdateMsg n k w
  | .movePointMsg n w => movePointMsg n w | .correctedError n u k => correctedError n u k
  | .uncorrectedError n u k => uncorrectedError n u k | .suspectReversion n u => suspectReversion n u
  | .counterHourBucket n => counterHourBucket n | .backgroundScrub n => backgroundScrub n | .bankRetirement t k => bankRetirement t k
  | .tileCoreRetirement t => tileCoreRetirement t | .laneRetirement n k => laneRetirement n k | .bundleDown n k => bundleDown n k
  | .rascfgLock n w => rascfgLock n w | .laneSilence n => laneSilence n | .transhumance n k => transhumance n k | .boot n im => boot n im
  | .recoveryImage n im => recoveryImage n im | .attestationRequest n bs => attestationRequest n bs
  | .attestationComplete n => attestationComplete n | .throttleStep n x => throttleStep n x | .pwrcapWrite n w => pwrcapWrite n w
  | .thermalTrip n => thermalTrip n | .powerLoss n => powerLoss n | .reset n => reset n | .registerWrite n k w => registerWrite n k w
  | .nestedLandingLost c k => nestedLandingLost c k | .flitSlot n b => flitSlot n b | .requestCreditReturn n b => requestCreditReturn n b
  | .laneRetrained n k => laneRetrained n k

end RoundTrip

theorem exists_encode_of_isSlotOp {i : Instr} (h : i.isSlotOp = true) : ∃ sl w, i.encode = some (sl, w) := by
  obtain ⟨⟨sl, f⟩, hf⟩ := Option.isSome_iff_exists.mp h
  exact ⟨sl, joinWord f, by rw [Instr.encode, hf, Option.map_some]⟩

/-- Settles O57: an operation has a word, and its own round trip reads it back. -/
theorem encodedInstructionsDecode : Obligations.EncodedInstructionsDecode := by
  unfold Obligations.EncodedInstructionsDecode
  intro i hw hi
  obtain ⟨sl, w, he⟩ := exists_encode_of_isSlotOp hi
  exact ⟨sl, w, he, RoundTrip.decode_encode i sl w hw he⟩

end Sys2Proof.Laws
end

section
/-! Parts of fields and of immediates: what the decoder puts side by side, the encoder cuts again (Tables 3.5 and 3.6). -/

namespace Sys2Proof

/-! A number of two or three parts: `low_v_w` its low `w` bits, `high_v_w` the `v` bits above. -/

@[simp] theorem low_6_4 (x : BitVec 6) (y : BitVec 4) : BitVec.extractLsb' 0 4 (x ++ y : BitVec 10) = y :=
  BitVec.extractLsb'_append_eq_right
@[simp] theorem high_6_4 (x : BitVec 6) (y : BitVec 4) : BitVec.extractLsb' 4 6 (x ++ y : BitVec 10) = x :=
  BitVec.extractLsb'_append_eq_left
@[simp] theorem low_6_6 (x y : BitVec 6) : BitVec.extractLsb' 0 6 (x ++ y : BitVec 12) = y := BitVec.extractLsb'_append_eq_right
@[simp] theorem high_6_6 (x y : BitVec 6) : BitVec.extractLsb' 6 6 (x ++ y : BitVec 12) = x := BitVec.extractLsb'_append_eq_left
@[simp] theorem low_2_6 (x : BitVec 2) (y : BitVec 6) : BitVec.extractLsb' 0 6 (x ++ y : BitVec 8) = y :=
  BitVec.extractLsb'_append_eq_right
@[simp] theorem high_2_6 (x : BitVec 2) (y : BitVec 6) : BitVec.extractLsb' 6 2 (x ++ y : BitVec 8) = x :=
  BitVec.extractLsb'_append_eq_left
@[simp] theorem low_4_4 (x y : BitVec 4) : BitVec.extractLsb' 0 4 (x ++ y : BitVec 8) = y := BitVec.extractLsb'_append_eq_right
@[simp] theorem high_4_4 (x y : BitVec 4) : BitVec.extractLsb' 4 4 (x ++ y : BitVec 8) = x := BitVec.extractLsb'_append_eq_left
@[simp] theorem low_3_4 (x : BitVec 3) (y : BitVec 4) : BitVec.extractLsb' 0 4 (x ++ y : BitVec 7) = y :=
  BitVec.extractLsb'_append_eq_right
@[simp] theorem high_3_4 (x : BitVec 3) (y : BitVec 4) : BitVec.extractLsb' 4 3 (x ++ y : BitVec 7) = x :=
  BitVec.extractLsb'_append_eq_left
@[simp] theorem low_1_4 (x : BitVec 1) (y : BitVec 4) : BitVec.extractLsb' 0 4 (x ++ y : BitVec 5) = y :=
  BitVec.extractLsb'_append_eq_right
@[simp] theorem high_1_4 (x : BitVec 1) (y : BitVec 4) : BitVec.extractLsb' 4 1 (x ++ y : BitVec 5) = x :=
  BitVec.extractLsb'_append_eq_left
@[simp] theorem low_2_1 (x : BitVec 2) (y : BitVec 1) : BitVec.extractLsb' 0 1 (x ++ y : BitVec 3) = y :=
  BitVec.extractLsb'_append_eq_right
@[simp] theorem high_2_1 (x : BitVec 2) (y : BitVec 1) : BitVec.extractLsb' 1 2 (x ++ y : BitVec 3) = x :=
  BitVec.extractLsb'_append_eq_left
@[simp] theorem low_6_6_4 (x y : BitVec 6) (z : BitVec 4) : BitVec.extractLsb' 0 4 (x ++ y ++ z : BitVec 16) = z :=
  BitVec.extractLsb'_append_eq_right
@[simp] theorem middle_6_6_4 (x y : BitVec 6) (z : BitVec 4) : BitVec.extractLsb' 4 6 (x ++ y ++ z : BitVec 16) = y :=
  (BitVec.extractLsb'_append_eq_of_le (xhi := x ++ y) (by decide)).trans BitVec.extractLsb'_append_eq_right
@[simp] theorem high_6_6_4 (x y : BitVec 6) (z : BitVec 4) : BitVec.extractLsb' 10 6 (x ++ y ++ z : BitVec 16) = x :=
  (BitVec.extractLsb'_append_eq_of_le (xhi := x ++ y) (by decide)).trans BitVec.extractLsb'_append_eq_left
@[simp] theorem append_2_1_eq_zero_iff {x : BitVec 2} {y : BitVec 1} : (x ++ y : BitVec 3) = 0#3 ↔ x = 0 ∧ y = 0 := by
  revert x y; decide

/-! A field is the parts it is read by: one of them may have been tested or translated, the others are the field's own. -/

@[simp] theorem field_2_2_iff {x : BitVec 4} {y : BitVec 2} : x.extractLsb' 2 2 ++ y = x ↔ x.extractLsb' 0 2 = y := by
  revert x y; decide
@[simp] theorem field_3_3_iff {x : BitVec 6} {y : BitVec 3} : x.extractLsb' 3 3 ++ y = x ↔ x.extractLsb' 0 3 = y := by
  revert x y; decide
@[simp] theorem field_4_2_iff {x : BitVec 6} {y : BitVec 2} : x.extractLsb' 2 4 ++ y = x ↔ x.extractLsb' 0 2 = y := by
  revert x y; decide
@[simp] theorem field_2_2_2_iff {x : BitVec 6} {y : BitVec 2} :
    x.extractLsb' 4 2 ++ y ++ x.extractLsb' 0 2 = x ↔ x.extractLsb' 2 2 = y := by revert x y; decide
@[simp] theorem field_1_4_1_iff {x : BitVec 6} {y : BitVec 1} :
    y ++ x.extractLsb' 1 4 ++ x.extractLsb' 0 1 = x ↔ x.extractLsb' 5 1 = y := by revert x y; decide
@[simp] theorem field_zero_3_iff {x : BitVec 4} : 0#1 ++ x.extractLsb' 0 3 = x ↔ x[3] = false := by revert x; decide
@[simp] theorem field_bit_3 (x : BitVec 4) : BitVec.ofBool x[3] ++ x.extractLsb' 0 3 = x := by revert x; decide
@[simp] theorem field_2_bit_3 (x : BitVec 6) : x.extractLsb' 4 2 ++ BitVec.ofBool x[3] ++ x.extractLsb' 0 3 = x := by
  revert x; decide
@[simp] theorem field_5_1 (x : BitVec 6) : x.extractLsb' 1 5 ++ x.extractLsb' 0 1 = x := by revert x; decide

end Sys2Proof
end

section
/-! What a reader of a field accepts is what the field's writer writes (Tables 3.4 to 3.6): the converse of the laws that read a written
code back. -/

namespace Sys2Proof

/-- What a decoding gives, where it gives anything, satisfies `P`. -/
def Yields {α : Type} (P : α → Prop) (x : Except Reject α) : Prop := ∀ a, x = .ok a → P a

section
variable {α β : Type} {P : α → Prop}

theorem yields_ok {a : α} (h : P a) : Yields P (.ok a) := fun _ he => Except.ok.inj he ▸ h

theorem yields_error {e : Reject} : Yields P (.error e) := fun _ he => nomatch he

theorem yields_bind {x : Except Reject β} {k : β → Except Reject α} (h : ∀ b, x = .ok b → Yields P (k b)) :
    Yields P (x >>= k) := by
  cases x with
  | error e => exact yields_error
  | ok b => exact h b rfl

theorem yields_map {x : Except Reject β} {f : β → α} (h : ∀ b, x = .ok b → P (f b)) : Yields P (x.map f) := by
  cases x with
  | error e => exact yields_error
  | ok b => exact yields_ok (h b rfl)

theorem yields_ite {c : Prop} [Decidable c] {x y : Except Reject α} (hx : c → Yields P x) (hy : Yields P y) :
    Yields P (if c then x else y) := by
  split
  · next hc => exact hx hc
  · exact hy

end

/-- A reader inverts its writer when each code it accepts is the written one and it accepts each written one. -/
theorem eq_ok_iff_of_forall {α : Type} {n : Nat} {dec : BitVec n → Except Reject α} {enc : α → BitVec n}
    (hr : ∀ x, (match dec x with | .ok a => enc a == x | .error _ => true) = true) (hw : ∀ a, dec (enc a) = .ok a)
    {x : BitVec n} {a : α} : dec x = .ok a ↔ enc a = x := by
  refine ⟨fun h => ?_, fun h => h ▸ hw a⟩
  have hx := hr x
  rw [h] at hx
  exact eq_of_beq hx

@[simp] theorem Src.ofBits_eq_ok {x : BitVec 6} {a : Src} : Src.ofBits x = .ok a ↔ a.bits = x :=
  eq_ok_iff_of_forall (by decide) Src.ofBits_bits
@[simp] theorem Dst.ofBits_eq_ok {x : BitVec 6} {a : Dst} : Dst.ofBits x = .ok a ↔ a.bits = x :=
  eq_ok_iff_of_forall (by decide) Dst.ofBits_bits
@[simp] theorem regOfBits_eq_ok {x : BitVec 6} {n : BitVec 5} : regOfBits x = .ok n ↔ regBits n = x :=
  eq_ok_iff_of_forall (by decide) regOfBits_regBits
@[simp] theorem lowOfBits_eq_ok {x : BitVec 6} {n : BitVec 3} : lowOfBits x = .ok n ↔ lowBits n = x :=
  eq_ok_iff_of_forall (by decide) lowOfBits_lowBits
@[simp] theorem ExtW.ofBits_eq_ok {x : BitVec 6} {w : ExtW} : ExtW.ofBits x = .ok w ↔ w.bits = x :=
  eq_ok_iff_of_forall (by decide) ExtW.ofBits_bits
@[simp] theorem ICond.ofBits_eq_ok {x : BitVec 3} {c : ICond} : ICond.ofBits x = .ok c ↔ c.bits = x :=
  eq_ok_iff_of_forall (by decide) ICond.ofBits_bits
@[simp] theorem FCond.ofBits_eq_ok {x : BitVec 3} {c : FCond} : FCond.ofBits x = .ok c ↔ c.bits = x :=
  eq_ok_iff_of_forall (by decide) FCond.ofBits_bits
@[simp] theorem SatMode.ofCode_eq_ok {x : BitVec 2} {m : SatMode} : SatMode.ofCode x = .ok m ↔ m.code = x :=
  eq_ok_iff_of_forall (by decide) SatMode.ofCode_code
@[simp] theorem Scope.ofBits_eq_ok {x : BitVec 4} {m : Scope} : Scope.ofBits x = .ok m ↔ m.bits = x :=
  eq_ok_iff_of_forall (by decide) Scope.ofBits_bits
@[simp] theorem LockMode.ofBits_eq_ok {x : BitVec 3} {m : LockMode} : LockMode.ofBits x = .ok m ↔ m.bits = x :=
  eq_ok_iff_of_forall (by decide) LockMode.ofBits_bits
@[simp] theorem partOfBits_eq_ok {x : BitVec 6} {k : BitVec 4} : partOfBits x = .ok k ↔ 0#2 ++ k = x :=
  eq_ok_iff_of_forall (enc := fun k => 0#2 ++ k) (by decide) part_of
@[simp] theorem bankOfBits_eq_ok {x : BitVec 6} {k : BitVec 2} : bankOfBits x = .ok k ↔ 0#4 ++ k = x :=
  eq_ok_iff_of_forall (enc := fun k => 0#4 ++ k) (by decide) bank_of
@[simp] theorem splatWidth_eq_ok {x : BitVec 6} {w : LaneW} : splatWidth x = .ok w ↔ 0#4 ++ w.code = x :=
  eq_ok_iff_of_forall (enc := fun w : LaneW => 0#4 ++ w.code) (by decide) splat_of
@[simp] theorem quadOfBits_eq_ok {x : BitVec 6} {q : BitVec 2} : quadOfBits x = .ok q ↔ 0#2 ++ q ++ 0#2 = x :=
  eq_ok_iff_of_forall (enc := fun q => 0#2 ++ q ++ 0#2) (by decide) quad_of
@[simp] theorem pairOfBits_eq_ok {x : BitVec 6} {q : BitVec 3} : pairOfBits x = .ok q ↔ 0#2 ++ q ++ 0#1 = x :=
  eq_ok_iff_of_forall (enc := fun q => 0#2 ++ q ++ 0#1) (by decide) pair_of
@[simp] theorem lockModeOfField_eq_ok {x : BitVec 6} {m : LockMode} : lockModeOfField x = .ok m ↔ 0#3 ++ m.bits = x :=
  eq_ok_iff_of_forall (enc := fun m : LockMode => 0#3 ++ m.bits) (by decide) lockMode_of
@[simp] theorem NestReg.ofNumber_eq_ok {x : BitVec 8} {r : NestReg} : NestReg.ofNumber x = .ok r ↔ r.number = x :=
  eq_ok_iff_of_forall (by decide) NestReg.ofNumber_number

@[simp] theorem zeroField_eq_ok {x : BitVec 6} {u : Unit} : zeroField x = .ok u ↔ x = 0 := by simp [zeroField]
@[simp] theorem zeroMode_eq_ok {x : BitVec 3} {u : Unit} : zeroMode x = .ok u ↔ x = 0 := by simp [zeroMode]
@[simp] theorem unsignedMatches_eq_ok {c : ICond} {x : BitVec 2} {u : Unit} : unsignedMatches c x = .ok u ↔ x = c.unsignedCode := by
  simp [unsignedMatches]

@[simp] theorem LaneW.code_ofCode (x : BitVec 2) : (LaneW.ofCode x).code = x := by revert x; decide
@[simp] theorem FloatT.code_ofCode (x : BitVec 2) : (FloatT.ofCode x).code = x := by revert x; decide
@[simp] theorem RFile.code_ofCode (x : BitVec 2) : (RFile.ofCode x).code = x := by revert x; decide

/-! The registers' numbers (Tables 4.7 and 9.5): a block of them by its high bits, a single one by its value. -/

/-- A number is the high bits it was told by and its low bits. -/
theorem append_of_extractLsb' {v w : Nat} {x : BitVec (v + w)} {c : BitVec v} (h : x.extractLsb' w v = c) : c ++ x.extractLsb' 0 w = x :=
  h ▸ BitVec.extractLsb'_append_extractLsb'

theorem CReg.ofNumber_yields (x : BitVec 10) : Yields (fun r => r.number = x) (CReg.ofNumber x) := by
  unfold CReg.ofNumber
  repeat' first
    | refine yields_ite (fun h => yields_ok (append_of_extractLsb' h)) ?_ | refine yields_ite (fun h => yields_ok (Eq.symm h)) ?_
    | exact yields_error

@[simp] theorem CReg.ofNumber_eq_ok {x : BitVec 10} {r : CReg} : CReg.ofNumber x = .ok r ↔ r.number = x :=
  ⟨CReg.ofNumber_yields x r, fun h => h ▸ CReg.ofNumber_number r⟩

theorem EReg.ofNumber_yields (x : BitVec 10) : Yields (fun r => r.number = x) (EReg.ofNumber x) := by
  unfold EReg.ofNumber
  refine yields_ite (fun h => yields_map fun q hq => ?shadow) <| yields_ite (fun h => yields_map fun q hq => ?active) <|
    yields_ite (fun h => yields_ok h.symm) <| yields_ite (fun h => yields_ok (append_of_extractLsb' h)) <|
    yields_ite (fun h => yields_ok (append_of_extractLsb' h)) yields_error
  all_goals
    rw [EReg.number, NestReg.ofNumber_eq_ok.mp hq]
    exact append_of_extractLsb' h

@[simp] theorem EReg.ofNumber_eq_ok {x : BitVec 10} {r : EReg} : EReg.ofNumber x = .ok r ↔ r.number = x :=
  ⟨EReg.ofNumber_yields x r, fun h => h ▸ EReg.ofNumber_number r⟩

/-! Operands that stand in two fields, or in part of one. -/

/-- The 5-bit S field has room for the E registers up to e15 alone (R97). -/
@[simp] theorem Src.ofElBits_eq_ok {x : BitVec 5} {a : Src} : Src.ofElBits x = .ok a ↔ a.wfE = true ∧ a.elBits = x := by
  refine ⟨fun h => ?_, fun ⟨hw, hx⟩ => hx ▸ Src.ofElBits_elBits a hw⟩
  have hr : ∀ x, (match Src.ofElBits x with | .ok a => a.wfE && a.elBits == x | .error _ => true) = true := by decide
  have hx := hr x
  rw [h] at hx
  simpa using hx

@[simp] theorem shiftOfBits_eq_ok {b : BitVec 6} {fn : BitVec 4} {i : BitVec 6} :
    shiftOfBits b fn = .ok i ↔ 0#4 ++ i.extractLsb' 4 2 = b ∧ i.extractLsb' 0 4 = fn := by
  refine ⟨fun h => ?_, fun ⟨hb, hf⟩ => hb ▸ hf ▸ shift_parts i⟩
  unfold shiftOfBits at h
  split at h
  · next hz =>
    cases h
    exact ⟨by rw [hi24]; exact append_of_extractLsb' hz, lo24 _ _⟩
  · cases h

@[simp] theorem baseOnly_eq_ok {b : BitVec 6} {fn : BitVec 4} {i : BitVec 5} :
    baseOnly b fn = .ok i ↔ 0#5 ++ i.extractLsb' 4 1 = b ∧ i.extractLsb' 0 4 = fn := by
  refine ⟨fun h => ?_, fun ⟨hb, hf⟩ => hb ▸ hf ▸ base_of i⟩
  unfold baseOnly at h
  split at h
  · next hz =>
    cases h
    exact ⟨by rw [high_1_4]; exact append_of_extractLsb' hz, low_1_4 _ _⟩
  · cases h

@[simp] theorem groupHeight_eq_ok {b : BitVec 6} {fn : BitVec 4} {h : BitVec 3} :
    groupHeight b fn = .ok h ↔ 0#4 ++ h.extractLsb' 1 2 = b ∧ h.extractLsb' 0 1 ++ fn.extractLsb' 0 3 = fn := by
  refine ⟨fun hr => ?_, fun ⟨hb, hf⟩ => hb ▸ hf ▸ group_of h _⟩
  unfold groupHeight at hr
  split at hr
  · next hz =>
    cases hr
    exact ⟨by rw [high_2_1]; exact append_of_extractLsb' hz, by rw [low_2_1]; exact BitVec.extractLsb'_append_extractLsb'⟩
  · cases hr

end Sys2Proof
end

section
/-! A word that decodes is the word of what it decodes to: no bit of it is dropped (R97, R102). -/

namespace Sys2Proof

/-- A decoding gives operations that are written as the fields `f` of the slot. -/
def Writes (sl : Slot) (f : Fields) : Except Reject Instr → Prop := Yields fun i => i.toFields = some (sl, f)

/-- The fields by name, the major as the number by which a map is entered. -/
theorem writes_iff {sl : Slot} {f : Fields} {x : Except Reject Instr} :
    Writes sl f x ↔ Yields (fun i => i.toFields = some (sl, ⟨BitVec.ofNat 6 f.op.toNat, f.n, f.p, f.d, f.a, f.b, f.fn⟩)) x := by
  rw [BitVec.ofNat_toNat, BitVec.setWidth_eq, Writes]

/-! The four opcode maps (Tables 3.7 to 3.10): each proof follows the shape of its map down to the operations, a test of a field, a refusal
or a field read before the rest; there the fields the operation is written as are those it was read from. -/

theorem writes_decodeA (f : Fields) : Writes .a f (decodeA ⟨f.n, f.p⟩ f) := by
  rw [writes_iff]
  unfold decodeA
  split
  all_goals repeat' first
    | refine yields_ite (fun _ => ?_) ?_ | exact yields_error | refine yields_bind fun _ _ => ?_ | refine yields_ok ?_
  all_goals simp_all [Instr.toFields]

theorem writes_decodeV (f : Fields) : Writes .v f (decodeV ⟨f.n, f.p⟩ f) := by
  rw [writes_iff]
  unfold decodeV
  split
  all_goals repeat' first
    | refine yields_ite (fun _ => ?_) ?_ | exact yields_error | refine yields_bind fun _ _ => ?_ | refine yields_ok ?_
  all_goals simp_all [Instr.toFields]

theorem writes_decodeM (f : Fields) : Writes .m f (decodeM ⟨f.n, f.p⟩ f) := by
  rw [writes_iff]
  unfold decodeM
  split
  all_goals repeat' first
    | refine yields_ite (fun _ => ?_) ?_ | exact yields_error | refine yields_bind fun _ _ => ?_ | refine yields_ok ?_
  all_goals simp_all [Instr.toFields]

theorem writes_decodeE (f : Fields) : Writes .e f (decodeE ⟨f.n, f.p⟩ f) := by
  rw [writes_iff]
  unfold decodeE
  split
  all_goals repeat' first
    | refine yields_ite (fun _ => ?_) ?_ | exact yields_error | refine yields_bind fun _ _ => ?_ | refine yields_ok ?_
  all_goals simp_all [Instr.toFields]

theorem writes_decodeSlot (f : Fields) (sl : Slot) : Writes sl f (decodeSlot ⟨f.n, f.p⟩ f sl) := by
  cases sl
  · exact writes_decodeA f
  · exact writes_decodeV f
  · exact writes_decodeM f
  · exact writes_decodeE f

/-- Only well-formed instructions decode (R102). -/
theorem wf_of_decodeWord {sl : Slot} {w : BitVec 32} {i : Instr} (h : decodeWord sl w = .ok i) : i.wf = true := by
  unfold decodeWord decodeFields at h
  split at h
  · cases h
    rfl
  · dsimp only at h
    split at h
    · cases h
    · split at h
      · next hw =>
        cases h
        exact hw
      · cases h

/-- The word made of the fields of a word. -/
theorem joinWord_splitWord (w : BitVec 32) : joinWord (splitWord w) = w := by
  have hn : BitVec.ofBool (w.getLsbD 25) = w.extractLsb' 25 1 := by
    apply BitVec.eq_of_getLsbD_eq
    intro i hi
    simp [show i = 0 by omega]
  simp only [joinWord, splitWord, hn]
  rw [BitVec.extractLsb'_append_extractLsb'_eq_extractLsb' (show 26 = 25 + 1 from rfl),
    BitVec.extractLsb'_append_extractLsb'_eq_extractLsb' (show 25 = 22 + 3 from rfl),
    BitVec.extractLsb'_append_extractLsb'_eq_extractLsb' (show 22 = 16 + 6 from rfl),
    BitVec.extractLsb'_append_extractLsb'_eq_extractLsb' (show 16 = 10 + 6 from rfl),
    BitVec.extractLsb'_append_extractLsb'_eq_extractLsb' (show 10 = 4 + 6 from rfl),
    BitVec.extractLsb'_append_extractLsb'_eq_extractLsb' (show 4 = 0 + 4 from rfl)]
  exact BitVec.extractLsb'_eq_self

end Sys2Proof

namespace Sys2Proof.Laws

/-- Settles O58: the map of the slot gives what is written as the fields of the word, and these make the word. -/
theorem decodedWordsEncode : Obligations.DecodedWordsEncode := by
  unfold Obligations.DecodedWordsEncode
  intro sl w i hw h
  have hf : i.toFields = some (sl, splitWord w) := writes_decodeSlot (splitWord w) sl i (decodeSlot_of_decodeWord hw h)
  exact ⟨wf_of_decodeWord h, by rw [Instr.encode, hf, Option.map_some, joinWord_splitWord]⟩

end Sys2Proof.Laws
end

section
/-! What the two-operand words, the products and the quotients of the A slot are (R114, R115, R119). -/

namespace Sys2Proof.Machine

variable (x y : Word)

theorem add_eq_ofNat : x + y = BitVec.ofNat 64 (x.toNat + y.toNat) := by
  rw [BitVec.ofNat_add, BitVec.ofNat_toNat, BitVec.ofNat_toNat, BitVec.setWidth_eq, BitVec.setWidth_eq]

theorem sub_eq_ofInt : x - y = BitVec.ofInt 64 ((x.toNat : Int) - y.toNat) := by
  have hofInt : ∀ z : Word, BitVec.ofInt 64 (z.toNat : Int) = z := fun z => by
    rw [BitVec.ofInt_natCast, BitVec.ofNat_toNat, BitVec.setWidth_eq]
  rw [BitVec.sub_eq_iff_eq_add]
  nth_rw 2 [← hofInt y]
  rw [← BitVec.ofInt_add, Int.sub_add_cancel, hofInt]

theorem mul_eq_ofInt : x * y = BitVec.ofInt 64 (x.toInt * y.toInt) := by
  rw [BitVec.ofInt_mul, BitVec.ofInt_toInt, BitVec.ofInt_toInt]

theorem opShl_eq : opShl x y = BitVec.ofNat 64 (x.toNat * 2 ^ (y.toNat % 64)) := by
  apply BitVec.eq_of_toNat_eq
  simp [opShl, shiftCount, Nat.shiftLeft_eq]

theorem opShr_eq : opShr x y = BitVec.ofNat 64 (x.toNat / 2 ^ (y.toNat % 64)) := by
  rw [← Nat.shiftRight_eq_div_pow]
  apply BitVec.eq_of_toNat_eq
  have : x.toNat >>> (y.toNat % 64) < 2 ^ 64 := Nat.lt_of_le_of_lt (Nat.shiftRight_le ..) x.isLt
  rw [BitVec.toNat_ofNat, Nat.mod_eq_of_lt this]
  rfl

theorem opSar_eq : opSar x y = BitVec.ofInt 64 (x.toInt / 2 ^ (y.toNat % 64)) := by
  rw [opSar, BitVec.sshiftRight, Int.shiftRight_eq_div_pow, shiftCount]
  norm_cast

theorem opRol_eq : opRol x y = x <<< (y.toNat % 64) ||| x >>> (64 - y.toNat % 64) := by
  rw [opRol, BitVec.rotateLeft_def, shiftCount, Nat.mod_mod]

/-- Where equal keys make equal answers, a strict comparison decides as the other one does. -/
theorem ite_lt_eq_ite_le {α β : Type} [LinearOrder α] {a b : α} {p q : β} (h : a = b → p = q) :
    (if a < b then p else q) = if a ≤ b then p else q := by
  rcases lt_trichotomy a b with hab | hab | hab
  · rw [if_pos hab, if_pos hab.le]
  · rw [h hab, ite_self, ite_self]
  · rw [if_neg hab.asymm, if_neg hab.not_ge]

theorem opMin_eq : opMin x y = if x.toInt ≤ y.toInt then x else y := by
  simp only [opMin, BitVec.slt_iff_toInt_lt]
  exact ite_lt_eq_ite_le BitVec.toInt_inj.mp

theorem opMax_eq : opMax x y = if x.toInt ≤ y.toInt then y else x := by
  simp only [opMax, BitVec.slt_iff_toInt_lt]
  exact ite_lt_eq_ite_le fun h => (BitVec.toInt_inj.mp h).symm

theorem opMinu_eq : opMinu x y = if x.toNat ≤ y.toNat then x else y := ite_lt_eq_ite_le BitVec.eq_of_toNat_eq

theorem opMaxu_eq : opMaxu x y = if x.toNat ≤ y.toNat then y else x := ite_lt_eq_ite_le fun h => (BitVec.eq_of_toNat_eq h).symm

/-- The upper four bits of the first operand stand over the lower sixty of the sum (R115). -/
theorem opAddx_eq : opAddx x y = x.extractLsb' 60 4 ++ (x + y).extractLsb' 0 60 := by
  unfold opAddx
  generalize x + y = z
  apply BitVec.eq_of_getLsbD_eq
  intro i hi
  have hl : ∀ j : Fin 64, (0x0FFFFFFFFFFFFFFF : Word).getLsbD j = decide (j.val < 60) := by decide
  have hh : ∀ j : Fin 64, (0xF000000000000000 : Word).getLsbD j = decide (60 ≤ j.val) := by decide
  have hl := hl ⟨i, hi⟩
  have hh := hh ⟨i, hi⟩
  dsimp only at hl hh
  rw [BitVec.getLsbD_append, BitVec.getLsbD_or, BitVec.getLsbD_and, BitVec.getLsbD_and, hl, hh]
  by_cases h : i < 60
  · simp [h, show ¬ 60 ≤ i by omega]
  · simp [h, show 60 ≤ i by omega, show i - 60 < 4 by omega]

end Sys2Proof.Machine
end

section
/-! Numbers by their bits: fields, bytes, sums of powers and the bit length (R5, R88, R116). -/

namespace Sys2Proof.Machine

/-- A word with a field replaced, bit by bit. -/
theorem getLsbD_setFld {w : Word} {lo len v j : Nat} (hj : j < 64) :
    (setFld w lo len v).getLsbD j = if lo ≤ j ∧ j < lo + len then v.testBit (j - lo) else w.getLsbD j := by
  simp only [setFld, BitVec.getLsbD_or, BitVec.getLsbD_and, BitVec.getLsbD_not, BitVec.getLsbD_ofNat, Nat.testBit_shiftLeft,
    Nat.testBit_two_pow_sub_one, Nat.testBit_mod_two_pow, hj, decide_true, Bool.true_and]
  by_cases hlo : lo ≤ j <;> by_cases hhi : j < lo + len
  · simp [hlo, hhi, show j - lo < len by omega]
  · simp [hlo, hhi, show ¬ j - lo < len by omega]
  · simp [hlo]
  · simp [hlo]

/-- The signed value of the low bits of a word is that of the narrower word. -/
theorem sfld_zero (x : Word) (n : Nat) : sfld x.toNat 0 n = (x.setWidth n).toInt := by
  have hlt : x.toNat % 2 ^ n < 2 ^ n := Nat.mod_lt _ (Nat.two_pow_pos n)
  rw [BitVec.toInt_eq_toNat_cond]
  simp only [sfld, fld, Nat.shiftRight_zero, BitVec.toNat_setWidth]
  cases n with
  | zero => simp [Nat.mod_one]
  | succ n =>
    have hp : 2 ^ (n + 1) = 2 * 2 ^ n := by rw [Nat.pow_succ, Nat.mul_comm]
    rw [Nat.add_sub_cancel]
    push_cast
    split <;> split <;> omega

/-! The bit length -/

theorem testBit_of_bitLen_le {x i : Nat} (h : bitLen x ≤ i) : x.testBit i = false := by
  unfold bitLen at h
  split at h
  next hx => rw [hx, Nat.zero_testBit]
  next => exact Nat.testBit_lt_two_pow (Nat.lt_of_lt_of_le Nat.lt_log2_self (Nat.pow_le_pow_right (by decide) h))

theorem testBit_bitLen_sub_one {x : Nat} (h : 0 < bitLen x) : x.testBit (bitLen x - 1) = true := by
  unfold bitLen at *
  split at h
  next => exact absurd h (Nat.lt_irrefl 0)
  next hx => rw [if_neg hx, Nat.add_sub_cancel, Nat.testBit_log2 hx]

theorem bitLen_le {x n : Nat} (h : x < 2 ^ n) : bitLen x ≤ n := by
  unfold bitLen
  split
  next => exact Nat.zero_le n
  next hx => exact (Nat.log2_lt hx).mpr h

/-! Numbers made of bits and of bytes -/

/-- The number whose bits below `n` are given. -/
theorem testBit_foldl_range (p : Nat → Bool) (n i : Nat) :
    ((List.range n).foldl (fun acc i => if p i then acc + 2 ^ i else acc) 0).testBit i = (decide (i < n) && p i) := by
  have hlt : ∀ n, (List.range n).foldl (fun acc i => if p i then acc + 2 ^ i else acc) 0 < 2 ^ n := by
    intro n
    induction n with
    | zero => simp
    | succ n ih =>
      rw [List.range_succ, List.foldl_append, List.foldl_cons, List.foldl_nil, Nat.pow_succ]
      split <;> omega
  induction n with
  | zero => simp
  | succ n ih =>
    rw [List.range_succ, List.foldl_append, List.foldl_cons, List.foldl_nil]
    have hn := hlt n
    generalize (List.range n).foldl (fun acc i => if p i then acc + 2 ^ i else acc) 0 = acc at hn ih ⊢
    rcases lt_trichotomy i n with h | rfl | h
    · cases p n <;> simp [ih, h, Nat.lt_succ_of_lt h, Nat.add_comm acc, Nat.testBit_two_pow_add_gt]
    · cases hp : p i <;> simp [ih, hp, Nat.add_comm acc, Nat.testBit_two_pow_add_eq]
    · have hacc : acc + 2 ^ n < 2 ^ i := Nat.lt_of_lt_of_le (by omega) (Nat.pow_le_pow_right (by decide) h)
      have : ¬ i < n + 1 := by omega
      split <;> simp [this, Nat.testBit_lt_two_pow hacc, Nat.testBit_lt_two_pow (show acc < 2 ^ i by omega)]

/-- Bit `j` of byte `i` of the number that bytes stand for. -/
theorem testBit_bytesToNat (bs : List Byte) (i : Nat) {j : Nat} (hj : j < 8) :
    (bytesToNat bs).testBit (8 * i + j) = (bs.getD i 0).getLsbD j := by
  induction bs generalizing i with
  | nil => simp [bytesToNat]
  | cons b bs ih =>
    rw [bytesToNat, Nat.add_comm, show 256 = 2 ^ 8 from rfl, Nat.testBit_two_pow_mul_add _ b.isLt]
    cases i with
    | zero => simp [hj, BitVec.testBit_toNat]
    | succ i =>
      rw [if_neg (by omega), show 8 * (i + 1) + j - 8 = 8 * i + j by omega, ih, List.getD_cons_succ]

theorem length_natToBytes (n v : Nat) : (natToBytes n v).length = n := by
  induction n generalizing v with
  | zero => rfl
  | succ n ih => rw [natToBytes, List.length_cons, ih]

theorem getD_natToBytes {n i : Nat} (v : Nat) (h : i < n) : (natToBytes n v).getD i 0 = BitVec.ofNat 8 (v / 256 ^ i) := by
  induction n generalizing v i with
  | zero => omega
  | succ n ih =>
    cases i with
    | zero => simp [natToBytes]
    | succ i => rw [natToBytes, List.getD_cons_succ, ih _ (by omega), Nat.div_div_eq_div_mul, ← Nat.pow_succ']

/-- The low bytes of a number stand for it where it fits. -/
theorem bytesToNat_natToBytes (n v : Nat) : bytesToNat (natToBytes n v) = v % 256 ^ n := by
  induction n generalizing v with
  | zero => simp [natToBytes, bytesToNat, Nat.mod_one]
  | succ n ih =>
    rw [natToBytes, bytesToNat, ih, Nat.pow_succ', Nat.mod_mul, BitVec.toNat_ofNat]

theorem bytesWord_wordBytes (w : Word) : bytesWord (wordBytes w) = w := by
  rw [bytesWord, wordBytes, bytesToNat_natToBytes]
  exact BitVec.eq_of_toNat_eq (by simp [Nat.mod_eq_of_lt w.isLt])

/-- Byte `i` of a word of bytes. -/
theorem extractLsb'_bytesWord (bs : List Byte) {i : Nat} (hi : i < 8) : (bytesWord bs).extractLsb' (8 * i) 8 = bs.getD i 0 := by
  apply BitVec.eq_of_getLsbD_eq
  intro j hj
  rw [BitVec.getLsbD_extractLsb', bytesWord, BitVec.getLsbD_ofNat, testBit_bytesToNat bs i hj]
  simp [hj, show 8 * i + j < 64 by omega]

theorem length_wordBytes (w : Word) : (wordBytes w).length = 8 := length_natToBytes ..

theorem getD_wordBytes (w : Word) {i : Nat} (hi : i < 8) : (wordBytes w).getD i 0 = w.extractLsb' (8 * i) 8 := by
  rw [← extractLsb'_bytesWord _ hi, bytesWord_wordBytes]

end Sys2Proof.Machine
end

section
/-! What the one-operand words, the field moves and the immediates of the A slot are (R116 to R118). -/

namespace Sys2Proof.Machine

variable (x y d : Word)

theorem opSext_eq (w : ExtW) : opSext w x = (x.setWidth (extBits w)).signExtend 64 := by
  rw [opSext, sfld_zero]
  rfl

theorem opZext_eq (w : ExtW) : opZext w x = (x.setWidth (extBits w)).setWidth 64 := by
  apply BitVec.eq_of_toNat_eq
  simp [opZext, fld]

theorem getLsbD_opBrev {i : Nat} (h : i < 64) : (opBrev x).getLsbD i = x.getLsbD (63 - i) := by
  rw [opBrev, BitVec.getLsbD_ofNat, testBit_foldl_range (fun i => x.getLsbD (63 - i))]
  simp [h]

theorem extractLsb'_opBswap {i : Nat} (h : i < 8) : (opBswap x).extractLsb' (8 * i) 8 = x.extractLsb' (8 * (7 - i)) 8 := by
  have hl := length_wordBytes x
  rw [opBswap, extractLsb'_bytesWord _ h, ← getD_wordBytes x (by omega), List.getD_eq_getElem?_getD, List.getD_eq_getElem?_getD,
    List.getElem?_reverse (by omega), hl]

/-- The leading zeros of a word are what its bit length leaves of it. -/
theorem leadingZeros_spec : let n := 64 - bitLen x.toNat
    n ≤ 64 ∧ (∀ i, i < n → x.getLsbD (63 - i) = false) ∧ (n < 64 → x.getLsbD (63 - n) = true) := by
  have hl : bitLen x.toNat ≤ 64 := bitLen_le x.isLt
  refine ⟨Nat.sub_le .., fun i hi => testBit_of_bitLen_le (by omega), fun hn => ?_⟩
  rw [show 63 - (64 - bitLen x.toNat) = bitLen x.toNat - 1 by omega]
  exact testBit_bitLen_sub_one (by omega)

/-- The trailing zeros of a word end at its first set bit. -/
theorem trailingZeros_spec : let n := ((List.range 64).find? (fun i => x.getLsbD i)).getD 64
    n ≤ 64 ∧ (∀ i, i < n → x.getLsbD i = false) ∧ (n < 64 → x.getLsbD n = true) := by
  cases hf : (List.range 64).find? (fun i => x.getLsbD i) with
  | none =>
    refine ⟨Nat.le_refl 64, fun i hi => ?_, fun hn => absurd hn (Nat.lt_irrefl 64)⟩
    simpa using List.find?_range_eq_none.mp hf i hi
  | some n =>
    obtain ⟨hn, hr, hb⟩ := List.find?_range_eq_some.mp hf
    refine ⟨Nat.le_of_lt (List.mem_range.mp hr), fun i hi => ?_, fun _ => hn⟩
    simpa using hb i hi

/-! Fields -/

theorem getLsbD_fieldMask {j : Nat} (h : j < 64) :
    (fieldMask y).getLsbD j = decide (fieldPos y ≤ j ∧ j < fieldPos y + fieldLen y) := by
  simp only [fieldMask, BitVec.getLsbD_ofNat, Nat.testBit_mul_two_pow, Nat.testBit_two_pow_sub_one, h, decide_true, Bool.true_and]
  by_cases hp : fieldPos y ≤ j
  · simp [hp, Nat.sub_lt_iff_lt_add hp, Nat.add_comm]
  · simp [hp]

theorem fieldPos_eq : fieldPos y = y.toNat % 64 := by simp [fieldPos, wfld, fld]

theorem fieldLen_eq : fieldLen y = Nat.min (y.toNat / 256 % 128) (64 - y.toNat % 64) := by
  rw [fieldLen, fieldPos_eq, wfld, fld, Nat.shiftRight_eq_div_pow]
  rfl

theorem opExtr_eq : opExtr x y = BitVec.ofNat 64 (x.toNat / 2 ^ fieldPos y % 2 ^ fieldLen y) := by
  have hlen : fieldLen y ≤ 64 - fieldPos y := Nat.min_le_right ..
  apply BitVec.eq_of_getLsbD_eq
  intro i hi
  rw [opExtr, BitVec.getLsbD_ushiftRight, BitVec.getLsbD_and, BitVec.getLsbD_ofNat, Nat.testBit_mod_two_pow, Nat.testBit_div_two_pow,
    BitVec.testBit_toNat, Nat.add_comm i]
  by_cases h : i < fieldLen y
  · rw [getLsbD_fieldMask y (by omega)]
    simp [h, hi]
  · by_cases h64 : fieldPos y + i < 64
    · rw [getLsbD_fieldMask y h64]
      simp [h]
    · simp [h, BitVec.getLsbD_of_ge x _ (Nat.le_of_not_lt h64)]

theorem getLsbD_opInsr {j : Nat} (h : j < 64) : (opInsr d x y).getLsbD j =
    if fieldPos y ≤ j ∧ j < fieldPos y + fieldLen y then x.getLsbD (j - fieldPos y) else d.getLsbD j := by
  simp only [opInsr, BitVec.getLsbD_or, BitVec.getLsbD_and, BitVec.getLsbD_not, BitVec.getLsbD_shiftLeft, getLsbD_fieldMask y h, h,
    decide_true, Bool.true_and]
  by_cases hf : fieldPos y ≤ j ∧ j < fieldPos y + fieldLen y
  · simp [hf, Nat.not_lt_of_le hf.1]
  · simp [hf]

theorem getLsbD_opMovh {k j : Nat} (i : BitVec 16) (h : j < 64) :
    (opMovh k d i).getLsbD j = if 16 * k ≤ j ∧ j < 16 * k + 16 then i.getLsbD (j - 16 * k) else d.getLsbD j :=
  getLsbD_setFld h

/-- A half-word put between the bits above it and those below it (R118). -/
theorem opMovh_eq_append (i : BitVec 16) {k hi lo : Nat} (hlo : 16 * k = lo) (hhi : hi + 16 + lo = 64) :
    opMovh k d i = (d.extractLsb' (lo + 16) hi ++ i ++ d.extractLsb' 0 lo).cast hhi := by
  apply BitVec.eq_of_getLsbD_eq
  intro j hj
  rw [getLsbD_opMovh d i hj, BitVec.getLsbD_cast, BitVec.getLsbD_append, BitVec.getLsbD_append, BitVec.getLsbD_extractLsb',
    BitVec.getLsbD_extractLsb', hlo]
  rcases lt_or_ge j lo with h1 | h1
  · simp [h1, Nat.not_le_of_lt h1]
  · rcases lt_or_ge j (lo + 16) with h2 | h2
    · simp [h1, h2, Nat.not_lt_of_le h1, show j - lo < 16 by omega]
    · simp [Nat.not_lt_of_le h1, Nat.not_lt_of_le h2, show ¬ j - lo < 16 by omega, show j - lo - 16 < hi by omega,
        show lo + 16 + (j - lo - 16) = j by omega]

theorem opMovh_one (i : BitVec 16) : opMovh 1 d i = d.extractLsb' 32 32 ++ i ++ d.extractLsb' 0 16 :=
  opMovh_eq_append d i rfl rfl

theorem opMovh_two (i : BitVec 16) : opMovh 2 d i = d.extractLsb' 48 16 ++ i ++ d.extractLsb' 0 32 :=
  opMovh_eq_append d i rfl rfl

theorem opMovh_three (i : BitVec 16) : opMovh 3 d i = i ++ d.extractLsb' 0 48 := by
  rw [opMovh_eq_append d i (hi := 0) rfl rfl, BitVec.zero_width_append]
  rfl

/-! Shifts by an immediate -/

theorem shiftCount_setWidth (n : BitVec 6) : shiftCount (n.setWidth 64) = n.toNat := by
  simp [shiftCount, Nat.mod_eq_of_lt n.isLt]

end Sys2Proof.Machine
end

section
/-! The A slot's arithmetic, moves, compares and predicates (O1 to O3): each runs as its shared operation does, on the words above. -/

namespace Sys2Proof.Laws

open Sys2Proof.Machine

section
variable {g : Guard} {d : Dst} {a b : Src} {s : State} {v : Word}

theorem runAlu2_runs {op : Word → Word → Word} (hv : op (s.cur.srcA a) (s.cur.srcA b) = v)
    (h : Runs s g (s.cur.unsetA a || s.cur.unsetA b) (StackOk s d v)) : runAlu2 g d a b op s = .next (s.resultWord .a .a 1 d v) :=
  runAlu_runs h rfl hv

theorem runAluI_runs {i : Word} {op : Word → Word → Word} (hv : op (s.cur.srcA a) i = v) (h : Runs s g (s.cur.unsetA a) (StackOk s d v)) :
    runAluI g d a i op s = .next (s.resultWord .a .a 1 d v) :=
  runAlu_runs h rfl hv

theorem runAlu1_runs {op : Word → Word} (hv : op (s.cur.srcA a) = v) (h : Runs s g (s.cur.unsetA a) (StackOk s d v)) :
    runAlu1 g d a op s = .next (s.resultWord .a .a 1 d v) :=
  runAlu_runs h rfl hv

theorem runLong_gives {lat : Nat} {op : Word → Word → Word} (hv : op (s.cur.srcA a) (s.cur.srcA b) = v)
    (h : Runs s g (s.cur.unsetA a || s.cur.unsetA b) True) : runLong g d a b lat op s = .next (s.resultWord .a .a lat d v) :=
  hv ▸ runLong_runs h

/-- A condition holds as it is read of the words (R120). -/
theorem condHolds_eq (c : ICond) (x y : Word) : condHolds c x y = match c with
    | .eq => decide (x = y)
    | .ne => decide (x ≠ y)
    | .lt => decide (x.toInt < y.toInt)
    | .ge => decide (y.toInt ≤ x.toInt)
    | .ltu => decide (x.toNat < y.toNat)
    | .geu => decide (y.toNat ≤ x.toNat) := by
  cases c with
  | eq => rfl
  | ne => simp [condHolds, bne, beq_eq_decide]
  | lt => rfl
  | ge => simp [condHolds, BitVec.slt_eq_decide, ← decide_not]
  | ltu => rfl
  | geu => simp [condHolds, BitVec.le_def, ← decide_not]

end

/-- Settles O1: each operation runs as the two-source or the long operation does, on the word its definition has. -/
theorem scalarTwoSource : Obligations.ScalarTwoSource := by
  unfold Obligations.ScalarTwoSource
  refine ⟨fun s g d a b => ?_, fun s g d a b => ?_⟩
  · intro x y writes
    exact ⟨runAlu2_runs (add_eq_ofNat x y), runAlu2_runs (sub_eq_ofInt x y), runAlu2_runs rfl, runAlu2_runs rfl, runAlu2_runs rfl,
      runAlu2_runs (op := fun x y => x &&& ~~~y) rfl,
      runAlu2_runs (opShl_eq x y), runAlu2_runs (opShr_eq x y), runAlu2_runs (opSar_eq x y), runAlu2_runs (opRol_eq x y),
      runAlu2_runs (opMin_eq x y), runAlu2_runs (opMax_eq x y), runAlu2_runs (opMinu_eq x y), runAlu2_runs (opMaxu_eq x y),
      runAlu2_runs (opAddx_eq x y)⟩
  · intro x y writes
    exact ⟨runLong_gives (mul_eq_ofInt x y), runLong_gives rfl, runLong_gives rfl, runLong_gives rfl, runLong_gives rfl, runLong_gives rfl,
      runLong_gives rfl⟩

/-- Settles O2: each operation runs as the one-source or the immediate operation does; of a reversal, a count and an inserted field the
word is given by its bits. -/
theorem scalarOneSourceAndFields : Obligations.ScalarOneSourceAndFields := by
  unfold Obligations.ScalarOneSourceAndFields
  refine ⟨fun s g d a w => ?_, fun s g d r a b i n h v k => ?_⟩
  · intro x writes
    obtain ⟨hz, hz0, hz1⟩ := leadingZeros_spec x
    obtain ⟨ht, ht0, ht1⟩ := trailingZeros_spec x
    exact ⟨runAlu1_runs rfl, runAlu1_runs (by rw [opSext_eq]; cases w <;> rfl), runAlu1_runs (by rw [opZext_eq]; cases w <;> rfl),
      ⟨opBrev x, fun _ => getLsbD_opBrev x, runAlu1_runs rfl⟩, ⟨opBswap x, fun _ => extractLsb'_opBswap x, runAlu1_runs rfl⟩,
      ⟨_, hz, hz0, hz1, runAlu1_runs rfl⟩, ⟨_, ht, ht0, ht1, runAlu1_runs rfl⟩, runAlu1_runs rfl⟩
  · intro x y z pos len writes ua ub ur
    have hpos : fieldPos y = pos := fieldPos_eq y
    have hlen : fieldLen y = len := fieldLen_eq y
    have hsh := shiftCount_setWidth n
    have hsel : (if xor (s.cur.pred k.toNat) v then x else y) = if s.cur.pred k.toNat = !v then x else y := by
      cases s.cur.pred k.toNat <;> cases v <;> rfl
    exact ⟨runAluI_runs rfl, runAluI_runs rfl, runAluI_runs rfl, runAluI_runs rfl, runAluI_runs rfl,
      runAluI_runs (by rw [opShl, hsh]), runAluI_runs (by rw [opShr, hsh]), runAluI_runs (by rw [opSar, hsh]),
      fun h => (exec_movi s).trans (runAlu_runs h rfl rfl), fun h => (exec_movh1 s).trans (runAlu_runs h rfl (opMovh_one z _)),
      fun h => (exec_movh2 s).trans (runAlu_runs h rfl (opMovh_two z _)), fun h => (exec_movh3 s).trans (runAlu_runs h rfl (opMovh_three z _)),
      fun h => (exec_sel s).trans (runAlu_runs h rfl hsel),
      runAlu2_runs ((opExtr_eq x y).trans (by rw [hpos, hlen])),
      opInsr z x y, fun j hj => by rw [getLsbD_opInsr x y z hj, hpos, hlen], fun h => (exec_insr s).trans (runAlu_runs h rfl rfl)⟩

/-- Settles O3: each operation writes the predicate of the condition or of the logic it names; p0 reads true and is never unset. -/
theorem predicateWrites : Obligations.PredicateWrites := by
  unfold Obligations.PredicateWrites
  intro s g c q p1 p2 a b i x holds writes v1 v2
  exact ⟨fun h => (exec_cmp s).trans (runPred_runs h rfl (condHolds_eq c x _)),
    fun h => (exec_cmpi s).trans (runPred_runs h rfl (condHolds_eq c x _)),
    fun h => (exec_pand s).trans (runPred_runs h rfl rfl), fun h => (exec_por s).trans (runPred_runs h rfl rfl),
    fun h => (exec_por s).trans (runPred_runs h rfl rfl), fun h => (exec_pnot s).trans (runPred_runs h rfl rfl)⟩

end Sys2Proof.Laws
end

section
/-! The A slot's moves of control registers, transfers, calls and loops (O4, O5): what they check, and what they do. -/

namespace Sys2Proof.Machine

/-! The lowest inactive loop register (R40) -/

theorem Ctx.freeLoop_eq_some {c : Ctx} {k : Nat} (hk : k < 4) (h : (c.loopReg k).getLsbD 63 = false)
    (hb : ∀ j, j < k → (c.loopReg j).getLsbD 63 = true) : c.freeLoop = some k :=
  List.find?_range_eq_some.mpr ⟨by rw [lcAct, h]; rfl, List.mem_range.mpr hk, fun j hj => by simp [lcAct, hb j hj]⟩

theorem Ctx.freeLoop_eq_none {c : Ctx} (h : ∀ k, k < 4 → (c.loopReg k).getLsbD 63 = true) : c.freeLoop = none :=
  List.find?_range_eq_none.mpr fun k hk => by simp [lcAct, h k hk]

end Sys2Proof.Machine

namespace Sys2Proof.Laws

open Sys2Proof.Machine

/-! The failure that a check finds (R142, R181): every earlier one finds none. -/

section
variable {sl : Slot} {g : Guard} {k : State → Checks} {s : State}

theorem opFailure_illegal (hg : s.cur.guard g = true) (hp : s.cur.poisonRd = true → s.cur.unsetP g.p = false) (hi : (k s).illegal = true) :
    opFailure sl g k s = some ⟨0, sl, .illegal, illegalAddr (s.slotWord sl) (slotIdx sl)⟩ := by
  cases hpr : s.cur.poisonRd with
  | false => simp [opFailure, hg, hpr, hi]
  | true => simp [opFailure, hg, hpr, hi, hp hpr]

variable (hg : s.cur.guard g = true) (hp : s.cur.poisonRd = true → s.cur.unsetP g.p = false ∧ (k s).unset = false)
  (hi : (k s).illegal = false)
include hg hp hi

theorem opFailure_priv {x : Word} (h : (k s).priv = some x) : opFailure sl g k s = some ⟨2, sl, .priv, x⟩ := by
  cases hpr : s.cur.poisonRd with
  | false => simp [opFailure, hg, hpr, hi, h]
  | true => simp [opFailure, hg, hpr, hi, h, hp hpr]

theorem opFailure_own {c : Cause} {x : Word} (hpriv : (k s).priv = none) (hcb : (k s).cb = none) (h : (k s).own = some (c, x)) :
    opFailure sl g k s = some ⟨4, sl, c, x⟩ := by
  cases hpr : s.cur.poisonRd with
  | false => simp [opFailure, hg, hpr, hi, hpriv, hcb, h]
  | true => simp [opFailure, hg, hpr, hi, hpriv, hcb, h, hp hpr]

end

/-! Moves of control registers -/

section
variable {g : Guard} {d : Dst} {a : Src} {r : CReg} {s : State} {u : Bool}

/-- Only a `TSHAPE` can lie beyond the share. -/
theorem cregBeyond_eq_false {t : Tile} (h : ∀ n, r = .tshape n → n.toNat < t.tregShare) : cregBeyond t r = false := by
  cases r
  case tshape n => exact decide_eq_false (Nat.not_le_of_lt (h n rfl))
  all_goals rfl

/-- What a move of a control register checks: the share, its sources, and the lowest level it may run at. -/
def cregChecks (r : CReg) (lowest : Nat) (unset : State → Bool) (s : State) : Checks :=
  { Checks.reads (unset s) with
    illegal := cregBeyond s.here r
    priv := if s.cur.level < lowest then some (r.number.setWidth 64) else none }

/-- A move of a control register has its effect where the register is within the share and the level suffices. -/
theorem runOp_creg_runs {lowest : Nat} {eff : State → State}
    (h : Runs s g u ((∀ n, r = .tshape n → n.toNat < s.here.tregShare) ∧ lowest ≤ s.cur.level)) {unset : State → Bool} (hu : unset s = u) :
    runOp .a g (cregChecks r lowest unset) eff s = .next (eff s) :=
  runOp_runs h (fun hk => ⟨cregBeyond_eq_false hk.1, if_neg (Nat.not_lt_of_le hk.2), rfl, rfl, fun ht => Bool.noConfusion ht⟩) hu

/-- Below the level it is `PRIV` with the register's number (R133, R134). -/
theorem runOp_creg_traps {lowest : Nat} {eff : State → State} {unset : State → Bool} (hm : s.issue.mode = .direct)
    (hg : s.cur.guard g = true) (hp : s.cur.poisonRd = true → s.cur.unsetP g.p = false ∧ unset s = false)
    (hw : ∀ n, r = .tshape n → n.toNat < s.here.tregShare) (hl : s.cur.level < lowest) :
    runOp .a g (cregChecks r lowest unset) eff s =
      .next (s.issueTrap ⟨2, .a, .priv, r.number.setWidth 64⟩) :=
  runOp_traps hm (opFailure_priv hg hp (cregBeyond_eq_false hw) (if_pos hl))

end

/-- Settles O5: both moves are one run of `runOp` whose own condition is the share and the level. -/
theorem controlRegisterMoves : Obligations.ControlRegisterMoves := by
  unfold Obligations.ControlRegisterMoves
  intro s g d a r within traps
  exact ⟨fun h => (exec_mtcr s).trans (runOp_creg_runs (unset := fun s => s.cur.unsetA a) h rfl),
    fun h => (exec_mfcr s).trans (runOp_creg_runs (unset := fun _ => false) h rfl),
    fun hm hg hp hw hl => (exec_mtcr s).trans (runOp_creg_traps (unset := fun s => s.cur.unsetA a) hm hg hp hw hl),
    fun hm hg hp hw hl => (exec_mfcr s).trans (runOp_creg_traps (unset := fun _ => false) hm hg hp hw hl)⟩

/-! Calls -/

section
variable {g : Guard} {d : Dst} {s : State} {unset : Ctx → Bool} {t : Ctx → Word}

/-- A value that must not be written is the trap `STACK` with it (R124). -/
theorem stackCheck_some {v : Word} (h : ¬StackOk s d v) : stackCheck s.cur d v = some (.stack, v) := by
  simp only [StackOk, not_forall, not_and_or, BitVec.not_le] at h
  obtain ⟨rfl, hlt, hv⟩ := h
  exact if_pos ⟨rfl, hlt, hv⟩

theorem targetCheck_some {t : Word} (h : 4095 < t.toNat) : targetCheck t = some (.bound, t) := if_neg (Nat.not_le_of_lt h)

variable (hm : s.issue.mode = .direct) (hg : s.cur.guard g = true) (hp : s.cur.poisonRd = false)
include hm hg hp

/-- A call past the last bundle is the trap `BOUND` (R126). -/
theorem runCall_bound (ht : 4095 < (t s.cur).toNat) : runCall g d unset t s = .next (s.issueTrap ⟨4, .a, .bound, t s.cur⟩) := by
  have hown : (targetCheck (t s.cur)).or (stackCheck s.cur d (s.cur.pc.setWidth 64 + 1)) = some (.bound, t s.cur) := by
    rw [targetCheck_some ht, Option.some_or]
  exact runOp_traps hm (opFailure_own hg (by simp [hp]) rfl rfl rfl hown)

/-- A call whose link leaves the stack is the trap `STACK` (R124). -/
theorem runCall_stack (ht : (t s.cur).toNat ≤ 4095) (hs : ¬StackOk s d (s.cur.pc.setWidth 64 + 1)) :
    runCall g d unset t s = .next (s.issueTrap ⟨4, .a, .stack, s.cur.pc.setWidth 64 + 1⟩) := by
  have hown : (targetCheck (t s.cur)).or (stackCheck s.cur d (s.cur.pc.setWidth 64 + 1)) = some (.stack, s.cur.pc.setWidth 64 + 1) := by
    rw [targetCheck_none ht, Option.none_or, stackCheck_some hs]
  exact runOp_traps hm (opFailure_own hg (by simp [hp]) rfl rfl rfl hown)

end

/-! Loops -/

section
variable {g : Guard} {s : State} {l : BitVec 12} {unset : State → Bool} {n : State → Int} {opa : State → Word}

/-- `LOOPI` and `LOOP`: the loop of `l` bundles with the count read. -/
def runLoop (g : Guard) (l : BitVec 12) (unset : State → Bool) (n : State → Int) (opa : State → Word) (s : State) : Out :=
  runOp .a g (fun s => loopChecks s.cur l (unset s) (n s) (opa s)) (fun s => s.startLoop l (n s)) s

theorem runLoop_skips {u : Bool} (h : Runs s g u (s.cur.pc.toNat + 1 + l.toNat ≤ 4095)) (hu : unset s = u) (hn : n s ≤ 0) :
    runLoop g l unset n opa s =
      .next { s with issue := { s.issue with retire := .skip (s.cur.pc.toNat + 1 + l.toNat), bubbles := 1 } } := by
  have hown : (loopChecks s.cur l (unset s) (n s) (opa s)).own = none := by
    rw [loopChecks, if_neg (by omega), if_neg (fun h => by omega)]
  exact (runOp_runs h (fun hk => ⟨decide_eq_false (Nat.not_lt_of_le hk), rfl, rfl, hown, fun ht => Bool.noConfusion ht⟩) hu).trans
    (congrArg _ (if_pos hn))

theorem runLoop_starts {u : Bool} {k : Nat} (h : Runs s g u (s.cur.pc.toNat + 1 + l.toNat ≤ 4095 ∧ n s ≤ 65535)) (hu : unset s = u)
    (hn : 0 < n s) (hk : s.cur.freeLoop = some k) :
    runLoop g l unset n opa s = .next { s with issue := { s.issue with
      loop := some (BitVec.ofNat 2 k, lcMake true (s.cur.pc.toNat + 1 + l.toNat) (s.cur.pc.toNat + 1) 0 (n s).toNat) } } := by
  have hown : n s ≤ 65535 → (loopChecks s.cur l (unset s) (n s) (opa s)).own = none := fun hn => by
    rw [loopChecks, if_neg (Int.not_lt.mpr hn), hk, if_neg (fun h => Bool.noConfusion h.2)]
  refine (runOp_runs h (fun hl => ⟨decide_eq_false (Nat.not_lt_of_le hl.1), rfl, rfl, hown hl.2, fun ht => Bool.noConfusion ht⟩) hu).trans
    (congrArg _ ?_)
  rw [State.startLoop, if_neg (Int.not_le.mpr hn), hk]

variable (hm : s.issue.mode = .direct) (hg : s.cur.guard g = true) (hp : s.cur.poisonRd = false)
include hm hg hp

/-- A last bundle past 4,095 is `ILLEGAL` (R128). -/
theorem runLoop_illegal (hl : 4095 < s.cur.pc.toNat + 1 + l.toNat) :
    runLoop g l unset n opa s = .next (s.issueTrap ⟨0, .a, .illegal, illegalAddr (s.slotWord .a) 0⟩) :=
  runOp_traps hm (opFailure_illegal hg (by simp [hp]) (decide_eq_true hl))

/-- What a loop's own check finds is its trap (R128). -/
theorem runLoop_traps (hl : s.cur.pc.toNat + 1 + l.toNat ≤ 4095) {c : Cause} {x : Word}
    (ho : (loopChecks s.cur l (unset s) (n s) (opa s)).own = some (c, x)) : runLoop g l unset n opa s = .next (s.issueTrap ⟨4, .a, c, x⟩) :=
  runOp_traps hm (opFailure_own hg (by simp [hp]) (decide_eq_false (Nat.not_lt_of_le hl)) rfl rfl ho)

theorem runLoop_long (hl : s.cur.pc.toNat + 1 + l.toNat ≤ 4095) (hn : 65535 < n s) :
    runLoop g l unset n opa s = .next (s.issueTrap ⟨4, .a, .stack, opa s⟩) :=
  runLoop_traps hm hg hp hl (if_pos hn)

theorem runLoop_full (hl : s.cur.pc.toNat + 1 + l.toNat ≤ 4095) (hn : 0 < n s) (hn' : n s ≤ 65535) (hf : s.cur.freeLoop = none) :
    runLoop g l unset n opa s = .next (s.issueTrap ⟨4, .a, .stack, 0⟩) :=
  runLoop_traps hm hg hp hl (by rw [loopChecks, if_neg (Int.not_lt.mpr hn'), hf, if_pos ⟨hn, rfl⟩])

end

section
variable {g : Guard} {d : Dst} {s : State} {u : Bool} {o : Out} {w : Word}

/-- An answer that is a transfer's to the target `w`: taken, or `BOUND`. -/
theorem jumps_of_runJump {unset : Ctx → Bool} {t : Ctx → Word} (ho : o = runJump g unset t s) (hu : unset s.cur = u) (hw : t s.cur = w) :
    (Runs s g u (w.toNat ≤ 4095) → o = .next (s.transfer w true)) ∧
      (s.issue.mode = .direct ∧ s.cur.guard g = true ∧ s.cur.poisonRd = false → 4095 < w.toNat →
        o = .next (s.issueTrap ⟨4, .a, .bound, w⟩)) := by
  subst ho hw
  exact ⟨fun h => runJump_runs h hu, fun ⟨hm, hg, hp⟩ ht => runJump_traps hm hg hp ht⟩

/-- An answer that is a call's to the target `w`: taken with its link, `BOUND`, or `STACK`. -/
theorem calls_of_runCall {unset : Ctx → Bool} {t : Ctx → Word} (ho : o = runCall g d unset t s) (hu : unset s.cur = u) (hw : t s.cur = w) :
    (Runs s g u (w.toNat ≤ 4095 ∧ StackOk s d (s.cur.pc.setWidth 64 + 1)) →
        o = .next ((s.resultWord .a .a 1 d (s.cur.pc.setWidth 64 + 1)).transfer w false)) ∧
      (s.issue.mode = .direct ∧ s.cur.guard g = true ∧ s.cur.poisonRd = false → 4095 < w.toNat →
        o = .next (s.issueTrap ⟨4, .a, .bound, w⟩)) ∧
      (s.issue.mode = .direct ∧ s.cur.guard g = true ∧ s.cur.poisonRd = false → w.toNat ≤ 4095 →
        ¬StackOk s d (s.cur.pc.setWidth 64 + 1) → o = .next (s.issueTrap ⟨4, .a, .stack, s.cur.pc.setWidth 64 + 1⟩)) := by
  subst ho hw
  exact ⟨fun h => runCall_runs h hu, fun ⟨hm, hg, hp⟩ ht => runCall_bound hm hg hp ht,
    fun ⟨hm, hg, hp⟩ ht hs => runCall_stack hm hg hp ht hs⟩

end

/-- Settles O4: the transfers and the calls by their target and their link, the loops by their count; the count of `LOOPI` is never more
than 65,535. -/
theorem transfersCallsAndLoops : Obligations.TransfersCallsAndLoops := by
  unfold Obligations.TransfersCallsAndLoops
  refine ⟨fun s g d a i => ?_, fun s g l c a => ?_⟩
  · intro here rel x alone goes jumps calls
    exact ⟨jumps_of_runJump (exec_br s) rfl rfl, jumps_of_runJump (exec_jmp s) rfl rfl, jumps_of_runJump (exec_ret s) rfl rfl,
      calls_of_runCall (exec_call s) rfl rfl, calls_of_runCall (exec_callr s) rfl rfl⟩
  · intro start last alone loops
    have loop : ∀ {i : Instr} {unset : State → Bool} {n : State → Int} {opa : State → Word}, exec i s = runLoop g l unset n opa s →
        (65535 < n s → opa s = s.cur.srcA a) → loops i (unset s) (n s) := by
      intro i unset n opa hi ho
      refine ⟨fun ⟨hm, hg, hp⟩ hl => ?_, fun ⟨hm, hg, hp⟩ hl hn => ?_, fun ⟨hm, hg, hp⟩ hl hn hn' hf => ?_, fun h hn => ?_,
        fun k h hn hk hkf hb => ?_⟩
      · exact hi.trans (runLoop_illegal hm hg hp hl)
      · exact hi.trans (ho hn ▸ runLoop_long hm hg hp hl hn)
      · exact hi.trans (runLoop_full hm hg hp hl hn hn' (Ctx.freeLoop_eq_none hf))
      · exact hi.trans (runLoop_skips h rfl hn)
      · exact hi.trans (runLoop_starts h rfl hn (Ctx.freeLoop_eq_some hk hkf hb))
    have hc : ¬ 65535 < (c.toNat : Int) := by have := c.isLt; omega
    exact ⟨loop (exec_loopi s) (fun h => absurd h hc), loop (exec_loop s) (fun _ => rfl)⟩

end Sys2Proof.Laws
end

section
/-! Bytes and dwords read after a write (R88, R240), and a context's trap frame (R193): what a write of one dword of it leaves. -/

namespace Sys2Proof.Machine

theorem Memory.read_eq_map (m : List Host.Cell) (k n : Nat) : Memory.read m k n = (List.range n).map (fun i => Memory.get m (k + i)) := by
  induction n generalizing k with
  | zero => rfl
  | succ n ih =>
    rw [Memory.read, ih, List.range_succ_eq_map, List.map_cons, List.map_map]
    simp [Function.comp_def, Nat.add_assoc, Nat.add_comm 1]

theorem Memory.length_read (m : List Host.Cell) (k n : Nat) : (Memory.read m k n).length = n := by
  rw [Memory.read_eq_map, List.length_map, List.length_range]

/-- Bytes written are read back. -/
theorem Memory.read_write {m : List Host.Cell} (k : Nat) (bs : List Byte) (hm : Memory.wf m = true) :
    Memory.read (Memory.write m k bs) k bs.length = bs := by
  rw [Memory.read_eq_map]
  refine List.ext_getElem (by simp) (fun i hi hb => ?_)
  rw [List.getElem_map, List.getElem_range, Memory.get_write k bs _ hm, if_pos (by omega), Nat.add_sub_cancel_left,
    List.getD_eq_getElem?_getD, List.getElem?_eq_getElem hb, Option.getD_some]

/-- Bytes that a write does not reach are as they were. -/
theorem Memory.read_write_of_disjoint {m : List Host.Cell} {k a n : Nat} {bs : List Byte} (hm : Memory.wf m = true)
    (h : a + n ≤ k ∨ k + bs.length ≤ a) : Memory.read (Memory.write m k bs) a n = Memory.read m a n := by
  rw [Memory.read_eq_map, Memory.read_eq_map]
  refine List.map_congr_left (fun i hi => ?_)
  rw [Memory.get_write k bs _ hm, if_neg (by have := List.mem_range.mp hi; omega)]

section
variable {s : State} {sp sq : MemSpace} {r q : TileRef} {off pos : Nat} {w : Word}

theorem State.readWord_writeWord (hm : Memory.wf s.mem = true) : (s.writeWord sp r off w).readWord sp r off = w := by
  have h := Memory.read_write (memKey sp r off) (wordBytes w) hm
  rw [length_wordBytes] at h
  rw [State.readWord, State.readBytes, State.writeWord, State.writeBytes_mem, h, bytesWord_wordBytes]

theorem State.readWord_writeBytes_of_disjoint {bs : List Byte} (hm : Memory.wf s.mem = true)
    (h : memKey sq q pos + 8 ≤ memKey sp r off ∨ memKey sp r off + bs.length ≤ memKey sq q pos) :
    (s.writeBytes sp r off bs).readWord sq q pos = s.readWord sq q pos := by
  rw [State.readWord, State.readBytes, State.writeBytes_mem, Memory.read_write_of_disjoint hm h]
  rfl

end

/-! The frame -/

section
variable {s : State} {r : CtxRef} {off pos : Nat} {w : Word}

theorem State.wf_setFrameWord (hm : Memory.wf s.mem = true) : Memory.wf (s.setFrameWord r off w).mem = true := Memory.wf_write _ _ hm

/-- A frame is where it was when its tile has as many slots. -/
theorem State.frameWord_congr {t : State} (hm : t.mem = s.mem) (hs : (t.tile (tileOf r)).slots = (s.tile (tileOf r)).slots) :
    t.frameWord r off = s.frameWord r off := by
  simp only [State.frameWord, State.readWord, State.readBytes, Tile.frameOff, Tile.spillShare, Tile.nsl, hm, hs]

@[simp] theorem State.frameWord_modCtx (f : Ctx → Ctx) : (s.modCtx r f).frameWord r off = s.frameWord r off :=
  State.frameWord_congr rfl (by rw [State.tile_modCtx, Tile.slots_modCtx])

theorem State.frameWord_setFrameWord (hm : Memory.wf s.mem = true) : (s.setFrameWord r off w).frameWord r off = w :=
  State.readWord_writeWord hm

theorem State.frameWord_setFrameWord_of_disjoint (hm : Memory.wf s.mem = true) (h : pos + 8 ≤ off ∨ off + 8 ≤ pos) :
    (s.setFrameWord r off w).frameWord r pos = s.frameWord r pos := by
  refine State.readWord_writeBytes_of_disjoint hm ?_
  simp only [State.setFrameWord, State.tile_writeWord, memKey, Tile.frameOff, length_wordBytes]
  omega

/-- A write of SRAM leaves the frame, which stands in spill memory. -/
theorem State.frameWord_writeBytes_sram {bs : List Byte} (hm : Memory.wf s.mem = true) (hb : pos + bs.length ≤ 2 ^ 45) :
    (s.writeBytes .sram (tileOf r) pos bs).frameWord r off = s.frameWord r off := by
  refine State.readWord_writeBytes_of_disjoint hm (Or.inr ?_)
  simp only [memKey, MemSpace.code]
  omega

end

end Sys2Proof.Machine
end

section
/-! The return from a trap (O7): the frame that is restored (R194, R196), and the deferred trap that is taken (R186). -/

namespace Sys2Proof.Machine

/-! Records of the frame -/

/-- The records of a frame in the order of one cycle differ from those read in their marks alone. -/
theorem exists_mark_mem_orderedAgain {x : Record} {xs : List Record} (h : x ∈ xs) :
    ∀ lates, ∃ m, { x with mark := m } ∈ orderedAgain lates xs := by
  induction xs with
  | nil => exact absurd h List.not_mem_nil
  | cons y ys ih =>
    intro lates
    rw [orderedAgain]
    rcases List.mem_cons.mp h with rfl | h
    · split
      · exact ⟨x.mark, List.mem_cons_self ..⟩
      · exact ⟨_, List.mem_cons_self ..⟩
    · split
      · exact (ih h _).imp fun _ hm => List.mem_cons_of_mem _ hm
      · exact (ih h _).imp fun _ hm => List.mem_cons_of_mem _ hm

/-- Kinds 0x3, 0x5 and 0x6 are issued again (R196). -/
theorem contains_kind_eq {v : Nat} (h : v < 16) :
    [3, 5, 6].contains v = (BitVec.ofNat 4 v == 3 || BitVec.ofNat 4 v == 5 || BitVec.ofNat 4 v == 6) := by
  have : ∀ v : Fin 16, [3, 5, 6].contains v.val = (BitVec.ofNat 4 v.val == 3 || BitVec.ofNat 4 v.val == 5 || BitVec.ofNat 4 v.val == 6) := by
    decide
  exact this ⟨v, h⟩

/-- What a record holds of the two dwords of one of the frame's first 20 places (Table 6.4). -/
def Record.Holds (x : Record) (i : Nat) (w v : Word) : Prop :=
  x.seq = i ∧ x.kind.toNat = wfld w 60 4 ∧ x.file.toNat = wfld w 58 2 ∧ x.reg.toNat = wfld w 53 5 ∧ x.sup = w.getLsbD 52 ∧
    x.due = wfld w 42 10 ∧ x.aux.toNat = wfld w 32 8 ∧ x.value = v

theorem toNat_ofNat_wfld (w : Word) (lo n : Nat) : (BitVec.ofNat n (wfld w lo n)).toNat = wfld w lo n :=
  (BitVec.toNat_ofNat ..).trans (Nat.mod_eq_of_lt (wfld_lt w lo n))

section
variable {s : State} {r : CtxRef}

theorem State.readRecord_holds {i : Nat} (hi : i < 20) :
    (s.readRecord r i).Holds i (s.frameWord r (0xC0 + 16 * i)) (s.frameWord r (0xC8 + 16 * i)) := by
  have hv : s.frameWord r (0xC8 + 16 * i) =
      s.readWord .spill (tileOf r) ((s.tile (tileOf r)).frameOff r.slot (0xC0 + 16 * i) + 8) := by
    rw [State.frameWord, Tile.frameOff, Tile.frameOff]
    exact congrArg _ (by omega)
  have hw : s.frameWord r (0xC0 + 16 * i) = s.readWord .spill (tileOf r) ((s.tile (tileOf r)).frameOff r.slot (0xC0 + 16 * i)) := rfl
  simp only [State.readRecord, recordPlace, if_pos hi, Record.Holds, toNat_ofNat_wfld, hv, hw, and_self]

/-! The restore -/

/-- The four latches of a file that a frame holds: their words from `off` on, their valid bits from `bit` on (Table 6.3). -/
def State.frameLatch (s : State) (r : CtxRef) (off bit : Nat) : List (Option Word) :=
  (List.range 4).map (fun k => if (s.frameWord r 0).getLsbD (bit + k) then some (s.frameWord r (off + 8 * k)) else none)

variable (hk : r.slot < 8) (rpc : BitVec 12)
include hk

theorem State.restoreFrame_latches : let x := (s.restoreFrame r rpc).ctx r
    x.lc = #v[s.frameWord r 0x40, s.frameWord r 0x48, s.frameWord r 0x50, s.frameWord r 0x58] ∧
      x.qa.toList = s.frameLatch r 0x60 16 ∧ x.qm.toList = s.frameLatch r 0x80 24 ∧ x.qe.toList = s.frameLatch r 0xA0 28 ∧
      x.qv.toList = (List.range 4).map (fun k => if (s.frameWord r 0).getLsbD (20 + k) then
        some (bytesVec (s.readBytes .sram (tileOf r) (extBase r.slot + 128 * k) 128)) else none) := by
  rw [State.restoreFrame, State.ctx_modCtx _ _ hk]
  exact ⟨rfl, rfl, rfl, rfl, rfl⟩

/-- Each of the first 20 records is to complete as the frame holds it, or to be issued again. -/
theorem State.restoreFrame_records {i : Nat} (hi : i < wfld (s.frameWord r 0) 40 8) (h20 : i < 20) :
    ∃ x ∈ (if [3, 5, 6].contains (wfld (s.frameWord r (0xC0 + 16 * i)) 60 4) then ((s.restoreFrame r rpc).ctx r).reissue
      else ((s.restoreFrame r rpc).ctx r).capture), x.Holds i (s.frameWord r (0xC0 + 16 * i)) (s.frameWord r (0xC8 + 16 * i)) := by
  have hx := s.readRecord_holds (r := r) h20
  have ⟨_, hw, _⟩ := hx
  have hkind : (s.readRecord r i).kind = BitVec.ofNat 4 (wfld (s.frameWord r (0xC0 + 16 * i)) 60 4) := by
    rw [← hw, BitVec.ofNat_toNat, BitVec.setWidth_eq]
  rw [contains_kind_eq (wfld_lt ..), ← hkind]
  obtain ⟨m, hm⟩ := exists_mark_mem_orderedAgain (List.mem_map_of_mem (f := s.readRecord r) (List.mem_range.mpr hi)) []
  rw [State.restoreFrame, State.ctx_modCtx _ _ hk]
  split
  next hr =>
    refine ⟨_, List.mem_map_of_mem (List.mem_filter.mpr ⟨hm, hr⟩), ?_⟩
    dsimp only
    split <;> exact hx
  next hc => exact ⟨_, List.mem_filter.mpr ⟨hm, by simpa using hc⟩, hx⟩

/-- The handler's own results push no latch entry (R26). -/
theorem State.restoreFrame_silent : ∀ x ∈ ((s.restoreFrame r rpc).ctx r).results, x.pushes = false := by
  rw [State.restoreFrame, State.ctx_modCtx _ _ hk]
  intro x hx
  obtain ⟨y, _, rfl⟩ := List.mem_map.mp (List.mem_filter.mp hx).1
  rfl

theorem State.restoreFrame_rest : let x := (s.restoreFrame r rpc).ctx r
    x.pc = rpc ∧ x.returning = some ((s.tile (tileOf r)).core, (s.tile (tileOf r)).wall + 8 + wfld (s.frameWord r 0) 40 8
        + 4 * wfld (s.frameWord r 0) 32 8) ∧
      x.a = (s.ctx r).a ∧ x.m = (s.ctx r).m ∧ x.e = (s.ctx r).e ∧ x.v = (s.ctx r).v ∧ x.xstat = (s.ctx r).xstat := by
  rw [State.restoreFrame, State.ctx_modCtx _ _ hk]
  generalize s.ctx r = c
  exact ⟨rfl, rfl, rfl, rfl, rfl, rfl, rfl⟩

end

/-! The deferred trap -/

/-- The handler of a trap by whether it is delegated: its entry and its level (R191). -/
theorem handlerOf_eq (xvec : Word) (cause : Cause) (lvl : Nat) {deleg : Prop} [Decidable deleg]
    (h : deleg ↔ lvl = 0 ∧ cause.code / 16 ≠ 6 ∧ cause.code / 16 ≠ 7 ∧ cause.code / 16 ≠ 8 ∧
      xvec.getLsbD (48 + cause.code / 16) = true) :
    handlerOf xvec cause lvl = (BitVec.ofNat 12 (wfld xvec (if deleg then 16 else 0) 12), if deleg then 1 else 2) := by
  by_cases hd : deleg
  · rw [if_pos hd, if_pos hd]
    exact if_pos (h.mp hd)
  · rw [if_neg hd, if_neg hd]
    exact if_neg (mt h.mpr hd)

section
variable {s : State} {r : CtxRef}

theorem State.ctx_nextDeferred (hk : r.slot < 8) :
    (s.nextDeferred r).ctx r = { s.ctx r with deferSeq := (s.ctx r).deferSeq.drop 1 } := by
  have h := State.ctx_modCtx s (c := r) (fun c => { c with deferSeq := (s.ctx r).deferSeq.drop 1 }) hk
  unfold State.nextDeferred
  dsimp only
  split <;> exact h

/-- Without a further item the frame holds no deferred trap any more (R186). -/
theorem State.nextDeferred_last (hm : Memory.wf s.mem = true) (hn : wfld (s.frameWord r 0) 8 8 = 0) :
    (s.nextDeferred r).frameWord r 0 = setFld (s.frameWord r 0) 52 1 0 := by
  unfold State.nextDeferred
  dsimp only
  rw [if_pos hn]
  exact State.frameWord_setFrameWord (s := s.modCtx r _) hm

/-- The next item of the further list becomes the deferred record (R186). -/
theorem State.nextDeferred_further (hm : Memory.wf s.mem = true) (hn : wfld (s.frameWord r 0) 8 8 ≠ 0) (hk : r.slot < 8) :
    let t := s.nextDeferred r
    t.frameWord r 0 = setFld (s.frameWord r 0) 8 8 (wfld (s.frameWord r 0) 8 8 - 1) ∧ t.frameWord r 0x30 = 0 ∧
      t.frameWord r 0x20 = s.readWord .sram (tileOf r) (extBase r.slot + 0xE00) ∧
      t.frameWord r 0x28 = s.readWord .sram (tileOf r) (extBase r.slot + 0xE08) := by
  have hlt := wfld_lt (s.frameWord r 0) 8 8
  unfold State.nextDeferred
  dsimp only
  rw [if_neg hn]
  generalize hs0 : s.modCtx r (fun c => { c with deferSeq := (s.ctx r).deferSeq.drop 1 }) = s0
  have hm0 : Memory.wf s0.mem = true := hs0 ▸ hm
  have hm1 := State.wf_setFrameWord (r := r) (off := 0x20) (w := s.readWord .sram (tileOf r) (extBase r.slot + 0xE00)) hm0
  have hm2 := State.wf_setFrameWord (r := r) (off := 0x28) (w := s.readWord .sram (tileOf r) (extBase r.slot + 0xE00 + 8)) hm1
  have hm3 := State.wf_setFrameWord (r := r) (off := 0x30) (w := 0) hm2
  have hm4 := State.wf_setFrameWord (r := r) (off := 0)
    (w := setFld (s.frameWord r 0) 8 8 (wfld (s.frameWord r 0) 8 8 - 1)) hm3
  have hlen : extBase r.slot + 0xE00 + (s.readBytes .sram (tileOf r) (extBase r.slot + 0xE00 + 16)
      (16 * (wfld (s.frameWord r 0) 8 8 - 1))).length ≤ 2 ^ 45 := by
    rw [State.readBytes, Memory.length_read, extBase]
    omega
  refine ⟨?_, ?_, ?_, ?_⟩ <;> rw [State.frameWord_writeBytes_sram hm4 hlen]
  · exact State.frameWord_setFrameWord hm3
  · rw [State.frameWord_setFrameWord_of_disjoint hm3 (by decide), State.frameWord_setFrameWord hm2]
  · rw [State.frameWord_setFrameWord_of_disjoint hm3 (by decide), State.frameWord_setFrameWord_of_disjoint hm2 (by decide),
      State.frameWord_setFrameWord_of_disjoint hm1 (by decide), State.frameWord_setFrameWord hm0]
  · rw [State.frameWord_setFrameWord_of_disjoint hm3 (by decide), State.frameWord_setFrameWord_of_disjoint hm2 (by decide),
      State.frameWord_setFrameWord hm1]

/-- The context as it takes the deferred trap of its frame (R186). -/
theorem State.takeDeferred_rest (hk : r.slot < 8) : let x := (s.takeDeferred r).ctx r
    let d := s.frameWord r 0x20
    let h := handlerOf (s.ctx r).xvec (Cause.ofCode (wfld d 56 8)) (wfld (s.ctx r).xstat 4 2)
    x.xcause = BitVec.ofNat 64 (wfld d 48 2 * 2 ^ 12 + wfld d 53 3 * 2 ^ 8 + wfld d 56 8) ∧
      x.xpc = setFld (s.ctx r).xpc 16 12 (wfld d 0 12) ∧ x.xaddr = s.frameWord r 0x28 ∧ x.xprog = s.frameWord r 0x30 ∧
      x.xstat = setFld (s.ctx r).xstat 0 2 h.2 ∧ x.pc = h.1 ∧ (∀ y ∈ x.results, y.pushes = false) ∧ x.qa = Vector.replicate 4 none ∧
      x.lc = (s.ctx r).lc ∧ x.a = (s.ctx r).a ∧ x.m = (s.ctx r).m ∧ x.e = (s.ctx r).e ∧ x.v = (s.ctx r).v := by
  unfold State.takeDeferred
  dsimp only
  rw [State.ctx_nextDeferred hk, State.ctx_modCtx _ _ hk, State.ctx_modCtx _ _ hk]
  refine ⟨rfl, rfl, rfl, rfl, rfl, rfl, fun y hy => ?_, rfl, rfl, rfl, rfl, rfl, rfl⟩
  obtain ⟨z, _, rfl⟩ := List.mem_map.mp hy
  rfl

/-- A deferred trap that is taken leaves memory but for its move up from the further list. -/
theorem State.takeDeferred_eq (s : State) (r : CtxRef) : ∃ u : State, s.takeDeferred r = u.nextDeferred r ∧ u.mem = s.mem ∧
    ∀ off, u.frameWord r off = s.frameWord r off := by
  unfold State.takeDeferred
  exact ⟨_, rfl, rfl, fun _ => (State.frameWord_modCtx _).trans (State.frameWord_modCtx _)⟩

/-- The frame as it takes its deferred trap: the next item of the further list, if there is one, is its deferred record (R186). -/
theorem State.takeDeferred_frame (hm : Memory.wf s.mem = true) (hk : r.slot < 8) (hd : (s.frameWord r 0).getLsbD 52 = true) :
    let t := s.takeDeferred r
    let n := wfld (s.frameWord r 0) 8 8
    (t.frameWord r 0).getLsbD 52 = decide (0 < n) ∧
      (0 < n → wfld (t.frameWord r 0) 8 8 = n - 1 ∧ t.frameWord r 0x30 = 0 ∧
        t.frameWord r 0x20 = s.readWord .sram (tileOf r) (extBase r.slot + 0xE00) ∧
        t.frameWord r 0x28 = s.readWord .sram (tileOf r) (extBase r.slot + 0xE08)) := by
  obtain ⟨u, hu, hmem, hf⟩ := s.takeDeferred_eq r
  have hread : ∀ off, u.readWord .sram (tileOf r) off = s.readWord .sram (tileOf r) off := fun off => by
    rw [State.readWord, State.readBytes, hmem]
    rfl
  intro t n
  have hlt : n < 2 ^ 8 := wfld_lt ..
  have hmu : Memory.wf u.mem = true := hmem ▸ hm
  rcases Nat.eq_zero_or_pos n with hn | hn
  · have h0 : t.frameWord r 0 = setFld (s.frameWord r 0) 52 1 0 := by
      rw [show t = u.nextDeferred r from hu, State.nextDeferred_last hmu (by rw [hf]; exact hn), hf]
    rw [h0, getLsbD_setFld (by decide), hn]
    exact ⟨rfl, fun h => absurd h (Nat.lt_irrefl 0)⟩
  · obtain ⟨h0, h30, h20, h28⟩ := State.nextDeferred_further hmu (by rw [hf]; exact Nat.ne_of_gt hn) hk
    rw [← hu, hf] at h0
    rw [← hu] at h30 h20 h28
    refine ⟨?_, fun _ => ⟨?_, h30, h20.trans (hread _), h28.trans (hread _)⟩⟩
    · rw [h0, getLsbD_setFld (by decide), if_neg (by decide), hd, decide_eq_true hn]
    · rw [h0, wfld_setFld (by decide) (by omega)]

/-! The return -/

/-- Without a deferred trap the frame is restored, and the status is the interrupted level's (R196). -/
theorem State.ctx_trapReturn_restores (hk : r.slot < 8) (hd : (s.frameWord r 0).getLsbD 52 = false) : (s.trapReturn r).ctx r =
    { (s.restoreFrame r (BitVec.ofNat 12 (wfld (s.ctx r).xpc 0 12))).ctx r with
      xstat := BitVec.ofNat 64 (wfld (s.ctx r).xstat 4 2 * 17) } := by
  obtain ⟨_, _, _, _, _, _, hx⟩ := s.restoreFrame_rest hk (BitVec.ofNat 12 (wfld (s.ctx r).xpc 0 12))
  rw [State.trapReturn, hd, if_neg Bool.false_ne_true, State.ctx_modCtx _ _ hk, hx]

theorem State.mem_trapReturn_restores (hd : (s.frameWord r 0).getLsbD 52 = false) : (s.trapReturn r).mem = s.mem := by
  rw [State.trapReturn, hd, if_neg Bool.false_ne_true]
  rfl

theorem State.trapReturn_defers (hd : (s.frameWord r 0).getLsbD 52 = true) : s.trapReturn r = s.takeDeferred r := if_pos hd

end

/-- The low field of a word is its low bits. -/
theorem ofNat_wfld_zero (w : Word) (n : Nat) : BitVec.ofNat n (wfld w 0 n) = w.extractLsb' 0 n := by
  apply BitVec.eq_of_toNat_eq
  simp [wfld, fld]

/-- The status a return leaves has the interrupted level and no live frame (R196). -/
theorem level_of_restored {p : Nat} (h : p < 4) : wfld (BitVec.ofNat 64 (p * 17)) 0 2 = p ∧ (BitVec.ofNat 64 (p * 17)).getLsbD 7 = false := by
  have : ∀ p : Fin 4, wfld (BitVec.ofNat 64 (p.val * 17)) 0 2 = p.val ∧ (BitVec.ofNat 64 (p.val * 17)).getLsbD 7 = false := by decide
  exact this ⟨p, h⟩

end Sys2Proof.Machine

namespace Sys2Proof.Laws

open Sys2Proof.Machine

section
variable {g : Guard} {s : State}

/-- The state after a `TRET` that returns from the trap of its context. -/
def afterTret (s : State) : State := { s.trapReturn s.me with issue := { (s.trapReturn s.me).issue with tret := true } }

@[simp] theorem ctx_afterTret (c : CtxRef) : (afterTret s).ctx c = (s.trapReturn s.me).ctx c := rfl
@[simp] theorem mem_afterTret : (afterTret s).mem = (s.trapReturn s.me).mem := rfl
@[simp] theorem frameWord_afterTret (c : CtxRef) (off : Nat) : (afterTret s).frameWord c off = (s.trapReturn s.me).frameWord c off := rfl

/-- `TRET` above level 0 returns from the trap of its context. -/
theorem execTret_runs (h : Runs s g false (s.cur.level ≠ 0)) : execTret g s = .next (afterTret s) :=
  runOp_runs h (fun hl => ⟨rfl, if_neg hl, rfl, rfl, fun ht => Bool.noConfusion ht⟩) rfl

/-- At level 0 it is `PRIV` (R138). -/
theorem execTret_traps (hm : s.issue.mode = .direct) (hg : s.cur.guard g = true) (hp : s.cur.poisonRd = false) (hl : s.cur.level = 0) :
    execTret g s = .next (s.issueTrap ⟨2, .a, .priv, 0⟩) :=
  runOp_traps hm (opFailure_priv hg (by simp [hp]) rfl (if_pos hl))

end

/-- Settles O7: a frame without a deferred trap is restored; of one with a deferred trap, the handler is that of the interrupted level
and the further list moves up. -/
theorem trapReturn : Obligations.TrapReturn := by
  unfold Obligations.TrapReturn
  intro s g
  dsimp only
  refine ⟨fun hr hk hd => ⟨afterTret s, (exec_tret s).trans (execTret_runs hr), rfl, ?_⟩,
    fun hr hk hd => ⟨afterTret s, (exec_tret s).trans (execTret_runs hr), rfl, ?_⟩,
    fun hm hg hp hl => (exec_tret s).trans (execTret_traps hm hg hp hl)⟩
  · let rpc : BitVec 12 := BitVec.ofNat 12 (wfld (s.ctx s.me).xpc 0 12)
    obtain ⟨hlc, hqa, hqm, hqe, hqv⟩ := s.restoreFrame_latches hk rpc
    obtain ⟨hpc, hret, ha, hm, he, hv, _⟩ := s.restoreFrame_rest hk rpc
    obtain ⟨hlev, htf⟩ := level_of_restored (wfld_lt (s.ctx s.me).xstat 4 2)
    simp only [ctx_afterTret, mem_afterTret, State.ctx_trapReturn_restores hk hd, State.mem_trapReturn_restores hd]
    exact ⟨hpc.trans (ofNat_wfld_zero ..), hlev, htf, hlc, hqa, hqm, hqe, hqv, fun i hi h20 => s.restoreFrame_records hk rpc hi h20, hret,
      s.restoreFrame_silent hk rpc, ha, hm, he, hv, trivial⟩
  · obtain ⟨hcause, hxpc, hxaddr, hxprog, hxstat, hpc, hsil, hqa, hlc, ha, hm, he, hv⟩ := s.takeDeferred_rest hk
    have hframe := fun hw => s.takeDeferred_frame hw hk hd
    simp only [ctx_afterTret, frameWord_afterTret, State.trapReturn_defers hd]
    rw [handlerOf_eq _ _ _ Iff.rfl] at hxstat hpc
    exact ⟨hcause, hxpc, hxaddr, hxprog, hxstat, hpc, fun hw => (hframe hw).1, fun hw => (hframe hw).2, hsil, hqa, hlc, ha, hm, he, hv⟩

end Sys2Proof.Laws
end

section
/-! What the lanes of a V operation read as (R143, R149): signed values, wrapped and saturated results. -/

namespace Sys2Proof.Machine

/-- The signed value of a lane is that of its low bits. -/
theorem slane_eq (lw x : Nat) : slane lw x = (BitVec.ofNat lw x).toInt := by
  have hlt : x % 2 ^ lw < 2 ^ lw := Nat.mod_lt _ (Nat.two_pow_pos lw)
  rw [BitVec.toInt_eq_toNat_cond]
  simp only [slane, sfld, fld, Nat.shiftRight_zero, BitVec.toNat_ofNat]
  cases lw with
  | zero => simp [Nat.mod_one]
  | succ n =>
    have hp : 2 ^ (n + 1) = 2 * 2 ^ n := Nat.pow_succ'
    rw [Nat.add_sub_cancel]
    push_cast
    split <;> split <;> omega

theorem wrapInt_eq (n : Nat) (x : Int) : wrapInt n x = (x % 2 ^ n).toNat := by
  rw [wrapInt, Nat.cast_pow]
  rfl

/-- A number that fits is not changed. -/
theorem wrapInt_natCast {n x : Nat} (h : x < 2 ^ n) : wrapInt n x = x := by
  rw [wrapInt, ← Int.natCast_emod, Int.toNat_natCast, Nat.mod_eq_of_lt h]

theorem intMin_true (n : Nat) : intMin true n = -(2 ^ (n - 1)) := by simp [intMin]

theorem intMax_true (n : Nat) : intMax true n = 2 ^ (n - 1) - 1 := by simp [intMax]

/-- The least signed number is the lane whose sign bit alone is set. -/
theorem wrapInt_intMin {n : Nat} (h : 0 < n) : wrapInt n (intMin true n) = 2 ^ (n - 1) := by
  have hpos := Nat.two_pow_pos (n - 1)
  rw [intMin, if_pos rfl, wrapInt, ← Int.add_mul_emod_self_right _ 1, one_mul, ← Nat.two_pow_pred_add_two_pow_pred h, Nat.cast_add,
    neg_add_cancel_left]
  norm_cast
  exact Nat.mod_eq_of_lt (by omega)

theorem wrapInt_intMax_true (n : Nat) : wrapInt n (intMax true n) = 2 ^ (n - 1) - 1 := by
  have hle : 2 ^ (n - 1) ≤ 2 ^ n := Nat.pow_le_pow_right (by decide) (Nat.sub_le ..)
  have hpos := Nat.two_pow_pos (n - 1)
  rw [intMax, if_pos rfl, ← Nat.cast_pred hpos, wrapInt_natCast (by omega)]

theorem wrapInt_intMax_false (n : Nat) : wrapInt n (intMax false n) = 2 ^ n - 1 := by
  have hpos := Nat.two_pow_pos n
  rw [intMax, if_neg Bool.false_ne_true, ← Nat.cast_pred hpos, wrapInt_natCast (by omega)]

/-- A saturating form gives the nearest end of its range, with SA, where the exact result lies beyond it (R149). -/
theorem satLane_eq {lw : Nat} (h : 0 < lw) (m : SatMode) (e eu : Int) : satLane lw m e eu = match m with
    | .wrap => ((e % 2 ^ lw).toNat, 0)
    | .sat =>
      if e < -(2 ^ (lw - 1)) then (2 ^ (lw - 1), flagSA)
      else if 2 ^ (lw - 1) ≤ e then (2 ^ (lw - 1) - 1, flagSA) else ((e % 2 ^ lw).toNat, 0)
    | .usat => if eu < 0 then (0, flagSA) else if 2 ^ lw ≤ eu then (2 ^ lw - 1, flagSA) else (eu.toNat, 0) := by
  cases m with
  | wrap => rw [satLane, wrapInt_eq]
  | sat =>
    have hmin : e < intMin true lw ↔ e < -(2 ^ (lw - 1)) := by rw [intMin_true]
    have hmax : intMax true lw < e ↔ 2 ^ (lw - 1) ≤ e := by rw [intMax_true, Int.sub_one_lt_iff]
    simp only [satLane, wrapInt_intMin h, wrapInt_intMax_true, hmin, hmax, wrapInt_eq lw e]
  | usat =>
    have hmax : intMax false lw < eu ↔ 2 ^ lw ≤ eu := by simp [intMax]
    simp only [satLane, wrapInt_intMax_false, hmax]
    split_ifs with h0 h1
    · rfl
    · rfl
    · rw [wrapInt_eq, Int.emod_eq_of_lt (Int.not_lt.mp h0) (Int.not_le.mp h1)]

/-! Lane operations of Table 5.2 -/

theorem laneMulh_eq (lw x y : Nat) :
    laneMulh lw x y = ((BitVec.ofNat lw x).toInt * (BitVec.ofNat lw y).toInt / 2 ^ lw % 2 ^ lw).toNat := by
  rw [laneMulh, wrapInt_eq, slane_eq, slane_eq]

theorem laneShl_eq (lw x n : Nat) : laneShl lw x n = x * 2 ^ (n % lw) := Nat.shiftLeft_eq ..

theorem laneShr_eq (lw x n : Nat) : laneShr lw x n = x / 2 ^ (n % lw) := Nat.shiftRight_eq_div_pow ..

theorem laneSar_eq (lw x n : Nat) : laneSar lw x n = ((BitVec.ofNat lw x).toInt / 2 ^ (n % lw) % 2 ^ lw).toNat := by
  rw [laneSar, wrapInt_eq, slane_eq, Int.shiftRight_eq_div_pow]
  norm_cast

theorem laneMin_eq (lw x y : Nat) : laneMin lw x y = if (BitVec.ofNat lw x).toInt < (BitVec.ofNat lw y).toInt then x else y := by
  rw [laneMin, slane_eq, slane_eq]

theorem laneMax_eq (lw x y : Nat) : laneMax lw x y = if (BitVec.ofNat lw x).toInt < (BitVec.ofNat lw y).toInt then y else x := by
  rw [laneMax, slane_eq, slane_eq]

theorem laneAbs_eq (lw x : Nat) : laneAbs lw x = (BitVec.ofNat lw x).toInt.natAbs % 2 ^ lw := by
  rw [laneAbs, slane_eq, wrapInt, ← Int.natCast_emod, Int.toNat_natCast]

theorem laneNeg_eq (lw x : Nat) : laneNeg lw x = (-(BitVec.ofNat lw x).toInt % 2 ^ lw).toNat := by
  rw [laneNeg, wrapInt_eq, slane_eq]

/-- An integer condition holds as it is read of the lanes (Table 3.5). -/
theorem condLane_eq (lw : Nat) (c : ICond) (x y : Nat) : condLane lw c x y = match c with
    | .eq => decide (x = y)
    | .ne => decide (x ≠ y)
    | .lt => decide ((BitVec.ofNat lw x).toInt < (BitVec.ofNat lw y).toInt)
    | .ge => decide ((BitVec.ofNat lw y).toInt ≤ (BitVec.ofNat lw x).toInt)
    | .ltu => decide (x < y)
    | .geu => decide (y ≤ x) := by
  cases c with
  | eq => rfl
  | ne => simp [condLane, bne, beq_eq_decide]
  | lt => simp only [condLane, slane_eq]
  | ge => simp only [condLane, slane_eq]
  | ltu => rfl
  | geu => rfl

theorem bits_pos (w : LaneW) : 0 < w.bits := by cases w <;> decide

end Sys2Proof.Machine
end

section
/-! How the operations of the V slot run (R143 to R148, R181): the effect of each of its shared forms where its checks pass. -/

namespace Sys2Proof.Laws

open Sys2Proof.Machine

variable {s : State} {g : Guard} {d : Dst} {a b : Src} {lat lw nan : Nat} {u : Bool} {cb : Option Word} {ok : Prop}

/-- A V operation has its effect where its mask and sources are set, no codebook entry stops it and its own check passes. -/
theorem runOp_own_vruns {k : State → Checks} {eff : State → State} {own : Option (Cause × Word)} (h : VRuns s g u cb ok)
    (hk : k s = (s.vchecks u cb).withOwn own) (ho : ok → own = none) : runOp .v g k eff s = .next (eff s) :=
  runOp_runs h (fun hok => by rw [hk]; exact ⟨rfl, rfl, hok.1, ho hok.2, fun ht => Bool.noConfusion ht⟩) (by rw [hk]; rfl)

/-- One without a check of its own. -/
theorem runOp_vruns {k : State → Checks} {eff : State → State} (h : VRuns s g u cb ok) (hk : k s = s.vchecks u cb) :
    runOp .v g k eff s = .next (eff s) :=
  runOp_own_vruns (own := none) h hk (fun _ => rfl)

theorem runV1_runs {pops : Bool} {f : State → VReg → List (Option Nat) × BitVec 7} (h : VRuns1 s g a lw nan) :
    runV1 g d a lat lw nan pops f s =
      .next (let x := s.vread 1 a lw nan (s.active lw)
        (s.vresult lat d lw (f s x.1) x.2.1).popIf (pops && s.xvRm == 4)) :=
  runOp_vruns h rfl

theorem runV2_runs {pops : Bool} {f : State → VReg → VReg → List (Option Nat) × BitVec 7} (h : VRuns2 s g a b lw nan) :
    runV2 g d a b lat lw nan pops f s =
      .next (let x := s.vread 1 a lw nan (s.active lw)
        let y := s.vread 2 b lw nan (s.active lw)
        (s.vresult lat d lw (f s x.1 y.1) (x.2.1 || y.2.1)).popIf (pops && s.xvRm == 4)) :=
  runOp_vruns h rfl

/-- An operation that gives each active lane its value from one source. -/
theorem runV1_lanewise {f : State → VReg → List (Option Nat) × BitVec 7} {op : Nat → VReg → Nat × BitVec 7}
    (hf : ∀ x, f s x = overLanes (1024 / lw) (s.active lw) (fun i => op i x)) (h : VRuns1 s g a lw nan) :
    runV1 g d a lat lw nan false f s = .next (lanewise1 s d a lat lw op nan) :=
  (runV1_runs h).trans (congrArg Host.Outcome.next (congrArg (s.vresult lat d lw · _) (hf _)))

/-- An operation on each lane of one source, and of two. -/
theorem runV1_lanes {f : Nat → Nat × BitVec 7} {op : Nat → VReg → Nat × BitVec 7} (hf : ∀ i x, f (lane lw x i) = op i x)
    (h : VRuns1 s g a lw nan) : runV1 g d a lat lw nan false (lanes1 lw f) s = .next (lanewise1 s d a lat lw op nan) :=
  runV1_lanewise (fun x => congrArg (overLanes _ _) (funext fun i => hf i x)) h

theorem runV2_lanes {f f' : Nat → Nat → Nat × BitVec 7} (hf : ∀ x y, f x y = f' x y) (h : VRuns2 s g a b lw nan) :
    runV2 g d a b lat lw nan false (lanes2 lw f) s = .next (lanewise2 s d a b lat lw (fun _ => f') nan) := by
  obtain rfl : f = f' := funext₂ hf
  exact runV2_runs h

/-- By the values of the lanes alone. -/
theorem runV1_quiet {f : Nat → Nat} {op : Nat → VReg → Nat} (hf : ∀ i x, f (lane lw x i) = op i x) (h : VRuns1 s g a lw nan) :
    runV1 g d a lat lw nan false (lanes1 lw (fun x => (f x, 0))) s = .next (lanewise1 s d a lat lw (fun i x => (op i x, 0)) nan) :=
  runV1_lanes (fun i x => Prod.ext (hf i x) rfl) h

theorem runV2_quiet {f f' : Nat → Nat → Nat} (hf : ∀ x y, f x y = f' x y) (h : VRuns2 s g a b lw nan) :
    runV2 g d a b lat lw nan false (lanes2 lw (quiet f)) s = .next (lanewise2 s d a b lat lw (fun _ x y => (f' x y, 0)) nan) :=
  runV2_lanes (fun x y => Prod.ext (hf x y) rfl) h

/-- Settles O8: each operation runs lane by lane as its shared form does, on the lane its definition has. -/
theorem vectorIntegerLanes : Obligations.VectorIntegerLanes := by
  unfold Obligations.VectorIntegerLanes
  refine ⟨fun s g d a b w m => ?_, fun s g d a b w c => ?_⟩
  · intro lw sg deliver does
    have hsat : ∀ e eu, satLane lw m e eu = deliver e eu := satLane_eq (bits_pos w) m
    have hadd : ∀ x y, laneAdd lw m x y = deliver (sg x + sg y) (x + y) := fun x y => by rw [laneAdd, hsat, slane_eq, slane_eq]
    have hsub : ∀ x y, laneSub lw m x y = deliver (sg x - sg y) (x - y) := fun x y => by rw [laneSub, hsat, slane_eq, slane_eq]
    exact ⟨runV2_lanes hadd, runV2_lanes hsub, runV2_quiet fun _ _ => rfl, runV2_quiet (laneMulh_eq lw), runV2_quiet fun _ _ => rfl,
      runV2_quiet (laneShl_eq lw), runV2_quiet (laneShr_eq lw), runV2_quiet (laneSar_eq lw), runV2_quiet (laneMin_eq lw),
      runV2_quiet (laneMax_eq lw), runV2_quiet fun _ _ => rfl, runV2_quiet fun _ _ => rfl⟩
  · intro lw sg does2 does1
    exact ⟨runV2_quiet fun _ _ => rfl, runV2_quiet fun _ _ => rfl, runV2_quiet fun _ _ => rfl, runV1_quiet fun _ _ => rfl,
      runV1_quiet fun _ _ => rfl, runV1_quiet fun _ _ => laneSar_eq .., runV1_quiet fun _ _ => laneAbs_eq ..,
      runV1_quiet fun _ _ => laneNeg_eq ..⟩

end Sys2Proof.Laws
end

section
/-! Compares, selection and the movement of lanes (R150 to R154, R163). -/

namespace Sys2Proof.Laws

open Sys2Proof.Machine

variable {s : State} {g : Guard} {d : Dst} {a b : Src} {lw nan : Nat}

/-- A compare writes one result for each active lane (R150). -/
theorem runVcmp_runs {q : BitVec 3} {f f' : Nat → Nat → Bool} (hf : ∀ x y, f x y = f' x y) (h : VRuns2 s g a b lw nan) :
    runVcmp g q a b lw nan f s =
      .next (let x := s.vread 1 a lw nan (s.active lw)
        let y := s.vread 2 b lw nan (s.active lw)
        let m := maskOf lw ((List.range (1024 / lw)).map (fun i =>
          if s.active lw i then some (f' (lane lw x.1 i) (lane lw y.1 i)) else none)) (!s.xvMz)
        s.result .v (if s.issue.cbp = 0 then 2 else 3) false (.mask q m.1 m.2) (if x.2.1 || y.2.1 then flagCV else 0)) := by
  obtain rfl : f = f' := funext₂ hf
  exact runOp_vruns h rfl

/-- Settles O9: both compares run as their shared form does, on the condition they name; `VSEL` reads its mask beside its sources. -/
theorem vectorComparesAndSelect : Obligations.VectorComparesAndSelect := by
  unfold Obligations.VectorComparesAndSelect
  intro s g d q k a b w c fc t compares sg v
  have runs : ∀ {i : Instr} {lw nan : Nat} {f f' : Nat → Nat → Bool}, exec i s = runVcmp g q a b lw nan f s →
      (∀ x y, f x y = f' x y) → compares i lw nan f' := fun hi hf h => hi.trans (runVcmp_runs hf h)
  -- Only `runs` is to say what `compares` is: unfolded, its lanes stand where the condition would have to be read off.
  clear_value compares
  exact ⟨runs (exec_vcmp s) (condLane_eq w.bits c), runs (exec_vfcmp s) fun _ _ => by cases fc <;> rfl,
    fun h => (exec_vsel s).trans (runOp_vruns h (by rw [Bool.or_assoc]))⟩

/-- The active lanes packed from lane 0 (R154). -/
theorem execVcompress_runs {w : LaneW} (h : VRuns1 s g a w.bits 0) : execVcompress g d a w s =
    .next (let x := s.vread 1 a w.bits 0 (s.active w.bits)
      let acts := (List.range (1024 / w.bits)).filter (s.active w.bits)
      s.vresult 4 d w.bits (acts.map (fun i => some (lane w.bits x.1 i)) ++ List.replicate (1024 / w.bits - acts.length) none, 0) x.2.1) := by
  rw [execVcompress, runV1_runs h]
  simp only [List.length_map]
  rfl

/-- Settles O10: each operation gives every active lane the lane it names of its source; `VCOMPRESS` packs the active lanes and `VEXPAND`
reads as many lanes as are active. -/
theorem vectorLaneMovement : Obligations.VectorLaneMovement := by
  unfold Obligations.VectorLaneMovement
  intro s g d a b w i l c n lw lanes acts moves
  have hsplat : wrapInt lw i.toInt = (i.toInt % 2 ^ lw).toNat := wrapInt_eq ..
  have runs : ∀ {i : Instr} {lat : Nat} {f : State → VReg → List (Option Nat) × BitVec 7} {op : Nat → VReg → Nat},
      exec i s = runV1 g d a lat lw 0 false f s → (∀ x, f s x = overLanes lanes (s.active lw) (fun i => (op i x, 0))) →
      moves i lat op := fun hi hf h => hi.trans (runV1_lanewise hf h)
  clear_value moves
  refine ⟨fun h => (exec_vsplatImm s).trans ((runOp_vruns h rfl).trans (by rw [hsplat]; rfl)), runs (exec_vsplatLane s) fun _ => rfl,
    runs (exec_vrot s) fun _ => rfl, runs (exec_vslide s) fun _ => rfl, runs (exec_vslide s) fun _ => rfl,
    fun h => (exec_vperm s).trans (runV2_runs h), fun h => (exec_vcompress s).trans (execVcompress_runs h),
    fun h => (exec_vexpand s).trans (runOp_vruns h rfl)⟩

end Sys2Proof.Laws
end

section
/-! Reductions and scans (R82, R83, R155 to R157). -/

namespace Sys2Proof.Machine

/-- The sum of the active lanes below `i`, as a lane holds it. -/
def sumBelow (act : Nat → Bool) (v : Nat → Nat) (m i : Nat) : Nat := (((List.range i).filter act).map v).sum % m

theorem sumBelow_succ_of_active {act : Nat → Bool} {i : Nat} (h : act i = true) (v : Nat → Nat) (m : Nat) :
    sumBelow act v m (i + 1) = (sumBelow act v m i + v i) % m := by
  simp [sumBelow, List.range_succ, h]

theorem sumBelow_succ_of_inactive {act : Nat → Bool} {i : Nat} (h : act i = false) (v : Nat → Nat) (m : Nat) :
    sumBelow act v m (i + 1) = sumBelow act v m i := by
  simp [sumBelow, List.range_succ, h]

/-- The integer scan of the lanes from `k` on, from the sum of those below (R157). -/
theorem scanLanes_sum (act : Nat → Bool) (v : Nat → Nat) (m n k : Nat) (p : Option Nat) (hp : p.getD 0 = sumBelow act v m k) :
    scanLanes act (fun p i => ((p.getD 0 + v i) % m, 0)) (List.range' k n) p =
      (List.range' k n).map (fun i => (sumBelow act v m (i + 1), 0)) := by
  induction n generalizing k p with
  | zero => rfl
  | succ n ih =>
    rw [List.range'_succ, scanLanes, List.map_cons, hp]
    cases h : act k with
    | true =>
      rw [if_pos rfl, ← sumBelow_succ_of_active h]
      exact congrArg _ (ih (k + 1) _ rfl)
    | false =>
      rw [if_neg Bool.false_ne_true, ← sumBelow_succ_of_inactive h]
      exact congrArg _ (ih (k + 1) p (hp.trans (sumBelow_succ_of_inactive h ..).symm))

/-- The levels of the tree of R82 over the lanes of a float type. -/
theorem bitLen_floatLanes (t : FloatT) : bitLen (1024 / floatBits t) - 1 = if t = .fp64 then 4 else if t = .fp32 then 5 else 6 := by
  cases t <;> decide

end Sys2Proof.Machine

namespace Sys2Proof.Laws

open Sys2Proof.Machine

variable {s : State} {g : Guard} {d : Dst} {a : Src} {w : LaneW}

/-- An integer reduction folds the signed values of the active lanes (R155). -/
theorem runVred_runs {f : Int → Int → Int} {z v : Int} (h : VRuns1 s g a w.bits 0)
    (hv : (((List.range (1024 / w.bits)).filter (s.active w.bits)).map (fun i =>
      (BitVec.ofNat w.bits (lane w.bits (s.vread 1 a w.bits 0 (s.active w.bits)).1 i)).toInt)).foldl f z = v) :
    runVred g d a w f z s =
      .next (s.vresult 6 d 1024 ([some (v % 2 ^ 64).toNat], 0) (s.vread 1 a w.bits 0 (s.active w.bits)).2.1) := by
  refine (runOp_vruns h rfl).trans ?_
  simp only [State.activeLanes, List.map_map, Function.comp_def, slane_eq, hv, wholeVec, wrapInt_eq]

/-- The integer scan gives each lane the sum of the active lanes up to it (R157). -/
theorem execVscanI_runs (h : VRuns1 s g a w.bits 0) : execVscanI g d a w s =
    .next (let x := s.vread 1 a w.bits 0 (s.active w.bits)
      s.vresult 10 d w.bits ((List.range (1024 / w.bits)).map (fun i =>
        some (sumBelow (s.active w.bits) (lane w.bits x.1) (2 ^ w.bits) (i + 1))), 0) x.2.1) := by
  refine (runV1_runs h).trans ?_
  simp only [LaneW.lanes, List.range_eq_range', scanLanes_sum _ _ _ _ 0 none rfl, List.map_map]
  rfl

/-- A float reduction combines the active lanes in the tree of R82 (R156). -/
theorem runVfred_runs {t : FloatT} {pops : Bool} {comb : Rounding → Nat → Nat → Nat × BitVec 7} {z : Nat}
    (h : VRuns1 s g a (floatBits t) (laneNaN t)) : runVfred g d a t pops comb z s =
    .next (let lw := floatBits t
      let x := s.vread 1 a lw (laneNaN t) (s.active lw)
      let r := treeReduce (fun k u v => comb (s.rounding k) u v) (if t = .fp64 then 4 else if t = .fp32 then 5 else 6) 0
        ((List.range (1024 / lw)).map (fun i => if s.active lw i then some (lane lw x.1 i) else none))
      let v := match r.1 with
        | none => z
        | some c => if ((floatSpec t).decode c).isNaN then laneNaN t else c
      (s.vresult 10 d 1024 ([some v], r.2) x.2.1).popIf (pops && s.xvRm == 4)) := by
  rw [← bitLen_floatLanes, runVfred]
  exact runOp_vruns h rfl

/-- Settles O11: an integer reduction is the fold of its lanes, a float one its tree; the integer scan gives the sums of the lanes
below and at each lane. -/
theorem vectorReductions : Obligations.VectorReductions := by
  unfold Obligations.VectorReductions
  refine ⟨fun s g d a w => ?_, fun s g d a t => ?_⟩
  · intro lw x acts reduces
    have runs : ∀ {i : Instr} {f : Int → Int → Int} {z v : Int}, exec i s = runVred g d a w f z s → acts.foldl f z = v →
        reduces i v := fun hi hv h => hi.trans (runVred_runs h hv)
    clear_value reduces
    exact ⟨runs (exec_vredsum s) List.sum_eq_foldl.symm, runs (exec_vredmax s) (by rw [intMin_true]),
      runs (exec_vredmin s) (by rw [intMax_true]), fun h => (exec_vscanI s).trans (execVscanI_runs h)⟩
  · intro lw f x leaves pop reduces
    have runs : ∀ {i : Instr} {pops : Bool} {comb : Rounding → Nat → Nat → Nat × BitVec 7} {z : Nat},
        exec i s = runVfred g d a t pops comb z s → reduces i pops comb z := fun hi h => hi.trans (runVfred_runs h)
    clear_value reduces
    exact ⟨runs (exec_vredsumF s), runs (exec_vredmaxF s), runs (exec_vredminF s),
      fun h => by rw [exec_vscanF, execVscanF, runV1_runs h, Bool.true_and]⟩

end Sys2Proof.Laws
end

section
/-! Float lanes, function units and the rotary embedding (R158 to R167). -/

namespace Sys2Proof.Laws

open Sys2Proof.Machine

section
variable {s : State} {g : Guard} {d : Dst} {r : BitVec 5} {a b : Src} {t : FloatT} {lat : Nat} {pops : Bool}

/-- A float operation on each lane of two sources, rounded by the lane's own bits (R158, R75). -/
theorem runVf2_runs {op : Rounding → Nat → Nat → Nat × BitVec 7} (h : VRuns2 s g a b (floatBits t) (laneNaN t)) :
    runVf2 g d a b t lat pops op s = .next ((lanewise2 s d a b lat (floatBits t) (fun i => op (s.rounding i)) (laneNaN t)).popIf
      (pops && s.xvRm == 4)) :=
  runV2_runs h

/-- One on each lane of one source, which rounds nothing by the bundle's mode (R162, R164). -/
theorem runVf1_runs {op : Nat → Nat × BitVec 7} (h : VRuns1 s g a (floatBits t) (laneNaN t)) :
    runVf1 g d a t lat op s = .next (lanewise1 s d a lat (floatBits t) (fun i x => op (lane (floatBits t) x i)) (laneNaN t)) :=
  runV1_lanes (fun _ _ => rfl) h

/-- A fused operation reads its destination as the addend (R159). -/
theorem runVfma_runs {op : Rounding → Nat → Nat → Nat → Nat × BitVec 7}
    (h : VRuns s g (s.cur.unsetV a || s.cur.unsetV b || s.cur.unsetV (.reg r))
      ((s.vread 1 a (floatBits t) (laneNaN t) (s.active (floatBits t))).2.2.or
        (s.vread 2 b (floatBits t) (laneNaN t) (s.active (floatBits t))).2.2) True) :
    runVfma g r a b t op s = .next ((lanewise2 s (.reg r) a b 4 (floatBits t) (fun i x y =>
      op (s.rounding i) x y (lane (floatBits t) (s.cur.srcV (.reg r)) i)) (laneNaN t)).popIf (s.xvRm == 4)) := by
  rw [runVfma]
  exact runOp_vruns h rfl

end

/-- Settles O12: each operation runs as its shared float form does; `VFSCALE` alone reads its second source as integers. -/
theorem vectorFloatLanes : Obligations.VectorFloatLanes := by
  unfold Obligations.VectorFloatLanes
  intro s g d r a b t lw f nan pop does2 does1 fuses
  have two : ∀ {i : Instr} {lat : Nat} {pops : Bool} {op : Rounding → Nat → Nat → Nat × BitVec 7},
      exec i s = runVf2 g d a b t lat pops op s → does2 i lat pops op := fun hi h => hi.trans (runVf2_runs h)
  have one : ∀ {i : Instr} {op : Nat → Nat × BitVec 7}, exec i s = runVf1 g d a t 2 op s → does1 i op :=
    fun hi h => hi.trans (runVf1_runs h)
  have fused : ∀ {i : Instr} {negP negZ : Bool}, exec i s = runVfma g r a b t (fun rd => fFused f rd negP negZ) s →
      fuses i negP negZ := fun hi h => hi.trans (runVfma_runs h)
  clear_value does2 does1 fuses
  exact ⟨two (exec_vfadd s), two (exec_vfsub s), two (exec_vfmul s), fused (exec_vfma s), fused (exec_vfms s), fused (exec_vfnma s),
    two (exec_vfmax s), two (exec_vfmin s), fun h => (exec_vfscale s).trans (by rw [execVfscale]; exact runOp_vruns h rfl),
    one (exec_vfabs s), one (exec_vfneg s), one (exec_vfclass s)⟩

section
variable {s : State} {g : Guard} {d : Dst} {a b : Src} {y : VReg} {j : Nat}

/-- An active pair within the unit's reach, as an inactive one, is none that the check names. -/
theorem rope_reached {i : Nat} (h : s.active 32 (2 * i) = true → lane 32 y (2 * i) < 2 ^ 24) :
    (!(s.active 32 (2 * i) && decide (16777215 < lane 32 y (2 * i)))) = true := by
  cases ha : s.active 32 (2 * i) with
  | false => rfl
  | true => simpa using Nat.le_of_lt_succ (h ha)

theorem ropeFail_eq_none (h : ∀ j, j < 16 → s.active 32 (2 * j) = true → lane 32 y (2 * j) < 2 ^ 24) : ropeFail s y = none := by
  rw [ropeFail, List.find?_range_eq_none.mpr fun j hj => rope_reached (h j hj)]

/-- The lowest active pair whose position is past 16,777,215 is what the check names (R167). -/
theorem ropeFail_eq_some (hj : j < 16) (ha : s.active 32 (2 * j) = true) (hp : 2 ^ 24 ≤ lane 32 y (2 * j))
    (hb : ∀ i, i < j → s.active 32 (2 * i) = true → lane 32 y (2 * i) < 2 ^ 24) :
    ropeFail s y = some (.foldPos, BitVec.ofNat 64 (j * 2 ^ 32 + lane 32 y (2 * j))) := by
  have hf : (s.active 32 (2 * j) && decide (16777215 < lane 32 y (2 * j))) = true := by
    rw [ha, Bool.true_and]
    exact decide_eq_true hp
  rw [ropeFail, List.find?_range_eq_some.mpr ⟨hf, List.mem_range.mpr hj, fun i hi => rope_reached (hb i hi)⟩]

end

/-- Settles O13: a function unit runs lane by lane; the own check of `VROPE` is the reach of its positions. -/
theorem vectorFunctionUnits : Obligations.VectorFunctionUnits := by
  unfold Obligations.VectorFunctionUnits
  intro s g d a b t lw f does act x y reachable
  have one : ∀ {i : Instr} {op : Nat → Nat × BitVec 7}, exec i s = runVf1 g d a t 8 op s → does i op :=
    fun hi h => hi.trans (runVf1_runs h)
  clear_value does
  refine ⟨one (exec_vfrcp s), one (exec_vfrsq s), one (exec_vfexp2 s), one (exec_vflog2 s),
    fun h => ?_, fun j hm hg hp hcb hj ha hpos hb => ?_⟩ <;> rw [exec_vrope, execVrope]
  · exact runOp_own_vruns h rfl ropeFail_eq_none
  · exact runOp_traps hm (opFailure_own hg (by simp [hp]) rfl rfl hcb (ropeFail_eq_some hj ha hpos hb))

end Sys2Proof.Laws
end

section
/-! Conversions and block quantisation (R168 to R172): formats valid at the issue, and invalid ones. -/

namespace Sys2Proof.Laws

open Sys2Proof.Machine

section
variable {s : State} {g : Guard} {d : Dst} {a : Src} {o m : BitVec 5} {dst src : ElemFmt}

/-! Formats valid at the issue -/

theorem execVcvt_runs (ho : s.fmtOf o = some dst) (hm : s.fmtOf m = some src) :
    let w := max dst.bits src.bits
    let act := fun (j : Nat) => (s.cur.mask s.xvMask.toNat).getLsbD (j * w / 8)
    let x := s.vread 1 a src.bits src.nan act
    VRuns s g (s.cur.unsetV a) x.2.2 True → execVcvt g d a o m s =
      .next ((s.vresult 4 d dst.bits (overLanes (1024 / w) act (fun j =>
        convertElem dst src (s.rounding j) (lane src.bits x.1 j))) x.2.1).popIf (s.xvRm == 4)) := by
  intro w act x h
  rw [execVcvt]
  refine (runOp_vruns h ?_).trans ?_ <;> simp only [ho, hm] <;> rfl

theorem execVqblk_runs (ho : s.blockFmt o = some dst) (hm : s.fmtOf m = some src) :
    let x := s.vread 1 a src.bits src.nan (fun _ => true)
    let q := quantVec dst src s.rounding x.1
    VRuns s g (s.cur.unsetV a) x.2.2 True → execVqblk g d a o m s =
      .next ((s.vresult 6 d 1024 ([some (packLanes (if dst.bits = 4 then 4 else 8) q.1 % 2 ^ 960 + 2 ^ 960 * packLanes 8 q.2.1)],
        q.2.2) x.2.1).popIf (s.xvRm == 4)) := by
  intro x q h
  rw [execVqblk]
  refine (runOp_vruns h ?_).trans ?_ <;> simp only [ho, hm] <;> rfl

theorem execVdqblk_runs {t : FloatSpec} {tb : Nat} (hm : s.blockFmt m = some src) (ho : s.fmtOf o = some (.flt t tb)) :
    let x := s.vread 1 a src.bits src.nan (dqblkReads src.bits (1024 / tb))
    VRuns s g (s.cur.unsetV a) x.2.2 True → execVdqblk g d a o m s =
      .next ((s.vresult 6 d tb (overLanes (1024 / tb) (fun _ => true) (fun i =>
        dequantElem t src (s.rounding i) (lane 8 x.1 (120 + i / 32)) (lane src.bits x.1 i))) x.2.1).popIf (s.xvRm == 4)) := by
  intro x h
  rw [execVdqblk]
  refine (runOp_vruns h ?_).trans ?_ <;> simp only [ho, hm] <;> rfl

/-! Formats invalid at the issue -/

section
variable (hd : s.issue.mode = .direct) (hg : s.cur.guard g = true) (hp : s.cur.poisonRd = false)
include hd hg hp

/-- What R103 checks of an operation of the V slot is the trap `ILLEGAL` with its word and its slot. -/
theorem runOp_v_illegal {k : State → Checks} {eff : State → State} (hi : (k s).illegal = true) :
    runOp .v g k eff s = .next (s.issueTrap ⟨0, .v, .illegal, illegalAddr (s.slotWord .v) 1⟩) :=
  runOp_traps hd (opFailure_illegal hg (by simp [hp]) hi)

theorem execVcvt_illegal (h : s.fmtOf o = none ∨ s.fmtOf m = none) :
    execVcvt g d a o m s = .next (s.issueTrap ⟨0, .v, .illegal, illegalAddr (s.slotWord .v) 1⟩) := by
  rw [execVcvt]
  refine runOp_v_illegal hd hg hp ?_
  split
  next ho hm => simp [ho, hm] at h
  next => rfl

theorem execVqblk_illegal (h : s.blockFmt o = none ∨ s.fmtOf m = none) :
    execVqblk g d a o m s = .next (s.issueTrap ⟨0, .v, .illegal, illegalAddr (s.slotWord .v) 1⟩) := by
  rw [execVqblk]
  refine runOp_v_illegal hd hg hp ?_
  split
  next ho hm => simp [ho, hm] at h
  next => rfl

/-- The target of a dequantisation is a float (R172). -/
theorem execVdqblk_illegal (h : ∀ f t tb, s.blockFmt m = some f → s.fmtOf o ≠ some (.flt t tb)) :
    execVdqblk g d a o m s = .next (s.issueTrap ⟨0, .v, .illegal, illegalAddr (s.slotWord .v) 1⟩) := by
  rw [execVdqblk]
  refine runOp_v_illegal hd hg hp ?_
  split
  next hm ho => exact absurd ho (h _ _ _ hm)
  next => rfl

end

end

/-- Settles O14: with both formats valid each operation is one run of `runOp` on them; otherwise its check finds `ILLEGAL`. -/
theorem vectorConversions : Obligations.VectorConversions := by
  unfold Obligations.VectorConversions
  intro s g d a o m dst src all w act pop xc xb q bad
  have hnone : s.blockFmt m = none ∨ s.fmtOf o = none → ∀ f t tb, s.blockFmt m = some f → s.fmtOf o ≠ some (.flt t tb) := by
    rintro (h | h) f t tb hm ho
    · exact absurd (h.symm.trans hm) (by simp)
    · exact absurd (h.symm.trans ho) (by simp)
  refine ⟨fun ho hm h => (exec_vcvt s).trans (execVcvt_runs ho hm h), fun ho hm h => (exec_vqblk s).trans (execVqblk_runs ho hm h), ?_,
    fun h hd hg hp => (exec_vcvt s).trans (execVcvt_illegal hd hg hp h),
    fun h hd hg hp => (exec_vqblk s).trans (execVqblk_illegal hd hg hp h),
    fun h hd hg hp => (exec_vdqblk s).trans (execVdqblk_illegal hd hg hp (hnone h)),
    fun ho hdst hd hg hp => (exec_vdqblk s).trans (execVdqblk_illegal hd hg hp fun f t tb _ h =>
      hdst t tb (Option.some.inj (ho.symm.trans h)))⟩
  rintro t tb rfl hm ho xd h
  exact (exec_vdqblk s).trans (execVdqblk_runs hm ho h)

end Sys2Proof.Laws
end

section
/-! Codebooks, packing, random bits, masks and `VDCHK` (R174 to R180). -/

namespace Sys2Proof.Machine

/-! The lowest part in which two vectors differ (R180) -/

/-- A part of the difference is zero where the parts are equal. -/
theorem fld_xor_eq_zero {x y : VReg} {lo len : Nat} : fld (x ^^^ y).toNat lo len = 0 ↔ x.extractLsb' lo len = y.extractLsb' lo len := by
  rw [fld, ← BitVec.extractLsb'_toNat, BitVec.extractLsb'_xor, ← BitVec.xor_eq_zero_iff, BitVec.toNat_eq]
  rfl

theorem firstDiff_self (x : VReg) : firstDiff x x = none :=
  List.find?_range_eq_none.mpr fun _ _ => by rw [fld_xor_eq_zero.mpr rfl]; rfl

theorem firstDiff_eq_some {x y : VReg} {k : Nat} (hk : k < 16) (hd : x.extractLsb' (64 * k) 64 ≠ y.extractLsb' (64 * k) 64)
    (hb : ∀ j, j < k → x.extractLsb' (64 * j) 64 = y.extractLsb' (64 * j) 64) : firstDiff x y = some k :=
  List.find?_range_eq_some.mpr ⟨bne_iff_ne.mpr (mt fld_xor_eq_zero.mp hd), List.mem_range.mpr hk,
    fun j hj => by rw [fld_xor_eq_zero.mpr (hb j hj)]; rfl⟩

end Sys2Proof.Machine

namespace Sys2Proof.Laws

open Sys2Proof.Machine

section
variable {s : State} {g : Guard} {d : Dst} {a b : Src} {u : Bool}

/-- A bank whose control permits it and that has an entry to match gives each lane the index of the nearest (R175). -/
theorem execVcbq_runs {t : FloatT} {k : BitVec 2} {width : Nat} (hw : cbWidth ((s.here.cbctl[k.toNat]?).getD 0) = some width)
    (hp : cbPol ((s.here.cbctl[k.toNat]?).getD 0) ≠ 3) (he : cbElems ((s.here.cbctl[k.toNat]?).getD 0) = 1)
    (hc : ∃ c ∈ s.cbCands t k, c.2.isNaN = false) (h : VRuns s g (s.cur.unsetV a) none True) : execVcbq g d a t k s =
    .next (s.vresult 6 d width (overLanes (1024 / floatBits t) (s.active (floatBits t)) (fun i =>
      cbqLane (s.cbCands t k) ((floatSpec t).decode (lane (floatBits t) (s.cur.srcV a) i)))) false) := by
  have hall : (s.cbCands t k).all (fun c => c.2.isNaN) = false := by
    obtain ⟨c, hm, hn⟩ := hc
    exact List.all_eq_false.mpr ⟨c, hm, by simp [hn]⟩
  rw [execVcbq]
  refine (runOp_vruns h ?_).trans ?_
  · dsimp only
    rw [hw, he, hall, beq_eq_false_iff_ne.mpr hp]
    rfl
  · simp only [hw, Option.getD_some]

/-- A mask operation writes a whole mask (R179). -/
theorem runMask_runs {q : BitVec 3} {unset : Ctx → Bool} {f : Ctx → MaskReg} {v : MaskReg} (h : Runs s g u True)
    (hu : unset s.cur = u) (hv : f s.cur = v) : runMask g q unset f s = .next (s.result .v 1 false (.mask q v (-1)) 0) := by
  subst hu hv
  exact runOp_reads_runs (unset := fun s => unset s.cur) h

/-- Of equal vectors the check changes nothing (R180). -/
theorem execVdchk_runs {ok : Prop} (h : Runs s g (s.cur.unsetV a || s.cur.unsetV b) ok) (he : s.cur.srcV a = s.cur.srcV b) :
    execVdchk g a b s = .next s :=
  runOp_runs h (fun _ => ⟨rfl, rfl, rfl, by rw [he, firstDiff_self]; rfl, fun ht => Bool.noConfusion ht⟩) rfl

/-- Of others it is `DUPCHK` with the lowest part in which they differ (R180). -/
theorem execVdchk_traps {k : Nat} (hm : s.issue.mode = .direct) (hg : s.cur.guard g = true) (hp : s.cur.poisonRd = false)
    (hf : firstDiff (s.cur.srcV a) (s.cur.srcV b) = some k) :
    execVdchk g a b s = .next (s.issueTrap ⟨4, .v, .dupchk, BitVec.ofNat 64 k⟩) :=
  runOp_traps hm (opFailure_own hg (by simp [hp]) rfl rfl rfl (congrArg (Option.map _) hf))

end

/-- Settles O15: each operation is one run of `runOp`; `VCBQ` finds its bank usable, and `VDCHK` the lowest part that differs. -/
theorem vectorCodebooksMasksAndChecks : Obligations.VectorCodebooksMasksAndChecks := by
  unfold Obligations.VectorCodebooksMasksAndChecks
  refine ⟨fun s g d a w k t c => ?_, fun s g d q m1 m2 a b => ?_⟩
  · intro lw ctl cands e x
    exact ⟨fun h => (exec_vcbx s).trans (runOp_vruns h rfl),
      fun width hw hp he hc h => (exec_vcbq s).trans (execVcbq_runs hw hp he hc h),
      fun h => (exec_vpack s).trans (runOp_vruns h rfl), fun h => (exec_vunpack s).trans (runV1_runs h)⟩
  · intro word writes v1 v2 part
    exact ⟨fun h => (exec_vrand s).trans (runOp_reads_runs (unset := fun _ => false) h),
      fun h => (exec_kand s).trans (runMask_runs h rfl rfl), fun h => (exec_kor s).trans (runMask_runs h rfl rfl),
      fun h => (exec_knot s).trans (runMask_runs h rfl rfl), fun h => (exec_kmov s).trans (runMask_runs h rfl rfl),
      fun h => (exec_kmov s).trans (runMask_runs h rfl rfl), fun h he => (exec_vdchk s).trans (execVdchk_runs h he),
      fun k hm hg hp hk hd hb => (exec_vdchk s).trans (execVdchk_traps hm hg hp (firstDiff_eq_some hk hd hb))⟩

end Sys2Proof.Laws
end

section
/-! The lanes of a result and their enabled bits (R145 to R147). -/

namespace Sys2Proof.Machine

/-- Field `i` of packed fields. -/
theorem fld_packLanes (lw : Nat) (ys : List Nat) (i : Nat) : fld (packLanes lw ys) (i * lw) lw = ys.getD i 0 % 2 ^ lw := by
  induction ys generalizing i with
  | nil => simp [fld, packLanes]
  | cons y ys ih =>
    have hlt : y % 2 ^ lw < 2 ^ lw := Nat.mod_lt _ (Nat.two_pow_pos lw)
    cases i with
    | zero => simp [fld, packLanes]
    | succ i =>
      have hshift : packLanes lw (y :: ys) >>> lw = packLanes lw ys := by
        rw [packLanes, Nat.shiftRight_eq_div_pow, Nat.add_mul_div_left _ _ (Nat.two_pow_pos lw), Nat.div_eq_of_lt hlt, Nat.zero_add]
      rw [List.getD_cons_succ, ← ih, fld, Nat.succ_mul, Nat.add_comm, Nat.shiftRight_add, hshift, fld]

section
variable {lw i : Nat} (h : (i + 1) * lw ≤ 1024)
include h

/-- A lane of a vector made of a number is that field of it. -/
theorem lane_ofNat (x : Nat) : lane lw (BitVec.ofNat 1024 x) i = fld x (i * lw) lw := by
  apply Nat.eq_of_testBit_eq
  intro j
  rw [Nat.succ_mul] at h
  simp only [lane, fld, BitVec.toNat_ofNat, Nat.testBit_mod_two_pow, Nat.testBit_shiftRight]
  by_cases hj : j < lw
  · simp [hj, show i * lw + j < 1024 by omega]
  · simp [hj]

theorem lane_packLanes (ys : List Nat) : lane lw (BitVec.ofNat 1024 (packLanes lw ys)) i = ys.getD i 0 % 2 ^ lw :=
  (lane_ofNat h _).trans (fld_packLanes ..)

theorem lane_not (v : VReg) : lane lw (~~~v) i = 2 ^ lw - 1 - lane lw v i := by
  rw [Nat.succ_mul] at h
  have hnot : (~~~v).extractLsb' (i * lw) lw = ~~~(v.extractLsb' (i * lw) lw) :=
    BitVec.eq_of_getLsbD_eq fun j hj => by simp [hj, show i * lw + j < 1024 by omega]
  rw [lane, fld, ← BitVec.extractLsb'_toNat, hnot, BitVec.toNat_not]
  rfl

theorem lane_allOnes : lane lw (BitVec.allOnes 1024) i = 2 ^ lw - 1 := by
  rw [← BitVec.not_zero, lane_not h, lane, BitVec.toNat_zero, fld, Nat.zero_shiftRight, Nat.zero_mod, Nat.sub_zero]

variable {xs : List (Option Nat)} {o : Option Nat} (ho : xs[i]? = some o)
include ho

/-- A result's lane holds its value, zero where it is inactive. -/
theorem lane_vassemble_value (keep : Bool) : lane lw (vassemble lw xs keep).1 i = o.getD 0 % 2 ^ lw := by
  rw [vassemble, lane_packLanes h]
  simp [List.getD_eq_getElem?_getD, ho]

/-- Its bits are all enabled, or none of an inactive lane that is kept. -/
theorem lane_vassemble_enabled (keep : Bool) : lane lw (vassemble lw xs keep).2 i = if keep && o.isNone then 0 else 2 ^ lw - 1 := by
  cases keep with
  | false => exact lane_allOnes h
  | true =>
    have hlt : 2 ^ lw - 1 < 2 ^ lw := Nat.sub_one_lt_of_lt (Nat.two_pow_pos lw)
    rw [vassemble, if_pos rfl, lane_not h, lane_packLanes h]
    cases o <;> simp [List.getD_eq_getElem?_getD, ho, Nat.mod_eq_of_lt hlt]

end

end Sys2Proof.Machine

namespace Sys2Proof.Laws

open Sys2Proof.Machine

/-- Settles O16: the result is what `vassemble` makes of the lanes, each read back from its place. -/
theorem vectorResultLanes : Obligations.VectorResultLanes := by
  unfold Obligations.VectorResultLanes
  intro s lat n sup w xs fl cv lw hlen
  have fits : ∀ {i o}, xs[i]? = some o → (i + 1) * lw ≤ 1024 := fun hi => by
    obtain ⟨hi, _⟩ := List.getElem?_eq_some_iff.mp hi
    exact (Nat.mul_le_mul_right lw (hlen ▸ hi)).trans (Nat.div_mul_le_self 1024 lw)
  refine ⟨(vassemble lw xs (!(s.xvMz || sup))).1, (vassemble lw xs (!(s.xvMz || sup))).2, by cases sup <;> rfl, fun i x hi => ?_,
    fun i hi => ?_⟩ <;> rw [lane_vassemble_value (fits hi) hi, lane_vassemble_enabled (fits hi) hi]
  · simp
  · cases s.xvMz <;> cases sup <;> simp

end Sys2Proof.Laws
end

section
/-! States with the same nodes, and the notice of a context that cannot resume (R192, R398). -/

namespace Sys2Proof.Machine

/-! A context is read from the nodes alone -/

theorem State.tile_congr {s t : State} (h : t.nodes = s.nodes) (r : TileRef) : t.tile r = s.tile r := by
  rw [State.tile, State.tile, State.node, State.node, h]

theorem State.ctx_congr {s t : State} (h : t.nodes = s.nodes) (r : CtxRef) : t.ctx r = s.ctx r :=
  congrArg (Tile.ctx · r.slot) (State.tile_congr h _)

theorem State.ctx_setTile {s : State} {r : CtxRef} {t : Tile} : (s.setTile (tileOf r) t).ctx r = t.ctx r.slot := by
  rw [State.ctx, State.tile_setTile]

theorem State.nodes_foldl {α : Type} {f : State → α → State} (h : ∀ t a, (f t a).nodes = t.nodes) (l : List α) (s : State) :
    (l.foldl f s).nodes = s.nodes := by
  induction l generalizing s with
  | nil => rfl
  | cons a l ih => exact (ih _).trans (h s a)

/-! The notice ring of a stage -/

/-- The origin tile of a context's stage, whose notice ring it tells (R398). -/
def State.noticeTile (s : State) (r : CtxRef) : TileRef := ⟨r.node, (s.tile (tileOf r)).origin⟩

/-- The tail word of a tile's notice ring, its entries not yet taken, and the place of its next entry. -/
def State.ringTail (s : State) (o : TileRef) : Word := s.readWord .sram o (saveBase + 0x1C08)
def State.ringUsed (s : State) (o : TileRef) : Nat :=
  (wfld (s.ringTail o) 0 32 + 2 ^ 32 - wfld (s.readWord .sram o (saveBase + 0x1C00)) 0 32) % 2 ^ 32
def State.ringNext (s : State) (o : TileRef) : Nat := saveBase + 0x1800 + 16 * (wfld (s.ringTail o) 0 32 % 64)

theorem State.ctx_send (s : State) (e : Event) (r : CtxRef) : (s.send e).ctx r = s.ctx r := rfl
theorem State.readWord_send (s : State) (e : Event) (sp : MemSpace) (o : TileRef) (off : Nat) :
    (s.send e).readWord sp o off = s.readWord sp o off := rfl
theorem State.ringTail_send (s : State) (e : Event) (o : TileRef) : (s.send e).ringTail o = s.ringTail o := rfl

/-- A ring's next entry written, and its tail moved on. -/
def State.notedAt (s : State) (o : TileRef) (w v : Word) : State :=
  ((s.writeWord .sram o (s.ringNext o) w).writeWord .sram o (s.ringNext o + 8) v).writeWord .sram o (saveBase + 0x1C08)
    (setFld (s.ringTail o) 0 32 (wfld (s.ringTail o) 0 32 + 1))

section
variable {s : State} {r : CtxRef} {tree : BitVec 32} {reason : Nat}

theorem State.notice_eq : s.notice tree reason r =
    (if s.ringUsed (s.noticeTile r) = 64 then
      s.writeWord .sram (s.noticeTile r) (saveBase + 0x1C08) (s.ringTail (s.noticeTile r) ||| 0x8000000000000000)
    else s.notedAt (s.noticeTile r) (tree.setWidth 64)
      (BitVec.ofNat 64 (reason * 2 ^ 56 + r.tile * 2 ^ 16 + r.slot * 2 ^ 8))).send (.interruptPending (s.noticeTile r) 13) := rfl

/-- A notice changes memory, and raises line 13 of the origin tile. -/
theorem State.notice_rest : (s.notice tree reason r).nodes = s.nodes ∧
    (s.notice tree reason r).net = s.net ++ [.interruptPending (s.noticeTile r) 13] := by
  rw [State.notice_eq]
  split <;> simp [State.notedAt, State.writeWord]

theorem State.notedAt_reads {o : TileRef} {w v : Word} (hm : Memory.wf s.mem = true) :
    let t := s.notedAt o w v
    t.readWord .sram o (s.ringNext o) = w ∧ t.readWord .sram o (s.ringNext o + 8) = v ∧
      t.ringTail o = setFld (s.ringTail o) 0 32 (wfld (s.ringTail o) 0 32 + 1) := by
  have hplace : s.ringNext o + 16 ≤ saveBase + 0x1C08 := by
    have : wfld (s.ringTail o) 0 32 % 64 < 64 := Nat.mod_lt _ (by decide)
    rw [State.ringNext]
    omega
  have below : ∀ {u : State} {a b : Nat} {x : Word}, Memory.wf u.mem = true → a + 8 ≤ b →
      (u.writeWord .sram o b x).readWord .sram o a = u.readWord .sram o a := fun hu hab =>
    State.readWord_writeBytes_of_disjoint hu (.inl (by simp only [memKey]; omega))
  have hm1 : Memory.wf (s.writeWord .sram o (s.ringNext o) w).mem = true := Memory.wf_write _ _ hm
  have hm2 : Memory.wf ((s.writeWord .sram o (s.ringNext o) w).writeWord .sram o (s.ringNext o + 8) v).mem = true :=
    Memory.wf_write _ _ hm1
  refine ⟨?_, ?_, State.readWord_writeWord hm2⟩ <;> rw [State.notedAt, below hm2 (by omega)]
  · rw [below hm1 (by omega), State.readWord_writeWord hm]
  · exact State.readWord_writeWord hm1

end

end Sys2Proof.Machine
end

section
/-! Taking a trap (O34): the context that has taken it (R183 to R191), and the one a second trap stops (R192). -/

namespace Sys2Proof.Machine

/-- A context as a trap leaves it that was taken under no live frame, at a core and a wall cycle (R188). -/
structure Ctx.TookTrap (c : Ctx) (q : TrapReq) (rpc core wall : Nat) (d : Ctx) : Prop where
  xcause : d.xcause = q.xcause
  xpc : d.xpc = q.xpc rpc
  xaddr : d.xaddr = q.xaddr
  xprog : d.xprog = q.xprog
  xstat : d.xstat = BitVec.ofNat 64 (0x80 + c.level * 16 + (handlerOf c.xvec q.cause c.level).2)
  pc : d.pc = (handlerOf c.xvec q.cause c.level).1
  results : d.results = []
  entering : d.entering = some (core, wall)
  general : d.a = c.a ∧ d.m = c.m ∧ d.e = c.e ∧ d.v = c.v
  others : d.p = c.p ∧ d.k = c.k ∧ d.wa = c.wa ∧ d.lc = c.lc ∧ d.qa = c.qa
  pending : d.request = c.request ∧ d.wound = c.wound

theorem handlerOf_level (xvec : Word) (cause : Cause) (lvl : Nat) :
    (handlerOf xvec cause lvl).2 = 1 ∨ (handlerOf xvec cause lvl).2 = 2 := by
  rw [handlerOf_eq xvec cause lvl Iff.rfl]
  dsimp only
  split
  · exact .inl rfl
  · exact .inr rfl

/-- The frame of a trap that was taken is live. -/
theorem Ctx.TookTrap.tf {c d : Ctx} {q : TrapReq} {rpc core wall : Nat} (h : c.TookTrap q rpc core wall d) : d.tf = true := by
  have live : ∀ l : Fin 4, (BitVec.ofNat 64 (0x80 + l.val * 16 + 1)).getLsbD 7 = true ∧
      (BitVec.ofNat 64 (0x80 + l.val * 16 + 2)).getLsbD 7 = true := by decide
  have hl := live ⟨c.level, wfld_lt c.xstat 0 2⟩
  rw [Ctx.tf, h.xstat]
  rcases handlerOf_level c.xvec q.cause c.level with h1 | h2
  · rw [h1]
    exact hl.1
  · rw [h2]
    exact hl.2

/-- A capture puts what is in flight of a context into records, and begins the trap's entry. -/
theorem Ctx.captured_storeLate (c : Ctx) (core wall : Nat) (zero : Bool) : ∃ ff ef ls lates recs, c.storeLate.captured core wall zero =
    { c with fflags := ff, eflags := ef, results := [], landings := ls, late := lates, capture := recs, entering := some (core, wall) } :=
  ⟨_, _, _, _, _, rfl⟩

section
variable {s : State} {r : CtxRef} {q : TrapReq} {rpc : Nat} {w : Bool}

/-- Under no live frame a trap puts in its context's place one that has taken it, and ends a freeze of its tile. -/
theorem State.takeTrap_eq (htf : (s.ctx r).tf = false) : ∃ d,
    (s.ctx r).TookTrap q rpc (s.tile (tileOf r)).core (s.tile (tileOf r)).wall d ∧
      s.takeTrap r q rpc w = s.setTile (tileOf r) { (s.tile (tileOf r)).setCtx r.slot d with freeze := none } := by
  obtain ⟨ff, ef, ls, lates, recs, hcap⟩ := (s.ctx r).captured_storeLate (s.tile (tileOf r)).core (s.tile (tileOf r)).wall false
  unfold State.ctx at htf hcap ⊢
  unfold State.takeTrap
  dsimp only
  rw [htf, if_neg Bool.false_ne_true, hcap]
  refine ⟨_, ?_, rfl⟩
  exact ⟨rfl, rfl, rfl, rfl, rfl, rfl, rfl, rfl, ⟨rfl, rfl, rfl, rfl⟩, ⟨rfl, rfl, rfl, rfl, rfl⟩, ⟨rfl, rfl⟩⟩

theorem State.takeTrap_gives (htf : (s.ctx r).tf = false) (hk : r.slot < 8) :
    (s.ctx r).TookTrap q rpc (s.tile (tileOf r)).core (s.tile (tileOf r)).wall ((s.takeTrap r q rpc w).ctx r) ∧
      (s.takeTrap r q rpc w).mem = s.mem ∧ ((s.takeTrap r q rpc w).tile (tileOf r)).irq = (s.tile (tileOf r)).irq := by
  obtain ⟨d, hd, htake⟩ := State.takeTrap_eq (q := q) (rpc := rpc) (w := w) htf
  have hctx : (s.takeTrap r q rpc w).ctx r = d := by
    rw [htake, State.ctx_setTile]
    exact (s.tile (tileOf r)).ctx_setCtx d hk
  exact ⟨hctx ▸ hd, htake ▸ rfl, by rw [htake, State.tile_setTile]; rfl⟩

end

/-! A trap under a live frame -/

/-- A context that a second trap has stopped (R192). -/
def Ctx.stopped (c : Ctx) : Ctx := { c with stuck := true, late := [], request := none, wound := none }

section
variable {s : State} {r : CtxRef}

theorem State.takeTrap_double {q : TrapReq} {rpc : Nat} {w : Bool} (htf : (s.ctx r).tf = true) : s.takeTrap r q rpc w = s.doubleTrap r :=
  if_pos htf

theorem State.noticeTile_modCtx (f : Ctx → Ctx) : (s.modCtx r f).noticeTile r = s.noticeTile r := by
  rw [State.noticeTile, State.tile_modCtx]
  rfl

theorem State.ringTail_modCtx (f : Ctx → Ctx) (o : TileRef) : (s.modCtx r f).ringTail o = s.ringTail o := rfl
theorem State.ringUsed_modCtx (f : Ctx → Ctx) (o : TileRef) : (s.modCtx r f).ringUsed o = s.ringUsed o := rfl
theorem State.ringNext_modCtx (f : Ctx → Ctx) (o : TileRef) : (s.modCtx r f).ringNext o = s.ringNext o := rfl

theorem State.doubleTrap_eq : s.doubleTrap r =
    ((s.modCtx r Ctx.stopped).notice (s.ctx r).tree 2 r).send (.treeCancel r.node (s.ctx r).tree) := rfl

theorem State.ctx_doubleTrap (hk : r.slot < 8) : (s.doubleTrap r).ctx r = (s.ctx r).stopped := by
  obtain ⟨hnodes, _⟩ := State.notice_rest (s := s.modCtx r Ctx.stopped) (r := r) (tree := (s.ctx r).tree) (reason := 2)
  rw [State.doubleTrap_eq, State.ctx_send, State.ctx_congr hnodes, State.ctx_modCtx _ _ hk]

theorem State.net_doubleTrap : (s.doubleTrap r).net =
    s.net ++ [.interruptPending (s.noticeTile r) 13, .treeCancel r.node (s.ctx r).tree] := by
  rw [State.doubleTrap_eq, State.send_net, State.notice_rest.2, State.noticeTile_modCtx, List.append_assoc]
  rfl

theorem State.doubleTrap_notice_room (hm : Memory.wf s.mem = true) (h : s.ringUsed (s.noticeTile r) < 64) :
    let o := s.noticeTile r
    let t := s.doubleTrap r
    t.readWord .sram o (s.ringNext o) = (s.ctx r).tree.setWidth 64 ∧
      t.readWord .sram o (s.ringNext o + 8) = BitVec.ofNat 64 (2 * 2 ^ 56 + r.tile * 2 ^ 16 + r.slot * 2 ^ 8) ∧
      t.ringTail o = setFld (s.ringTail o) 0 32 (wfld (s.ringTail o) 0 32 + 1) := by
  rw [State.doubleTrap_eq, State.notice_eq, State.noticeTile_modCtx, State.ringUsed_modCtx, if_neg (Nat.ne_of_lt h)]
  have hreads := State.notedAt_reads (s := s.modCtx r Ctx.stopped) (o := s.noticeTile r) (w := (s.ctx r).tree.setWidth 64)
    (v := BitVec.ofNat 64 (2 * 2 ^ 56 + r.tile * 2 ^ 16 + r.slot * 2 ^ 8)) hm
  simpa only [State.readWord_send, State.ringTail_send, State.ringTail_modCtx, State.ringNext_modCtx] using hreads

theorem State.doubleTrap_notice_full (hm : Memory.wf s.mem = true) (h : s.ringUsed (s.noticeTile r) = 64) :
    (s.doubleTrap r).ringTail (s.noticeTile r) = s.ringTail (s.noticeTile r) ||| 0x8000000000000000 := by
  rw [State.doubleTrap_eq, State.notice_eq, State.noticeTile_modCtx, State.ringUsed_modCtx, if_pos h,
    State.ringTail_send, State.ringTail_send, State.ringTail_modCtx]
  exact State.readWord_writeWord (s := s.modCtx r Ctx.stopped) hm

end

end Sys2Proof.Machine

namespace Sys2Proof.Laws

open Sys2Proof.Machine

/-- Settles O34: a trap under no live frame leaves what `Ctx.TookTrap` says, one under a live frame is a double trap. -/
theorem takingATrap : Obligations.TakingATrap := by
  unfold Obligations.TakingATrap
  intro s r q rpc w hk c group down t d
  refine ⟨fun htf => ?_, fun htf => ?_⟩
  · obtain ⟨ht, hmem, _⟩ := State.takeTrap_gives (q := q) (rpc := rpc) (w := w) htf hk
    obtain ⟨ha, hm, he, hv⟩ := ht.general
    obtain ⟨hp, hmask, hwa, hlc, hqa⟩ := ht.others
    have hh : handlerOf c.xvec q.cause c.level = (BitVec.ofNat 12 (wfld c.xvec (if down then 16 else 0) 12), if down then 1 else 2) :=
      handlerOf_eq c.xvec q.cause c.level Iff.rfl
    exact ⟨ht.xcause, ht.xpc, ht.xaddr, ht.xprog, ht.xstat.trans (by rw [hh]), ht.pc.trans (by rw [hh]), ht.results, ht.entering,
      ha, hm, he, hv, hp, hmask, hwa, hlc, hqa, hmem⟩
  · have ht : t = s.doubleTrap r := State.takeTrap_double htf
    rw [show d = t.ctx r from rfl, ht]
    exact ⟨State.ctx_doubleTrap hk, State.net_doubleTrap, fun hm hu => State.doubleTrap_notice_room hm hu,
      fun hm hu => State.doubleTrap_notice_full hm hu⟩

end Sys2Proof.Laws
end

section
/-! The claims a wounded task gives up (R331, R332): what their release leaves of its context. -/

namespace Sys2Proof.Machine

theorem AgreeOffLinks.ctx {s t : State} (h : AgreeOffLinks s t) (r : CtxRef) : t.ctx r = s.ctx r :=
  congrArg (Tile.ctx · r.slot) (h.tile _)

/-- An answered wait for a lock writes an E register, or leaves its value to a later result, and changes what its context waits for. -/
theorem Ctx.answerWait_eq (c : Ctx) (d : Dst) (n : Nat) (v : Word) : ∃ e we qe rs wt o, c.answerWait d n v =
    { c with e := e, we := we, qe := qe, results := rs, wait := wt, outer := o } := by
  unfold Ctx.answerWait Ctx.writeDst
  split
  · cases d with
    | drop => exact ⟨_, _, _, _, _, _, rfl⟩
    | reg m =>
      dsimp only
      split <;> exact ⟨_, _, _, _, _, _, rfl⟩
  · exact ⟨_, _, _, _, _, _, rfl⟩

theorem Ctx.answerWaits_eq (v : Word) (ws : List (Word × Dst × Nat)) (c : Ctx) : ∃ e we qe rs wt o,
    ws.foldl (fun c x => c.answerWait x.2.1 x.2.2 v) c = { c with e := e, we := we, qe := qe, results := rs, wait := wt, outer := o } := by
  induction ws generalizing c with
  | nil => exact ⟨_, _, _, _, _, _, rfl⟩
  | cons x ws ih =>
    obtain ⟨e, we, qe, rs, wt, o, h⟩ := c.answerWait_eq x.2.1 x.2.2 v
    rw [List.foldl_cons, h]
    exact ih _

section
variable {s : State} {r : CtxRef} (hk : r.slot < 8)
include hk

theorem State.withdrawRequests_gives : (∃ as, (s.withdrawRequests r).ctx r = { s.ctx r with asks := as }) ∧
    (s.withdrawRequests r).mem = s.mem := by
  unfold State.withdrawRequests
  dsimp only
  generalize hu : List.foldl _ s (s.ctx r).lockWaits = u
  have hagree : AgreeOffLinks s u := hu ▸ AgreeOffLinks.foldl _ (.refl s) (fun t x => by
    split
    · exact .refl t
    · exact .post t ..)
  rw [State.ctx_modCtx _ _ hk, hagree.ctx]
  exact ⟨⟨_, rfl⟩, hagree.mem⟩

theorem State.releaseEntries_gives : (∃ q, (s.releaseEntries r).ctx r = { s.ctx r with locks := [], granted := [], queue := q }) ∧
    (s.releaseEntries r).mem = s.mem := by
  unfold State.releaseEntries
  dsimp only
  split
  · exact ⟨⟨_, State.ctx_modCtx _ _ hk⟩, rfl⟩
  · exact ⟨⟨_, State.ctx_modCtx _ _ hk⟩, rfl⟩

/-- A wound's release ends every claim of its context, and leaves its trap registers. -/
theorem State.releaseWounded_gives : (∃ e we qe rs wt o as q, (s.releaseWounded r).ctx r =
      { s.ctx r with
        e := e, we := we, qe := qe, results := rs, wait := wt, outer := o, asks := as, locks := [], granted := [], queue := q }) ∧
    (s.releaseWounded r).mem = s.mem := by
  obtain ⟨⟨as, hw⟩, hwm⟩ := State.withdrawRequests_gives (s := s) hk
  obtain ⟨⟨q, he⟩, hem⟩ := State.releaseEntries_gives (s := s.withdrawRequests r) hk
  obtain ⟨e, we, qe, rs, wt, o, ha⟩ := Ctx.answerWaits_eq (lockStatus 2 7) (s.ctx r).lockWaits ((s.releaseAll r).ctx r)
  refine ⟨⟨e, we, qe, rs, wt, o, as, q, ?_⟩, hem.trans hwm⟩
  rw [State.releaseWounded, State.ctx_modCtx _ _ hk, ha, State.releaseAll, he, hw]

end

end Sys2Proof.Machine
end

section
/-! Boundaries (O35): the trap of lowest class of those that are due (R182, R185 to R187). -/

namespace Sys2Proof.Machine

theorem Ctx.TookTrap.waits {c d : Ctx} {q : TrapReq} {rpc core wall : Nat} (h : c.TookTrap q rpc core wall d) (cl : Bool)
    (o : Option (Wait × Nat)) (wt : Wait) : c.TookTrap q rpc core wall { d with closing := cl, outer := o, wait := wt } :=
  ⟨h.xcause, h.xpc, h.xaddr, h.xprog, h.xstat, h.pc, h.results, h.entering, h.general, h.others, h.pending⟩

/-- What a trap shows that a boundary takes: its registers, a live frame, and the rest as it was. -/
structure ShowsTrap (s : State) (r : CtxRef) (q : TrapReq) (u : State) : Prop where
  xcause : (u.ctx r).xcause = q.xcause
  xpc : (u.ctx r).xpc = q.xpc (s.ctx r).pc.toNat
  xaddr : (u.ctx r).xaddr = q.xaddr
  tf : (u.ctx r).tf = true
  a : (u.ctx r).a = (s.ctx r).a
  mem : u.mem = s.mem

section
variable {s : State} {r : CtxRef} {q : TrapReq}

theorem State.takeAt_gives (htf : (s.ctx r).tf = false) (hk : r.slot < 8) :
    (s.ctx r).TookTrap q (s.ctx r).pc.toNat (s.tile (tileOf r)).core (s.tile (tileOf r)).wall ((s.takeAt r q).ctx r) ∧
      (s.takeAt r q).mem = s.mem ∧ ((s.takeAt r q).tile (tileOf r)).irq = (s.tile (tileOf r)).irq := by
  unfold State.takeAt
  dsimp only
  rw [htf, if_neg Bool.false_ne_true, State.ctx_modCtx _ _ hk, State.tile_modCtx]
  obtain ⟨ht, hm, hirq⟩ := State.takeTrap_gives (q := q) (rpc := (s.ctx r).pc.toNat)
    (w := ((s.ctx r).blockStart || (s.ctx r).closing) && q.cls != 5) htf hk
  exact ⟨ht.waits .., hm, hirq⟩

/-- A trap is shown that is taken once its item has been taken out of what is pending. -/
theorem State.takeAt_shows {s' : State} (htf : (s'.ctx r).tf = false) (hk : r.slot < 8) (hpc : (s'.ctx r).pc = (s.ctx r).pc)
    (ha : (s'.ctx r).a = (s.ctx r).a) (hm : s'.mem = s.mem) : ShowsTrap s r q (s'.takeAt r q) := by
  obtain ⟨ht, hmem, _⟩ := State.takeAt_gives (q := q) htf hk
  exact ⟨ht.xcause, hpc ▸ ht.xpc, ht.xaddr, ht.tf, ht.general.1.trans ha, hmem.trans hm⟩

/-- The like where that item was the context's own; the others stay pending. -/
theorem State.takeAt_modCtx (f : Ctx → Ctx) (htf : (f (s.ctx r)).tf = false) (hpc : (f (s.ctx r)).pc = (s.ctx r).pc)
    (ha : (f (s.ctx r)).a = (s.ctx r).a) (hk : r.slot < 8) : let u := (s.modCtx r f).takeAt r q
    ShowsTrap s r q u ∧ (u.ctx r).xprog = q.xprog ∧ (u.ctx r).request = (f (s.ctx r)).request ∧
      (u.ctx r).wound = (f (s.ctx r)).wound := by
  have hctx := s.ctx_modCtx f hk
  rw [← hctx] at htf hpc ha ⊢
  obtain ⟨ht, _, _⟩ := State.takeAt_gives (q := q) htf hk
  exact ⟨State.takeAt_shows htf hk hpc ha rfl, ht.xprog, ht.pending⟩

/-- The release of a wounded task's claims leaves what its trap shows. -/
theorem ShowsTrap.releaseWounded {u : State} (hk : r.slot < 8) (h : ShowsTrap s r q u) : ShowsTrap s r q (u.releaseWounded r) := by
  obtain ⟨⟨e, we, qe, rs, wt, o, as, n, hd⟩, hm⟩ := State.releaseWounded_gives (s := u) hk
  exact ⟨(congrArg Ctx.xcause hd).trans h.xcause, (congrArg Ctx.xpc hd).trans h.xpc, (congrArg Ctx.xaddr hd).trans h.xaddr,
    (congrArg Ctx.tf hd).trans h.tf, (congrArg Ctx.a hd).trans h.a, hm.trans h.mem⟩

/-! The trap that is taken -/

theorem State.boundary_interrupt {l : Nat} (hf : (s.tile (tileOf r)).freeze = none)
    (hl : (s.tile (tileOf r)).takeableIrq (s.ctx r) = some l) : s.boundary r =
      (s.modTile (tileOf r) (fun t => { t with irq := t.irq &&& ~~~(1#16 <<< l) })).takeAt r
        ⟨.interrupt (BitVec.ofNat 4 l), 1, 0, (s.ctx r).pc.toNat, 0, 0⟩ := by
  unfold State.ctx at hl
  rw [State.boundary, hf, Option.isNone_none, if_pos rfl, hl]
  rfl

section
variable (hl : (s.tile (tileOf r)).takeableIrq (s.ctx r) = none)
include hl

theorem State.boundary_wound {w : Word} (hw : (s.ctx r).wound = some w) (hnow : (s.tile (tileOf r)).woundNow (s.ctx r) = true) :
    s.boundary r = ((s.modCtx r (fun c => { c with wound := none })).takeAt r
      ⟨.wound, 2, 0, (s.ctx r).pc.toNat, w, 0⟩).releaseWounded r := by
  unfold State.ctx at hl hw hnow
  rw [State.boundary, hl, ite_self, hw]
  exact if_pos hnow

theorem State.boundary_late (hw : (s.ctx r).wound = none) : s.boundary r = s.takeLate r := by
  unfold State.ctx at hl hw
  rw [State.boundary, hl, ite_self, hw]

end

theorem State.takeLate_fault {f : LateFault} (hf : (s.ctx r).firstLate = some f) : ∃ ks, s.takeLate r =
    (s.modCtx r (fun c => { c with late := c.late.erase f, capture := c.capture ++ ks })).takeAt r
      ⟨f.cause, 3, slotIdx f.slot, f.fpc.getD (s.ctx r).pc.toNat, f.xaddr, f.xprog⟩ := by
  rw [State.takeLate, hf]
  exact ⟨_, rfl⟩

theorem State.takeLate_request {k : Cause} {fpc seq : Nat} (hf : (s.ctx r).firstLate = none)
    (hq : (s.ctx r).request = some (k, fpc, seq)) : s.takeLate r =
      (s.modCtx r (fun c => { c with request := none })).takeAt r ⟨k, 4, 0, fpc, 0, 0⟩ := by
  rw [State.takeLate, hf, hq]

end

end Sys2Proof.Machine

namespace Sys2Proof.Laws

open Sys2Proof.Machine

theorem trapEntry_boundary {s : State} {r : TileRef} {k : Nat} (hrun : (s.tile r).running = some k)
    (hat : (s.tile r).atBoundary k = true) (hpre : (s.tile r).preempts k = false) :
    exec (.trapEntry r) s = .next (s.boundary ⟨r.node, r.tile, k⟩) := by
  rw [exec_trapEntry, execTrapEntry]
  simp [hrun, hat, hpre]

/-- Settles O35: each trap is taken with its item out of what is pending; a wound's release leaves the trap registers. -/
theorem boundariesTakeTraps : Obligations.BoundariesTakeTraps := by
  unfold Obligations.BoundariesTakeTraps
  intro s r k l w f n fpc seq me t c pc here shows
  have shown : ∀ (q : TrapReq) {u : State}, ShowsTrap s me q u → shows q.cause q.cls q.slot q.fpc q.xaddr u :=
    fun _ _ h => ⟨h.xcause, h.xpc, h.xaddr, h.tf, h.a, h.mem⟩
  refine ⟨fun ⟨hk, hrun, hat, hpre, htf⟩ hf hl _ => ⟨_, trapEntry_boundary hrun hat hpre, ?_⟩,
    fun ⟨hk, hrun, hat, hpre, htf⟩ hl hw hnow => ⟨_, trapEntry_boundary hrun hat hpre, ?_⟩,
    fun ⟨hk, hrun, hat, hpre, htf⟩ hl hw hlate => ⟨_, trapEntry_boundary hrun hat hpre, ?_⟩,
    fun ⟨hk, hrun, hat, hpre, htf⟩ hl hw hlate hreq => ⟨_, trapEntry_boundary hrun hat hpre, ?_⟩⟩
  · let q : TrapReq := ⟨.interrupt (BitVec.ofNat 4 l), 1, 0, pc, 0, 0⟩
    have hctx : (s.modTile r (fun t => { t with irq := t.irq &&& ~~~(1#16 <<< l) })).ctx me = s.ctx me := by
      rw [State.ctx, show tileOf me = r from rfl, State.tile_modTile]
      rfl
    have htf' := (congrArg Ctx.tf hctx).trans htf
    obtain ⟨_, _, hirq⟩ := State.takeAt_gives (q := q) htf' hk
    rw [State.boundary_interrupt (r := me) hf hl]
    exact ⟨shown q (State.takeAt_shows htf' hk (congrArg Ctx.pc hctx) (congrArg Ctx.a hctx) rfl),
      hirq.trans (congrArg Tile.irq (State.tile_modTile ..))⟩
  · let q : TrapReq := ⟨.wound, 2, 0, pc, w, 0⟩
    obtain ⟨hshow, _, _, hwound⟩ := State.takeAt_modCtx (s := s) (r := me) (q := q) (fun c => { c with wound := none }) htf rfl rfl hk
    rw [State.boundary_wound (r := me) hl hw hnow]
    obtain ⟨⟨_, _, _, _, _, _, _, _, hd⟩, _⟩ := State.releaseWounded_gives (r := me) hk
    exact ⟨shown q (hshow.releaseWounded hk), (congrArg Ctx.wound hd).trans hwound, congrArg Ctx.locks hd⟩
  · let q : TrapReq := ⟨f.cause, 3, slotIdx f.slot, f.fpc.getD pc, f.xaddr, f.xprog⟩
    obtain ⟨ks, htake⟩ := State.takeLate_fault hlate
    obtain ⟨hshow, hxprog, _, _⟩ := State.takeAt_modCtx (s := s) (r := me) (q := q)
      (fun c => { c with late := c.late.erase f, capture := c.capture ++ ks }) htf rfl rfl hk
    rw [State.boundary_late (r := me) hl hw, htake]
    exact ⟨shown q hshow, hxprog⟩
  · let q : TrapReq := ⟨.trap n, 4, 0, fpc, 0, 0⟩
    obtain ⟨hshow, _, hrequest, _⟩ := State.takeAt_modCtx (s := s) (r := me) (q := q)
      (fun c => { c with request := none }) htf rfl rfl hk
    rw [State.boundary_late (r := me) hl hw, State.takeLate_request hlate hreq]
    exact ⟨shown q hshow, hrequest⟩

end Sys2Proof.Laws
end

section
/-! The steps of trap entries and returns (O36): what a frame that is written leaves of its context (R188, R193), and each step as it
takes place (R187, R189, R190, R196). -/

namespace Sys2Proof.Machine

section
variable {s : State} {r : CtxRef}

/-! A frame that is written -/

theorem State.nodes_healWhole (sp : MemSpace) (o : TileRef) (off n : Nat) : (s.healWhole sp o off n).nodes = s.nodes := rfl
theorem State.nodes_setFrameWord (off : Nat) (w : Word) : (s.setFrameWord r off w).nodes = s.nodes := rfl

theorem nodes_writeRecords (xs : List Record) (s : State) (r : CtxRef) (i p : Nat) : (writeRecords s r xs i p).1.nodes = s.nodes := by
  induction xs generalizing s i p with
  | nil => rfl
  | cons x xs ih =>
    rw [writeRecords]
    dsimp only
    split
    · rfl
    · split <;> rw [ih] <;> simp only [State.nodes_healWhole, State.writeWord_nodes, State.writeBytes_nodes]

theorem State.nodes_spoilLatches (cs : List Cell) : (s.spoilLatches r cs).nodes = s.nodes := by
  unfold State.spoilLatches
  refine State.nodes_foldl (fun t x => ?_) cs s
  split <;> rfl

/-- A frame that is written leaves every context, but for the marks of its own one's records. -/
theorem State.writeFrame_eq (s : State) (r : CtxRef) (xcause xpc : Word) (waitEnd : Bool) : ∃ (u : State) (ms : _),
    (s.writeFrame r xcause xpc waitEnd).1 = u.modCtx r (fun c => { c with marks := ms }) ∧ u.nodes = s.nodes := by
  refine ⟨_, _, rfl, ?_⟩
  rw [State.nodes_spoilLatches, State.nodes_healWhole, State.nodes_healWhole, State.nodes_foldl, State.nodes_foldl, State.writeBytes_nodes,
    State.nodes_setFrameWord, State.nodes_setFrameWord, State.nodes_setFrameWord, State.nodes_setFrameWord, nodes_writeRecords]
  · intro t k
    rw [State.nodes_setFrameWord, State.nodes_setFrameWord, State.nodes_setFrameWord, State.nodes_setFrameWord]
  · intro t k
    rw [State.writeBytes_nodes]

/-! The end of an entry -/

/-- An entry without a value to wait for, a record or an item to defer issues its handler 10 cycles after its boundary (R190). -/
theorem State.enterHandler_empty (hk : r.slot < 8) {core wall : Nat} (he : (s.ctx r).entering = some (core, wall))
    (hl : (s.ctx r).landings = []) (hc : (s.ctx r).capture = []) (hlate : (s.ctx r).late = []) (hr : (s.ctx r).request = none) :
    let d := (s.enterHandler r).ctx r
    (d.entering = none ∧ d.issueAt = core + 10 ∧ d.lc = Vector.replicate 4 0) ∧
      (d.qa = Vector.replicate 4 none ∧ d.qm = Vector.replicate 4 none ∧ d.qe = Vector.replicate 4 none ∧
        d.qv = Vector.replicate 4 none) ∧ d.pc = (s.ctx r).pc ∧ d.a = (s.ctx r).a := by
  obtain ⟨u, ms, hw, hu⟩ := s.writeFrame_eq r (s.ctx r).xcause (s.ctx r).xpc (s.ctx r).waitEnd
  rw [State.enterHandler, he]
  dsimp only
  rw [hw, Ctx.waitedRecords, hl, hc, hlate, hr]
  simp only [List.map_nil, List.append_nil, List.filter_nil, List.foldl_nil, List.length_nil, List.all_nil, Bool.not_true,
    Bool.false_eq_true, if_false, Nat.not_lt_zero, or_self]
  rw [State.ctx_modCtx _ _ hk, State.ctx_modCtx _ _ hk, State.ctx_congr hu]
  have hat : core + max 10 (0 + 2) + 0 + 4 * 0 + 0 = core + 10 := by omega
  exact ⟨⟨rfl, hat, rfl⟩, ⟨rfl, rfl, rfl, rfl⟩, rfl, rfl⟩

/-! The end of a return -/

theorem State.reissueAll_nil (h : (s.ctx r).reissue = []) (n : Nat) : s.reissueAll r n = s := by
  cases n with
  | zero => rfl
  | succ n => rw [State.reissueAll, h]

theorem Tile.ctxs_settlePend (t : Tile) : t.settlePend.ctxs = t.ctxs := by
  unfold Tile.settlePend
  rfl

theorem State.ctx_modTile_settlePend : (s.modTile (tileOf r) Tile.settlePend).ctx r = s.ctx r := by
  rw [State.ctx, State.tile_modTile, Tile.ctx_congr (Tile.ctxs_settlePend _), State.ctx]

/-- A return with nothing to issue again, to complete or to wait for issues its bundle once its restore has ended (R196). -/
theorem State.continueReturn_empty (hk : r.slot < 8) {core wall : Nat} (hret : (s.ctx r).returning = some (core, wall))
    (hcore : core + 2 ≤ (s.tile (tileOf r)).core) (hwall : wall ≤ (s.tile (tileOf r)).wall) (hre : (s.ctx r).reissue = [])
    (hl : (s.ctx r).landings = []) (hc : (s.ctx r).capture = []) (hw : (s.ctx r).waitEnd = false) :
    let u := s.continueReturn r
    let d := u.ctx r
    d.returning = none ∧ d.issueAt = (s.tile (tileOf r)).core ∧ d.results = (s.ctx r).results ∧ d.pc = (s.ctx r).pc ∧
      d.a = (s.ctx r).a ∧ d.lc = (s.ctx r).lc ∧ u.mem = s.mem := by
  have hready : ∀ halts, (s.ctx r).returnReady (s.tile (tileOf r)).core (s.tile (tileOf r)).wall halts = true := fun halts => by
    simp [Ctx.returnReady, hret, hcore, hwall, hre, hl]
  have hplaced : ((s.ctx r).placeReturn (s.tile (tileOf r)).core (s.tile (tileOf r)).issued).results = (s.ctx r).results := by
    simp [Ctx.placeReturn, hc]
  unfold State.ctx at hready hw
  rw [State.continueReturn, State.reissueAll_nil hre]
  dsimp only
  rw [if_pos (hready _), hw, if_neg Bool.false_ne_true, State.ctx_modTile_settlePend, State.ctx_modCtx _ _ hk]
  exact ⟨rfl, rfl, hplaced, rfl, rfl, rfl, rfl⟩

end

end Sys2Proof.Machine

namespace Sys2Proof.Laws

open Sys2Proof.Machine

section
variable {s : State} {r : TileRef} {c : CtxRef} {k : Nat}

theorem interruptPending_gives {l : BitVec 4} (h : OnItsWay s (.interruptPending r l)) : Gives (.interruptPending r l) s (fun u =>
    (u.tile r).irq = (s.tile r).irq ||| 1#16 <<< l.toNat ∧ (u.tile r).ctxs = (s.tile r).ctxs ∧ u.mem = s.mem ∧
      u.net = s.net.erase (.interruptPending r l)) := by
  refine State.gives_taking (exec_interruptPending s) h ?_
  rw [State.tile_modTile]
  exact ⟨rfl, rfl, rfl, rfl⟩

theorem interruptPending_absent {l : BitVec 4} (h : ¬OnItsWay s (.interruptPending r l)) : exec (.interruptPending r l) s = .next s :=
  (exec_interruptPending s).trans (congrArg Host.Outcome.next (if_neg h))

/-- A step that changes one context alone gives what that context has. -/
theorem gives_modCtx {i : Instr} {f : Ctx → Ctx} {p : State → Prop} (hi : exec i s = .next (s.modCtx c f)) (hk : c.slot < 8)
    (hp : ∀ u, u.ctx c = f (s.ctx c) → u.mem = s.mem → p u) : Gives i s p :=
  ⟨_, hi, hp _ (State.ctx_modCtx _ _ hk) rfl⟩

theorem exec_lateFault_pending {i : Nat} {f : LateFault} (hf : (s.ctx c).late[i]? = some f) (ha : f.arrived = false)
    (htf : (s.ctx c).tf = false) : exec (.lateFault c i) s =
      .next (s.modCtx c (fun x => { x with late := x.late.set i { f with arrived := true } })) := by
  rw [exec_lateFault, execLateFault, State.arriveFault, hf]
  simp [ha, htf]

section
variable {core wall : Nat} (he : (s.ctx c).entering = some (core, wall)) (hw : wall + 16384 ≤ (s.tile (tileOf c)).wall)
include he hw

theorem exec_lostLanding_late {i : Nat} : exec (.lostLanding c i) s = .next (s.modCtx c (fun y => y.modLanding i (fun l =>
    if l.waited ∧ ¬l.settled then { l with lost := true } else l))) := by
  rw [exec_lostLanding, execLostLanding]
  simp only [he, if_pos hw]

theorem exec_nestedLandingLost_late {x : Landing} (hx : x.settled = false) (hn : (s.ctx c).nest = true)
    (hl : (s.ctx c).landings = [x]) : exec (.nestedLandingLost c x.id) s = .next (s.modCtx c (fun y =>
      { y.modLanding x.id (fun l => { l with value := some 0, arrive := some wall }) with hlost := true })) := by
  rw [exec_nestedLandingLost, execNestedLandingLost]
  simp [he, hw, hn, hl, hx]

end

theorem Ctx.modLanding_sole {y : Ctx} {x : Landing} (hl : y.landings = [x]) (f : Landing → Landing) :
    (y.modLanding x.id f).landings = [f x] := by
  simp [Ctx.modLanding, hl]

theorem exec_handlerEntry_running (h : (s.tile r).running = some k) : exec (.handlerEntry r) s =
    .next (s.enterHandler ⟨r.node, r.tile, k⟩) := by
  rw [exec_handlerEntry, execHandlerEntry, h]

theorem exec_returnBundleIssue_running (h : (s.tile r).running = some k) (hr : ((s.tile r).ctx k).returning.isSome = true) :
    exec (.returnBundleIssue r) s = .next (s.continueReturn ⟨r.node, r.tile, k⟩) := by
  rw [exec_returnBundleIssue, execReturnBundleIssue, h]
  exact congrArg Host.Outcome.next (if_pos hr)

end

/-- Settles O36: each step where what it waits for has come; the two losses change the one landing of their context. -/
theorem trapEntriesAndReturns : Obligations.TrapEntriesAndReturns := by
  unfold Obligations.TrapEntriesAndReturns
  intro s r k i l f core wall x me t c
  refine ⟨interruptPending_gives, interruptPending_absent, fun hk hf ha htf => ?_, fun hk he hw hl hwt hx => ⟨?_, fun hn => ?_⟩,
    fun hk hrun he hl hc hlate hreq => ?_, fun hk hrun hret hcore hwall hre hl hc hw => ?_⟩
  · exact gives_modCtx (exec_lateFault_pending hf ha htf) hk fun u hu hm => ⟨congrArg Ctx.late hu, (congrArg Ctx.a hu).trans rfl, hm⟩
  · refine gives_modCtx (exec_lostLanding_late (c := me) he hw) hk fun u hu hm => ⟨(congrArg Ctx.landings hu).trans ?_, hm⟩
    rw [Ctx.modLanding_sole hl, if_pos (by simp [hwt, hx])]
  · exact gives_modCtx (exec_nestedLandingLost_late (c := me) he hw hx hn hl) hk fun u hu hm =>
      ⟨congrArg Ctx.hlost hu, (congrArg Ctx.landings hu).trans (Ctx.modLanding_sole hl _), hm⟩
  · obtain ⟨⟨hent, hat, hlc⟩, ⟨hqa, hqm, hqe, hqv⟩, hpc, ha⟩ := State.enterHandler_empty (r := me) hk he hl hc hlate hreq
    exact ⟨_, exec_handlerEntry_running hrun, hent, hat, hlc, hqa, hqm, hqe, hqv, hpc, ha⟩
  · exact ⟨_, exec_returnBundleIssue_running hrun (Option.isSome_of_mem hret),
      State.continueReturn_empty (r := me) hk hret hcore hwall hre hl hc hw⟩

end Sys2Proof.Laws
end

section
/-! Updates of one place made one after the other, and what messages and credits that are sent leave of everything else. -/

namespace Sys2Proof.Machine

/-! Two updates of one place -/

@[simp] theorem spPut_spPut {α : Type} (m : Sparse α) (k : Nat) (v w : α) : spPut (spPut m k v) k w = spPut m k w := by
  induction m with
  | nil => simp [spPut]
  | cons e r ih =>
    obtain ⟨j, x⟩ := e
    by_cases h1 : k < j
    · simp [spPut, h1]
    · by_cases h2 : k = j
      · simp [spPut, h2]
      · simp [spPut, h1, h2, ih]

section
variable {s : State} {r : TileRef} {f g : Tile → Tile} {p q : Ctx → Ctx}

theorem State.modTile_congr (h : f (s.tile r) = g (s.tile r)) : s.modTile r f = s.modTile r g := congrArg (s.setTile r) h

theorem State.modTile_modTile : (s.modTile r f).modTile r g = s.modTile r (fun t => g (f t)) := by
  simp only [State.modTile, State.tile_setTile]
  simp [State.setTile, State.modNode, State.setNode, State.node]

theorem Tile.modCtx_modCtx (t : Tile) (k : Nat) : (t.modCtx k p).modCtx k q = t.modCtx k (fun c => q (p c)) := by
  by_cases h : k < 8
  · simp [Tile.modCtx, Tile.setCtx, Tile.ctx, h]
  · have hout : ∀ (u : Tile) (f : Ctx → Ctx), u.modCtx k f = u := fun u f => by
      rw [Tile.modCtx, Tile.setCtx, Vector.setIfInBounds_eq_of_size_le (Nat.not_lt.mp h)]
    rw [hout, hout, hout]

theorem State.modCur_congr (h : p s.cur = q s.cur) : s.modCur p = s.modCur q := State.modTile_congr (congrArg (s.here.setCtx s.slot) h)

theorem State.modCur_modCur : (s.modCur p).modCur q = s.modCur (fun c => q (p c)) := by
  have h : (s.modCur p).modCur q = (s.modCur p).modTile s.focus (fun t => t.modCtx s.slot q) := by
    rw [State.modCur, State.slot_modCur, State.modCur_focus]
  rw [h, State.modCur, State.modTile_modTile]
  exact State.modTile_congr (Tile.modCtx_modCtx ..)

@[simp] theorem Tile.inS_modCtx (t : Tile) (k st : Nat) : (t.modCtx k p).inS st = t.inS st := rfl
@[simp] theorem Tile.outS_modCtx (t : Tile) (k st : Nat) : (t.modCtx k p).outS st = t.outS st := rfl
@[simp] theorem Tile.ctx_modIn (t : Tile) (k st : Nat) (f : InStream → InStream) : (t.modIn st f).ctx k = t.ctx k := rfl

end

/-! Messages and credits sent -/

/-- One state differs from another in messages that have been sent, in links and in credits of host queues alone. -/
structure State.OnlySends (s t : State) : Prop where
  focus : t.focus = s.focus
  mem : t.mem = s.mem
  tile : ∀ r, t.tile r = s.tile r
  fold : ∀ n, (t.node n).fold = (s.node n).fold
  net : ∀ e ∈ s.net, e ∈ t.net

namespace State.OnlySends

theorem refl (s : State) : s.OnlySends s := ⟨rfl, rfl, fun _ => rfl, fun _ => rfl, fun _ h => h⟩

theorem trans {s t u : State} (h : s.OnlySends t) (k : t.OnlySends u) : s.OnlySends u :=
  ⟨k.focus.trans h.focus, k.mem.trans h.mem, fun r => (k.tile r).trans (h.tile r), fun n => (k.fold n).trans (h.fold n),
    fun e he => k.net e (h.net e he)⟩

theorem foldl {α : Type} {f : State → α → State} (h : ∀ (s : State) a, s.OnlySends (f s a)) (l : List α) (s : State) :
    s.OnlySends (l.foldl f s) := by
  induction l generalizing s with
  | nil => exact refl s
  | cons a l ih => exact (h s a).trans (ih _)

/-- A change of a node beside its tiles and its fold region. -/
theorem modNode (s : State) (n : Nat) {f : Node → Node} (ht : ∀ x, (f x).tiles = x.tiles) (hf : ∀ x, (f x).fold = x.fold) :
    s.OnlySends (s.modNode n f) := by
  refine ⟨rfl, rfl, fun r => ?_, fun m => ?_, fun _ h => h⟩
  · rw [State.tile, State.tile, State.node_modNode_eq]
    split
    · rw [ht]
    · rfl
  · rw [State.node_modNode_eq]
    split
    · exact hf _
    · rfl

theorem send (s : State) (e : Event) : s.OnlySends (s.send e) :=
  ⟨rfl, rfl, fun _ => rfl, fun _ => rfl, fun _ h => List.mem_append_left _ h⟩

theorem post (s : State) (n : Nat) (e : Event) : s.OnlySends (s.post n e) := by
  obtain h | ⟨b, c, fs, h⟩ | h := s.post_cases n e <;> rw [h]
  · exact send s e
  · exact modNode s n (fun _ => rfl) (fun _ => rfl)
  · exact refl s

theorem returnCredit (s : State) (src : Nat) (dst : CtxRef) (k : Nat) : s.OnlySends (s.returnCredit src dst k) := by
  unfold State.returnCredit
  split
  · exact post ..
  · exact modNode s _ (fun _ => rfl) (fun _ => rfl)

end State.OnlySends

/-- A credit for a stream of a tile of the node that returns it is sent there directly (R404). -/
theorem State.returnCredit_self (s : State) {src : Nat} {dst : CtxRef} (k : Nat) (hn : dst.node = src) (ht : dst.tile < 256) :
    s.returnCredit src dst k = s.send (.creditArrival (tileOf dst) (BitVec.ofNat 5 dst.slot) k) := by
  subst hn
  exact (if_pos ht).trans (State.post_self rfl)

end Sys2Proof.Machine
end

section
/-! Packets read and ended by their task (O22). -/

namespace Sys2Proof.Machine

/-! The landing of a packet read -/

/-- A change of the landing that was added last, where no other has its number. -/
theorem Ctx.modLanding_append {c : Ctx} {x : Landing} {f : Landing → Landing} (h : ∀ y ∈ c.landings, y.id ≠ x.id) :
    ({ c with landings := c.landings ++ [x] } : Ctx).modLanding x.id f = { c with landings := c.landings ++ [f x] } := by
  have hold : c.landings.map (fun l => if l.id = x.id then f l else l) = c.landings :=
    (List.map_congr_left (fun y hy => if_neg (h y hy))).trans (List.map_id _)
  simp [Ctx.modLanding, hold]

/-- A read of whole units takes a landing entry with the bytes read (R261). -/
theorem State.issuePkt_whole {s : State} {hdr : Bool} {l : BitVec 10} {x : RFile} {d b : BitVec 5} (hf : FreshId s)
    (hp : s.pktPoison s.me hdr x (s.cur.regM b.toNat) = none) : s.issuePkt hdr l x d b =
      { s with ids := s.ids + 1 }.modCur (fun c => { c with landings := c.landings ++
        [{ landingOf s .m (if hdr then .header else .payload) l x d (s.cur.regM b.toNat) (pktSize x) 4 true with
            value := some (s.pktRead s.me hdr x (s.cur.regM b.toNat)) }] }) := by
  have hfresh : ∀ y ∈ ({ s with ids := s.ids + 1 } : State).cur.landings, y.id ≠ s.ids := hf
  simp only [State.issuePkt, hp, State.takeLanding, State.newId]
  rw [State.modCur_modCur]
  exact State.modCur_congr (Ctx.modLanding_append hfresh)

/-! The end of a packet -/

section
variable {s : State} {r : TileRef} {c : CtxRef} {st i : Nat}

/-- The tile of a buffer made Free differs in that buffer alone. -/
theorem State.tile_freeBuffer : (s.freeBuffer r st i).tile r =
    (s.tile r).modIn st (fun x => x.modBuf i (fun b => { b with st := .free })) := by
  rw [State.freeBuffer, (State.OnlySends.returnCredit ..).tile, State.tile_modTile]

theorem State.mem_freeBuffer : (s.freeBuffer r st i).mem = s.mem := (State.OnlySends.returnCredit ..).mem
theorem State.focus_freeBuffer : (s.freeBuffer r st i).focus = s.focus := (State.OnlySends.returnCredit ..).focus

theorem State.donePacket_none (h : (s.ctx c).cur.find? (fun e => e.1 == st) = none) : s.donePacket c st = s := by
  rw [State.donePacket, h]

theorem State.donePacket_some {e : Nat × Nat} (h : (s.ctx c).cur.find? (fun e => e.1 == st) = some e) :
    s.donePacket c st = (s.freeBuffer (tileOf c) st e.2).modCtx c (fun c => { c with cur := spDel c.cur st }) := by
  rw [State.donePacket, h]

/-- The tile of a task whose packet has ended. -/
theorem State.tile_donePacket {e : Nat × Nat} (h : (s.ctx c).cur.find? (fun e => e.1 == st) = some e) :
    (s.donePacket c st).tile (tileOf c) = ((s.tile (tileOf c)).modIn st (fun x => x.modBuf e.2 (fun b => { b with st := .free }))).modCtx
      c.slot (fun c => { c with cur := spDel c.cur st }) := by
  rw [State.donePacket_some h, State.tile_modCtx, State.tile_freeBuffer]

end

end Sys2Proof.Machine

namespace Sys2Proof.Laws

open Sys2Proof.Machine

section
variable {s : State} {g : Guard} {l : BitVec 10} {x : RFile} {d b st : BitVec 5}

theorem runPkt_runs {hdr : Bool}
    (h : Runs s g (unsetM s b.toNat) (pktFault s.cur hdr x (s.cur.regM b.toNat) = none ∧ LandingFree s)) :
    runPkt hdr g l x d b s = .next (s.issuePkt hdr l x d b) :=
  runOp_runs h (fun hk => ⟨rfl, rfl, rfl, hk.1, fun _ => hk.2⟩) rfl

theorem inputFault_none {t : Tile} {waits : Bool} (h : inMode (t.inS st.toNat).d0 ≠ 3)
    (hw : waits = true → inMode (t.inS st.toNat).d0 ≠ 2) : inputFault t st waits = none :=
  if_neg (fun hb => hb.elim h (fun hm => hw hm.1 hm.2))

theorem inputFault_unbound {t : Tile} {waits : Bool} (h : inMode (t.inS st.toNat).d0 = 3) :
    inputFault t st waits = some (.bound, st.setWidth 64) := if_pos (.inl h)

theorem swait_runs (h : Runs s g false (inMode (s.here.inS st.toNat).d0 ≠ 3 ∧ inMode (s.here.inS st.toNat).d0 ≠ 2)) :
    exec (.swait g st) s = .next { s.donePacket s.me st.toNat with
      issue := { (s.donePacket s.me st.toNat).issue with endBlock := some (.stream st.toNat) } } :=
  (exec_swait s).trans <| runOp_runs h (fun hk => ⟨rfl, rfl, rfl, inputFault_none hk.1 (fun _ => hk.2), fun ht => Bool.noConfusion ht⟩) rfl

theorem sdone_runs (h : Runs s g false (inMode (s.here.inS st.toNat).d0 ≠ 3)) :
    exec (.sdone g st) s = .next (s.donePacket s.me st.toNat) :=
  (exec_sdone s).trans <| runOp_runs h (fun hk => ⟨rfl, rfl, rfl, inputFault_none hk (fun hw => Bool.noConfusion hw), fun ht => Bool.noConfusion ht⟩) rfl

/-- An instruction of a stream that is not bound is the trap `BOUND` with the stream (R262). -/
theorem unbound_traps {waits : Bool} {eff : State → State} (hm : s.issue.mode = .direct) (hg : s.cur.guard g = true)
    (hp : s.cur.poisonRd = false) (h : inMode (s.here.inS st.toNat).d0 = 3) :
    runOp .m g (fun s => (Checks.reads false).withOwn (inputFault s.here st waits)) eff s =
      .next (s.issueTrap ⟨4, .m, .bound, st.setWidth 64⟩) :=
  runOp_traps hm (opFailure_own hg (fun ht => by simp [hp] at ht) rfl rfl rfl (inputFault_unbound h))

/-- What the end of the running task's packet leaves. -/
theorem donePacket_gives {i : Nat} (hk : s.slot < 8) (hc : s.cur.cur.find? (fun e => e.1 == st.toNat) = some (st.toNat, i))
    (hi : i < (s.here.inS st.toNat).bufs.length) :
    let t := s.donePacket s.me st.toNat
    let b := (s.here.inS st.toNat).buf i
    (t.here.inS st.toNat).buf i = { b with st := .free } ∧ t.cur.cur = spDel s.cur.cur st.toNat ∧ t.mem = s.mem ∧
      (b.sender.node = s.focus.node → b.sender.tile < 256 →
        t.net = s.net ++ [.creditArrival (tileOf b.sender) (BitVec.ofNat 5 b.sender.slot) 1]) := by
  have htile := State.tile_donePacket (s := s) (c := s.me) hc
  have hdone := State.donePacket_some (s := s) (c := s.me) hc
  have hhere : (s.donePacket s.me st.toNat).here = (s.here.modIn st.toNat (fun x => x.modBuf i (fun b => { b with st := .free }))).modCtx
      s.slot (fun c => { c with cur := spDel c.cur st.toNat }) := by
    rw [State.here, hdone, State.modCtx_focus, State.focus_freeBuffer, ← hdone]
    exact htile
  refine ⟨?_, ?_, ?_, fun hn ht => ?_⟩
  · rw [hhere, Tile.inS_modCtx, Tile.inS_modIn st.isLt, InStream.buf_modBuf hi]
  · have hslot : (s.donePacket s.me st.toNat).slot = s.slot := by
      rw [State.slot, hhere]
      rfl
    rw [State.cur, hslot, hhere, Tile.ctx_modCtx _ _ hk, Tile.ctx_modIn]
    rfl
  · rw [hdone, State.modCtx_mem, State.mem_freeBuffer]
  · rw [hdone, State.modCtx_net, State.freeBuffer]
    exact congrArg State.net (State.returnCredit_self _ 1 hn ht)

end

/-- Settles O22: packet reads take a landing entry with their bytes, `SWAIT` and `SDONE` end the packet, and what that leaves. -/
theorem packetReadsAndWaits : Obligations.PacketReadsAndWaits := by
  unfold Obligations.PacketReadsAndWaits
  intro s g l x d b st p reads mode
  refine ⟨fun h hf hp => ?_, fun h hf hp => ?_, swait_runs, sdone_runs, State.donePacket_none (c := s.me),
    fun i hk hc hi => donePacket_gives hk hc hi,
    fun hm hg hp h => ⟨(exec_swait s).trans (unbound_traps hm hg hp h), (exec_sdone s).trans (unbound_traps hm hg hp h)⟩⟩
  · rw [exec_shdr, execShdr, runPkt_runs h, State.issuePkt_whole hf hp]
    rfl
  · rw [exec_srd, execSrd, runPkt_runs h, State.issuePkt_whole hf hp]
    rfl

end Sys2Proof.Laws
end

section
/-! Forks, joins, yields, exits and cancellations at issue (O27). -/

namespace Sys2Proof.Machine

/-! The descriptor of a fork -/

section
variable (id : BitVec 32) (entry : BitVec 12) (pri : Nat) (join : Bool)

/-- Dword 2 of a descriptor (Table 7.9). -/
def forkDword2 : Word := BitVec.ofNat 64 (id.toNat * 2 ^ 32 + entry.toNat * 2 ^ 20 + pri * 2 ^ 18 + (if join then 2 ^ 17 else 0))

variable {pri} (hp : pri < 4)
include hp

theorem toNat_forkDword2 : (forkDword2 id entry pri join).toNat =
    id.toNat * 2 ^ 32 + entry.toNat * 2 ^ 20 + pri * 2 ^ 18 + (if join then 2 ^ 17 else 0) := by
  have h1 := id.isLt
  have h2 := entry.isLt
  have h3 : (if join then 2 ^ 17 else 0) ≤ 2 ^ 17 := by split <;> decide
  rw [forkDword2, BitVec.toNat_ofNat]
  omega

theorem dqTree_forkDword2 : dqTree (forkDword2 id entry pri join) = id := by
  have h1 := id.isLt
  have h2 := entry.isLt
  have h3 : (if join then 2 ^ 17 else 0) ≤ 2 ^ 17 := by split <;> decide
  apply BitVec.eq_of_toNat_eq
  rw [dqTree, BitVec.toNat_ofNat, wfld, fld, toNat_forkDword2 _ _ _ hp, Nat.shiftRight_eq_div_pow]
  omega

theorem dqEntry_forkDword2 : dqEntry (forkDword2 id entry pri join) = entry := by
  have h2 := entry.isLt
  have h3 : (if join then 2 ^ 17 else 0) ≤ 2 ^ 17 := by split <;> decide
  apply BitVec.eq_of_toNat_eq
  rw [dqEntry, BitVec.toNat_ofNat, wfld, fld, toNat_forkDword2 _ _ _ hp, Nat.shiftRight_eq_div_pow]
  omega

theorem dqJoin_forkDword2 : dqJoin (forkDword2 id entry pri join) = join := by
  rw [dqJoin, BitVec.getLsbD, toNat_forkDword2 _ _ _ hp, Nat.testBit_eq_decide_div_mod_eq]
  cases join <;> simp <;> omega

end

/-! What a fork answers -/

section
variable {s : State} {a0 a1 w : Word}

/-- The tree of a fork's child: a new one, or its parent's (R226). -/
def State.forkTree (s : State) (w : Word) : Option (BitVec 32) := if w.getLsbD 17 then s.nextTree s.focus else some s.cur.tree

/-- The descriptor of a fork's child (Table 7.9). -/
def State.forkDescriptor (s : State) (a0 a1 w : Word) (id : BitVec 32) : DequeEntry :=
  ⟨a0, a1, forkDword2 id (forkEntry w) (wfld w 12 2) (w.getLsbD 16),
    BitVec.ofNat 64 (s.me.tile % 256 * 2 ^ 56 + s.me.slot % 8 * 2 ^ 53 + s.cur.serial % 2 ^ 48),
    if w.getLsbD 17 then (s.node s.focus.node).tick.toNat else s.cur.tick, s.here.wall, s.cur.gen, s.ids⟩

/-- The tile of a fork with the descriptor at its deque's head. -/
def Tile.pushFork (t : Tile) (e : DequeEntry) (new : Bool) (id : BitVec 32) : Tile :=
  { t with deque := e :: t.deque, lastTree := if new then id.setWidth 12 else t.lastTree }

theorem State.fork_unfit (h : s.here.needFits (forkEntry w) = false) :
    s.fork a0 a1 w = (0, s.modHere (fun t => { t with schstat := bumpField t.schstat 32 })) := by
  unfold State.fork
  simp only [h, Bool.not_false, if_true]

theorem State.fork_full (hn : s.here.needFits (forkEntry w) = true)
    (h : 64 ≤ s.here.deque.length ∨ (w.getLsbD 16 = true ∧ 65535 ≤ s.cur.jcnt)) : s.fork a0 a1 w = (0, s) := by
  unfold State.fork
  simp only [hn, Bool.not_true, Bool.false_eq_true, if_false]
  exact if_pos h

variable (hn : s.here.needFits (forkEntry w) = true) (hd : s.here.deque.length < 64)
  (hj : w.getLsbD 16 = true → s.cur.jcnt < 65535)
include hn hd hj

theorem State.fork_room : s.fork a0 a1 w = match s.forkTree w with
    | none => (0, s)
    | some id =>
      let s1 := s.modHere (fun t => t.pushFork (s.forkDescriptor a0 a1 w id) (w.getLsbD 17) id)
      (1, if w.getLsbD 16 then s1.modCur (fun c => { c with jcnt := c.jcnt + 1 }) else s1) := by
  have hroom : ¬(64 ≤ s.here.deque.length ∨ (w.getLsbD 16 = true ∧ 65535 ≤ s.cur.jcnt)) := by
    rintro (h | ⟨h1, h2⟩)
    · omega
    · exact absurd (hj h1) (Nat.not_lt.mpr h2)
  unfold State.fork
  simp only [hn, Bool.not_true, Bool.false_eq_true, if_false]
  exact if_neg hroom

/-- A fork that its tile has room for adds the descriptor, and counts a joining child. -/
theorem State.fork_gives {id : BitVec 32} (ht : s.forkTree w = some id) (hk : s.slot < 8) : ∃ t, s.fork a0 a1 w = (1, t) ∧
    t.here.deque = s.forkDescriptor a0 a1 w id :: s.here.deque ∧
    t.cur = { s.cur with jcnt := if w.getLsbD 16 then s.cur.jcnt + 1 else s.cur.jcnt } ∧ t.mem = s.mem := by
  have hfork := State.fork_room (a0 := a0) (a1 := a1) hn hd hj
  rw [ht] at hfork
  let s1 := s.modHere (fun t => t.pushFork (s.forkDescriptor a0 a1 w id) (w.getLsbD 17) id)
  have hhere : s1.here = s.here.pushFork (s.forkDescriptor a0 a1 w id) (w.getLsbD 17) id := State.tile_modTile ..
  have hslot : s1.slot = s.slot := by
    rw [State.slot, hhere]
    rfl
  have hcur : s1.cur = s.cur := by
    rw [State.cur, hslot, hhere]
    rfl
  refine ⟨_, hfork, ?_, ?_, ?_⟩
  · split
    · rw [State.here_modCur, hhere]
      rfl
    · rw [hhere]
      rfl
  · split
    · rw [State.cur_modCur _ _ (hslot.symm ▸ hk), hcur]
    · exact hcur
  · split <;> rfl

end

end Sys2Proof.Machine

namespace Sys2Proof.Laws

open Sys2Proof.Machine

section
variable {s : State} {g : Guard} {d : Dst} {q : BitVec 3} {a b : Src} {w : Word}

theorem tfork_runs (h : Runs s g (!s.cur.we.getLsbD (2 * q.toNat) || !s.cur.we.getLsbD (2 * q.toNat + 1) || s.cur.unsetE b) True) :
    exec (.tfork g d q b) s = .next (
      let x := s.fork (s.cur.regE (2 * q.toNat)) (s.cur.regE (2 * q.toNat + 1)) (s.cur.srcE b)
      x.2.resultWord .e .e 2 d x.1) := by
  rw [exec_tfork, execTfork]
  exact runOp_runs h (fun _ => ⟨rfl, rfl, rfl, rfl, fun ht => Bool.noConfusion ht⟩) rfl

/-- An operation of the E slot without reads or conditions has its effect. -/
theorem runOp_plain {eff : State → State} (h : Runs s g false True) :
    runOp .e g (fun _ => Checks.reads false) eff s = .next (eff s) :=
  runOp_runs h (fun _ => ⟨rfl, rfl, rfl, rfl, fun ht => Bool.noConfusion ht⟩) rfl

/-- The tree that a task at level 0 may cancel is one of its own stage (R286). -/
theorem tcancel_allowed {id : BitVec 32} (h : s.cur.level ≠ 0 ∨
      (id.toNat / 2 ^ 20 = s.focus.node ∧ s.here.inStage (id.toNat / 2 ^ 12 % 256) = true)) :
    ¬(s.cur.level = 0 ∧ ¬(wfld (id.setWidth 64) 20 12 = s.focus.node ∧ s.here.inStage (wfld (id.setWidth 64) 12 8) = true)) := by
  have hnode : wfld (id.setWidth 64) 20 12 = id.toNat / 2 ^ 20 := by
    have := id.isLt
    rw [wfld, fld, BitVec.toNat_setWidth, Nat.shiftRight_eq_div_pow]
    omega
  have htile : wfld (id.setWidth 64) 12 8 = id.toNat / 2 ^ 12 % 256 := by
    have := id.isLt
    rw [wfld, fld, BitVec.toNat_setWidth, Nat.shiftRight_eq_div_pow]
    omega
  rw [hnode, htile]
  rintro ⟨h0, hown⟩
  exact h.elim (fun hl => hl h0) hown

theorem tcancel_runs (h : Runs s g (s.cur.unsetE a) (s.cur.level ≠ 0 ∨
      (((s.cur.srcE a).setWidth 32).toNat / 2 ^ 20 = s.focus.node ∧
        s.here.inStage (((s.cur.srcE a).setWidth 32).toNat / 2 ^ 12 % 256) = true))) :
    exec (.tcancel g a) s = .next (
      let t := s.send (.treeCancel s.focus.node ((s.cur.srcE a).setWidth 32))
      if s.cur.tree = (s.cur.srcE a).setWidth 32 then t.modCur (fun c => { c with stuck := true }) else t) :=
  (exec_tcancel s).trans (runOp_runs h (fun hk => ⟨rfl, if_neg (tcancel_allowed hk), rfl, rfl, fun ht => Bool.noConfusion ht⟩) rfl)

end

/-- Settles O27: a fork without room answers 0, one with room adds its descriptor; the others end the block or the task, or send. -/
theorem taskOperations : Obligations.TaskOperations := by
  unfold Obligations.TaskOperations
  intro s g d q a b n w uq id ends own
  refine ⟨tfork_runs, fun hn h => ?_, State.fork_unfit, fun tree hn hd hj ht hk => ?_, fun h => (exec_tjoin s).trans (runOp_plain h),
    fun h => (exec_tyield s).trans (runOp_plain h), fun h => (exec_texit s).trans (runOp_plain h), tcancel_runs⟩
  · by_cases hfull : 64 ≤ s.here.deque.length ∨ (w.getLsbD 16 = true ∧ 65535 ≤ s.cur.jcnt)
    · exact State.fork_full hn hfull
    · have hnone : s.forkTree w = none := by
        obtain hd | hj | ⟨hw, hnext⟩ := h
        · exact absurd (.inl hd) hfull
        · exact absurd (.inr hj) hfull
        · exact (if_pos hw).trans hnext
      have hroom := State.fork_room (a0 := s.cur.regE n) (a1 := s.cur.regE (n + 1)) hn (by omega)
        (fun hw => Nat.lt_of_not_le (fun hj => hfull (.inr ⟨hw, hj⟩)))
      rwa [hnone] at hroom
  · obtain ⟨t, hfork, hdeque, hcur, hmem⟩ := State.fork_gives (a0 := s.cur.regE n) (a1 := s.cur.regE (n + 1)) hn hd hj ht hk
    exact ⟨_, t, hfork, hdeque, rfl, rfl, dqTree_forkDword2 _ _ _ (wfld_lt ..),
      (dqEntry_forkDword2 _ _ _ (wfld_lt ..)).trans (ofNat_wfld_zero w 12), dqJoin_forkDword2 _ _ _ (wfld_lt ..), hcur, hmem⟩

end Sys2Proof.Laws
end

section
/-! The close of a packet (O23): where it stands among its stream's open packets (R210, R267). -/

namespace Sys2Proof.Machine

section
variable {s : State} {st i n : Nat} {f : OutStream → OutStream} {p q : Ctx → Ctx}

/-- An operation that enters the issuing context's queues takes the next number. -/
theorem State.queueOp_eq (s : State) (sl : Slot) (inLoad inStore : Bool) (op : QOp) : s.queueOp sl inLoad inStore op =
    { s with ids := s.ids + 1 }.modCur (fun c => { c with queue := c.queue ++ [entryOf s sl s.ids inLoad inStore op] }) := rfl

/-- An output stream of the issuing tile that is changed before its task's context is. -/
theorem State.outS_modHere_modCur (h : st < 32) :
    ((({ s.modHere (fun t => t.modOut st f) with ids := n } : State).modCur p).modCur q).here.outS st = f (s.here.outS st) := by
  have hhere : ({ s.modHere (fun t => t.modOut st f) with ids := n } : State).here = s.here.modOut st f :=
    State.tile_modTile s s.focus (fun t => t.modOut st f)
  rw [State.here_modCur, State.here_modCur, hhere, Tile.outS_modCtx, Tile.outS_modCtx, Tile.outS_modOut _ _ h]

end

/-- Two tasks of a tile have each a packet open on output stream 4: that of slot 0, which runs, in staging buffer 0, and that of slot 1
in staging buffer 1. The stream has a CAP of 2 and buffers of 4,096 bytes. -/
def twoOpen : State :=
  let opened : OutStream → OutStream := fun x => { x with d0 := 0x480000, opened := [(0, false), (1, false)] }
  let s := State.reset.modTile ⟨0, 0⟩ (fun t => { t.modOut 4 opened with slots := 2, width := 1, height := 1, running := some 0 })
  (s.modCtx ⟨0, 0, 0⟩ (fun c => { c with st := .running, opn := [(4, 0)] })).modCtx ⟨0, 0, 1⟩ (fun c => { c with st := .ready, opn := [(4, 1)] })

end Sys2Proof.Machine

namespace Sys2Proof.Laws

open Sys2Proof.Machine

section
variable {s : State} {g : Guard} {st : BitVec 5} {a : Src} {i : Nat}

/-- The check of `SCLOSE` passes on an open packet whose length its buffer and its encoding take. -/
theorem scloseFault_none {v : Word} (ho : s.cur.openBuf st.toNat = some i) (hl : v.toNat % 8192 ≤ outBsize (s.here.outS st.toNat).d0)
    (he : (hdrEnc (s.readWord .port s.focus ((s.here.outS st.toNat).place i + 8)) = 1 ∨
      hdrEnc (s.readWord .port s.focus ((s.here.outS st.toNat).place i + 8)) = 2) → v.toNat % 8192 % 4 = 0) : scloseFault s st v = none := by
  have hv : wfld v 0 13 = v.toNat % 8192 := rfl
  rw [scloseFault, ho]
  dsimp only
  rw [hv]
  exact if_neg (fun h => h.elim (Nat.not_lt.mpr hl) (fun h => h.2 (he h.1)))

/-- The conditions of a close that runs (R267). -/
def Closes (s : State) (g : Guard) (st : BitVec 5) (a : Src) (i : Nat) : Prop :=
  Runs s g (s.cur.unsetM a) (outCap (s.here.outS st.toNat).d0 ≠ 0 ∧
    (s.cur.srcM a).toNat % 8192 ≤ outBsize (s.here.outS st.toNat).d0 ∧
    ((hdrEnc (s.readWord .port s.focus ((s.here.outS st.toNat).place i + 8)) = 1 ∨
      hdrEnc (s.readWord .port s.focus ((s.here.outS st.toNat).place i + 8)) = 2) → (s.cur.srcM a).toNat % 8192 % 4 = 0))

/-- A packet that is closed stands behind the packets of its stream that were open before: closed packets stand in the order of their
closing (R210). -/
theorem sclose_moves_last (h : Closes s g st a i) (ho : s.cur.openBuf st.toNat = some i) : Gives (.sclose g st a) s (fun t =>
    (t.here.outS st.toNat).opened = (s.here.outS st.toNat).opened.filter (fun p => p.1 != i) ++ [(i, true)]) := by
  refine ⟨_, (exec_sclose s).trans (runOp_runs h (fun ⟨hb, hl, he⟩ => ⟨rfl, rfl, rfl, ?_, fun ht => Bool.noConfusion ht⟩) rfl), ?_⟩
  · have hout : outputFault s.here st = none := if_neg hb
    exact (congrArg (Option.or · _) hout).trans (scloseFault_none ho hl he)
  · rw [ho]
    dsimp only
    rw [State.queueOp_eq, State.outS_modHere_modCur st.isLt]
    rfl

/-- The statement says of the same step that each packet keeps its place. -/
theorem opened_of_packetsAreBuilt (hall : Obligations.PacketsAreBuilt) (h : Closes s g st a i) (ho : s.cur.openBuf st.toNat = some i) :
    (s.here.outS st.toNat).opened.filter (fun p => p.1 != i) ++ [(i, true)] =
      (s.here.outS st.toNat).opened.map (fun p => if p.1 = i then (i, true) else p) := by
  unfold Obligations.PacketsAreBuilt at hall
  obtain ⟨-, -, -, -, hclaim, -⟩ := hall s g st a a i
  obtain ⟨t, ht, hlast⟩ := sclose_moves_last h ho
  have hsame := Host.Outcome.next.inj (ht.symm.trans (hclaim h ho))
  rw [← hlast, hsame, State.outS_modHere_modCur st.isLt]
  rfl

end

/-- Refutes O23: of two packets open on one stream the one closed first is moved behind the other, where the statement says that
each keeps its place. -/
theorem not_packetsAreBuilt : ¬ Obligations.PacketsAreBuilt := by
  intro h
  have hopen : twoOpen.cur.openBuf (4 : BitVec 5).toNat = some 0 := by decide
  have hruns : Closes twoOpen ⟨false, 0⟩ 4 (.reg 8) 0 := by
    unfold Closes Runs
    decide
  have hopened : (twoOpen.here.outS (4 : BitVec 5).toNat).opened = [(0, false), (1, false)] := by decide
  have hplaces := opened_of_packetsAreBuilt h hruns hopen
  rw [hopened] at hplaces
  exact absurd hplaces (by decide)

end Sys2Proof.Laws
end

section
/-! Packets on their way (O37): the launch, credits, the first flit, the receipt and a store to NEXT. -/

namespace Sys2Proof.Machine

/-! What a node holds beside its tiles -/

theorem State.node_modTile (s : State) (r : TileRef) (f : Tile → Tile) (n : Nat) :
    ∃ ts, (s.modTile r f).node n = { s.node n with tiles := ts } := by
  rw [State.modTile, State.setTile, State.node_modNode_eq]
  split <;> exact ⟨_, rfl⟩

/-- It is kept by a change of a tile. -/
theorem State.field_modTile {α : Type} (s : State) (r : TileRef) (f : Tile → Tile) (n : Nat) (p : Node → α)
    (hp : ∀ x ts, p { x with tiles := ts } = p x := by intros; rfl) : p ((s.modTile r f).node n) = p (s.node n) := by
  obtain ⟨ts, h⟩ := s.node_modTile r f n
  rw [h, hp]

/-! Parts of messages -/

theorem Node.part_setPart (x : Node) (b p : Nat) {fs : List Flit} (h : fs ≠ []) : (x.setPart b p fs).part b p = fs := by
  have hne : fs.isEmpty = false := by simpa using h
  simp [Node.setPart, Node.part, hne]

theorem messageFlits_ne_nil (ty dnode dtile id : Nat) (head rest : List Byte) : messageFlits ty dnode dtile id head rest ≠ [] :=
  List.cons_ne_nil _ _

/-- The flits of a stream packet go behind what its node passes on of their stream, or else into the queue of their bundle (R405). -/
theorem State.sendStream_gives (s : State) (n b : Nat) {fs : List Flit} (hfs : fs ≠ []) :
    let p := (fs.head?.map flitPart).getD 0
    let t := s.sendStream n b fs
    if (s.node n).relaying p = none then ((t.node n).link b).stream = ((s.node n).link b).stream ++ fs
    else (t.node n).part ownKey p = (s.node n).part ownKey p ++ fs ∧ ((t.node n).link b).stream = ((s.node n).link b).stream := by
  intro p t
  split
  case isTrue h =>
    have ht : t = s.modLink n b (fun l => l.push .stream fs) := if_neg (by simp [p, h])
    rw [ht, State.link_modLink]
    rfl
  case isFalse h =>
    have ht : t = s.modNode n (fun x => x.setPart ownKey p (x.part ownKey p ++ fs)) := if_pos (Option.isSome_iff_ne_none.mpr h)
    rw [ht, State.node_modNode, Node.part_setPart _ _ _ (by simp [hfs])]
    exact ⟨rfl, rfl⟩

theorem State.mem_sendStream (s : State) (n b : Nat) (fs : List Flit) : (s.sendStream n b fs).mem = s.mem := by
  unfold State.sendStream
  dsimp only
  split <;> rfl

/-! The launch -/

section
variable {s : State} {c : CtxRef} {n i : Nat} {e : QEntry}

/-- The packet in a staging buffer, closed, encoded and checked (R200, R202 to R204). -/
def State.closedPacket (s : State) (c : CtxRef) (n i : Nat) : NetPacket :=
  let out := (s.tile (tileOf c)).outS n
  let h0 := s.readWord .port (tileOf c) (out.place i)
  let h1 := s.readWord .port (tileOf c) (out.place i + 8)
  let wire := encodePayload (hdrEnc h1) (s.readBytes .port (tileOf c) (out.place i + 16) (hdrElen h1))
  ⟨s.ids, ⟨outNode out.d0, outTile out.d0⟩, h0, sealHeader h0 h1 wire.length, wire, ⟨c.node, c.tile, n⟩,
    (out.poison.filter (fun p => p.1 == i)).map (fun p => p.2), false, false⟩

/-- An output stream without the packet of a staging buffer. -/
def OutStream.started (x : OutStream) (i : Nat) : OutStream :=
  { x with opened := x.opened.filter (fun p => p.1 != i), poison := x.poison.filter (fun p => p.1 != i) }

theorem State.launch_eq (h : (s.node c.node).egressOf c.tile n = none) : s.launch c n i =
    ({ s with ids := s.ids + 1 }.sendPacket (s.closedPacket c n i) c.node).modTile (tileOf c) (fun t => t.modOut n (·.started i)) := by
  unfold State.launch
  rw [h]
  rfl

theorem State.launches_eq (he : (s.ctx c).headOf .store = some e) (hop : e.op = .sclose n i) (ha : s.allAhead c e = true)
    (ho : ((s.tile (tileOf c)).outS n).opened.find? (fun p => p.2) = some (i, true)) : s.launches c = some (e.id, n, i) := by
  unfold State.launches
  dsimp only
  rw [he]
  dsimp only
  rw [hop]
  exact if_pos ⟨ha, by rw [ho]; simp⟩

/-- A stream that has an open packet is one of the 32. -/
theorem Tile.lt_of_opened {t : Tile} {p : Nat × Bool} (h : (t.outS n).opened.find? (fun p => p.2) = some p) : n < 32 := by
  by_contra hn
  simp [Tile.outS, hn] at h

theorem State.leaveQueue_eq (id : Nat) : ∃ q, s.leaveQueue c id = s.modTile (tileOf c) (fun t => t.modCtx c.slot q) := by
  refine ⟨fun x => { x.setEntry id none with queue := dropDone c [] (x.setEntry id none).queue }, ?_⟩
  have hsettle : s.leaveQueue c id = (s.modTile (tileOf c) (fun t => t.modCtx c.slot (fun x => x.setEntry id none))).modTile (tileOf c)
    (fun t => t.modCtx c.slot (fun x => { x with queue := dropDone c [] x.queue })) := rfl
  rw [hsettle, State.modTile_modTile]
  exact State.modTile_congr (Tile.modCtx_modCtx ..)

/-- A packet for a tile of its own node travels whole. -/
theorem State.sendPacket_own {p : NetPacket} {src : Nat} (h : p.dest.node = src) :
    s.sendPacket p src = { s with packets := s.packets ++ [{ p with transit := false, whole := true }] } := if_pos h

/-- A packet for another node travels as the flits of its header and its wire bytes. -/
theorem State.sendPacket_away {p : NetPacket} {src b : Nat} (h : p.dest.node ≠ src) (hb : routeBundle s src p.dest.node = some b) :
    s.sendPacket p src =
      { s.sendStream src b (messageFlits 1 p.dest.node p.dest.tile (hdrStream p.hdr0)
          ((wordBytes p.hdr0 ++ wordBytes p.hdr1 ++ p.wire).take 64) ((wordBytes p.hdr0 ++ wordBytes p.hdr1 ++ p.wire).drop 64)) with
        packets := s.packets ++ [{ p with wire := [], transit := true, whole := false }] } := by
  unfold State.sendPacket
  rw [if_neg h, hb]

end

/-! The first flit -/

section
variable {s : State} {r : TileRef} {k n i : Nat} {p : NetPacket}

/-- Whether a packet's header passes its check (R203). -/
def NetPacket.good (p : NetPacket) : Bool :=
  headerCrc ((wordBytes p.hdr0 ++ wordBytes p.hdr1).take 14) == BitVec.ofNat 16 (wfld p.hdr1 48 16)

/-- A first flit for a bound stream takes a Free buffer, or waits for one; one with a bad check is a port fault (R205, R211). -/
def State.firstFlitAt (s : State) (r : TileRef) (k n : Nat) (p : NetPacket) : State :=
  let x := (s.tile r).inS n
  if !p.good then (s.dropPacket k).portFault r (inPort x.d0) 1 (hdrStream p.hdr0)
  else match x.bufs.findIdx? (fun b => b.st == .free) with
    | none => s
    | some i =>
      let o := x.place i
      ((s.writeWord .port r o p.hdr0).writeWord .port r (o + 8) p.hdr1).modTile r (fun t =>
        { t.modIn n (fun x => x.setBuf i { (default : Buf) with
            st := .receiving, pkt := k, sender := p.sender, tag := hdrTag p.hdr0, order := t.orders
            wire := if p.transit then p.wire.length else min firstFlitBytes p.wire.length, poison := p.poison }) with
          orders := t.orders + 1 })

/-- What a first flit does whose packet holds no buffer. -/
theorem State.firstFlit_eq (hp : s.packetAt r k = some p) (hs : p.started = true) (hh : (s.tile r).holds k = false)
    (hb : s.heldBack r = false) : s.firstFlit r k = match (s.tile r).entryFor (hdrStream p.hdr0) with
      | none => (s.dropPacket k).portFault r 0 (if p.good then 2 else 1) (hdrStream p.hdr0)
      | some n => s.firstFlitAt r k n p := by
  unfold State.firstFlit
  rw [hp]
  simp only [hs, hh, hb, Bool.not_true, Bool.or_self, Bool.false_eq_true, if_false]
  rfl

theorem State.firstFlitAt_free (hg : p.good = true) (hf : ((s.tile r).inS n).bufs.findIdx? (fun b => b.st == .free) = some i) :
    s.firstFlitAt r k n p = ((s.writeWord .port r (((s.tile r).inS n).place i) p.hdr0).writeWord .port r
      (((s.tile r).inS n).place i + 8) p.hdr1).modTile r (fun t => { t.modIn n (fun x => x.setBuf i { (default : Buf) with
        st := .receiving, pkt := k, sender := p.sender, tag := hdrTag p.hdr0, order := t.orders
        wire := if p.transit then p.wire.length else min firstFlitBytes p.wire.length, poison := p.poison }) with
          orders := t.orders + 1 }) := by
  rw [State.firstFlitAt]
  dsimp only
  rw [hg, hf]
  rfl

/-- A buffer of a stream, set. -/
theorem InStream.buf_setBuf {x : InStream} {b : Buf} (h : i < x.bufs.length) : (x.setBuf i b).buf i = b :=
  InStream.buf_modBuf (f := fun _ => b) h

theorem lt_of_findIdx? {α : Type} {q : α → Bool} {l : List α} (h : l.findIdx? q = some i) : i < l.length :=
  (List.findIdx?_eq_some_iff_getElem.mp h).1

end

/-! The receipt -/

section
variable {s : State} {r : TileRef} {st k j n : Nat} {p : NetPacket} {bs : List Byte}

/-- A packet wholly received put in its buffer: decoded, and stamped with the entry of the binding in force (R211, R213). -/
def State.takeIn (s : State) (r : TileRef) (st j k : Nat) (p : NetPacket) (bs : List Byte) : State :=
  let x := (s.tile r).inS st
  let b := x.binding (s.tile r).wall
  ({ s.dropPacket k with tainted := untaint s.tainted (memKey .port r (x.place j)) (bs.length + 23) }.writeBytes .port r
    (x.place j + 16) bs).modTile r (fun t =>
      { t.modIn st (fun y => y.modBuf j (fun q =>
          { q with st := .held, tagHeld := inTord x.d0, got := t.orders, wire := p.wire.length
                   stamp := if inValid b then some (inEntry b) else none, beyond := inValid b && !t.needFits (inEntry b) })) with
        orders := t.orders + 1 })

/-- Such a packet delivered by its stream's order, or rejected (R220, R361). -/
def State.admitIn (s : State) (r : TileRef) (st j k : Nat) (p : NetPacket) (bs : List Byte) : State :=
  let t := s.tile r
  let x := t.inS st
  let b := x.binding t.wall
  (if inMode x.d0 = 1 ∧ inValid b = true ∧ t.needFits (inEntry b) = false then (s.takeIn r st j k p bs).rejectStamped r st j
    else if inTord x.d0 then (s.takeIn r st j k p bs).judgeTags r st
    else (s.takeIn r st j k p bs).deliver r st j).modTile r Tile.allClaims

/-- A packet that is no packet of its stream: a port fault, and its buffer Free again (R205). -/
def State.faultIn (s : State) (r : TileRef) (st j k : Nat) (p : NetPacket) (code : Nat) : State :=
  ((s.dropPacket k).portFault r (inPort ((s.tile r).inS st).d0) code (hdrStream p.hdr0)).freeBuffer r st j

/-- What the receipt of a packet's last byte does, where it is the next of its sender's. -/
theorem State.received_eq (hp : s.packetAt r k = some p)
    (hj : ((s.tile r).inS st).bufs.findIdx? (fun b => b.st == .receiving && b.pkt == k) = some j) (hw : p.whole = true)
    (hb : s.heldBack r = false) (hn : s.isNext p = true) (hl : p.wire.length ≤ (((s.tile r).inS st).buf j).wire) :
    s.received r st k = if inBsize ((s.tile r).inS st).d0 < hdrElen p.hdr1 ∨ 8192 < hdrWlen p.hdr1 then s.faultIn r st j k p 4
      else match decodePayload (hdrEnc p.hdr1) (hdrElen p.hdr1) p.wire with
        | none => s.faultIn r st j k p 3
        | some bs => s.admitIn r st j k p bs := by
  unfold State.received
  dsimp only
  rw [hp, hj]
  simp only [hw, hb, hn, Bool.not_true, Bool.or_self, decide_eq_false (Nat.not_lt.mpr hl), Bool.false_eq_true, if_false]
  rfl

theorem Tile.inS_withOrders (t : Tile) (o : Nat) : ({ t with orders := o } : Tile).inS n = t.inS n := rfl

/-- The descriptor of a stream is kept as a packet is put in a buffer of it. -/
theorem State.d0_takeIn (hst : st < 32) : (((s.takeIn r st j k p bs).tile r).inS st).d0 = ((s.tile r).inS st).d0 := by
  rw [State.takeIn, State.tile_modTile, Tile.inS_withOrders, Tile.inS_modIn hst]
  rfl

/-- A packet rejected on a stream without tag order leaves its buffer Free and is counted (R361). -/
theorem State.rejectStamped_untagged (h : inTord ((s.tile r).inS st).d0 = false) :
    s.rejectStamped r st j = (s.freeBuffer r st j).modTile r (fun t => t.countRejects 1) := by
  simp only [State.rejectStamped, h, Bool.not_false, if_true, Bool.false_eq_true, if_false]

/-! A store to NEXT -/

theorem State.deliverHeld_none (h : ((s.tile r).inS st).nextHeld = none) (fuel : Nat) : s.deliverHeld r st fuel = s := by
  cases fuel with
  | zero => rfl
  | succ fuel =>
    rw [State.deliverHeld, h]

/-- A stream whose held packets are none to be delivered, and that does not skip, is left as it is (R220). -/
theorem State.judgeTags_quiet (h : ((s.tile r).inS st).nextHeld = none) (hs : ((s.tile r).inS st).skips = false) :
    s.judgeTags r st = s := by
  rw [State.judgeTags, State.deliverHeld_none h]
  simp [hs]

/-- A change of buffers keeps NEXT. -/
theorem Tile.next_modBuf (t : Tile) (i : Nat) (f : Buf → Buf) : ((t.modIn st (fun x => x.modBuf i f)).inS n).next = (t.inS n).next := by
  by_cases h : n = st
  · subst h
    by_cases hn : n < 32
    · rw [Tile.inS_modIn hn]
      rfl
    · simp [Tile.inS, hn]
  · rw [Tile.inS_modIn_of_ne h]

theorem Tile.next_claims (fuel : Nat) : ∀ t : Tile, ((t.claims st fuel).inS n).next = (t.inS n).next := by
  induction fuel with
  | zero => exact fun _ => rfl
  | succ fuel ih =>
    intro t
    rw [Tile.claims]
    split
    · rfl
    · split
      · rw [ih, Tile.inS_modCtx, Tile.next_modBuf]
      · rfl

theorem Tile.next_allClaims (t : Tile) : (t.allClaims.inS n).next = (t.inS n).next := by
  unfold Tile.allClaims
  generalize List.range 8 = ks
  induction ks generalizing t with
  | nil => rfl
  | cons k ks ih =>
    rw [List.foldl_cons, ih]
    split
    · exact Tile.next_claims ..
    · rfl

end

end Sys2Proof.Machine

namespace Sys2Proof.Laws

open Sys2Proof.Machine

section
variable {s : State} {c : CtxRef} {r : TileRef} {st : BitVec 5} {n i j k b : Nat} {e : QEntry} {p : NetPacket} {v : BitVec 32} {bs : List Byte}

/-! The launch -/

section
variable (he : (s.ctx c).headOf .store = some e) (hop : e.op = .sclose n i) (ha : s.allAhead c e = true)
  (ho : ((s.tile (tileOf c)).outS n).opened.find? (fun p => p.2) = some (i, true)) (hq : (s.node c.node).egressOf c.tile n = none)
include he hop ha ho hq

/-- A packet whose turn has come is sent, and leaves its staging buffer and its context's queue. -/
theorem packetLaunch_sends : ∃ q, exec (.packetLaunch c) s =
    .next (({ s with ids := s.ids + 1 }.sendPacket (s.closedPacket c n i) c.node).modTile (tileOf c)
      (fun t => (t.modOut n (·.started i)).modCtx c.slot q)) := by
  obtain ⟨q, hleave⟩ := State.leaveQueue_eq (s := s.launch c n i) (c := c) e.id
  refine ⟨q, ?_⟩
  rw [exec_packetLaunch, execPacketLaunch, State.launches_eq he hop ha ho]
  dsimp only
  rw [hleave, State.launch_eq hq, State.modTile_modTile]

theorem packetLaunch_own (hd : outNode ((s.tile (tileOf c)).outS n).d0 = c.node) : Gives (.packetLaunch c) s (fun t =>
    t.packets = s.packets ++ [{ s.closedPacket c n i with transit := false, whole := true }] ∧ t.mem = s.mem ∧
      ((t.tile (tileOf c)).outS n).opened = ((s.tile (tileOf c)).outS n).opened.filter (fun p => p.1 != i)) := by
  obtain ⟨q, hexec⟩ := packetLaunch_sends he hop ha ho hq
  rw [State.sendPacket_own hd] at hexec
  refine ⟨_, hexec, State.modTile_packets .., State.modTile_mem .., ?_⟩
  rw [State.tile_modTile, Tile.outS_modCtx, Tile.outS_modOut _ _ (Tile.lt_of_opened ho)]
  rfl

theorem packetLaunch_away (hd : outNode ((s.tile (tileOf c)).outS n).d0 ≠ c.node)
    (hb : routeBundle s c.node (outNode ((s.tile (tileOf c)).outS n).d0) = some b) : Gives (.packetLaunch c) s (fun t =>
      let p := s.closedPacket c n i
      let bytes := wordBytes p.hdr0 ++ wordBytes p.hdr1 ++ p.wire
      let fs := messageFlits 1 p.dest.node p.dest.tile (hdrStream p.hdr0) (bytes.take 64) (bytes.drop 64)
      let part := (fs.head?.map flitPart).getD 0
      t.packets = s.packets ++ [{ p with wire := [], transit := true, whole := false }] ∧ t.mem = s.mem ∧
        (if (s.node c.node).relaying part = none then ((t.node c.node).link b).stream = ((s.node c.node).link b).stream ++ fs
         else (t.node c.node).part ownKey part = (s.node c.node).part ownKey part ++ fs ∧
           ((t.node c.node).link b).stream = ((s.node c.node).link b).stream)) := by
  obtain ⟨q, hexec⟩ := packetLaunch_sends he hop ha ho hq
  rw [State.sendPacket_away hd hb] at hexec
  refine ⟨_, hexec, State.modTile_packets .., ?_, ?_⟩
  · exact (State.modTile_mem ..).trans (State.mem_sendStream { s with ids := s.ids + 1 } c.node b _)
  · dsimp only
    rw [State.field_modTile _ _ _ _ (fun x => (x.link b).stream), State.field_modTile _ _ _ _ (fun x => x.part ownKey _)]
    exact State.sendStream_gives { s with ids := s.ids + 1 } c.node b (messageFlits_ne_nil _ _ _ _ _ _)

end

/-! The first flit -/

section
variable (hp : s.packetAt r k = some p) (hs : p.started = true) (hh : (s.tile r).holds k = false) (hb : s.heldBack r = false)
include hp hs hh hb

theorem packetFirstFlit_eq : exec (.packetFirstFlit r k) s = .next (match (s.tile r).entryFor (hdrStream p.hdr0) with
    | none => (s.dropPacket k).portFault r 0 (if p.good then 2 else 1) (hdrStream p.hdr0)
    | some n => s.firstFlitAt r k n p) := by
  rw [exec_packetFirstFlit, execPacketFirstFlit, State.firstFlit_eq hp hs hh hb]

/-- A first flit of a bound stream with a good check takes a Free buffer and leaves its header there (R205, R207, R211). -/
theorem packetFirstFlit_takes (hg : p.good = true) (hn : n < 32) (he : (s.tile r).entryFor (hdrStream p.hdr0) = some n)
    (hf : ((s.tile r).inS n).bufs.findIdx? (fun b => b.st == .free) = some i) : Gives (.packetFirstFlit r k) s (fun t =>
      let b := ((t.tile r).inS n).buf i
      b.st = .receiving ∧ b.pkt = k ∧ b.sender = p.sender ∧ b.tag = hdrTag p.hdr0 ∧ t.packets = s.packets ∧
        t.mem = ((s.writeWord .port r (((s.tile r).inS n).place i) p.hdr0).writeWord .port r (((s.tile r).inS n).place i + 8) p.hdr1).mem) := by
  have hexec := packetFirstFlit_eq hp hs hh hb
  rw [he] at hexec
  dsimp only at hexec
  rw [State.firstFlitAt_free hg hf] at hexec
  refine ⟨_, hexec, ?_⟩
  dsimp only
  rw [State.tile_modTile, Tile.inS_withOrders, Tile.inS_modIn hn, State.tile_writeWord, State.tile_writeWord,
    InStream.buf_setBuf (lt_of_findIdx? hf)]
  exact ⟨rfl, rfl, rfl, rfl, State.modTile_packets .., State.modTile_mem ..⟩

theorem packetFirstFlit_bad (hg : p.good = false) (he : (s.tile r).entryFor (hdrStream p.hdr0) = some n) :
    exec (.packetFirstFlit r k) s = .next ((s.dropPacket k).portFault r (inPort ((s.tile r).inS n).d0) 1 (hdrStream p.hdr0)) := by
  rw [packetFirstFlit_eq hp hs hh hb, he]
  dsimp only
  rw [State.firstFlitAt, hg]
  rfl

theorem packetFirstFlit_unnamed (hg : p.good = true) (he : (s.tile r).entryFor (hdrStream p.hdr0) = none) :
    exec (.packetFirstFlit r k) s = .next ((s.dropPacket k).portFault r 0 2 (hdrStream p.hdr0)) := by
  rw [packetFirstFlit_eq hp hs hh hb, he, hg]
  rfl

end

/-! The receipt -/

section
variable (hp : s.packetAt r k = some p)
  (hj : ((s.tile r).inS st.toNat).bufs.findIdx? (fun b => b.st == .receiving && b.pkt == k) = some j) (hw : p.whole = true)
  (hb : s.heldBack r = false) (hn : s.isNext p = true) (hl : p.wire.length ≤ (((s.tile r).inS st.toNat).buf j).wire)
include hp hj hw hb hn hl

theorem packetReceived_long (h : inBsize ((s.tile r).inS st.toNat).d0 < hdrElen p.hdr1 ∨ 8192 < hdrWlen p.hdr1) :
    exec (.packetReceived r st k) s = .next (s.faultIn r st.toNat j k p 4) := by
  rw [exec_packetReceived, execPacketReceived, State.received_eq hp hj hw hb hn hl, if_pos h]

variable (he : hdrElen p.hdr1 ≤ inBsize ((s.tile r).inS st.toNat).d0) (hwl : hdrWlen p.hdr1 ≤ 8192)
include he hwl

theorem packetReceived_undecoded (hd : decodePayload (hdrEnc p.hdr1) (hdrElen p.hdr1) p.wire = none) :
    exec (.packetReceived r st k) s = .next (s.faultIn r st.toNat j k p 3) := by
  rw [exec_packetReceived, execPacketReceived, State.received_eq hp hj hw hb hn hl, if_neg (by omega), hd]

theorem packetReceived_decoded (hd : decodePayload (hdrEnc p.hdr1) (hdrElen p.hdr1) p.wire = some bs) :
    exec (.packetReceived r st k) s = .next (s.admitIn r st.toNat j k p bs) := by
  rw [exec_packetReceived, execPacketReceived, State.received_eq hp hj hw hb hn hl, if_neg (by omega), hd]

end

/-! A store to NEXT -/

theorem nextWrite_quiet (hh : ({ (s.tile r).inS st.toNat with next := v } : InStream).nextHeld = none)
    (hs : ({ (s.tile r).inS st.toNat with next := v } : InStream).skips = false) : Gives (.nextWrite r st v) s (fun t =>
      ((t.tile r).inS st.toNat).next = v ∧ t.mem = s.mem ∧ t.packets = s.packets) := by
  have hin : ((s.modTile r (fun t => t.modIn st.toNat (fun x => { x with next := v }))).tile r).inS st.toNat =
      { (s.tile r).inS st.toNat with next := v } := by
    rw [State.tile_modTile, Tile.inS_modIn st.isLt]
  rw [← hin] at hh hs
  refine ⟨_, exec_nextWrite s, ?_⟩
  dsimp only
  rw [State.writeNext, State.judgeTags_quiet hh hs, State.tile_modTile, Tile.next_allClaims, hin]
  exact ⟨rfl, rfl, rfl⟩

end

/-- Settles O37: the launch, credits, the first flit, the receipt and a store to NEXT, each by what its step gives. -/
theorem packetsTravel : Obligations.PacketsTravel := by
  unfold Obligations.PacketsTravel
  intro s c r st k n i j b e p v bs here out h0 h1 wire hdr starts packet x gone good comes held
  have hgood : p.good = true ↔ good := beq_iff_eq
  refine ⟨fun ⟨_, he, hop, ha, ho, hq⟩ hd => packetLaunch_own he hop ha ho hq hd,
    fun ⟨_, he, hop, ha, ho, hq⟩ hd hb => packetLaunch_away he hop ha ho hq hd hb, fun h => ?_,
    fun ⟨hp, hs, hh, hb⟩ hg hn he hf => packetFirstFlit_takes hp hs hh hb (hgood.mpr hg) hn he hf,
    fun ⟨hp, hs, hh, hb⟩ hg he => packetFirstFlit_bad hp hs hh hb (Bool.eq_false_iff.mpr (fun h => hg (hgood.mp h))) he,
    fun ⟨hp, hs, hh, hb⟩ hg he => packetFirstFlit_unnamed hp hs hh hb (hgood.mpr hg) he,
    fun ⟨hp, hj, hw, hb, hn, hl⟩ he hwl hd => ?_,
    fun ⟨hp, hj, hw, hb, hn, hl⟩ h => packetReceived_long hp hj hw hb hn hl h,
    fun ⟨hp, hj, hw, hb, hn, hl⟩ he hwl hd => packetReceived_undecoded hp hj hw hb hn hl he hwl hd,
    fun ⟨hh, hs⟩ => nextWrite_quiet hh hs⟩
  · refine State.gives_taking (exec_creditArrival s) h ⟨?_, rfl, rfl⟩
    rw [State.tile_modTile, Tile.outS_modOut _ _ st.isLt]
    rfl
  · intro bind clean t needs
    have ht : t = s.takeIn r st.toNat j k p bs := rfl
    have hexec := packetReceived_decoded hp hj hw hb hn hl he hwl hd
    refine ⟨fun hneeds => ?_, fun hneeds htord => ?_⟩
    · rw [hexec, State.admitIn, ht]
      exact congrArg (fun u : State => Host.Outcome.next (u.modTile r Tile.allClaims)) (if_neg hneeds)
    · rw [hexec, ht, ← State.rejectStamped_untagged ((congrArg inTord (State.d0_takeIn st.isLt)).trans htord)]
      exact congrArg (fun u : State => Host.Outcome.next (u.modTile r Tile.allClaims)) (if_pos hneeds)

end Sys2Proof.Laws
end

section
/-! The end of a task (R230, R244, R285): what it leaves of its tree, its slot, the deques and the messages on their way (O39). -/

namespace Sys2Proof.Machine

/-! A step that establishes a property, and steps that keep it -/

/-- A fold over a list with a step that establishes a property, which every other step keeps, under an invariant. -/
theorem foldl_establishes {σ α : Type} {f : σ → α → σ} {I P : σ → Prop} {a : α} (hI : ∀ s b, I s → I (f s b))
    (hP : ∀ s b, P s → P (f s b)) (ha : ∀ s, I s → P (f s a)) {l : List α} (hl : a ∈ l) {s : σ} (hs : I s) : P (l.foldl f s) := by
  have kept : ∀ (l : List α) (s : σ), P s → P (l.foldl f s) := fun l => by
    induction l with
    | nil => exact fun _ h => h
    | cons b l ih => exact fun s h => ih _ (hP s b h)
  induction l generalizing s with
  | nil => cases hl
  | cons b l ih =>
    obtain rfl | h := List.mem_cons.mp hl
    · exact kept l _ (ha s hs)
    · exact ih h (hI s b hs)

/-- What sparse data holds at a key is listed there, or is the value of an unlisted one. -/
theorem spGet_mem {α : Type} (d : α) (m : Sparse α) (k : Nat) : spGet d m k = d ∨ (k, spGet d m k) ∈ m := by
  induction m with
  | nil => exact .inl rfl
  | cons e r ih =>
    obtain ⟨j, v⟩ := e
    by_cases h : j = k
    · simp [spGet, h]
    · simpa [spGet, h, Ne.symm h] using ih

/-! Tasks that end and descriptors that leave -/

/-- One context is of the tree another is of, and differs in its state at most in that it is Ending. -/
structure Ctx.OnlyEnds (c d : Ctx) : Prop where
  tree : d.tree = c.tree
  st : d.st = c.st ∨ d.st = .ending

theorem Ctx.OnlyEnds.refl (c : Ctx) : c.OnlyEnds c := ⟨rfl, .inl rfl⟩
theorem Ctx.OnlyEnds.trans {c d e : Ctx} (h : c.OnlyEnds d) (k : d.OnlyEnds e) : c.OnlyEnds e :=
  ⟨k.tree.trans h.tree, k.st.elim (fun he => he ▸ h.st) .inr⟩

theorem Tile.ctx_modCtx_cases (t : Tile) (j k : Nat) (f : Ctx → Ctx) :
    (t.modCtx k f).ctx j = t.ctx j ∨ j = k ∧ (t.modCtx k f).ctx j = f (t.ctx j) := by
  by_cases h : j = k
  · subst h
    by_cases hj : j < 8
    · exact .inr ⟨rfl, t.ctx_modCtx f hj⟩
    · exact .inl (by rw [Tile.modCtx, Tile.setCtx, Vector.setIfInBounds_eq_of_size_le (Nat.not_lt.mp hj)])
  · exact .inl (t.ctx_modCtx_of_ne f h)

/-- The tasks of a tile at most end, and its descriptors at most leave. -/
structure Tile.OnlyEnds (t u : Tile) : Prop where
  ctx : ∀ k, (t.ctx k).OnlyEnds (u.ctx k)
  deque : ∀ d ∈ u.deque, d ∈ t.deque

namespace Tile.OnlyEnds

theorem refl (t : Tile) : t.OnlyEnds t := ⟨fun _ => .refl _, fun _ h => h⟩
theorem trans {t u v : Tile} (h : t.OnlyEnds u) (k : u.OnlyEnds v) : t.OnlyEnds v :=
  ⟨fun j => (h.ctx j).trans (k.ctx j), fun d hd => h.deque d (k.deque d hd)⟩
theorem of_ctxs {t u : Tile} (hc : u.ctxs = t.ctxs) (hd : u.deque = t.deque) : t.OnlyEnds u :=
  ⟨fun _ => Tile.ctx_congr hc ▸ .refl _, fun _ h => hd ▸ h⟩

theorem modCtx (t : Tile) (k : Nat) {f : Ctx → Ctx} (h : ∀ c : Ctx, c.OnlyEnds (f c)) : t.OnlyEnds (t.modCtx k f) := by
  refine ⟨fun j => ?_, fun _ hd => hd⟩
  obtain hj | ⟨-, hj⟩ := t.ctx_modCtx_cases j k f <;> rw [hj]
  · exact .refl _
  · exact h _

theorem writeCReg (t : Tile) (k : Nat) (r : CReg) (v : Word) : t.OnlyEnds (t.writeCReg k r v) := by
  unfold Tile.writeCReg
  split
  case h_6 => exact modCtx t k (fun c => by cases r <;> exact ⟨rfl, .inl rfl⟩)
  all_goals exact of_ctxs rfl rfl

theorem applyEffect (t : Tile) (k : Nat) (push : Bool) (e : Effect) : t.OnlyEnds (t.applyEffect k push e) := by
  unfold Tile.applyEffect
  cases e with
  | word f n sup v => exact modCtx t k (fun c => by cases f <;> exact ⟨rfl, .inl rfl⟩)
  | vec n sup v en => exact modCtx t k (fun c => ⟨rfl, .inl rfl⟩)
  | pred n v =>
    refine modCtx t k (fun c => ?_)
    obtain ⟨p, wp, h⟩ := c.writePred_eq v (n := n.toNat)
    rw [h]
    exact ⟨rfl, .inl rfl⟩
  | mask n v en =>
    refine modCtx t k (fun c => ?_)
    unfold Ctx.writeMask
    split <;> exact ⟨rfl, .inl rfl⟩
  | creg r v => exact writeCReg t k r v

theorem complete (t : Tile) (k : Nat) (r : Result) : t.OnlyEnds (t.complete k r) := by
  refine (applyEffect t k r.pushes r.effect).trans (modCtx _ k (fun c => ?_))
  obtain ⟨ls, gs, h⟩ := c.finishResult_eq r
  rw [h]
  exact ⟨rfl, .inl rfl⟩

theorem finishTileWrites (t : Tile) (k : Nat) : t.OnlyEnds (t.finishTileWrites k) := by
  have all : ∀ (rs : List Result) (t : Tile), t.OnlyEnds (rs.foldl (fun t r => t.complete k r) t) := fun rs => by
    induction rs with
    | nil => exact refl
    | cons r rs ih => exact fun t => (complete t k r).trans (ih _)
  exact all _ t

end Tile.OnlyEnds

/-- Tasks at most end and descriptors at most leave; no message on its way leaves, and every fold region is as it was. -/
structure State.OnlyEnds (s t : State) : Prop where
  tile : ∀ r, (s.tile r).OnlyEnds (t.tile r)
  net : ∀ e ∈ s.net, e ∈ t.net
  fold : ∀ n, (t.node n).fold = (s.node n).fold

namespace State.OnlyEnds

theorem refl (s : State) : s.OnlyEnds s := ⟨fun _ => .refl _, fun _ h => h, fun _ => rfl⟩
theorem trans {s t u : State} (h : s.OnlyEnds t) (k : t.OnlyEnds u) : s.OnlyEnds u :=
  ⟨fun r => (h.tile r).trans (k.tile r), fun e he => k.net e (h.net e he), fun n => (k.fold n).trans (h.fold n)⟩
theorem foldl {α : Type} {f : State → α → State} (h : ∀ (s : State) a, s.OnlyEnds (f s a)) (l : List α) (s : State) :
    s.OnlyEnds (l.foldl f s) := by
  induction l generalizing s with
  | nil => exact refl s
  | cons a l ih => exact (h s a).trans (ih _)
theorem of_sends {s t : State} (h : s.OnlySends t) : s.OnlyEnds t := ⟨fun r => h.tile r ▸ .refl _, h.net, h.fold⟩
theorem of_nodes {s t : State} (hn : t.nodes = s.nodes) (he : t.net = s.net) : s.OnlyEnds t := by
  have hnode : ∀ n, t.node n = s.node n := fun n => by rw [State.node, State.node, hn]
  exact ⟨fun r => by rw [State.tile, State.tile, hnode]; exact .refl _, fun e h => he ▸ h, fun n => by rw [hnode]⟩
theorem modTile (s : State) (r : TileRef) {f : Tile → Tile} (h : (s.tile r).OnlyEnds (f (s.tile r))) : s.OnlyEnds (s.modTile r f) := by
  refine ⟨fun q => ?_, fun _ h => h, fun n => s.field_modTile r f n Node.fold⟩
  by_cases hq : q = r
  · subst hq
    exact (s.tile_modTile ..).symm ▸ h
  · exact (s.tile_modTile_of_ne _ _ hq).symm ▸ .refl _

theorem modCtx (s : State) (r : CtxRef) {f : Ctx → Ctx} (h : ∀ c : Ctx, c.OnlyEnds (f c)) : s.OnlyEnds (s.modCtx r f) :=
  (modTile s (tileOf r) (.modCtx _ r.slot h) : s.OnlyEnds (s.modTile (tileOf r) (fun t => t.modCtx r.slot f)))

theorem ctx {s t : State} (h : s.OnlyEnds t) (c : CtxRef) : (s.ctx c).OnlyEnds (t.ctx c) := (h.tile (tileOf c)).ctx c.slot

end State.OnlyEnds

/-! What a task keeps until it ends -/

/-- One context has the lock set and the grants of another, and its queued stores and atomics. -/
structure Ctx.KeepsClaims (c d : Ctx) : Prop where
  ends : c.OnlyEnds d
  grants : d.grants = c.grants
  queue : ∀ q ∈ c.queue, q.op.writes = true → q ∈ d.queue

theorem Ctx.KeepsClaims.refl (c : Ctx) : c.KeepsClaims c := ⟨.refl c, rfl, fun _ h _ => h⟩

/-- The context of a task still has its claims and its writes. -/
structure State.KeepsClaims (r : CtxRef) (s t : State) : Prop where
  ends : s.OnlyEnds t
  ctx : (s.ctx r).KeepsClaims (t.ctx r)

namespace State.KeepsClaims

variable {r : CtxRef}

theorem refl (s : State) : s.KeepsClaims r s := ⟨.refl s, .refl _⟩
theorem trans {s t u : State} (h : s.KeepsClaims r t) (k : t.KeepsClaims r u) : s.KeepsClaims r u :=
  ⟨h.ends.trans k.ends, h.ctx.ends.trans k.ctx.ends, k.ctx.grants.trans h.ctx.grants,
    fun q hq hw => k.ctx.queue q (h.ctx.queue q hq hw) hw⟩
theorem foldl {α : Type} {f : State → α → State} (h : ∀ (s : State) a, s.KeepsClaims r (f s a)) (l : List α) (s : State) :
    s.KeepsClaims r (l.foldl f s) := by
  induction l generalizing s with
  | nil => exact refl s
  | cons a l ih => exact (h s a).trans (ih _)
theorem of_sends {s t : State} (h : s.OnlySends t) : s.KeepsClaims r t := by
  refine ⟨.of_sends h, ?_⟩
  rw [State.ctx, State.ctx, h.tile]
  exact .refl _
theorem modTile (s : State) {f : Tile → Tile} (hc : (f (s.tile (tileOf r))).ctxs = (s.tile (tileOf r)).ctxs)
    (hd : (f (s.tile (tileOf r))).deque = (s.tile (tileOf r)).deque) : s.KeepsClaims r (s.modTile (tileOf r) f) := by
  refine ⟨.modTile s _ (.of_ctxs hc hd), ?_⟩
  rw [State.ctx, State.ctx, State.tile_modTile, Tile.ctx_congr hc]
  exact .refl _
theorem modCtx (s : State) {f : Ctx → Ctx} (h : ∀ c : Ctx, c.KeepsClaims (f c)) : s.KeepsClaims r (s.modCtx r f) := by
  refine ⟨.modCtx s r (fun c => (h c).ends), ?_⟩
  rw [State.ctx, State.ctx, State.tile_modCtx]
  obtain hj | ⟨-, hj⟩ := (s.tile (tileOf r)).ctx_modCtx_cases r.slot r.slot f <;> rw [hj]
  · exact .refl _
  · exact h _

end State.KeepsClaims

/-! The end of a task, step by step -/

section
variable {s : State} {r : CtxRef}

theorem State.keepsClaims_discardSaved : s.KeepsClaims r (s.discardSaved r) := by
  unfold State.discardSaved
  split
  · exact .refl s
  · have hw : ∀ o w, s.KeepsClaims r (s.writeWord .sram (tileOf r) o w) := fun o w =>
      ⟨.of_nodes rfl rfl, .refl _⟩
    exact (hw _ _).trans (.modTile _ rfl rfl)

theorem State.keepsClaims_donePacket (st : Nat) : s.KeepsClaims r (s.donePacket r st) := by
  unfold State.donePacket
  split
  · exact .refl s
  · unfold State.freeBuffer
    have hbuf : ∀ f, s.KeepsClaims r (s.modTile (tileOf r) (fun t => t.modIn st f)) := fun f => .modTile s rfl rfl
    exact ((hbuf _).trans (.of_sends (.returnCredit ..))).trans (.modCtx _ (fun c => ⟨⟨rfl, .inl rfl⟩, rfl, fun _ h _ => h⟩))

theorem State.keepsClaims_discardOpen (st : Nat) : s.KeepsClaims r (s.discardOpen r st) := by
  unfold State.discardOpen
  split
  · exact .refl s
  · have hout : ∀ f, s.KeepsClaims r (s.modTile (tileOf r) (fun t => t.modOut st f)) := fun f => .modTile s rfl rfl
    refine (hout _).trans (.modCtx _ (fun c => ⟨⟨rfl, .inl rfl⟩, rfl, fun q hq hw => List.mem_filter.mpr ⟨hq, ?_⟩⟩))
    cases hop : q.op <;> simp_all [QOp.writes]

theorem State.keepsClaims_endPackets : s.KeepsClaims r (s.endPackets r) :=
  (State.KeepsClaims.foldl (fun _ _ => State.keepsClaims_donePacket _) _ s).trans
    (State.KeepsClaims.foldl (fun _ _ => State.keepsClaims_discardOpen _) _ _)

theorem State.keepsClaims_withdrawRequests : s.KeepsClaims r (s.withdrawRequests r) := by
  unfold State.withdrawRequests
  refine (State.KeepsClaims.foldl (fun t x => ?_) _ s).trans (.modCtx _ (fun c => ⟨⟨rfl, .inl rfl⟩, rfl, fun _ h _ => h⟩))
  split
  · exact .refl t
  · exact .of_sends (.post ..)

theorem State.onlyEnds_releaseEntries : s.OnlyEnds (s.releaseEntries r) := by
  have hmod : ∀ (t : State) (f : Ctx → List QEntry), t.OnlyEnds (t.modCtx r (fun c => { c with locks := [], granted := [], queue := f c })) :=
    fun t f => .modCtx t r (fun c => ⟨rfl, .inl rfl⟩)
  unfold State.releaseEntries
  dsimp only
  split
  · exact hmod s _
  · exact State.OnlyEnds.trans (t := s.newId.2) (.of_nodes rfl rfl) (hmod _ _)

/-- The queue of a context whose lock set is released has what it had, and a release of what it was granted. -/
theorem State.ctx_releaseEntries (hk : r.slot < 8) : ∃ q, (s.releaseEntries r).ctx r = { s.ctx r with locks := [], granted := [], queue := q } ∧
    (∀ e ∈ (s.ctx r).queue, e ∈ q) ∧
    ((s.ctx r).grants ≠ [] → ∃ e ∈ q, e.op = .release (s.ctx r).grants) := by
  unfold State.releaseEntries
  dsimp only
  split
  case isTrue h =>
    exact ⟨_, State.ctx_modCtx _ _ hk, fun e he => he, fun hn => absurd (List.isEmpty_iff.mp h) hn⟩
  case isFalse h =>
    exact ⟨_, State.ctx_modCtx _ _ hk, fun e he => List.mem_append_left _ he,
      fun _ => ⟨_, List.mem_append_right _ (List.mem_singleton.mpr rfl), rfl⟩⟩

/-- What leaves the queues as satisfied is an ordering. -/
theorem mem_of_mem_dropDone {e : QEntry} {l : List QEntry} : ∀ {ahead}, e ∈ dropDone r ahead l → e ∈ l := by
  induction l with
  | nil => exact fun h => h
  | cons x l ih =>
    intro ahead h
    unfold dropDone at h
    split at h
    · exact List.mem_cons_of_mem _ (ih h)
    · obtain rfl | h := List.mem_cons.mp h
      · exact List.mem_cons_self
      · exact List.mem_cons_of_mem _ (ih h)

theorem mem_dropDone {e : QEntry} (he : ∀ ahead, e.orderDone r ahead = false) {l : List QEntry} :
    ∀ {ahead}, e ∈ l → e ∈ dropDone r ahead l := by
  induction l with
  | nil => exact fun h => h
  | cons x l ih =>
    intro ahead h
    unfold dropDone
    obtain rfl | h := List.mem_cons.mp h
    · rw [if_neg (by simp [he])]
      exact List.mem_cons_self
    · split
      · exact ih h
      · exact List.mem_cons_of_mem _ (ih h)

/-- An ended context with its satisfied orderings gone. -/
def Ctx.endedFor (r : CtxRef) (c : Ctx) : Ctx := { c.ended with queue := dropDone r [] c.ended.queue }

theorem Ctx.onlyEnds_endedFor (c : Ctx) : c.OnlyEnds (c.endedFor r) := ⟨rfl, .inr rfl⟩

theorem Ctx.mem_queue_endedFor {c : Ctx} {e : QEntry} (h : e ∈ c.queue) (hl : ∀ us, e.op ≠ .load us)
    (ho : ∀ ahead, e.orderDone r ahead = false) : e ∈ (c.endedFor r).queue := by
  refine mem_dropDone ho (List.mem_filter.mpr ⟨h, ?_⟩)
  cases hop : e.op with
  | load us => exact absurd hop (hl us)
  | _ => rfl

theorem Ctx.not_load_of_mem_endedFor {c : Ctx} {e : QEntry} (h : e ∈ (c.endedFor r).queue) (us : List UnitAcc) : e.op ≠ .load us := by
  intro hop
  have := (List.mem_filter.mp (mem_of_mem_dropDone h)).2
  rw [hop] at this
  exact Bool.noConfusion this

/-- The tile of a task that ends: its writes to control registers take effect, its engine operation and pending writes are left to the
tile, and its context ends. -/
def Tile.endSlot (t : Tile) (r : CtxRef) (cancel : Bool) (k : Nat) : Tile :=
  let t1 := (((t.finishTileWrites r.slot).ownerGone r.slot cancel k).modCtx r.slot (Ctx.endedFor r)).settlePend
  if t.running = some r.slot then { t1 with running := none, freeze := none } else t1

theorem Tile.ctxs_endSlot (t : Tile) (cancel : Bool) (k : Nat) :
    (t.endSlot r cancel k).ctxs = ((t.finishTileWrites r.slot).modCtx r.slot (Ctx.endedFor r)).ctxs := by
  unfold Tile.endSlot
  split
  · exact Tile.ctxs_settlePend _
  · exact Tile.ctxs_settlePend _

theorem Tile.onlyEnds_endSlot (t : Tile) (cancel : Bool) (k : Nat) : t.OnlyEnds (t.endSlot r cancel k) := by
  have hd : (t.endSlot r cancel k).deque = ((t.finishTileWrites r.slot).modCtx r.slot (Ctx.endedFor r)).deque := by
    unfold Tile.endSlot
    split <;> rfl
  exact ((Tile.OnlyEnds.finishTileWrites t r.slot).trans (.modCtx _ _ Ctx.onlyEnds_endedFor)).trans (.of_ctxs (t.ctxs_endSlot cancel k) hd)

/-- What a task has released when its tile ends it. -/
def State.released (s : State) (r : CtxRef) : State := ((s.discardSaved r).endPackets r).releaseAll r

theorem State.onlyEnds_released : s.OnlyEnds (s.released r) :=
  (((State.keepsClaims_discardSaved.trans State.keepsClaims_endPackets).trans State.keepsClaims_withdrawRequests).ends).trans
    State.onlyEnds_releaseEntries

/-- The tile of a task that has ended. -/
theorem State.endTask_eq (b : Bool) : ∃ t : State, s.endTask r b = t.modTile (tileOf r) (fun t => t.endSlot r b ((s.released r).choose 16).1) ∧
    t.nodes = (s.released r).nodes ∧ t.net = (s.released r).net := ⟨_, rfl, rfl, rfl⟩

theorem State.OnlyEnds.endTask (s : State) (r : CtxRef) (b : Bool) : s.OnlyEnds (s.endTask r b) := by
  obtain ⟨t, ht, hn, hnet⟩ := State.endTask_eq (s := s) (r := r) b
  rw [ht]
  exact (State.onlyEnds_released.trans (.of_nodes hn hnet)).trans (.modTile _ _ (Tile.onlyEnds_endSlot ..))

/-- What a task that ends leaves in its slot. -/
theorem State.endTask_gives (hk : r.slot < 8) (b : Bool) :
    let d := (s.endTask r b).ctx r
    let x := s.ctx r
    d.st = .ending ∧ d.locks = [] ∧ d.landings = [] ∧ d.results = [] ∧ d.cur = [] ∧ d.opn = [] ∧
      (∀ q ∈ x.queue, q.op.writes = true → q ∈ d.queue) ∧ (∀ q ∈ d.queue, ∀ us, q.op ≠ .load us) ∧
      (x.grants ≠ [] → ∃ q ∈ d.queue, q.op = .release x.grants) := by
  intro d x
  have hkeep : s.KeepsClaims r (((s.discardSaved r).endPackets r).withdrawRequests r) :=
    (State.keepsClaims_discardSaved.trans State.keepsClaims_endPackets).trans State.keepsClaims_withdrawRequests
  obtain ⟨q, hq, hold, hgives⟩ := State.ctx_releaseEntries (s := ((s.discardSaved r).endPackets r).withdrawRequests r) hk
  obtain ⟨t, ht, hn, -⟩ := State.endTask_eq (s := s) (r := r) b
  obtain ⟨c, hd, hc⟩ : ∃ c : Ctx, d = c.endedFor r ∧ c.queue = q := by
    refine ⟨((t.tile (tileOf r)).finishTileWrites r.slot).ctx r.slot, ?_, ?_⟩
    · show (s.endTask r b).ctx r = _
      rw [ht, State.ctx, State.tile_modTile, Tile.ctx_congr (Tile.ctxs_endSlot ..), Tile.ctx_modCtx _ _ hk]
    · have htile : t.tile (tileOf r) = (s.released r).tile (tileOf r) := by rw [State.tile, State.node, hn]; rfl
      have hctx : ((s.released r).tile (tileOf r)).ctx r.slot = _ := hq
      rw [Tile.finishTileWrites, (Tile.keepsControl_completeAll hk _ _).ctx.queue, htile, hctx]
  subst hc
  rw [hd]
  refine ⟨rfl, rfl, rfl, rfl, rfl, rfl, fun e he hw => ?_, fun e he => Ctx.not_load_of_mem_endedFor he, fun hg => ?_⟩
  · have hmem := hold e (hkeep.ctx.queue e he hw)
    refine Ctx.mem_queue_endedFor hmem (fun us hop => ?_) (fun ahead => ?_)
    · rw [hop] at hw
      exact Bool.noConfusion hw
    · unfold QEntry.orderDone
      cases hop : e.op <;> simp_all [QOp.writes]
  · rw [hkeep.ctx.grants] at hgives
    obtain ⟨e, he, hop⟩ := hgives hg
    refine ⟨e, Ctx.mem_queue_endedFor he (fun us h => ?_) (fun ahead => ?_), hop⟩
    · rw [hop] at h
      cases h
    · unfold QEntry.orderDone
      rw [hop]

end

end Sys2Proof.Machine
end

section
/-! A tree's tasks and descriptors end (R230), and its views and tied sequences go (R292, R313). -/

namespace Sys2Proof.Machine

/-! Tasks and descriptors -/

section
variable {s : State} {n : Nat} {id : BitVec 32}

/-- The task of a slot is not of a tree, or it has ended. -/
def Ctx.Halted (id : BitVec 32) (c : Ctx) : Prop := c.tree = id → c.st = .ending ∨ c.st = .free

theorem Ctx.Halted.of_onlyEnds {c d : Ctx} (h : c.Halted id) (k : c.OnlyEnds d) : d.Halted id := fun hd =>
  k.st.elim (fun he => he ▸ h (k.tree ▸ hd)) .inl

/-- The task of a slot ends where it is of a tree. -/
def State.haltSlot (n : Nat) (id : BitVec 32) (i : Nat) (s : State) (k : Nat) : State :=
  if (s.ctx ⟨n, i, k⟩).live && (s.ctx ⟨n, i, k⟩).st != .ending && (s.ctx ⟨n, i, k⟩).tree == id then s.endTask ⟨n, i, k⟩ true else s

/-- The tasks of a tree end on a tile. -/
def State.haltSlots (n : Nat) (id : BitVec 32) (s : State) (e : Nat × Tile) : State := (List.range 8).foldl (State.haltSlot n id e.1) s

/-- The descriptors of a tree leave a tile's deque, where it held some. -/
def State.haltDeque (n : Nat) (id : BitVec 32) (s : State) (e : Nat × Tile) : State :=
  let gone := e.2.deque.filter (fun d => dqTree d.d2 == id)
  if gone.isEmpty then s
  else (gone.foldl (fun s d => if dqJoin d.d2 then s.sendJoin (dqParent n d.d3) (dqSerial d.d3) id else s) s).modTile ⟨n, e.1⟩
    (fun t => { t with deque := t.deque.filter (fun d => dqTree d.d2 != id) })

theorem State.haltTree_eq : s.haltTree n id =
    let s1 := (s.node n).tiles.foldl (State.haltSlots n id) s
    (s1.node n).tiles.foldl (State.haltDeque n id) s1 := rfl

theorem State.OnlyEnds.haltSlot (s : State) (i k : Nat) : s.OnlyEnds (s.haltSlot n id i k) := by
  unfold State.haltSlot
  split
  · exact .endTask ..
  · exact .refl s

theorem State.OnlyEnds.haltSlots (s : State) (e : Nat × Tile) : s.OnlyEnds (s.haltSlots n id e) :=
  .foldl (fun t k => .haltSlot t e.1 k) _ s

theorem State.OnlyEnds.haltDeque (s : State) (e : Nat × Tile) : s.OnlyEnds (s.haltDeque n id e) := by
  unfold State.haltDeque
  dsimp only
  split
  · exact .refl s
  · refine .trans (.of_sends (.foldl (fun t d => ?_) _ s)) (.modTile _ _ ⟨fun _ => .refl _, fun d hd => (List.mem_filter.mp hd).1⟩)
    split
    · exact .send ..
    · exact .refl t

theorem State.OnlyEnds.haltTree (s : State) : s.OnlyEnds (s.haltTree n id) :=
  State.haltTree_eq ▸ (State.OnlyEnds.foldl .haltSlots _ s).trans (.foldl .haltDeque _ _)

theorem State.halted_haltSlot {i k : Nat} (hk : k < 8) : ((s.haltSlot n id i k).ctx ⟨n, i, k⟩).Halted id := by
  unfold State.haltSlot
  split
  case isTrue h => exact fun _ => .inl (State.endTask_gives (r := ⟨n, i, k⟩) hk true).1
  case isFalse h =>
    intro ht
    cases hst : (s.ctx ⟨n, i, k⟩).st <;> simp_all [Ctx.live]

theorem State.halted_haltSlots (e : Nat × Tile) {k : Nat} (hk : k < 8) : ((s.haltSlots n id e).ctx ⟨n, e.1, k⟩).Halted id :=
  foldl_establishes (I := fun _ => True) (P := fun t : State => (t.ctx ⟨n, e.1, k⟩).Halted id) (fun _ _ _ => trivial)
    (fun t j h => h.of_onlyEnds ((State.OnlyEnds.haltSlot t e.1 j).ctx _)) (fun _ _ => State.halted_haltSlot hk) (List.mem_range.mpr hk) trivial

/-- Every task of a cancelled tree has ended. -/
theorem State.halted_haltTree (i : Nat) {k : Nat} (hk : k < 8) : ((s.haltTree n id).ctx ⟨n, i, k⟩).Halted id := by
  obtain h | h := spGet_mem Tile.reset (s.node n).tiles i
  · have hfree : (s.ctx ⟨n, i, k⟩).Halted id := fun _ => .inr (by
      rw [State.ctx, State.tile, tileOf, h, Tile.ctx]
      simp [Tile.reset, hk, Ctx.reset])
    exact hfree.of_onlyEnds ((State.OnlyEnds.haltTree s).ctx _)
  · have hslots := foldl_establishes (I := fun _ => True) (P := fun t : State => (t.ctx ⟨n, i, k⟩).Halted id) (fun _ _ _ => trivial)
      (fun t e h => h.of_onlyEnds ((State.OnlyEnds.haltSlots t e).ctx _)) (fun _ _ => State.halted_haltSlots (i, _) hk) h
      trivial (s := s)
    rw [State.haltTree_eq]
    exact hslots.of_onlyEnds ((State.OnlyEnds.foldl .haltDeque _ _).ctx _)

theorem State.deque_haltDeque {i : Nat} {t : Tile} (h : ∀ d ∈ (s.tile ⟨n, i⟩).deque, d ∈ t.deque) :
    ∀ d ∈ ((s.haltDeque n id (i, t)).tile ⟨n, i⟩).deque, dqTree d.d2 ≠ id := by
  unfold State.haltDeque
  dsimp only
  split
  case isTrue hg => exact fun d hd ht => List.filter_eq_nil_iff.mp (List.isEmpty_iff.mp hg) d (h d hd) (beq_iff_eq.mpr ht)
  case isFalse hg =>
    rw [State.tile_modTile]
    exact fun d hd => bne_iff_ne.mp (List.mem_filter.mp hd).2

/-- No deque of its node holds a descriptor of a cancelled tree. -/
theorem State.deque_haltTree (i : Nat) : ∀ d ∈ ((s.haltTree n id).tile ⟨n, i⟩).deque, dqTree d.d2 ≠ id := by
  rw [State.haltTree_eq]
  dsimp only
  generalize (s.node n).tiles.foldl (State.haltSlots n id) s = u
  obtain h | h := spGet_mem Tile.reset (u.node n).tiles i
  · have hnone : (u.tile ⟨n, i⟩).deque = [] := by rw [State.tile, h]; rfl
    intro d hd
    have hmem := ((State.OnlyEnds.foldl .haltDeque _ u).tile ⟨n, i⟩).deque d hd
    rw [hnone] at hmem
    cases hmem
  · exact foldl_establishes (I := u.OnlyEnds) (P := fun t : State => ∀ d ∈ (t.tile ⟨n, i⟩).deque, dqTree d.d2 ≠ id)
      (fun t e ht => ht.trans (.haltDeque t e)) (fun t e ht d hd => ht d (((State.OnlyEnds.haltDeque t e).tile _).deque d hd))
      (fun t ht => State.deque_haltDeque ((ht.tile _).deque)) h (.refl u)

/-! Views and records -/

/-- The tasks and descriptors of a tile are as they were, and its open views are some of those it had. -/
structure Tile.OnlyCloses (t u : Tile) : Prop where
  ctxs : u.ctxs = t.ctxs
  deque : u.deque = t.deque
  views : ∀ v ∈ u.views.toList, v.opened = true → v ∈ t.views.toList

theorem Tile.OnlyCloses.refl (t : Tile) : t.OnlyCloses t := ⟨rfl, rfl, fun _ h _ => h⟩
theorem Tile.OnlyCloses.trans {t u v : Tile} (h : t.OnlyCloses u) (k : u.OnlyCloses v) : t.OnlyCloses v :=
  ⟨k.ctxs.trans h.ctxs, k.deque.trans h.deque, fun x hx ho => h.views x (k.views x hx ho) ho⟩

/-- A place of a tile's views after one is closed. -/
theorem Tile.views_closeView (t : Tile) {i j : Nat} {v : View} (h : (t.closeView i).views[j]? = some v) :
    v.opened = false ∨ j ≠ i ∧ t.views[j]? = some v := by
  rw [Tile.closeView, Vector.getElem?_setIfInBounds] at h
  split at h
  · split at h
    · exact .inl (Option.some.inj h ▸ rfl)
    · cases h
  case isFalse hj => exact .inr ⟨Ne.symm hj, h⟩

theorem Tile.OnlyCloses.closeView (t : Tile) (i : Nat) : t.OnlyCloses (t.closeView i) := by
  refine ⟨rfl, rfl, fun v hv ho => ?_⟩
  obtain ⟨j, hj⟩ := Vector.mem_iff_getElem?.mp (Vector.mem_toList_iff.mp hv)
  obtain h | ⟨-, h⟩ := t.views_closeView hj
  · exact absurd (ho.symm.trans h) Bool.noConfusion
  · exact Vector.mem_toList_iff.mpr (Vector.mem_iff_getElem?.mpr ⟨j, h⟩)

/-- A view closed where it meets a condition. -/
def Tile.closeIf (p : View → Bool) (t : Tile) (i : Nat) : Tile :=
  if ((t.views[i]?).getD default).opened && p ((t.views[i]?).getD default) then t.closeView i else t

/-- The views of a tile closed that meet a condition. -/
def Tile.closeAll (p : View → Bool) (t : Tile) : Tile := (List.range 32).foldl (Tile.closeIf p) t

theorem State.closeViews_eq (p : View → Bool) : s.closeViews n p =
    s.modNode n (fun x => { x with tiles := x.tiles.map (fun e => (e.1, e.2.closeAll p)) }) := rfl

theorem Tile.OnlyCloses.closeIf (p : View → Bool) (t : Tile) (i : Nat) : t.OnlyCloses (t.closeIf p i) := by
  unfold Tile.closeIf
  split
  · exact .closeView t i
  · exact .refl t

theorem Tile.OnlyCloses.closeAll (p : View → Bool) (t : Tile) : t.OnlyCloses (t.closeAll p) := by
  have all : ∀ (l : List Nat) (t : Tile), t.OnlyCloses (l.foldl (Tile.closeIf p) t) := fun l => by
    induction l with
    | nil => exact .refl
    | cons i l ih => exact fun t => (closeIf p t i).trans (ih _)
  exact all _ t

/-- The view at a place, where there is one, is closed or does not meet a condition. -/
def Tile.ClosedAt (p : View → Bool) (i : Nat) (t : Tile) : Prop := ∀ v, t.views[i]? = some v → v.opened = true → p v = false

theorem Tile.closedAt_closeIf_self (p : View → Bool) (t : Tile) (i : Nat) : (t.closeIf p i).ClosedAt p i := by
  unfold Tile.closeIf
  split
  case isTrue => exact fun v hv ho => (t.views_closeView hv).elim (fun h => absurd (ho.symm.trans h) Bool.noConfusion) (fun h => absurd rfl h.1)
  case isFalse h =>
    intro v hv ho
    simpa [hv, ho] using h

theorem Tile.ClosedAt.closeIf {p : View → Bool} {t : Tile} {i : Nat} (h : t.ClosedAt p i) (j : Nat) : (t.closeIf p j).ClosedAt p i := by
  unfold Tile.closeIf
  split
  · exact fun v hv ho => (t.views_closeView hv).elim (fun hc => absurd (ho.symm.trans hc) Bool.noConfusion) (fun hk => h v hk.2 ho)
  · exact h

/-- No open view of a tile whose views that meet a condition are closed meets it. -/
theorem Tile.closed_closeAll (p : View → Bool) (t : Tile) : ∀ v ∈ (t.closeAll p).views.toList, v.opened = true → p v = false := by
  intro v hv
  obtain ⟨i, hi⟩ := Vector.mem_iff_getElem?.mp (Vector.mem_toList_iff.mp hv)
  have hlt : i < 32 := by
    by_contra hge
    rw [Vector.getElem?_eq_none (Nat.not_lt.mp hge)] at hi
    cases hi
  exact foldl_establishes (I := fun _ => True) (P := Tile.ClosedAt p i) (fun _ _ _ => trivial) (fun _ j h => Tile.ClosedAt.closeIf h j)
    (fun t _ => t.closedAt_closeIf_self p i) (List.mem_range.mpr hlt) trivial v hi

/-- Sparse data changed at every key. -/
theorem spGet_map_cases {α : Type} (d : α) (g : α → α) (m : Sparse α) (k : Nat) :
    spGet d (m.map (fun e => (e.1, g e.2))) k = g (spGet d m k) ∨ spGet d (m.map (fun e => (e.1, g e.2))) k = d ∧ spGet d m k = d := by
  induction m with
  | nil => exact .inr ⟨rfl, rfl⟩
  | cons e r ih =>
    obtain ⟨j, v⟩ := e
    by_cases h : j = k
    · simp [spGet, h]
    · simpa [spGet, h, Ne.symm h] using ih

/-- A state has a tree's tasks and descriptors as they were, some of the views it had, and of the sequence records of a node each as
it was or cleared. -/
structure State.OnlyClears (n : Nat) (s t : State) : Prop where
  tile : ∀ r, (s.tile r).OnlyCloses (t.tile r)
  fold : (t.node n).fold = (s.node n).fold
  wf : Memory.wf s.mem = true → Memory.wf t.mem = true
  recs : Memory.wf s.mem = true → ∀ i < 65536,
    t.foldRec n (0x1F0000 + 16 * i) = s.foldRec n (0x1F0000 + 16 * i) ∨ t.foldRec n (0x1F0000 + 16 * i) = 0

theorem State.foldRec_congr {t : State} (hf : (t.node n).fold = (s.node n).fold) (hm : t.mem = s.mem) (off : Nat) :
    t.foldRec n off = s.foldRec n off := by
  simp only [State.foldRec, State.readWord, State.readBytes, State.foldOrigin, State.region, hf, hm]

namespace State.OnlyClears

theorem refl (s : State) : s.OnlyClears n s := ⟨fun _ => .refl _, rfl, fun h => h, fun _ _ _ => .inl rfl⟩
theorem trans {s t u : State} (h : s.OnlyClears n t) (k : t.OnlyClears n u) : s.OnlyClears n u := by
  refine ⟨fun r => (h.tile r).trans (k.tile r), k.fold.trans h.fold, fun hw => k.wf (h.wf hw), fun hw i hi => ?_⟩
  obtain hk | hk := k.recs (h.wf hw) i hi
  · rw [hk]
    exact h.recs hw i hi
  · exact .inr hk
theorem foldl {α : Type} {f : State → α → State} {l : List α} (h : ∀ a ∈ l, ∀ s : State, s.OnlyClears n (f s a)) (s : State) :
    s.OnlyClears n (l.foldl f s) := by
  induction l generalizing s with
  | nil => exact refl s
  | cons a l ih => exact (h a List.mem_cons_self s).trans (ih (fun b hb => h b (List.mem_cons_of_mem _ hb)) _)

/-- A change of tiles that leaves memory. -/
theorem of_tiles {t : State} (ht : ∀ r, (s.tile r).OnlyCloses (t.tile r)) (hf : (t.node n).fold = (s.node n).fold) (hm : t.mem = s.mem) :
    s.OnlyClears n t :=
  ⟨ht, hf, fun h => hm ▸ h, fun _ _ _ => .inl (State.foldRec_congr hf hm _)⟩

theorem of_sends {s t : State} (h : s.OnlySends t) : s.OnlyClears n t := of_tiles (fun r => h.tile r ▸ .refl _) (h.fold n) h.mem

theorem mapTiles (s : State) {g : Tile → Tile} (h : ∀ t : Tile, t.OnlyCloses (g t)) :
    s.OnlyClears n (s.modNode n (fun x => { x with tiles := x.tiles.map (fun e => (e.1, g e.2)) })) := by
  refine of_tiles (fun r => ?_) (by rw [State.node_modNode]) rfl
  rw [State.tile, State.tile, State.node_modNode_eq]
  split
  · obtain hg | ⟨hg, hs⟩ := spGet_map_cases Tile.reset g (s.node r.node).tiles r.tile
    · rw [hg]
      exact h _
    · rw [hg, hs]
      exact .refl _
  · exact .refl _

theorem closeViews (s : State) (p : View → Bool) : s.OnlyClears n (s.closeViews n p) :=
  State.closeViews_eq (s := s) p ▸ mapTiles s (.closeAll p)

theorem flushPage (s : State) (d : Nat) : s.OnlyClears n (s.flushPage n d) := 
  mapTiles s (g := fun t => { t with tlb := t.tlb.filter (fun e => e.pd != d) }) (fun _ => ⟨rfl, rfl, fun _ h _ => h⟩)

/-- A write above the sequence records. -/
theorem writeAbove (s : State) {off : Nat} (bs : List Byte) (h : 0x2F0000 ≤ off) : s.OnlyClears n (s.writeBytes .sram (s.foldOrigin n) off bs) := by
  refine ⟨fun _ => .refl _, rfl, fun hw => Memory.wf_write _ _ hw, fun hw i hi => .inl ?_⟩
  exact State.readWord_writeBytes_of_disjoint (q := s.foldOrigin n) hw (.inl (by simp only [memKey]; omega))

/-- A dword of the sequence records cleared. -/
theorem clearRecord (s : State) (i : Nat) : s.OnlyClears n (s.setFoldRec n (0x1F0000 + 8 * i) 0) := by
  refine ⟨fun _ => .refl _, rfl, fun hw => Memory.wf_write _ _ hw, fun hw j hj => ?_⟩
  by_cases h : i = 2 * j
  · subst h
    rw [show 8 * (2 * j) = 16 * j by omega]
    exact .inr (State.readWord_writeWord hw)
  · exact .inl (State.readWord_writeBytes_of_disjoint (q := s.foldOrigin n) hw (by simp only [memKey, length_wordBytes]; omega))

theorem setFoldRec (s : State) {off : Nat} (w : Word) (h : 0x2F0000 ≤ off) : s.OnlyClears n (s.setFoldRec n off w) := writeAbove s _ h
theorem setBlockCount (s : State) (loc v : Nat) : s.OnlyClears n (s.setBlockCount n loc v) :=
  writeAbove s _ (by unfold countPlace; omega)
theorem setPd0 (s : State) (d : Nat) (w : Word) : s.OnlyClears n (s.setFoldRec n (pdPlace d) w) := setFoldRec s w (by unfold pdPlace; omega)
theorem setPd (s : State) (d : Nat) (w0 w1 : Word) : s.OnlyClears n (s.setPd n d w0 w1) :=
  (setPd0 s d w0).trans (setFoldRec _ w1 (by unfold pdPlace; omega))

theorem giveFrame (s : State) (j : Nat) : s.OnlyClears n (s.giveFrame n j) := of_sends (.modNode s n (fun _ => rfl) (fun _ => rfl))
theorem giveDesc (s : State) (d : Nat) : s.OnlyClears n (s.giveDesc n d) :=
  (setPd s d 0 0).trans (of_sends (.modNode _ n (fun _ => rfl) (fun _ => rfl)))

theorem givePlace (s : State) (d : Nat) : s.OnlyClears n (s.givePlace n d) := by
  unfold State.givePlace
  dsimp only
  split
  · exact giveFrame ..
  · split
    · split
      · exact giveFrame ..
      · exact refl s
    · exact refl s

theorem freePage (s : State) (d : Nat) : s.OnlyClears n (s.freePage n d) := by
  unfold State.freePage
  dsimp only
  split
  · exact setPd0 ..
  · split
    · exact (of_sends (.post ..)).trans (giveDesc ..)
    · exact ((flushPage s d).trans (givePlace ..)).trans (giveDesc ..)

theorem settlePd (s : State) (d : Nat) : s.OnlyClears n (s.settlePd n d) := by
  unfold State.settlePd
  dsimp only
  split
  · exact setPd0 ..
  · split
    · exact setPd0 ..
    · exact refl s

theorem pdDec (s : State) (d : Nat) : s.OnlyClears n (s.pdDec n d) := by
  unfold State.pdDec
  dsimp only
  split
  · exact (setPd0 ..).trans (freePage ..)
  · exact (setPd0 ..).trans (settlePd ..)

theorem settleCut (s : State) (loc : Nat) : s.OnlyClears n (s.settleCut n loc) := by
  unfold State.settleCut
  dsimp only
  split
  · exact giveFrame ..
  · exact refl s

theorem dropL2 (s : State) (loc : Nat) : s.OnlyClears n (s.dropL2 n loc) := by
  unfold State.dropL2
  dsimp only
  split
  · exact setBlockCount ..
  · refine ((setBlockCount ..).trans (foldl (fun i _ t => ?_) _)).trans (settleCut ..)
    split
    · exact pdDec ..
    · exact refl t

theorem dropL1 (s : State) (loc : Nat) : s.OnlyClears n (s.dropL1 n loc) := by
  unfold State.dropL1
  dsimp only
  split
  · exact setBlockCount ..
  · refine ((setBlockCount ..).trans (foldl (fun i _ t => ?_) _)).trans (settleCut ..)
    split
    · exact dropL2 ..
    · exact refl t

end State.OnlyClears

/-- A root entry cleared, and the directory blocks that it named. -/
def State.dropRoot (n : Nat) (s : State) (r : Nat) : State :=
  let w := s.foldRec n (r + 8)
  let drop := fun (s : State) (l : Nat) => if locValid l then s.dropL1 n l else s
  drop (drop ((s.setFoldRec n r 0).setFoldRec n (r + 8) 0) (wfld w 0 32)) (wfld w 32 32)

theorem State.OnlyClears.dropRoot (s : State) {r : Nat} (h : 0x2F0000 ≤ r) : s.OnlyClears n (s.dropRoot n r) := by
  have hdrop : ∀ (t : State) (l : Nat), t.OnlyClears n (if locValid l then t.dropL1 n l else t) := fun t l => by
    split
    · exact .dropL1 t l
    · exact .refl t
  exact (((State.OnlyClears.setFoldRec s 0 h).trans (.setFoldRec _ 0 (by omega))).trans (hdrop _ _)).trans (hdrop _ _)

theorem rootPlace_of_mem_rootsOf {q r : Nat} (h : r ∈ s.rootsOf n q) : 0x2F0000 ≤ r := by
  obtain ⟨l, -, hl⟩ := List.mem_flatMap.mp h
  obtain ⟨i, -, rfl⟩ := List.mem_map.mp (List.mem_filter.mp hl).1
  unfold rootBucket
  omega

/-! The record of a sequence -/

/-- The places of a sequence's bucket. -/
def seqPlaces (q : Nat) : List Nat := (List.range 8).map (fun i => seqBucket q + 16 * i)

theorem seqPlace_eq {q o : Nat} (h : o ∈ seqPlaces q) : ∃ i < 65536, o = 0x1F0000 + 16 * i := by
  obtain ⟨i, hi, rfl⟩ := List.mem_map.mp h
  have := List.mem_range.mp hi
  exact ⟨8 * (q % 8192) + i, by omega, by unfold seqBucket; omega⟩

/-- Whether a place holds the record of a sequence. -/
def State.seqAt (s : State) (n q o : Nat) : Bool := (s.foldRec n o).getLsbD 63 && wfld (s.foldRec n o) 39 22 == q

theorem State.findSeq_eq (q : Nat) : s.findSeq n q = (seqPlaces q).find? (s.seqAt n q) := rfl

theorem State.seqAt_ne_zero {q o : Nat} (h : s.seqAt n q o = true) : s.foldRec n o ≠ 0 := by
  intro h0
  rw [State.seqAt, h0] at h
  exact Bool.noConfusion h

/-- A place that holds a record after some have been cleared held it before. -/
theorem State.OnlyClears.seqAt {t : State} (h : s.OnlyClears n t) (hw : Memory.wf s.mem = true) {q p o : Nat} (ho : o ∈ seqPlaces p)
    (ht : t.seqAt n q o = true) : s.seqAt n q o = true := by
  obtain ⟨i, hi, rfl⟩ := seqPlace_eq ho
  obtain hr | hr := h.recs hw i hi
  · rwa [State.seqAt, hr] at ht
  · exact absurd hr (State.seqAt_ne_zero ht)

theorem State.OnlyClears.findSeq_none {t : State} (h : s.OnlyClears n t) (hw : Memory.wf s.mem = true) {q : Nat}
    (hs : s.findSeq n q = none) : t.findSeq n q = none := by
  rw [State.findSeq_eq, List.find?_eq_none] at *
  exact fun o ho ht => hs o ho (h.seqAt hw ho ht)

theorem State.removeSeq_of_some {q o : Nat} (h : s.findSeq n q = some o) : s.removeSeq n q = (s.rootsOf n q).foldl (State.dropRoot n)
    (((s.setFoldRec n o 0).setFoldRec n (o + 8) 0).closeViews n (fun v => v.seqId.toNat == q)) := by
  rw [State.removeSeq, h]
  rfl

/-- What a removal does to its sequence's records: the one it finds is cleared, and others only may be. -/
theorem State.removeSeq_clears (q : Nat) : s.OnlyClears n (s.removeSeq n q) ∧ (Memory.wf s.mem = true →
    ∀ o, s.findSeq n q = some o → (s.removeSeq n q).foldRec n o = 0) := by
  cases hf : s.findSeq n q with
  | none => exact ⟨by rw [State.removeSeq, hf]; exact .refl s, fun _ _ h => nomatch h⟩
  | some o =>
    obtain ⟨i, hi, rfl⟩ := seqPlace_eq (List.mem_of_find?_eq_some hf)
    rw [State.removeSeq_of_some hf]
    have hfirst : s.OnlyClears n (s.setFoldRec n (0x1F0000 + 16 * i) 0) := by
      have h := State.OnlyClears.clearRecord (n := n) s (2 * i)
      rwa [show 8 * (2 * i) = 16 * i by omega] at h
    have hsecond : ∀ t : State, t.OnlyClears n (t.setFoldRec n (0x1F0000 + 16 * i + 8) 0) := fun t => by
      have h := State.OnlyClears.clearRecord (n := n) t (2 * i + 1)
      rwa [show 0x1F0000 + 8 * (2 * i + 1) = 0x1F0000 + 16 * i + 8 by omega] at h
    have hrest := ((hsecond (s.setFoldRec n (0x1F0000 + 16 * i) 0)).trans (.closeViews _ (fun v => v.seqId.toNat == q))).trans
      (.foldl (fun r hr t => .dropRoot t (rootPlace_of_mem_rootsOf (q := q) (s := s) (n := n) hr)) _)
    refine ⟨hfirst.trans hrest, fun hw o ho => ?_⟩
    obtain rfl := Option.some.inj ho
    have hzero : (s.setFoldRec n (0x1F0000 + 16 * i) 0).foldRec n (0x1F0000 + 16 * i) = 0 := State.readWord_writeWord hw
    obtain h | h := hrest.recs (hfirst.wf hw) i hi
    · exact h.trans hzero
    · exact h

/-- A sequence with at most one record in its bucket has none once it has been removed. -/
theorem State.findSeq_removeSeq {u : State} (h : u.OnlyClears n s) (hw : Memory.wf u.mem = true) {q : Nat}
    (hone : ((seqPlaces q).filter (u.seqAt n q)).length ≤ 1) : (s.removeSeq n q).findSeq n q = none := by
  obtain ⟨hclears, hzero⟩ := State.removeSeq_clears (s := s) (n := n) q
  have hws := h.wf hw
  cases hf : s.findSeq n q with
  | none => exact hclears.findSeq_none hws hf
  | some o =>
    rw [State.findSeq_eq, List.find?_eq_none]
    intro p hp hat
    have hmem : ∀ {x}, x ∈ seqPlaces q → s.seqAt n q x = true → x ∈ (seqPlaces q).filter (u.seqAt n q) := fun hx hs =>
      List.mem_filter.mpr ⟨hx, h.seqAt hw hx hs⟩
    have hpo : p = o := by
      have h1 := hmem hp (hclears.seqAt hws hp hat)
      have h2 := hmem (List.mem_of_find?_eq_some hf) (List.find?_some hf)
      match (seqPlaces q).filter (u.seqAt n q), hone, h1, h2 with
      | [x], _, h1, h2 => exact (List.mem_singleton.mp h1).trans (List.mem_singleton.mp h2).symm
    exact State.seqAt_ne_zero hat (hpo ▸ hzero hws o hf)

/-! The end of a tree -/

theorem State.closed_closeViews (p : View → Bool) (i : Nat) :
    ∀ v ∈ ((s.closeViews n p).tile ⟨n, i⟩).views.toList, v.opened = true → p v = false := by
  rw [State.closeViews_eq, State.tile, State.node_modNode]
  obtain hg | ⟨hg, -⟩ := spGet_map_cases Tile.reset (Tile.closeAll p) (s.node n).tiles i <;> rw [hg]
  · exact Tile.closed_closeAll p _
  · intro v hv ho
    have hv' := (List.mem_replicate.mp (Vector.toList_replicate ▸ hv : v ∈ List.replicate 32 _)).2
    rw [hv'] at ho
    exact Bool.noConfusion ho

theorem State.endTree_clears : (s.closeViews n (fun v => v.tree == id)).OnlyClears n (s.endTree n id) := by
  unfold State.endTree
  dsimp only
  split
  · exact .refl _
  · exact .foldl (fun q _ t => (State.removeSeq_clears q).1) _

theorem State.onlyClears_endTree : s.OnlyClears n (s.endTree n id) :=
  (State.OnlyClears.closeViews s (fun v => v.tree == id)).trans State.endTree_clears

/-- No open view of its node is of a tree that has ended. -/
theorem State.views_endTree (i : Nat) : ∀ v ∈ ((s.endTree n id).tile ⟨n, i⟩).views.toList, v.opened = true → v.tree ≠ id := by
  intro v hv ho
  have hview := State.closed_closeViews (fun v => v.tree == id) i v ((State.endTree_clears.tile ⟨n, i⟩).views v hv ho) ho
  exact beq_eq_false_iff_ne.mp hview

theorem State.findSeq_endTree (hw : Memory.wf s.mem = true) (hf : (s.node n).fold.isSome = true) {q : Nat} (hq : q ∈ s.tiedSeqs n id)
    (hone : ((seqPlaces q).filter (s.seqAt n q)).length ≤ 1) : (s.endTree n id).findSeq n q = none := by
  unfold State.endTree
  dsimp only
  rw [if_neg (by rw [Option.isNone_eq_false_iff.mpr hf]; exact Bool.noConfusion)]
  have hone' : ∀ t, s.OnlyClears n t → Memory.wf (t.removeSeq n q).mem = true ∧ (t.removeSeq n q).findSeq n q = none := fun t h =>
    ⟨(State.removeSeq_clears (s := t) (n := n) q).1.wf (h.wf hw), State.findSeq_removeSeq h hw hone⟩
  have hkeep : ∀ (t : State) p, Memory.wf t.mem = true ∧ t.findSeq n q = none →
      Memory.wf (t.removeSeq n p).mem = true ∧ (t.removeSeq n p).findSeq n q = none := fun t p ⟨h, hs⟩ =>
    have hc := (State.removeSeq_clears (s := t) (n := n) p).1
    ⟨hc.wf h, hc.findSeq_none h hs⟩
  have h := foldl_establishes (I := s.OnlyClears n) (P := fun t : State => Memory.wf t.mem = true ∧ t.findSeq n q = none)
    (f := fun t p => t.removeSeq n p) (fun t p h => h.trans (State.removeSeq_clears (s := t) (n := n) p).1) hkeep hone' hq
    (State.OnlyClears.closeViews s (fun v => v.tree == id))
  exact h.2

end

end Sys2Proof.Machine

namespace Sys2Proof.Laws

open Sys2Proof.Machine

section
variable {s : State} {n : Nat} {id : BitVec 32}

theorem treeCancel_unsent (h : ¬OnItsWay s (.treeCancel n id)) : exec (.treeCancel n id) s = .next s :=
  (exec_treeCancel s).trans (congrArg Host.Outcome.next (if_pos (by simpa [OnItsWay] using h)))

theorem treeCancel_sent (h : OnItsWay s (.treeCancel n id)) : exec (.treeCancel n id) s =
    .next (if (s.haltTree n id).treeQuiet n id then (arrived (s.haltTree n id) (.treeCancel n id)).endTree n id else s.haltTree n id) := by
  have hnot : (!s.net.contains (Event.treeCancel n id)) ≠ true := by rw [show s.net.contains _ = true from h]; exact Bool.noConfusion
  exact (exec_treeCancel s).trans (congrArg Host.Outcome.next (if_neg hnot))

/-- What a node's tile has of a tree once its tasks and descriptors have ended. -/
theorem ended_haltTree (i : Nat) :
    (∀ k < 8, ((s.haltTree n id).ctx ⟨n, i, k⟩).tree = id →
      ((s.haltTree n id).ctx ⟨n, i, k⟩).st = .ending ∨ ((s.haltTree n id).ctx ⟨n, i, k⟩).st = .free) ∧
    (∀ d ∈ ((s.haltTree n id).tile ⟨n, i⟩).deque, dqTree d.d2 ≠ id) :=
  ⟨fun _ hk => State.halted_haltTree i hk, State.deque_haltTree i⟩

end

/-- Settles O39: a cancellation ends its tree's tasks and descriptors at once, and its views and tied sequences once nothing of it is
left; what a task that ends leaves in its slot. -/
theorem treesAreCancelled : Obligations.TreesAreCancelled := by
  unfold Obligations.TreesAreCancelled
  intro s n id c b e u d x ended
  have hended : ended u := ended_haltTree
  refine ⟨fun h => congrArg Host.Outcome.next (if_pos h), fun h => congrArg Host.Outcome.next (if_neg (by simp [h])), treeCancel_unsent,
    fun h hq => ⟨?_, hended, ?_⟩, fun h hq => ⟨_, ?_, rfl, ?_, ?_, ?_⟩, fun hk => State.endTask_gives hk b⟩
  · rw [treeCancel_sent h, if_neg (by rw [hq]; exact Bool.noConfusion)]
  · exact List.contains_iff_mem.mpr ((State.OnlyEnds.haltTree s).net e (List.contains_iff_mem.mp h))
  · rw [treeCancel_sent h, if_pos hq]
  · intro i
    have htile := (State.onlyClears_endTree (s := arrived u e) (n := n) (id := id)).tile ⟨n, i⟩
    obtain ⟨htask, hdeque⟩ := hended i
    refine ⟨fun k hk => ?_, ?_⟩
    · have hctx : ((arrived u e).endTree n id).ctx ⟨n, i, k⟩ = u.ctx ⟨n, i, k⟩ := Tile.ctx_congr htile.ctxs
      rw [hctx]
      exact htask k hk
    · rw [htile.deque]
      exact hdeque
  · exact State.views_endTree
  · intro q hq hw hf hone
    have hfold : ((arrived u e).node n).fold.isSome = true := by rw [← hf]; exact congrArg Option.isSome ((State.OnlyEnds.haltTree s).fold n)
    exact State.findSeq_endTree (s := arrived u e) hw hfold hq hone

end Sys2Proof.Laws
end

section
/-! Accesses that their checks refuse (R234 to R239): the trap of the failure, and `ALIGN` of a scalar access that is not aligned. -/

namespace Sys2Proof.Laws

open Sys2Proof.Machine

section
variable {s : State} {g : Guard} {size : Nat} {b : BitVec 5} {f : Cause × Word}

/-- In the windows of SRAM and of the spill share a pointer with its zero bits clear that is not aligned is refused for that (R235). -/
theorem segFault_misaligned {r : CtxRef} {lvl align : Nat} {p : Word} {wr : Bool} (hw : winOf p ≤ 3) (hz : p &&& winZero (winOf p) = 0)
    (ha : p.toNat % align ≠ 0) : segFault s r lvl [p] size align wr = some (.align, p) := by
  have hknown : ¬6 ≤ winOf p := by omega
  have hview : winOf p ≠ 4 := by omega
  have hmis : misaligned p size align = true := by simp [misaligned, ha]
  have hfault : accessFault s r lvl p size align wr (fun _ => false) = some (.align, p) := by
    simp [accessFault, hknown, hz, hview, hmis]
  simp [segFault, memFault, hfault]

variable (hm : s.issue.mode = .direct) (hg : s.cur.guard g = true) (hp : s.cur.poisonRd = false)
include hm hg hp

theorem runLoad_traps {signed : Bool} {l : BitVec 10} {x : RFile} {d : BitVec 5}
    (hf : segFault s s.me s.cur.level [accessAddr s b size] size size false = some f) :
    runLoad size signed g l x d b s = .next (s.issueTrap ⟨4, .m, f.1, f.2⟩) :=
  runOp_traps hm (opFailure_own hg (fun ht => by simp [hp] at ht) rfl rfl rfl hf)

theorem runStore_traps {d : BitVec 5} (hf : segFault s s.me s.cur.level [accessAddr s b size] size size true = some f) :
    runStore size g d b s = .next (s.issueTrap ⟨4, .m, f.1, f.2⟩) :=
  runOp_traps hm (opFailure_own hg (fun ht => by simp [hp] at ht) rfl rfl rfl hf)

end

/-- Settles O18: a scalar load or store whose access is refused is the trap of its failure; a misaligned one is refused with `ALIGN`. -/
theorem accessFaultsTrap : Obligations.AccessFaultsTrap := by
  unfold Obligations.AccessFaultsTrap
  intro s g l x d b hm hg hp traps misaligned
  have load : ∀ i size signed, exec i s = runLoad size signed g l x d b s → traps i size false :=
    fun i size signed he f hf => he.trans (runLoad_traps hm hg hp hf)
  have store : ∀ i size, exec i s = runStore size g d b s → traps i size true := fun i size he f hf => he.trans (runStore_traps hm hg hp hf)
  have align : ∀ i size wr, traps i size wr → misaligned i size := fun i size wr ht hw hz ha =>
    ht (.align, accessAddr s b size) (segFault_misaligned hw hz ha)
  exact ⟨load _ 1 true (exec_ldB s), load _ 2 true (exec_ldH s), load _ 4 true (exec_ldW s), load _ 8 true (exec_ldD s),
    load _ 1 false (exec_ldBu s), load _ 2 false (exec_ldHu s), load _ 4 false (exec_ldWu s), store _ 1 (exec_stB s),
    store _ 2 (exec_stH s), store _ 4 (exec_stW s), store _ 8 (exec_stD s), align _ 2 false (load _ 2 true (exec_ldH s)),
    align _ 4 false (load _ 4 true (exec_ldW s)), align _ 8 false (load _ 8 true (exec_ldD s)),
    align _ 2 false (load _ 2 false (exec_ldHu s)), align _ 4 false (load _ 4 false (exec_ldWu s)),
    align _ 2 true (store _ 2 (exec_stH s)), align _ 4 true (store _ 4 (exec_stW s)), align _ 8 true (store _ 8 (exec_stD s))⟩

end Sys2Proof.Laws
end

section
/-! A store to SRAM (R242, R281, R423): the bytes it writes, the poison it clears and the barriers that watch it. -/

namespace Sys2Proof.Machine

/-! The count of a barrier -/

/-- How many bytes of a range a barrier watches (R281). -/
def Barrier.watched (x : Barrier) (first n : Nat) : Nat :=
  if x.cfg.getLsbD 63 then min (first + n) (wfld x.cfg 24 24 + 1) - max first (wfld x.cfg 0 24) else 0

section
variable (x : Barrier) (n : Nat)

theorem Barrier.dec_zero : x.dec 0 = x := by simp [Barrier.dec]

theorem Barrier.toNat_count_dec : (x.dec n).count.toNat = x.count.toNat - n := by
  have hlt := x.count.isLt
  unfold Barrier.dec
  split
  case isTrue h =>
    rw [BitVec.toNat_sub_of_le (by rw [BitVec.le_def, BitVec.toNat_ofNat]; omega), BitVec.toNat_ofNat]
    omega
  case isFalse h =>
    change (0#32).toNat = _
    rw [BitVec.toNat_ofNat]
    omega

theorem Barrier.ovf_dec : (x.dec n).ovf = (x.ovf || decide (x.count.toNat < n)) := by
  unfold Barrier.dec
  split
  case isTrue h => simp [Nat.not_lt.mpr h]
  case isFalse h => simp [Nat.not_le.mp h]

theorem Barrier.cfg_dec : (x.dec n).cfg = x.cfg := by
  unfold Barrier.dec
  split <;> rfl

end

/-! One barrier of a tile -/

section
variable {t : Tile} {b c : Nat}

theorem Tile.barrier_setBarrier (t : Tile) (x : Barrier) (h : b < 32) : (t.setBarrier b x).barrier b = x := by
  simp [Tile.barrier, Tile.setBarrier, h]

theorem Tile.barrier_setBarrier_of_ne (t : Tile) (x : Barrier) (h : c ≠ b) : (t.setBarrier b x).barrier c = t.barrier c := by
  unfold Tile.barrier Tile.setBarrier
  by_cases hc : c < 32
  · simp [hc, Ne.symm h]
  · simp [hc]

theorem Tile.settleBarriers_of_pending (h : t.pending = []) : t.settleBarriers = t := by
  obtain ⟨⟩ := t
  cases h
  rfl

variable {first n : Nat} (hp : t.pending = [])
include hp

theorem Tile.pending_countOn (k : Nat) : (t.countOn b k).pending = [] := by
  unfold Tile.countOn
  rw [Tile.settleBarriers_of_pending hp]
  split <;> exact hp

theorem Tile.barrier_countOn (k : Nat) (hb : b < 32) : (t.countOn b k).barrier b = (t.barrier b).dec k := by
  unfold Tile.countOn
  rw [Tile.settleBarriers_of_pending hp]
  split
  case isTrue h => rw [h, Barrier.dec_zero]
  case isFalse h => exact t.barrier_setBarrier _ hb

theorem Tile.barrier_countOn_of_ne (k : Nat) (hc : c ≠ b) : (t.countOn b k).barrier c = t.barrier c := by
  unfold Tile.countOn
  rw [Tile.settleBarriers_of_pending hp]
  split
  · rfl
  · exact t.barrier_setBarrier_of_ne _ hc

end

/-! The barriers a write meets -/

/-- A write of a range counted on one barrier. -/
def Tile.watchOn (first n : Nat) (t : Tile) (b : Nat) : Tile :=
  if (t.barrier b).watched first n = 0 then t else t.countOn b ((t.barrier b).watched first n)

theorem Tile.watchWrite_eq (t : Tile) (first n : Nat) : t.watchWrite first n = (List.range 32).foldl (Tile.watchOn first n) t := by
  have hstep : ∀ (t : Tile) (b : Nat), Tile.watchOn first n t b =
      if (t.barrier b).cfg.getLsbD 63 && decide (max first (wfld (t.barrier b).cfg 0 24) < min (first + n) (wfld (t.barrier b).cfg 24 24 + 1))
      then t.countOn b (min (first + n) (wfld (t.barrier b).cfg 24 24 + 1) - max first (wfld (t.barrier b).cfg 0 24)) else t := by
    intro t b
    unfold Tile.watchOn Barrier.watched
    cases (t.barrier b).cfg.getLsbD 63 with
    | false => simp
    | true =>
      by_cases h : max first (wfld (t.barrier b).cfg 0 24) < min (first + n) (wfld (t.barrier b).cfg 24 24 + 1)
      · rw [if_pos rfl, if_neg (Nat.sub_ne_zero_of_lt h), if_pos (by simpa using h)]
      · rw [if_pos rfl, if_pos (Nat.sub_eq_zero_of_le (Nat.not_lt.mp h)), if_neg (by simpa using h)]
  unfold Tile.watchWrite
  exact congrArg (fun f => (List.range 32).foldl f t) (funext fun t => funext fun b => (hstep t b).symm)

section
variable {t : Tile} {first n b c : Nat} (hp : t.pending = [])
include hp

theorem Tile.pending_watchOn : (Tile.watchOn first n t b).pending = [] := by
  unfold Tile.watchOn
  split
  · exact hp
  · exact Tile.pending_countOn hp _

theorem Tile.barrier_watchOn (hb : b < 32) :
    (Tile.watchOn first n t b).barrier b = (t.barrier b).dec ((t.barrier b).watched first n) := by
  unfold Tile.watchOn
  split
  case isTrue h => rw [h, Barrier.dec_zero]
  case isFalse h => exact Tile.barrier_countOn hp _ hb

theorem Tile.barrier_watchOn_of_ne (hc : c ≠ b) : (Tile.watchOn first n t b).barrier c = t.barrier c := by
  unfold Tile.watchOn
  split
  · rfl
  · exact Tile.barrier_countOn_of_ne hp _ hc

/-- Each barrier of a list is counted on once, the others not at all. -/
theorem Tile.barrier_foldl_watchOn (l : List Nat) (hl : l.Nodup) (hlt : ∀ b ∈ l, b < 32) (c : Nat) :
    (l.foldl (Tile.watchOn first n) t).barrier c =
      if c ∈ l then (t.barrier c).dec ((t.barrier c).watched first n) else t.barrier c := by
  induction l generalizing t with
  | nil => simp
  | cons b l ih =>
    obtain ⟨hb, hl⟩ := List.nodup_cons.mp hl
    rw [List.foldl_cons, ih (Tile.pending_watchOn hp) hl (fun b h => hlt b (List.mem_cons_of_mem _ h))]
    by_cases hc : c = b
    · subst hc
      rw [if_neg hb, if_pos List.mem_cons_self, Tile.barrier_watchOn hp (hlt c List.mem_cons_self)]
    · simp only [Tile.barrier_watchOn_of_ne hp hc, List.mem_cons, hc, false_or]

theorem Tile.barrier_watchWrite (hc : c < 32) :
    (t.watchWrite first n).barrier c = (t.barrier c).dec ((t.barrier c).watched first n) := by
  rw [Tile.watchWrite_eq, Tile.barrier_foldl_watchOn hp _ List.nodup_range (fun b h => List.mem_range.mp h), if_pos (List.mem_range.mpr hc)]

end

/-! The write at its bank -/

/-- The state of a write performed at its bank, before the barriers of another tile's write are counted (R423). -/
def State.banked (s : State) (r : TileRef) (off : Nat) (bs : List Byte) : State :=
  let key := memKey .sram r (off / 8 * 8)
  { s.writeBytes .sram r off bs with
    poison := s.poison.filter (fun k => k != key)
    tainted := if bs.length == 8 && off % 8 == 0 then s.tainted.filter (fun k => k.1 != key) else s.tainted }

theorem State.bankWrite_eq_some {s t : State} {from' r : TileRef} {off : Nat} {bs : List Byte} (hm : meetsMailbox off bs.length = false)
    (h : s.bankWrite from' r off bs false = some t) :
    t = if from' = r then s.banked r off bs else (s.banked r off bs).modTile r (fun t => t.watchWrite off bs.length) := by
  unfold State.bankWrite at h
  dsimp only at h
  rw [if_neg (by rw [hm]; exact Bool.noConfusion)] at h
  split at h
  · cases h
  · exact (Option.some.inj h).symm

end Sys2Proof.Machine

namespace Sys2Proof.Laws

open Sys2Proof.Machine

/-- Settles O41: the bytes, the poison and the tiles after the write, and each barrier of its tile. -/
theorem storedBytesAlone : Obligations.StoredBytesAlone := by
  unfold Obligations.StoredBytesAlone
  intro s t from' r off bs hw hm h
  have ht := State.bankWrite_eq_some hm h
  refine ⟨fun a => ?_, ?_, fun hr => ?_, fun q hq => ?_, fun hr hp b hb => ?_⟩
  · have hmem : t.mem = Memory.write s.mem (memKey .sram r off) bs := by
      rw [ht]
      split <;> rfl
    rw [hmem, Memory.get_write _ _ _ hw]
  · rw [ht]
    split <;> rfl
  · rw [ht, if_pos hr]
    rfl
  · rw [ht]
    split
    · rfl
    · exact State.tile_modTile_of_ne _ _ _ hq
  · intro x y n
    have hy : y = x.dec n := by
      have htile : t.tile r = (s.tile r).watchWrite off bs.length := by
        rw [ht, if_neg hr]
        exact State.tile_modTile ..
      change (t.tile r).barrier b = _
      rw [htile]
      exact Tile.barrier_watchWrite hp hb
    rw [hy]
    exact ⟨x.toNat_count_dec n, x.ovf_dec n, x.cfg_dec n⟩

end Sys2Proof.Laws
end

section
/-! The fetch of a copy's bytes (O40): it goes to every copy of the tile that has the number of the step (R241, R251, R278). -/

namespace Sys2Proof.Machine

theorem CopyJob.slot_took (j : CopyJob) (bs : List Byte) (bad : List Nat) : (j.took bs bad).slot = j.slot := by
  unfold CopyJob.took
  dsimp only
  split <;> rfl

/-- The context slot of a copy. -/
def CopyJob.owner (r : TileRef) (j : CopyJob) : CtxRef := ⟨r.node, r.tile, j.slot⟩

/-- The tile a copy fetches from, and the bytes that come next, as the banks there read them (R241). -/
def CopyJob.source (r : TileRef) (j : CopyJob) : TileRef := targetTile (j.owner r) j.srcPiece.1
def State.fetched (s : State) (r : TileRef) (j : CopyJob) : List Byte :=
  (unitPieces (ptrOff j.srcPiece.1) (j.srcPiece.2 + 1) 0 j.srcPiece.2).flatMap (fun k =>
    s.bankBytes (j.source r) (ptrOff j.srcPiece.1 + k.1) k.2)

/-- The bank of the source, which remembers the access for the cycle. -/
def State.fetching (s : State) (r : TileRef) (j : CopyJob) : State :=
  s.markBank (j.source r) (ptrOff j.srcPiece.1) (2 * j.id) (j.srcPiece.2 == 128) false

section
variable {s : State} {r : TileRef} {j : CopyJob}

/-- Without poison on the machine a piece comes whole. -/
theorem State.fetchPiece_eq (hn : (j.source r).node = r.node)
    (hb : s.unitBarred (j.owner r) j.desc.lvl j.srcPiece.1 j.srcPiece.2 false = false) (hp : s.poison = []) :
    s.fetchPiece r j = (s.fetching r j).setCopy r j.id (fun i => some (i.took (s.fetched r j) [])) := by
  have hclean : ∀ g off, s.poisoned g off = false := fun g off => by simp [State.poisoned, hp]
  have hhere : ¬(targetTile ⟨r.node, r.tile, j.slot⟩ j.srcPiece.1).node ≠ r.node := not_not.mpr hn
  unfold CopyJob.owner at hb
  unfold State.fetchPiece
  simp only [hhere, hb, hclean]
  have hwhole : ∀ l : List (Nat × Nat), l.flatMap (fun _ => ([] : List Nat)) = [] := fun l => List.flatMap_eq_nil_iff.mpr (fun _ _ => rfl)
  simp [State.fetching, State.fetched, CopyJob.source, CopyJob.owner, hwhole]

theorem State.copies_setCopy (s : State) (r : TileRef) (id : Nat) (f : CopyJob → Option CopyJob) :
    ((s.setCopy r id f).tile r).copies = (s.tile r).copies.filterMap (fun i => if i.id = id then f i else some i) := by
  rw [State.setCopy, State.tile_modTile]

theorem State.copies_fetching (q : TileRef) : ((s.fetching r j).tile q).copies = (s.tile q).copies := by
  unfold State.fetching State.markBank
  by_cases h : q = j.source r
  · rw [h, State.tile_modTile]
  · rw [State.tile_modTile_of_ne _ _ _ h]

end

/-- Two copies of tile 0 bear one number, that of slot 0 and that of slot 1; each has begun its first row, of one byte of SRAM. -/
def twin (slot : Nat) : CopyJob := ⟨7, slot, 0, some 5, 3, ⟨0x100, 0x200, 0, 0, 0, 0⟩, [], [], 0, 1, false, [], false, false⟩
def twins : State := State.reset.modTile ⟨0, 0⟩ (fun t => { t with copies := [twin 0, twin 1] })

end Sys2Proof.Machine

namespace Sys2Proof.Laws

open Sys2Proof.Machine

section
variable {s : State} {r : TileRef} {j : CopyJob}

/-- A copy fetches: it is the first of its number, neither waits nor has stopped, and its home refuses it nothing. -/
def Fetches (s : State) (r : TileRef) (j : CopyJob) : Prop :=
  ((s.tile r).copies.find? (fun i => i.id == j.id) = some j ∧ j.waits = false ∧ j.stopped = false) ∧ j.stage = 1 ∧
    (j.source r).node = r.node ∧ s.unitBarred (j.owner r) j.desc.lvl j.srcPiece.1 j.srcPiece.2 false = false ∧ s.poison = []

/-- The bytes fetched go to every copy of the number. -/
theorem copyRow_fetches (h : Fetches s r j) :
    exec (.copyRow r j.id) s = .next ((s.fetching r j).setCopy r j.id (fun i => some (i.took (s.fetched r j) []))) := by
  obtain ⟨⟨hj, hw, hs⟩, h1, hn, hb, hp⟩ := h
  rw [exec_copyRow, execCopyRow, hj, ← State.fetchPiece_eq hn hb hp]
  simp [hw, hs, h1]

/-- The statement says of the same step that every copy of the number becomes the first of them. -/
theorem copies_of_accessesArePerformed (hall : Obligations.AccessesArePerformed) (h : Fetches s r j) :
    (s.tile r).copies.filterMap (fun i => if i.id = j.id then some (i.took (s.fetched r j) []) else some i) =
      (s.tile r).copies.filterMap (fun i => if i.id = j.id then some (j.took (s.fetched r j) []) else some i) := by
  unfold Obligations.AccessesArePerformed at hall
  obtain ⟨-, -, -, -, -, -, hcopies⟩ :=
    hall s ⟨0, 0, 0⟩ .load default default [] 0 0 0 false .add 0 default r j
  obtain ⟨⟨hj, hw, hs⟩, h1, hn, hb, hp⟩ := h
  obtain ⟨-, hfetch, -, -⟩ := hcopies hj hw hs
  have hsame := Host.Outcome.next.inj ((copyRow_fetches ⟨⟨hj, hw, hs⟩, h1, hn, hb, hp⟩).symm.trans (hfetch h1 hn hb hp))
  have hcopies := congrArg (fun t : State => (t.tile r).copies) hsame
  rw [← State.copies_fetching (j := j), ← State.copies_setCopy]
  refine hcopies.trans ?_
  exact State.copies_setCopy (s.fetching r j) r j.id (fun _ => some (j.took (s.fetched r j) []))

end

/-- Refutes O40: where two copies of a tile bear one number, the bytes that the first fetches are added to what the second has, where
the statement says that the second becomes the first. -/
theorem not_accessesArePerformed : ¬ Obligations.AccessesArePerformed := by
  intro h
  have hfetches : Fetches twins ⟨0, 0⟩ (twin 0) := by
    unfold Fetches
    decide
  have hcopies : (twins.tile ⟨0, 0⟩).copies = [twin 0, twin 1] := by decide
  have hboth := copies_of_accessesArePerformed h hfetches
  rw [hcopies] at hboth
  have hsecond : ((twin 1).took (twins.fetched ⟨0, 0⟩ (twin 0)) []).slot = ((twin 0).took (twins.fetched ⟨0, 0⟩ (twin 0)) []).slot :=
    congrArg CopyJob.slot (List.cons.inj (List.cons.inj hboth).2).1
  rw [CopyJob.slot_took, CopyJob.slot_took] at hsecond
  exact absurd hsecond (by decide)

end Sys2Proof.Laws
end

section
/-! PROOFS. Canonical memories (O59): the predicate, and the rules for conditionals, folds and the functions that write memory. Every
later rule retraces its function's own definition through these. -/

namespace Sys2Proof.Machine

/-- The memory of the tiles and the host's memory are in canonical form. -/
def State.Canonical (s : State) : Prop := Memory.wf s.mem = true ∧ Memory.wf s.hostMem = true

/-- The state that an outcome goes on with, if it goes on, has canonical memories. -/
def Out.Canonical : Out → Prop
  | .next t => t.Canonical
  | _ => True

theorem Out.Canonical.of_next {o : Out} {t : State} (ho : o.Canonical) (ht : o = .next t) : t.Canonical := by
  subst ht
  exact ho

namespace State.Canonical
variable {s : State} (h : s.Canonical)

theorem ite {c : Prop} [Decidable c] {t : State} (hs : s.Canonical) (ht : t.Canonical) :
    (if c then s else t).Canonical := by
  split
  · exact hs
  · exact ht

/-- Where one of two states is gone on with, the one an option holds, if it holds one. -/
theorem getD {o : Option State} {t : State} (ho : ∀ u, o = some u → u.Canonical) (ht : t.Canonical) : (o.getD t).Canonical := by
  cases o with
  | none => exact ht
  | some u => exact ho u rfl

include h

theorem foldl {α : Type} {l : List α} {f : State → α → State} (hf : ∀ t a, t.Canonical → (f t a).Canonical) :
    (l.foldl f s).Canonical :=
  List.foldlRecOn l f h fun t ht a _ => hf t a ht

/-! A field beside the two memories replaced. -/

theorem withIssue {q : Issue} : ({ s with issue := q } : State).Canonical := h
theorem withNet {es : List Event} : ({ s with net := es } : State).Canonical := h
theorem withPackets {ps : List NetPacket} : ({ s with packets := ps } : State).Canonical := h
theorem withPoison {us : List Nat} : ({ s with poison := us } : State).Canonical := h
theorem withTainted {us : List (Nat × CtxRef)} : ({ s with tainted := us } : State).Canonical := h
theorem withFree {n : Nat} : ({ s with free := n } : State).Canonical := h

theorem writeBytes {sp : MemSpace} {t : TileRef} {off : Nat} {bs : List Byte} : (s.writeBytes sp t off bs).Canonical :=
  ⟨Memory.wf_write _ _ h.1, h.2⟩

theorem writeWord {sp : MemSpace} {t : TileRef} {off : Nat} {w : Word} : (s.writeWord sp t off w).Canonical :=
  h.writeBytes

theorem placeBytes {sp : MemSpace} {t : TileRef} {off : Nat} {bs : List Byte} : (s.placeBytes sp t off bs).Canonical :=
  ⟨Memory.wf_place _ _ h.1, h.2⟩

theorem moveBytes {src dst n : Nat} : (s.moveBytes src dst n).Canonical := ⟨Memory.wf_move _ _ _ h.1, h.2⟩
theorem healWhole {sp : MemSpace} {r : TileRef} {off n : Nat} : (s.healWhole sp r off n).Canonical := h
theorem spoilRange {sp : MemSpace} {r : TileRef} {off n : Nat} : (s.spoilRange sp r off n).Canonical := h

theorem zeroBytes {sp : MemSpace} {t : TileRef} {off n : Nat} : (s.zeroBytes sp t off n).Canonical :=
  ⟨Memory.wf_zero _ _ h.1, h.2⟩

theorem setNode {n : Nat} {x : Node} : (s.setNode n x).Canonical := h
theorem modNode {n : Nat} {f : Node → Node} : (s.modNode n f).Canonical := h.setNode
theorem setTile {r : TileRef} {t : Tile} : (s.setTile r t).Canonical := h.modNode
theorem modTile {r : TileRef} {f : Tile → Tile} : (s.modTile r f).Canonical := h.setTile
theorem setCtx {c : CtxRef} {x : Ctx} : (s.setCtx c x).Canonical := h.modTile
theorem modCtx {c : CtxRef} {f : Ctx → Ctx} : (s.modCtx c f).Canonical := h.setCtx
theorem modCur {f : Ctx → Ctx} : (s.modCur f).Canonical := h.modTile
theorem modHere {f : Tile → Tile} : (s.modHere f).Canonical := h.modTile
theorem send {i : Event} : (s.send i).Canonical := h
theorem sendAll {is : List Event} : (s.sendAll is).Canonical := h
theorem choose {n : Nat} : (s.choose n).2.Canonical := h
theorem newId : s.newId.2.Canonical := h
theorem raiseLine {r : TileRef} {l : Nat} : (s.raiseLine r l).Canonical := h.send

end State.Canonical

end Sys2Proof.Machine
end

section
/-! PROOFS. Canonical memories (O59): results, traps and their frames, and what the accesses of the M slot do at their issue. -/

namespace Sys2Proof.Machine
namespace State.Canonical

variable {s : State} (h : s.Canonical)
include h

theorem result {sl : Slot} {lat : Nat} {late : Bool} {e : Effect} {flags : BitVec 7} : (s.result sl lat late e flags).Canonical :=
  h.modCur

theorem resultWord {sl : Slot} {f : RFile} {lat : Nat} {d : Dst} {v : Word} : (s.resultWord sl f lat d v).Canonical := by
  unfold State.resultWord
  split
  · exact h.result
  · exact h.result

theorem writeRecords {r : CtxRef} {xs : List Record} {i p : Nat} : (writeRecords s r xs i p).1.Canonical := by
  induction xs generalizing s i p with
  | nil => exact h
  | cons x xs ih =>
    unfold Machine.writeRecords
    dsimp only
    split
    · exact h
    · split
      · exact ih h.writeWord.writeWord.healWhole
      · exact ih h.writeWord.writeWord.healWhole.writeBytes.healWhole

theorem setFrameWord {r : CtxRef} {off : Nat} {w : Word} : (s.setFrameWord r off w).Canonical := h.writeWord

theorem notice {tree : BitVec 32} {reason : Nat} {r : CtxRef} : (s.notice tree reason r).Canonical :=
  (ite h.writeWord h.writeWord.writeWord.writeWord).raiseLine

theorem doubleTrap {r : CtxRef} : (s.doubleTrap r).Canonical := h.modCtx.notice.send

theorem takeTrap {r : CtxRef} {q : TrapReq} {rpc : Nat} {waitEnd : Bool} : (s.takeTrap r q rpc waitEnd).Canonical :=
  ite h.doubleTrap h.setTile

theorem spoilLatches {r : CtxRef} {cs : List Cell} : (s.spoilLatches r cs).Canonical := by
  unfold State.spoilLatches
  dsimp only
  refine h.foldl fun _ _ h => ?_
  split
  · exact h
  · exact h

theorem writeFrame {r : CtxRef} {xcause xpc : Word} {waitEnd : Bool} : (s.writeFrame r xcause xpc waitEnd).1.Canonical :=
  ((h.writeRecords.setFrameWord.setFrameWord.setFrameWord.setFrameWord.writeBytes.foldl fun _ _ h =>
    h.setFrameWord.setFrameWord.setFrameWord.setFrameWord).foldl fun _ _ h =>
      h.writeBytes).healWhole.healWhole.spoilLatches.modCtx

theorem insertFurther {r : CtxRef} {n at' : Nat} {d x : Word} : (s.insertFurther r n at' d x).Canonical :=
  h.writeBytes.writeWord.writeWord

theorem keepFurther {r : CtxRef} {seq : Nat} {d x : Word} : (s.keepFurther r seq d x).Canonical :=
  ite h.doubleTrap h.insertFurther.setFrameWord.modCtx

theorem appendRecord {r : CtxRef} {x : Record} : (s.appendRecord r x).Canonical :=
  ite h.doubleTrap h.writeRecords.setFrameWord.modCtx

theorem holdDeferred {r : CtxRef} {here : Nat} {f : LateFault} : (s.holdDeferred r here f).Canonical :=
  h.setFrameWord.setFrameWord.setFrameWord.modCtx

theorem deferItem {r : CtxRef} {here : Nat} {f : LateFault} : (s.deferItem r here f).Canonical := by
  unfold State.deferItem
  extract_lets s1 hd old od ox s2
  have h1 : s1.Canonical := by
    simp only [s1]
    split
    · exact ite h h.appendRecord
    · exact h
  have h2 : s2.Canonical := h1.holdDeferred
  exact ite h1 (ite h1.holdDeferred.setFrameWord (ite (ite h2.keepFurther h2) (ite h1.keepFurther h1)))

theorem enterHandler {r : CtxRef} : (s.enterHandler r).Canonical := by
  unfold State.enterHandler
  extract_lets +onlyGivenNames c
  split
  · exact h
  · split
    · exact h
    · extract_lets all rmax q pays w items s1 s2
      have h1 : s1.Canonical := (show w.1.Canonical from h.writeFrame).modCtx
      have h2 : s2.Canonical := h1.foldl fun _ _ h => h.deferItem
      exact ite h2.doubleTrap h2

theorem restoreFrame {r : CtxRef} {rpc : BitVec 12} : (s.restoreFrame r rpc).Canonical := h.modCtx

theorem nextDeferred {r : CtxRef} : (s.nextDeferred r).Canonical :=
  ite h.modCtx.setFrameWord h.modCtx.setFrameWord.setFrameWord.setFrameWord.setFrameWord.writeBytes

theorem takeDeferred {r : CtxRef} : (s.takeDeferred r).Canonical := h.modCtx.modCtx.nextDeferred
theorem trapReturn {r : CtxRef} : (s.trapReturn r).Canonical := ite h.takeDeferred h.restoreFrame.modCtx
theorem issueTrap {f : Failure} : (s.issueTrap f).Canonical := h.takeTrap
theorem settleOrderings {r : CtxRef} : (s.settleOrderings r).Canonical := h.modCtx
theorem enqueue {r : CtxRef} {e : QEntry} : (s.enqueue r e).Canonical := h.modCtx

theorem queueOp {sl : Slot} {inLoad inStore : Bool} {op : QOp} : (s.queueOp sl inLoad inStore op).Canonical :=
  h.newId.enqueue

theorem takeLanding {sl : Slot} {kind : LandKind} {l : BitVec 10} {file : RFile} {reg : BitVec 5} {addr : Word}
    {size earliest : Nat} {idem : Bool} : (s.takeLanding sl kind l file reg addr size earliest idem).2.Canonical :=
  h.newId.modCur

theorem spillUe {x : Word} {access : Option Nat} : (s.spillUe x access).Canonical := h.modCur

theorem issueLoad {kind : LandKind} {l : BitVec 10} {file : RFile} {reg : BitVec 5} {addr : Word} {segs : List Word}
    {size : Nat} : (s.issueLoad kind l file reg addr segs size).Canonical := by
  unfold State.issueLoad
  dsimp only
  split
  · exact h.takeLanding.spillUe
  · exact ite h.takeLanding.modCur h.takeLanding.modCur.enqueue

theorem storeSpill {r : CtxRef} {p : Word} {bs : List Byte} : (s.storeSpill r p bs).Canonical := by
  unfold State.storeSpill
  extract_lets t off k bad part s1 s2
  have h1 : s1.Canonical := h.foldl fun _ _ h => ite h h.writeBytes
  have h2 : s2.Canonical := h1
  clear_value s2 s1 part
  split
  · exact h.writeBytes
  · split
    · exact h2
    · exact h2.spillUe

theorem issueStore {segs : List Word} {size : Nat} {data : List Byte} : (s.issueStore segs size data).Canonical :=
  ite (h.foldl fun _ _ h => ite h.storeSpill h) (h.foldl fun _ _ h => ite h.storeSpill h).queueOp

end State.Canonical
end Sys2Proof.Machine
end

section
/-! PROOFS. Canonical memories (O59): messages, packets and the buffers of a port, barriers. -/

namespace Sys2Proof.Machine
namespace State.Canonical

variable {s : State} (h : s.Canonical)
include h

theorem modLink {n b : Nat} {f : Link → Link} : (s.modLink n b f).Canonical := h.modNode
theorem sendStream {n b : Nat} {fs : List Flit} : (s.sendStream n b fs).Canonical := ite h.modNode h.modLink

theorem post {src : Nat} {e : Event} : (s.post src e).Canonical := by
  unfold State.post
  split
  · exact h.send
  · split
    · exact h.send
    · split
      · exact h.modLink
      · exact h

theorem returnCredit {src : Nat} {dst : CtxRef} {k : Nat} : (s.returnCredit src dst k).Canonical := ite h.post h.modNode
theorem freeBuffer {r : TileRef} {st i : Nat} : (s.freeBuffer r st i).Canonical := h.modTile.returnCredit

theorem donePacket {r : CtxRef} {st : Nat} : (s.donePacket r st).Canonical := by
  unfold State.donePacket
  split
  · exact h
  · exact h.freeBuffer.modCtx

theorem discardOpen {r : CtxRef} {st : Nat} : (s.discardOpen r st).Canonical := by
  unfold State.discardOpen
  split
  · exact h
  · exact h.modTile.modCtx

theorem endPackets {r : CtxRef} : (s.endPackets r).Canonical :=
  (h.foldl fun _ _ h => h.donePacket).foldl fun _ _ h => h.discardOpen

theorem detect {r : CtxRef} {f : LateFault} : (s.detect r f).Canonical := h.modCtx

theorem issuePkt {hdr : Bool} {l : BitVec 10} {x : RFile} {d b : BitVec 5} : (s.issuePkt hdr l x d b).Canonical := by
  unfold State.issuePkt
  dsimp only
  split
  · exact h.takeLanding.modCur
  · exact h.takeLanding.detect

theorem openPacket {st : Nat} : (s.openPacket st).Canonical := h.modHere.modCur.zeroBytes.writeWord.writeWord
theorem awaitCredit {st : Nat} : (s.awaitCredit st).Canonical := h
theorem pend {sl : Slot} {lat : Nat} {held : Bool} {a : ExtWrite} : (s.pend sl lat held a).Canonical := h.modHere
theorem usesBarrier {r : CtxRef} {b : Nat} : (s.usesBarrier r b).Canonical := h.modCtx

end State.Canonical
end Sys2Proof.Machine
end

section
/-! PROOFS. Canonical memories (O59): the fold walker's records and what a fold instruction asks. -/

namespace Sys2Proof.Machine
namespace State.Canonical

variable {s : State} (h : s.Canonical)
include h

theorem setFoldRec {n off : Nat} {w : Word} : (s.setFoldRec n off w).Canonical := h.writeWord
theorem setDirEntry {n loc i : Nat} {w : Word} : (s.setDirEntry n loc i w).Canonical := h.writeWord
theorem setBlockCount {n loc v : Nat} : (s.setBlockCount n loc v).Canonical := h.writeBytes
theorem setRootLoc {n root page loc : Nat} : (s.setRootLoc n root page loc).Canonical := h.setFoldRec
theorem setPd {n d : Nat} {w0 w1 : Word} : (s.setPd n d w0 w1).Canonical := h.setFoldRec.setFoldRec
theorem setPdState {n d st : Nat} : (s.setPdState n d st).Canonical := h.setFoldRec
theorem settlePd {n d : Nat} : (s.settlePd n d).Canonical := ite h.setPdState (ite h.setPdState h)
theorem pdInc {n d : Nat} : (s.pdInc n d).Canonical := h.setFoldRec.settlePd
theorem flushPage {n d : Nat} : (s.flushPage n d).Canonical := h.modNode

theorem takeFrame {n : Nat} {x : Nat × State} (hx : s.takeFrame n = some x) : x.2.Canonical := by
  obtain ⟨j, -, rfl⟩ := Option.map_eq_some_iff.1 hx
  exact h.modNode

theorem giveFrame {n j : Nat} : (s.giveFrame n j).Canonical := h.modNode

theorem takeDesc {n : Nat} {x : Nat × State} (hx : s.takeDesc n = some x) : x.2.Canonical := by
  obtain ⟨d, -, rfl⟩ := Option.map_eq_some_iff.1 hx
  exact h.modNode

theorem giveDesc {n d : Nat} : (s.giveDesc n d).Canonical := h.setPd.modNode

theorem takeBlock {n : Nat} {x : Nat × State} (hx : s.takeBlock n = some x) : x.2.Canonical := by
  unfold State.takeBlock at hx
  dsimp only at hx
  split at hx
  · cases hx
    exact h.zeroBytes.setBlockCount
  · obtain ⟨a, ha, rfl⟩ := Option.map_eq_some_iff.1 hx
    exact (h.takeFrame ha).modNode.zeroBytes.setBlockCount

theorem settleCut {n loc : Nat} : (s.settleCut n loc).Canonical := ite h.giveFrame h
theorem givePlace {n d : Nat} : (s.givePlace n d).Canonical := ite h.giveFrame (ite (ite h.giveFrame h) h)

theorem freePage {n d : Nat} : (s.freePage n d).Canonical :=
  ite h.setFoldRec (ite h.post.giveDesc h.flushPage.givePlace.giveDesc)

theorem pdDec {n d : Nat} : (s.pdDec n d).Canonical := ite h.setFoldRec.freePage h.setFoldRec.settlePd

theorem dropL2 {n loc : Nat} : (s.dropL2 n loc).Canonical :=
  ite h.setBlockCount (h.setBlockCount.foldl fun _ _ h => ite h.pdDec h).settleCut

theorem dropL1 {n loc : Nat} : (s.dropL1 n loc).Canonical :=
  ite h.setBlockCount (h.setBlockCount.foldl fun _ _ h => ite h.dropL2 h).settleCut

theorem ownL1 {n root page : Nat} {x : Nat × State} (hx : s.ownL1 n root page = some x) : x.2.Canonical := by
  unfold State.ownL1 at hx
  dsimp only at hx
  split at hx
  · obtain ⟨a, ha, rfl⟩ := Option.map_eq_some_iff.1 hx
    exact (h.takeBlock ha).setRootLoc
  · split at hx
    · cases hx
      exact h
    · obtain ⟨a, ha, rfl⟩ := Option.map_eq_some_iff.1 hx
      exact ((h.takeBlock ha).writeBytes.foldl fun _ _ h => ite h.setBlockCount h).setBlockCount.setRootLoc

theorem ownL2 {n root page : Nat} {x : Nat × State} (hx : s.ownL2 n root page = some x) : x.2.Canonical := by
  unfold State.ownL2 at hx
  split at hx
  · cases hx
  · next l1 s1 heq =>
    have h1 : s1.Canonical := h.ownL1 heq
    dsimp only at hx
    split at hx
    · obtain ⟨a, ha, rfl⟩ := Option.map_eq_some_iff.1 hx
      exact (h1.takeBlock ha).setDirEntry
    · split at hx
      · cases hx
        exact h1
      · obtain ⟨a, ha, rfl⟩ := Option.map_eq_some_iff.1 hx
        exact ((h1.takeBlock ha).writeBytes.foldl fun _ _ h => ite h.pdInc h).setBlockCount.setDirEntry

theorem ownPage {n root page : Nat} {x : Nat × State} (hx : s.ownPage n root page = some x) : x.2.Canonical := by
  unfold State.ownPage at hx
  split at hx
  · cases hx
  · next l2 s1 heq =>
    have h1 : s1.Canonical := h.ownL2 heq
    dsimp only at hx
    split at hx
    · cases hx
      exact h1
    · split at hx
      · cases hx
      · next j s2 heq =>
        split at hx
        · cases hx
        · next e s3 heq' =>
          cases hx
          exact ((h1.takeFrame heq).takeDesc heq').moveBytes.setPd.setDirEntry.flushPage.pdDec

theorem newPage {n root page : Nat} {x : Nat × State} (hx : s.newPage n root page = some x) : x.2.Canonical := by
  unfold State.newPage at hx
  split at hx
  · cases hx
  · next l2 s1 heq =>
    split at hx
    · cases hx
    · next j s2 heq' =>
      obtain ⟨a, ha, rfl⟩ := Option.map_eq_some_iff.1 hx
      exact (((h.ownL2 heq).takeFrame heq').takeDesc ha).zeroBytes.setPd.setDirEntry

theorem updateViews {n seq : Nat} : (s.updateViews n seq).Canonical := h.modNode
theorem closeViews {n : Nat} {p : View → Bool} : (s.closeViews n p).Canonical := h.modNode

theorem createSeq {n seq : Nat} {tied : Bool} {tree : BitVec 32} {t : State} (ht : s.createSeq n seq tied tree = some t) :
    t.Canonical := by
  obtain ⟨o, -, rfl⟩ := Option.map_eq_some_iff.1 ht
  exact h.setFoldRec.setFoldRec

theorem createRoot {n seq layer head : Nat} {t : State} (ht : s.createRoot n seq layer head = some t) : t.Canonical := by
  obtain ⟨o, -, rfl⟩ := Option.map_eq_some_iff.1 ht
  exact h.setFoldRec.setFoldRec

theorem removeSeq {n seq : Nat} : (s.removeSeq n seq).Canonical := by
  unfold State.removeSeq
  split
  · exact h
  · refine h.setFoldRec.setFoldRec.closeViews.foldl fun _ _ h => ?_
    extract_lets w a b s2 s3
    have h2 : s2.Canonical := h.setFoldRec.setFoldRec
    have h3 : s3.Canonical := ite h2.dropL1 h2
    exact ite h3.dropL1 h3

theorem forkSeq {n seq arg : Nat} {tied : Bool} {tree : BitVec 32} {t : State} (ht : s.forkSeq n seq arg tied tree = .ok t) :
    t.Canonical := by
  unfold State.forkSeq at ht
  split at ht
  · cases ht
  · split at ht
    · cases ht
    · split at ht
      · cases ht
      · dsimp only at ht
        refine List.foldlRecOn (motive := fun acc => ∀ t, acc = Except.ok t → t.Canonical) _ _ ?_ ?_ t ht
        · rintro t ⟨⟩
          exact h.setFoldRec.setFoldRec
        · intro acc hacc r _ t ht
          split at ht
          · cases ht
          · next s1 =>
            have h1 : s1.Canonical := hacc s1 rfl
            split at ht
            · cases ht
            · split at ht
              · cases ht
              · cases ht
                exact h1.setFoldRec.setFoldRec.foldl fun _ _ h => h.setBlockCount

theorem keepPage {n page d : Nat} {keep : Option Retained} : (s.keepPage n page d keep).Canonical := by
  unfold State.keepPage
  split
  · exact ite h h.modNode
  · exact h

theorem clearPage {n root page : Nat} {keep : Option Retained} {t : State} (ht : s.clearPage n root page keep = some t) :
    t.Canonical := by
  obtain ⟨a, ha, rfl⟩ := Option.map_eq_some_iff.1 ht
  extract_lets l2 d s1 s2 l1 s3
  have h2 : s2.Canonical := (h.ownL2 ha).setDirEntry.flushPage.keepPage.pdDec
  have h3 : s3.Canonical := h2.setDirEntry.dropL2
  exact ite h2 (ite h3 h3.setRootLoc.dropL1)

theorem foldl_clearPage {n r : Nat} {keep : Nat → Option Retained} {t : State} {ps : List Nat}
    (ht : ps.foldl (fun (acc : Option State) p => acc.bind (fun s => s.clearPage n r p (keep p))) (some s) = some t) :
    t.Canonical := by
  refine List.foldlRecOn (motive := fun acc => ∀ t, acc = some t → t.Canonical) _ _ ?_ ?_ t ht
  · rintro t ⟨⟩
    exact h
  · intro acc hacc p _ t ht
    obtain ⟨s1, h1, ht⟩ := Option.bind_eq_some_iff.1 ht
    exact (hacc s1 h1).clearPage ht

theorem truncSeq {n seq arg : Nat} {keep : Nat → Nat → Nat → Option Retained} {t : State}
    (ht : s.truncSeq n seq arg keep = .ok t) : t.Canonical := by
  unfold State.truncSeq at ht
  split at ht
  · cases ht
  · dsimp only at ht
    split at ht
    · cases ht
    · split at ht
      · cases ht
        exact h
      · split at ht
        · next s3 heq =>
          cases ht
          refine updateViews (List.foldlRecOn (motive := fun acc => ∀ t, acc = some t → t.Canonical) _ _ ?_ ?_ s3 heq)
          · rintro t ⟨⟩
            exact h.setFoldRec
          · intro acc hacc r _ t ht
            obtain ⟨s1, h1, ht⟩ := Option.bind_eq_some_iff.1 ht
            have h2 := hacc s1 h1
            refine foldl_clearPage ?_ ht
            split
            · exact ite h2.setFoldRec h2.setFoldRec.keepPage
            · exact h2.setFoldRec
        · cases ht

theorem issueFold {fn treg : Nat} {a b : Word} : (s.issueFold fn treg a b).Canonical :=
  ite h.queueOp.usesBarrier h.queueOp

theorem openView {r : CtxRef} {key : Word} {wr : Bool} : (s.openView r key wr).2.Canonical := by
  unfold State.openView
  dsimp only
  split
  · split
    · exact h
    · next s1 heq =>
      refine modTile ?_
      split at heq
      · exact h.createRoot heq
      · cases heq
        exact h
  · exact h

theorem serveView {r : CtxRef} {key op : Word} : (s.serveView r key op).2.Canonical := by
  unfold State.serveView
  split
  · split
    · exact ite h.modTile h
    · exact h
  · exact h.openView

theorem serveSeq {r : CtxRef} {key op : Word} : (s.serveSeq r key op).2.Canonical := by
  unfold State.serveSeq
  dsimp only
  split
  · exact ite h.setFoldRec (ite h.setFoldRec h)
  · split
    · split
      · next s1 heq => exact h.createSeq heq
      · exact h
    · exact h

theorem serveProbe {r : CtxRef} {p op : Word} : (s.serveProbe r p op).2.Canonical := by
  unfold State.serveProbe
  dsimp only
  split
  · exact h
  · exact h.modTile

end State.Canonical
end Sys2Proof.Machine
end

section
/-! PROOFS. Canonical memories (O59): the pages a row is read from and written to. -/

namespace Sys2Proof.Machine
namespace State.Canonical

variable {s : State} (h : s.Canonical)
include h

theorem promotePage {n d : Nat} {t : State} (ht : s.promotePage n d = .ok t) : t.Canonical := by
  unfold State.promotePage at ht
  split at ht
  · cases ht
    exact h
  · dsimp only at ht
    split at ht
    · cases ht
    · split at ht
      · cases ht
      · next j s1 heq =>
        cases ht
        exact (h.takeFrame heq).givePlace.modNode.writeBytes.healWhole.setPd.settlePd

theorem compressPage {n d : Nat} : (s.compressPage n d).Canonical := by
  unfold State.compressPage
  dsimp only
  split
  · exact h
  · refine modNode (setPd (healWhole (writeBytes (flushPage ?_))))
    split
    · exact h.giveFrame
    · split
      · next j s1 heq => exact (h.takeFrame heq).giveFrame
      · exact h

theorem releaseRetained {n : Nat} : (s.releaseRetained n).Canonical :=
  ite h (h.modNode.foldl fun _ _ h => ite h.freePage h)

theorem touchTlb {r : TileRef} {v : View} {p : Word} {page d : Nat} : (s.touchTlb r v p page d).Canonical :=
  ite h.modTile h

theorem findRead {r : TileRef} {v : View} {p : Word} {pos id : Nat} {zero : Bool} {x : Option (TileRef × Nat) × Nat × State}
    (hx : s.findRead r v p pos id zero = .ok x) : x.2.2.Canonical := by
  unfold State.findRead at hx
  extract_lets n page kept here w at hx
  have hhere (d : Nat) (hd : here s d = .ok x) : x.2.2.Canonical := by
    simp only [here] at hd
    split at hd
    · cases hd
    · split at hd
      · cases hd
      · next s1 heq =>
        cases hd
        exact ite (h.promotePage heq) (h.promotePage heq).touchTlb
  clear_value here kept
  split at hx
  · exact hhere _ hx
  · split at hx
    · exact hhere _ hx
    · split at hx
      · cases hx
      · split at hx
        · exact hhere _ hx
        · split_ifs at hx
          cases hx
          exact h

theorem findWrite {r : TileRef} {v : View} {p : Word} {pos : Nat} {grow : Bool} {x : (TileRef × Nat) × Nat × State}
    (hx : s.findWrite r v p pos grow = .ok x) : x.2.2.Canonical := by
  unfold State.findWrite at hx
  extract_lets n page w st frozen hit meets done at hx
  have hdone {st d : Nat} {t : State} (ht : t.Canonical) (hd : done st d t = .ok x) : x.2.2.Canonical := by
    cases hd
    exact ht.touchTlb
  clear_value done meets frozen
  split at hx
  · cases hx
  · split at hx
    · cases hx
    · split at hx
      · cases hx
      · split at hx
        · split at hx
          · next d s1 heq => exact hdone (h.newPage heq) hx
          · cases hx
        · cases hx
      · split at hx
        · cases hx
        · split at hx
          · cases hx
          · next s1 heq =>
            split at hx
            · cases hx
            · next e s2 heq' => exact hdone ((h.promotePage heq).ownPage heq') hx

@[simp] theorem execPagePromotion {n k : Nat} : Out.Canonical (execPagePromotion n k s) := by
  unfold Machine.execPagePromotion
  split
  · next s1 heq => exact h.promotePage heq
  · exact h

end State.Canonical
end Sys2Proof.Machine
end

section
/-! PROOFS. Canonical memories (O59): the crook. -/

namespace Sys2Proof.Machine
namespace State.Canonical

variable {s : State} (h : s.Canonical)
include h

theorem ask {r : CtxRef} {m : CrookMsg} {e : CrookMsg → Event} : (s.ask r m e).Canonical := ite h.modCtx h.post
theorem sendAsks {r : CtxRef} : (s.sendAsks r).Canonical := h.modCtx.foldl fun _ _ h => h.post
theorem request {r : CtxRef} {m : CrookMsg} {e : CrookMsg → Event} : (s.request r m e).Canonical := ite h.ask h.send

theorem withdrawRequests {r : CtxRef} : (s.withdrawRequests r).Canonical := by
  unfold State.withdrawRequests
  extract_lets c unsent s1
  have h1 : s1.Canonical := h.foldl fun _ _ h => ite h h.post
  exact h1.modCtx

theorem releaseEntries {r : CtxRef} : (s.releaseEntries r).Canonical := by
  unfold State.releaseEntries
  extract_lets names i s1
  have h1 : s1.Canonical := ite h h.newId
  exact h1.modCtx

theorem releaseAll {r : CtxRef} : (s.releaseAll r).Canonical := h.withdrawRequests.releaseEntries

theorem releaseWounded {r : CtxRef} : (s.releaseWounded r).Canonical := by
  unfold State.releaseWounded
  exact h.releaseAll.modCtx

theorem lockAnswer {home : Nat} {q : Claim} {w v : Word} : (s.lockAnswer home q w v).Canonical := h.post
theorem wound {home : Nat} {c : CtxRef} {w : Word} {tick : Nat} : (s.wound home c w tick).Canonical := h.post

theorem scanQueue {home fuel : Nat} {w : Word} : (s.scanQueue home w fuel).Canonical := by
  induction fuel generalizing s with
  | zero => exact h
  | succ fuel ih =>
    unfold State.scanQueue
    dsimp only
    split
    · exact h
    · split
      · exact ih h.modNode.lockAnswer
      · exact h

theorem scanObj {home : Nat} {w : Word} : (s.scanObj home w).Canonical := h.scanQueue

theorem judge {home : Nat} {try' : Bool} {m : CrookMsg} : (s.judge home try' m).Canonical :=
  ite (ite h.modNode.modNode.lockAnswer h.modNode.lockAnswer)
    (ite h.modNode.lockAnswer (ite h.modNode.lockAnswer (h.modNode.foldl fun _ _ h => h.wound).modNode))

theorem judgeUpgrade {home : Nat} {m : CrookMsg} : (s.judgeUpgrade home m).Canonical := by
  unfold State.judgeUpgrade
  extract_lets n o q others s1 u
  have h1 : s1.Canonical := h.modNode
  clear_value u
  split
  · exact h
  · refine ite h1.modNode.lockAnswer (ite h1.lockAnswer ?_)
    cases u with
    | none => exact ite h1 (h1.foldl fun _ _ h => h.wound).modNode
    | some x =>
      have h2 {c d : CtxRef} {v w : Nat} {p : Prop} [Decidable p] :
          (if p then s1.wound home c m.name v else s1.wound home d m.name w).Canonical := ite h1.wound h1.wound
      exact ite h2 (h2.foldl fun _ _ h => h.wound).modNode

theorem endClaim {home : Nat} {c : CtxRef} {w : Word} {holder : Bool} : (s.endClaim home c w holder).Canonical :=
  h.modNode.scanObj

theorem setMatrix {home : Nat} {v : Word} : (s.setMatrix home v).Canonical := h.modNode.foldl fun _ _ h => h.scanObj

theorem taking {e : Event} {f : State → State} (hf : ∀ t, t.Canonical → (f t).Canonical) : Out.Canonical (s.taking e f) :=
  ite (hf _ h) h

theorem takingAsk {e : Event} {f : State → State} (hf : ∀ t, t.Canonical → (f t).Canonical) :
    Out.Canonical (s.takingAsk e f) := by
  unfold State.takingAsk
  dsimp only
  split
  · exact h.taking hf
  · exact h

@[simp] theorem execCrookAcquireMsg {m : CrookMsg} : Out.Canonical (execCrookAcquireMsg m s) :=
  h.takingAsk fun _ h => h.judge

@[simp] theorem execCrookTryMsg {m : CrookMsg} : Out.Canonical (execCrookTryMsg m s) := h.takingAsk fun _ h => h.judge

@[simp] theorem execCrookUpgradeMsg {m : CrookMsg} : Out.Canonical (execCrookUpgradeMsg m s) :=
  h.takingAsk fun _ h => h.judgeUpgrade

@[simp] theorem execCrookReleaseMsg {m : CrookMsg} : Out.Canonical (execCrookReleaseMsg m s) :=
  h.takingAsk fun _ h => h.endClaim

@[simp] theorem execCrookWithdrawMsg {m : CrookMsg} : Out.Canonical (execCrookWithdrawMsg m s) :=
  h.takingAsk fun _ h => h.endClaim

@[simp] theorem execCrookQueryMsg {m : CrookMsg} : Out.Canonical (execCrookQueryMsg m s) :=
  h.takingAsk fun _ h => h.post

theorem giveUpGrant {m : CrookMsg} : (s.giveUpGrant m).Canonical := ite h h.post

theorem takeStatus {m : CrookMsg} : (s.takeStatus m).Canonical := by
  unfold State.takeStatus
  dsimp only
  split
  · exact ite h.modCtx.giveUpGrant (ite h.modCtx.modCtx h.modCtx)
  · split
    · exact ite h.modCtx.giveUpGrant h.modCtx
    · exact h.giveUpGrant

@[simp] theorem execCrookStatusMsg {m : CrookMsg} : Out.Canonical (execCrookStatusMsg m s) :=
  h.taking fun _ h => h.takeStatus

@[simp] theorem execCrookQueryResultMsg {m : CrookMsg} : Out.Canonical (execCrookQueryResultMsg m s) := by
  unfold Machine.execCrookQueryResultMsg
  dsimp only
  refine h.taking fun _ h => ?_
  split
  · exact h.modCtx
  · exact h

@[simp] theorem execCrookWoundMsg {m : CrookMsg} : Out.Canonical (execCrookWoundMsg m s) := h.taking fun _ h => h.send

theorem deliverWound {r : CtxRef} {w : Word} : (s.deliverWound r w).Canonical := by
  unfold State.deliverWound
  dsimp only
  split
  · exact h
  · split
    · exact h.modCtx
    · exact h.releaseWounded
    · exact h.releaseWounded.modCtx

@[simp] theorem execWoundDelivery {c : CtxRef} {w : Word} : Out.Canonical (execWoundDelivery c w s) :=
  h.taking fun _ h => h.deliverWound

@[simp] theorem execWoundReleaseTimeout {c : CtxRef} : Out.Canonical (execWoundReleaseTimeout c s) :=
  ite h.releaseWounded h

theorem issueLock {e : CrookMsg → Event} {d : Dst} {w : Word} {m : LockMode} : (s.issueLock e d w m).Canonical :=
  h.newId.modCur.request

end State.Canonical
end Sys2Proof.Machine
end

section
/-! PROOFS. Canonical memories (O59): transfers, vector results, and the matrix engine. -/

namespace Sys2Proof.Machine
namespace State.Canonical

variable {s : State} (h : s.Canonical)
include h

theorem transfer {t : Word} {leaves : Bool} : (s.transfer t leaves).Canonical := h

theorem startLoop {l : BitVec 12} {n : Int} : (s.startLoop l n).Canonical := by
  unfold State.startLoop
  dsimp only
  split
  · exact h
  · split
    · exact h
    · exact h

theorem popIf {b : Bool} : (s.popIf b).Canonical := ite h.modHere h

theorem vresult {lat : Nat} {d : Dst} {lw : Nat} {r : List (Option Nat) × BitVec 7} {cv : Bool} :
    (s.vresult lat d lw r cv).Canonical :=
  h.result

theorem issueEngine {w : EngineWrite} : (s.issueEngine w).Canonical := ite h.pend.withIssue h.pend
theorem abortEngine {r : CtxRef} : (s.abortEngine r).Canonical := h.choose.modTile
theorem issueCodebook {a : CbAct} : (s.issueCodebook a).Canonical := ite h.pend.withIssue h.pend

theorem loadwPass {r : TileRef} {o : ActiveOp} {f : ElemFmt} {abort : Option Nat} {p b : Nat} :
    (s.loadwPass r o f abort p b).1.Canonical := by
  unfold State.loadwPass
  extract_lets t n bs ctl x
  clear_value x
  split
  · exact h
  · split
    · exact h
    · split
      · exact h
      · exact h.modTile

theorem macPass {r : TileRef} {o : ActiveOp} {f fw : ElemFmt} {cols : List (List Nat)} {abort : Option Nat} {p a zrow : Nat} :
    (s.macPass r o f fw cols abort p a zrow).1.Canonical := by
  unfold State.macPass
  dsimp only
  split
  · exact h
  · exact h.modTile

theorem drainUnits {r : TileRef} {sp : MemSpace} {off : Nat} {bs : List Byte} {k p total : Nat} :
    (s.drainUnits r sp off bs k p total).Canonical :=
  h.foldl fun _ _ h => ite h.writeBytes.healWhole h

theorem drainPass {r : TileRef} {o : ActiveOp} {f : ElemFmt} {abort : Option Nat} {p b zrow : Nat} :
    (s.drainPass r o f abort p b zrow).1.Canonical := by
  unfold State.drainPass
  dsimp only
  refine modTile ?_
  split
  · exact h.writeBytes.healWhole
  · exact h.drainUnits

theorem clearBank {r : TileRef} {o : ActiveOp} {abort : Option Nat} : (s.clearBank r o abort).Canonical :=
  ite h.modTile h

theorem enginePasses {r : TileRef} {o : ActiveOp} {f fw : ElemFmt} {cols : List (List Nat)} {abort : Option Nat}
    {fuel p : Nat} {fl : BitVec 7} : (s.enginePasses r o f fw cols abort fuel p fl).1.Canonical := by
  induction fuel generalizing s p fl with
  | zero => exact h
  | succ fuel ih =>
    unfold State.enginePasses
    extract_lets set idx st ad zrow q
    have hq : q.1.Canonical := by
      simp only [q]
      split
      · exact h.loadwPass
      · exact h.macPass
      · exact h.drainPass
    split
    · exact hq
    · exact ih hq

theorem runEngine {r : TileRef} {o : ActiveOp} {abort : Option Nat} {upto : Nat} : (s.runEngine r o abort upto).1.Canonical :=
  (ite h.clearBank h).enginePasses

theorem reportSaved {r : TileRef} {o : ActiveOp} {err : Nat} {fl : BitVec 7} : (s.reportSaved r o err fl).Canonical :=
  ite h h.writeWord.writeWord

theorem completeEngine {r : TileRef} : (s.completeEngine r).Canonical := by
  unfold State.completeEngine
  split
  · exact h
  · extract_lets set total aborted refused x x1 q y y1 q1
    have hx : x.1.Canonical := h.runEngine
    have hq : q.1.Canonical := by
      simp only [q]
      split_ifs
      · exact h
      · exact hx
      · exact h.runEngine
    have hy : y.1.Canonical := h.runEngine
    have h1 : q1.1.Canonical := by
      simp only [q1]
      split
      · exact hy
      · exact hq
    exact h1.reportSaved.modTile

theorem swapColumns {r : TileRef} : (s.swapColumns r).Canonical := h.modNode.modTile
theorem swapTurn {r : TileRef} : (s.swapTurn r).Canonical := ite h.modTile.swapColumns h.modTile
@[simp] theorem execShadowSwapIn {r : TileRef} : Out.Canonical (execShadowSwapIn r s) := h.swapTurn
@[simp] theorem execEngineComplete {r : TileRef} : Out.Canonical (execEngineComplete r s) := ite h.completeEngine h
theorem tickEngine {r : TileRef} : (s.tickEngine r).Canonical := h.modTile
theorem endCycle {r : TileRef} : (s.endCycle r).Canonical := ite h.swapTurn.completeEngine h.swapTurn

end State.Canonical
end Sys2Proof.Machine
end

section
/-! PROOFS. Canonical memories (O59): tasks, the re-issue of a frame, and the shepherd. -/

namespace Sys2Proof.Machine
namespace State.Canonical

variable {s : State} (h : s.Canonical)
include h

theorem fork {a0 a1 w : Word} : (s.fork a0 a1 w).2.Canonical := by
  unfold State.fork
  dsimp only
  split
  · exact h.modHere
  · split
    · exact h
    · split
      · exact h
      · exact ite h.modHere.modCur h.modHere

theorem discardSaved {r : CtxRef} : (s.discardSaved r).Canonical := ite h h.writeWord.modTile

theorem endTask {r : CtxRef} {cancel : Bool} : (s.endTask r cancel).Canonical :=
  h.discardSaved.endPackets.releaseAll.choose.withTainted.modTile

theorem sendJoin {p : CtxRef} {serial : Nat} {tree : BitVec 32} : (s.sendJoin p serial tree).Canonical := h.send
theorem endIfDead {n : Nat} {tree : BitVec 32} : (s.endIfDead n tree).Canonical := ite h h.send

theorem freeSlot {r : CtxRef} : (s.freeSlot r).Canonical := by
  unfold State.freeSlot
  dsimp only
  split
  · refine endIfDead ?_
    split
    · exact h.modCtx.sendJoin
    · exact h.modCtx
  · exact h

@[simp] theorem execJoinMessage {c : CtxRef} {k : Nat} : Out.Canonical (execJoinMessage c k s) :=
  h.taking fun _ h => h.modCtx.endIfDead

theorem haltTree {n : Nat} {id : BitVec 32} : (s.haltTree n id).Canonical :=
  (h.foldl fun _ _ h => h.foldl fun _ _ h => ite h.endTask h).foldl fun _ _ h =>
    (ite h (h.foldl fun _ _ h => ite h.sendJoin h).modTile)

@[simp] theorem execTcmdCancel {n : Nat} {k : BitVec 32} : Out.Canonical (execTcmdCancel n k s) := ite h.send h

theorem reLand {r : CtxRef} {x : Record} {kind : LandKind} {size earliest : Nat} {idem : Bool} :
    (s.reLand r x kind size earliest idem).2.Canonical :=
  h.newId.modCtx

theorem reFault {r : CtxRef} {f : Cause × Word} {access : Option Nat} {record : Option Record} :
    (s.reFault r f access record).Canonical :=
  h.detect

theorem reLoad {r : CtxRef} {x : Record} {a : Again} : (s.reLoad r x a).Canonical := by
  unfold State.reLoad
  dsimp only
  split
  · exact h.reLand.reFault
  · split
    · exact h.reLand.reFault
    · exact ite h.reLand.modCtx h.reLand.modCtx.enqueue

theorem reAtom {r : CtxRef} {x : Record} {size : Nat} {cas : Bool} : (s.reAtom r x size cas).Canonical := by
  unfold State.reAtom
  dsimp only
  split
  · exact h.reLand.reFault
  · exact h.reLand.enqueue

theorem rePacket {r : CtxRef} {x : Record} {hdr : Bool} : (s.rePacket r x hdr).Canonical := by
  unfold State.rePacket
  dsimp only
  split
  · exact h.reLand.reFault
  · split
    · exact h.reLand.reFault
    · exact h.reLand.modCtx

theorem reQuery {r : CtxRef} {x : Record} {kind : LandKind} {f : Option (Cause × Word)} : (s.reQuery r x kind f).Canonical := by
  unfold State.reQuery
  dsimp only
  split
  · exact h.reLand.reFault
  · exact h.reLand

theorem reStore {r : CtxRef} {x : Record} : (s.reStore r x).Canonical := by
  unfold State.reStore
  dsimp only
  split
  · exact h.reFault
  · exact h.newId.modCtx

theorem reFold {r : CtxRef} {x : Record} : (s.reFold r x).Canonical := h.newId.modCtx.modTile

theorem reissueRecord {r : CtxRef} {x : Record} : (s.reissueRecord r x).Canonical := by
  unfold State.reissueRecord
  split
  · exact h.reStore
  · split
    · exact h.reFold
    · split
      · exact h.reLoad
      · split
        · exact h.reAtom
        · exact h.reAtom
        · exact h.reAtom
        · exact h.reAtom
        · exact h.rePacket
        · exact h.rePacket
        · exact h.reQuery
        · exact h.reQuery
        · exact h.reQuery
        · exact h

theorem reissueAll {r : CtxRef} {fuel : Nat} : (s.reissueAll r fuel).Canonical := by
  induction fuel generalizing s with
  | zero => exact h
  | succ fuel ih =>
    unfold State.reissueAll
    split
    · exact h
    · split
      · exact ih h.modCtx.reissueRecord
      · exact h

theorem rejectPair {r : TileRef} {q : (Nat × Nat) × Nat × Nat} : (s.rejectPair r q).Canonical :=
  h.freeBuffer.freeBuffer.modTile

theorem settlePair {r : TileRef} {q : (Nat × Nat) × Nat × Nat} : (s.settlePair r q).Canonical := by
  unfold State.settlePair
  dsimp only
  split
  · exact h.rejectPair
  · split
    · exact ite h.rejectPair h
    · exact ite h (ite h.modTile h.rejectPair)

theorem settlePairs {r : TileRef} {st : Nat} : (s.settlePairs r st).Canonical :=
  ite (h.foldl fun _ _ h => h.settlePair) h

theorem settlePacket {r : TileRef} {st i : Nat} : (s.settlePacket r st i).Canonical :=
  ite h (ite (ite h.freeBuffer.modTile h.modTile.settlePairs) h.settlePairs)

theorem admitHeld {r : TileRef} {st : Nat} : (s.admitHeld r st).Canonical := h.foldl fun _ _ h => h.settlePacket

theorem allocate {r : TileRef} {slot : Nat} {f : Ctx → Ctx} : (s.allocate r slot f).Canonical :=
  h.zeroBytes.healWhole.modTile

theorem createByPacket {r : TileRef} {slot st : Nat} {parts : List (Nat × Nat)} :
    (s.createByPacket r slot st parts).Canonical := by
  unfold State.createByPacket
  dsimp only
  split
  · exact h
  · exact h.allocate.modTile

theorem createChild {r : TileRef} {slot : Nat} {e : DequeEntry} : (s.createChild r slot e).Canonical := h.allocate

theorem admitTask {r : TileRef} : (s.admitTask r).Canonical := by
  unfold State.admitTask
  dsimp only
  split
  · exact h
  · split
    · exact h
    · split
      · exact h
      · split
        · split
          · exact h.modTile
          · exact h.modTile.modTile.createChild
        · exact h.modTile.createByPacket

@[simp] theorem execTaskAdmission {r : TileRef} : Out.Canonical (execTaskAdmission r s) := h.admitTask

theorem stealRound {r : TileRef} : (s.stealRound r).Canonical := by
  unfold State.stealRound
  dsimp only
  split
  · exact ite h.modTile.modTile.createChild h
  · exact h

@[simp] theorem execStealRound {r : TileRef} : Out.Canonical (execStealRound r s) := h.stealRound
theorem admissions {r : TileRef} : (s.admissions r).Canonical := ite (ite h h.admitTask).stealRound (ite h h.admitTask)
theorem waitReady {r : CtxRef} : (s.waitReady r).Canonical := ite h (ite h.modCtx (ite h.modCtx h))
@[simp] theorem execWaitReady {c : CtxRef} : Out.Canonical (execWaitReady c s) := h.waitReady

end State.Canonical
end Sys2Proof.Machine
end

section
/-! PROOFS. Canonical memories (O59): the wall cycle of a tile and the bundle that issues in it. -/

namespace Sys2Proof.Machine
namespace State.Canonical

variable {s : State} (h : s.Canonical)
include h

theorem endBlock {r : CtxRef} : (s.endBlock r).Canonical := h.modTile.modTile

theorem settleOthers {r : TileRef} : (s.settleOthers r).Canonical := by
  unfold State.settleOthers
  dsimp only
  refine h.modTile.foldl fun _ _ h => ?_
  split
  · exact (ite h.modTile.admitHeld.admitHeld h.modTile.admitHeld).modTile
  · exact h.setMatrix
  · exact h

theorem tick {r : TileRef} : (s.tick r).Canonical :=
  (h.modTile.tickEngine.settleOthers.modTile.foldl fun _ _ h => h.freeSlot).foldl fun _ _ h => h.waitReady

@[simp] theorem execResultCompletion {r : TileRef} : Out.Canonical (execResultCompletion r s) := h.modTile
@[simp] theorem execLandingWrite {c : CtxRef} : Out.Canonical (execLandingWrite c s) := h.modTile

theorem resumeFirst {r : CtxRef} {ds : List CopyDesc} : (s.resumeFirst r ds).Canonical :=
  (ite h.modTile.modCtx.takeDeferred h.modTile.restoreFrame).modCtx.foldl fun _ _ h => h.newId.modCtx

theorem blockSwitch {r : TileRef} : (s.blockSwitch r).Canonical := by
  unfold State.blockSwitch
  dsimp only
  split
  · split
    · exact h.modTile.resumeFirst
    · exact h.modTile
  · exact h

@[simp] theorem execBlockSwitch {r : TileRef} : Out.Canonical (execBlockSwitch r s) := h.blockSwitch
theorem takeAt {r : CtxRef} {q : TrapReq} : (s.takeAt r q).Canonical := ite h.takeTrap h.takeTrap.modCtx

theorem takeLate {r : CtxRef} : (s.takeLate r).Canonical := by
  unfold State.takeLate
  dsimp only
  split
  · exact h.modCtx.takeAt
  · split
    · exact h.modCtx.takeAt
    · exact h

theorem boundary {r : CtxRef} : (s.boundary r).Canonical := by
  unfold State.boundary
  dsimp only
  split
  · exact h.modTile.takeAt
  · exact ite h.modCtx.takeAt.releaseWounded h.takeLate
  · exact h.takeLate

@[simp] theorem execTrapEntry {r : TileRef} : Out.Canonical (execTrapEntry r s) := by
  unfold Machine.execTrapEntry
  dsimp only
  split
  · exact ite h.boundary h
  · exact h

@[simp] theorem execHandlerEntry {r : TileRef} : Out.Canonical (execHandlerEntry r s) := by
  unfold Machine.execHandlerEntry
  split
  · exact h.enterHandler
  · exact h

@[simp] theorem execLostLanding {c : CtxRef} {k : Nat} : Out.Canonical (execLostLanding c k s) := by
  unfold Machine.execLostLanding
  dsimp only
  split
  · exact ite h.modCtx h
  · exact h

theorem loseWaited {r : CtxRef} : (s.loseWaited r).Canonical := by
  unfold State.loseWaited
  split
  · exact ite h.modCtx h
  · exact h

theorem reselect {r : CtxRef} : (s.reselect r).Canonical := h.endBlock.waitReady.blockSwitch
theorem closeReturn {r : CtxRef} : (s.closeReturn r).Canonical := h.modCtx.reselect

theorem continueReturn {r : CtxRef} : (s.continueReturn r).Canonical :=
  ite (ite h.reissueAll.modCtx.modTile.closeReturn h.reissueAll.modCtx.modTile) h.reissueAll

@[simp] theorem execReturnBundleIssue {r : TileRef} : Out.Canonical (execReturnBundleIssue r s) := by
  unfold Machine.execReturnBundleIssue
  split
  · exact ite h.continueReturn h
  · exact h

theorem freezeTimeout {r : CtxRef} : (s.freezeTimeout r).Canonical := by
  unfold State.freezeTimeout
  dsimp only
  split
  · exact h.modTile
  · exact h

@[simp] theorem execLandingTimeout {r : TileRef} : Out.Canonical (execLandingTimeout r s) := by
  unfold Machine.execLandingTimeout
  split
  · exact h.freezeTimeout
  · exact h

theorem pass {r : TileRef} : (s.pass r).Canonical := h.endCycle.admissions.modTile
theorem stand {r : TileRef} : (s.stand r).Canonical := h.endCycle.admissions.modTile
theorem frozen {r : CtxRef} : (s.frozen r).Canonical := h.modTile.freezeTimeout.stand

theorem fetch {r : CtxRef} : (s.fetch r).Canonical := by
  unfold State.fetch
  dsimp only
  split
  · exact h.takeAt
  · exact h

theorem runFirmware {r : CtxRef} : (s.runFirmware r).Canonical := ite h h.modCtx.notice.send.pass

theorem atIssue {r : CtxRef} : (s.atIssue r).Canonical :=
  ite h.frozen (ite h.stand (ite h.takeAt (ite h.modTile.runFirmware h.modTile.fetch)))

theorem haltCtx {r : CtxRef} {state : Nat} : (s.haltCtx r state).Canonical :=
  (ite h.writeWord.modTile.releaseWounded h.writeWord.modTile).modTile

theorem beforeRequest {r : CtxRef} : (s.beforeRequest r).Canonical := by
  unfold State.beforeRequest
  dsimp only
  split
  · exact h.takeAt
  · split
    · exact h.fetch
    · exact h.boundary

theorem runCycle {r : CtxRef} : (s.runCycle r).Canonical :=
  ite (ite (ite h.modCtx h.frozen) h.modTile.pass)
    (ite h.haltCtx.stand (ite h.stand (ite h.beforeRequest (ite h.boundary (ite h.reselect.stand h.modCtx.atIssue)))))

theorem returnCycle {r : CtxRef} : (s.returnCycle r).Canonical := by
  unfold State.returnCycle
  extract_lets t s0 ends s1
  have h1 : s1.Canonical := (show s0.Canonical from ite h h.modTile).continueReturn
  exact ite (ite h1.stand h1.runCycle) (ite h1.frozen h1.modTile.pass)

theorem cycle {r : TileRef} : (s.cycle r).Canonical := by
  unfold State.cycle
  extract_lets u t
  have hu : u.Canonical := h.tick.blockSwitch
  clear_value t
  split
  · exact hu.pass
  · exact ite hu.stand (ite hu.pass (ite hu.loseWaited.enterHandler.pass (ite hu.returnCycle hu.runCycle)))

@[simp] theorem execBundleIssue {r : TileRef} : Out.Canonical (execBundleIssue r s) := by
  have h1 : ({ s with focus := r, issue := Issue.idle } : State).Canonical := h
  exact ite h1 h1.cycle

theorem runOps {run : Instr → State → Out} (hrun : ∀ i t, t.Canonical → (run i t).Canonical) {ops : List (Slot × Instr)} :
    Out.Canonical (runOps run ops s) := by
  induction ops generalizing s with
  | nil => exact h
  | cons x ops ih =>
    obtain ⟨sl, i⟩ := x
    unfold Machine.runOps
    split
    · next s1 heq => exact ih ((hrun i s h).of_next heq)
    · exact hrun i s h

theorem retire : s.retire.Canonical := by
  unfold State.retire
  extract_lets q r t s1 s2 s3
  have h2 : s2.Canonical := h.withIssue.modHere.modCtx
  have h3 : s3.Canonical := h2.modCtx
  split
  · exact h2.pass
  · split
    · exact h3.endTask.blockSwitch.pass.freeSlot
    · cases q.endBlock with
      | none => exact h3.pass
      | some w => exact ite h3.modCtx.modCtx.pass h3.modCtx.reselect.pass

theorem stayBlock : s.stayBlock.Canonical := by
  unfold State.stayBlock
  exact h.withIssue.modCtx.reselect.stand

theorem parityTrap {x : Cell} {sl : Slot} : (s.parityTrap x sl).Canonical := h.takeTrap

theorem runRequest {run : Instr → State → Out} : (State.runRequest run s).Canonical := by
  unfold State.runRequest
  dsimp only
  split
  · exact h.modHere.parityTrap
  · exact h.withIssue.boundary

theorem runBundle {run : Instr → State → Out} (hrun : ∀ i t, t.Canonical → (run i t).Canonical) :
    Out.Canonical (State.runBundle run s) := by
  unfold State.runBundle
  split
  · exact h
  · split
    · exact h.runRequest
    · split
      · exact h.parityTrap
      · split
        · next s1 heq =>
          have h1 : s1.Canonical := (h.runOps hrun).of_next heq
          split
          · exact h1.issueTrap.withIssue
          · split
            · exact h1.stayBlock
            · split
              · next s2 heq' => exact ite h.withIssue.stand ((h.withIssue.runOps hrun).of_next heq').retire
              · exact h.withIssue.runOps hrun
        · exact h.runOps hrun

end State.Canonical
end Sys2Proof.Machine
end

section
/-! PROOFS. Canonical memories (O59): the stream ports. -/

namespace Sys2Proof.Machine
namespace State.Canonical

variable {s : State} (h : s.Canonical)
include h

theorem leaveQueue {r : CtxRef} {id : Nat} : (s.leaveQueue r id).Canonical := h.modCtx.settleOrderings

theorem sendPacket {p : NetPacket} {src : Nat} : (s.sendPacket p src).Canonical := by
  unfold State.sendPacket
  dsimp only
  split
  · exact h
  · split
    · exact h
    · exact h.sendStream

theorem launch {r : CtxRef} {st i : Nat} : (s.launch r st i).Canonical := h.newId.sendPacket.modTile

@[simp] theorem execPacketLaunch {c : CtxRef} : Out.Canonical (execPacketLaunch c s) := by
  unfold Machine.execPacketLaunch
  split
  · exact h.launch.leaveQueue
  · exact h

@[simp] theorem execCreditArrival {t : TileRef} {st : BitVec 5} {k : Nat} : Out.Canonical (execCreditArrival t st k s) :=
  h.taking fun _ h => h.modTile

theorem portFault {r : TileRef} {port code sid : Nat} : (s.portFault r port code sid).Canonical := h.modTile.raiseLine
theorem deliver {r : TileRef} {st i : Nat} : (s.deliver r st i).Canonical := h.modTile.settlePacket

theorem deliverHeld {r : TileRef} {st fuel : Nat} : (s.deliverHeld r st fuel).Canonical := by
  induction fuel generalizing s with
  | zero => exact h
  | succ fuel ih =>
    unfold State.deliverHeld
    dsimp only
    split
    · exact h
    · exact ih h.modTile.deliver

theorem judgeTags {r : TileRef} {st : Nat} : (s.judgeTags r st).Canonical := by
  unfold State.judgeTags
  dsimp only
  split
  · exact h.deliverHeld
  · split
    · exact h.deliverHeld
    · exact h.deliverHeld.modTile.deliverHeld

theorem dropPacket {k : Nat} : (s.dropPacket k).Canonical := h
theorem nextFlit {r : TileRef} {p : NetPacket} : (s.nextFlit r p).Canonical := ite h h.modTile

theorem firstFlit {r : TileRef} {k : Nat} : (s.firstFlit r k).Canonical := by
  unfold State.firstFlit
  dsimp only
  split
  · exact h
  · split
    · exact h
    · split
      · exact h.nextFlit
      · split
        · exact h.dropPacket.portFault
        · split
          · exact h.dropPacket.portFault
          · split
            · exact h
            · exact h.writeWord.writeWord.modTile

@[simp] theorem execPacketFirstFlit {t : TileRef} {k : Nat} : Out.Canonical (execPacketFirstFlit t k s) := h.firstFlit

theorem rejectStamped {r : TileRef} {st i : Nat} : (s.rejectStamped r st i).Canonical :=
  ite (ite h h.modTile).freeBuffer.modTile.judgeTags (ite h h.modTile).freeBuffer.modTile

theorem received {r : TileRef} {st k : Nat} : (s.received r st k).Canonical := by
  unfold State.received
  dsimp only
  split
  · split
    · exact h
    · split
      · exact h.dropPacket.portFault.freeBuffer
      · split
        · exact h.dropPacket.portFault.freeBuffer
        · have h1 := h.dropPacket (k := k)
          exact (ite h1.withTainted.writeBytes.modTile.rejectStamped
            (ite h1.withTainted.writeBytes.modTile.judgeTags h1.withTainted.writeBytes.modTile.deliver)).modTile
  · exact h

@[simp] theorem execPacketReceived {t : TileRef} {st : BitVec 5} {k : Nat} : Out.Canonical (execPacketReceived t st k s) :=
  h.received

theorem writeNext {r : TileRef} {st : Nat} {v : BitVec 32} : (s.writeNext r st v).Canonical :=
  h.modTile.judgeTags.modTile

@[simp] theorem execNextWrite {t : TileRef} {st : BitVec 5} {v : BitVec 32} : Out.Canonical (execNextWrite t st v s) :=
  h.writeNext

theorem portStore {r : TileRef} {off : Nat} {w : Word} : (s.portStore r off w).Canonical :=
  ite (ite h.writeNext h) (ite h (ite h.modTile (ite h.modTile h)))

end State.Canonical
end Sys2Proof.Machine
end

section
/-! PROOFS. Canonical memories (O59): the banks. -/

namespace Sys2Proof.Machine
namespace State.Canonical

variable {s : State} (h : s.Canonical)
include h

theorem writeMailbox {r : TileRef} {off : Nat} {bs : List Byte} : (s.writeMailbox r off bs).Canonical := by
  rw [State.writeMailbox]
  split
  · split
    · exact ite h.modTile h
    · exact ite h.modTile.send h.modTile
  · exact h.modTile
  · exact h.modTile

theorem bankWrite {g r : TileRef} {off : Nat} {bs : List Byte} {bad : Bool} {t : State}
    (ht : s.bankWrite g r off bs bad = some t) : t.Canonical := by
  unfold State.bankWrite at ht
  extract_lets whole key watched s1 others at ht
  have hwatched {u : State} (hu : u.Canonical) : (watched u).Canonical := ite hu hu.modTile
  split_ifs at ht
  · cases ht
    exact hwatched h.writeMailbox
  all_goals
    cases ht
    exact hwatched h.writeBytes

theorem bankAtom {g r : TileRef} {off size operand : Nat} {op : AtomOp} {bad : Bool} {x : List Byte × State}
    (hx : s.bankAtom g r off size op operand bad = some x) : x.2.Canonical := by
  unfold State.bankAtom at hx
  split at hx
  · cases hx
  · obtain ⟨s1, h1, rfl⟩ := Option.map_eq_some_iff.1 hx
    exact h.bankWrite h1

theorem writeRange {g r : TileRef} {off : Nat} {bs : List Byte} {bad : Nat → Bool} :
    (s.writeRange g r off bs bad).1.Canonical := by
  refine List.foldlRecOn (motive := fun acc : State × Nat => acc.1.Canonical) _ _ h fun acc hacc p _ => ?_
  split
  · next s1 heq => exact hacc.bankWrite heq
  · exact hacc

theorem unitRead {r : CtxRef} {id : Nat} {acc : Word} {u : UnitAcc} {x : List Byte × State}
    (hx : s.unitRead r id acc u = .ok x) : x.2.Canonical := by
  unfold State.unitRead at hx
  split at hx
  · split at hx
    · cases hx
    · split at hx
      · cases hx
      · cases hx
      · next s1 heq =>
        cases hx
        exact h.findRead heq
      · next p st s1 heq =>
        split at hx
        · cases hx
        · cases hx
          exact h.findRead heq
  · dsimp only at hx
    split_ifs at hx
    all_goals
      cases hx
      exact h
  · dsimp only at hx
    split at hx
    · cases hx
    · cases hx
      exact h

theorem portBytes {r : TileRef} {off : Nat} {bs : List Byte} {bad : Bool} {t : State} (ht : s.portBytes r off bs bad = some t) :
    t.Canonical := by
  unfold State.portBytes at ht
  dsimp only at ht
  split at ht
  · cases ht
  · cases ht
    exact ite h.writeBytes.modTile.withTainted h.writeBytes.modTile

theorem unitWrite {r : CtxRef} {acc : Word} {u : UnitAcc} {bad : Bool} {t : State} (ht : s.unitWrite r acc u bad = .ok t) :
    t.Canonical := by
  unfold State.unitWrite at ht
  dsimp only at ht
  split at ht
  · split at ht
    · cases ht
    · split at ht
      · cases ht
      · cases ht
      · next p st s1 heq =>
        split at ht
        · next t' heq' =>
          cases ht
          exact (h.findWrite heq).bankWrite heq'
        · cases ht
  · split at ht
    · cases ht
      exact h.portStore
    · split at ht
      · next t' heq =>
        cases ht
        exact h.portBytes heq
      · cases ht
  · split at ht
    · next t' heq =>
      cases ht
      exact h.bankWrite heq
    · cases ht

theorem entryFault {r : CtxRef} {e : QEntry} {f : Cause × Word} {x : Option Record} : (s.entryFault r e f x).Canonical :=
  ite h h.detect

theorem loadTook {r : CtxRef} {e : QEntry} {rest : List UnitAcc} {pos : Nat} {bs : List Byte} :
    (s.loadTook r e rest pos bs).Canonical := by
  unfold State.loadTook
  dsimp only
  split
  · exact h.modCtx
  · split
    · exact h.modCtx.entryFault
    · exact h.modCtx

theorem keepUnits {r : CtxRef} {e : QEntry} {rest : List UnitAcc} : (s.keepUnits r e rest).Canonical := h.modCtx

theorem storeFault {r : CtxRef} {e : QEntry} {us : List UnitAcc} {seg k : Nat} {u : UnitAcc} {f : Cause × Word} :
    (s.storeFault r e us seg k u f).Canonical :=
  ite h.entryFault.keepUnits h.entryFault.keepUnits

theorem performUnit {r : CtxRef} {e : QEntry} {k : Nat} {u : UnitAcc} : (s.performUnit r e k u).Canonical := by
  unfold State.performUnit
  dsimp only
  split
  · split
    · exact h.entryFault.keepUnits
    · split
      · next bs s1 heq => exact (h.unitRead heq).loadTook
      · exact h.entryFault.keepUnits
  · split
    · exact h.storeFault
    · split
      · next s1 heq => exact (h.unitWrite heq).keepUnits
      · exact h.storeFault
  · split
    · exact h.entryFault.modCtx
    · split
      · next old s1 heq => exact ite (h.bankAtom heq).loadTook (h.bankAtom heq).modCtx
      · exact h.entryFault.modCtx
  · exact h

theorem markBank {g : TileRef} {off id : Nat} {wide wr : Bool} : (s.markBank g off id wide wr).Canonical := h.modTile

theorem useBank {r : CtxRef} {e : QEntry} {u : UnitAcc} : (s.useBank r e u).Canonical :=
  ite h (ite h.markBank h.markBank.modCtx)

theorem swrPart {r : CtxRef} {e : QEntry} {st i off len : Nat} {src : Word} : (s.swrPart r e st i src off len).Canonical := by
  unfold State.swrPart
  extract_lets k t g ps bad place s0 s1
  have h0 : s0.Canonical := h.foldl fun _ _ h => h.markBank
  have h1 : s1.Canonical := getD (fun t ht => h0.portBytes ht) h0.entryFault
  exact ite h1.leaveQueue h1.modCtx

theorem accept {r : CtxRef} {e : QEntry} {k : Nat} : (s.accept r e k).Canonical := by
  unfold State.accept
  dsimp only
  split
  · exact ite h.swrPart h
  · split
    · exact h
    · exact ite (ite h.useBank.performUnit.settleOrderings.releaseRetained h.useBank.performUnit.settleOrderings) h

@[simp] theorem execBankAccept {k : Nat} : Out.Canonical (execBankAccept k s) := by
  unfold Machine.execBankAccept
  split
  · exact h
  · split
    · exact h.accept
    · exact h

@[simp] theorem execBarrApply {c : CtxRef} : Out.Canonical (execBarrApply c s) := by
  unfold Machine.execBarrApply
  split
  · split
    · exact ite h.modTile.leaveQueue h
    · exact h
  · exact h

end State.Canonical
end Sys2Proof.Machine
end

section
/-! PROOFS. Canonical memories (O59): the requests between nodes and the copy engine. -/

namespace Sys2Proof.Machine
namespace State.Canonical

variable {s : State} (h : s.Canonical)
include h

theorem sendGroup {r : CtxRef} {id : Nat} {g : List UnitAcc} : (s.sendGroup r id g).Canonical := by
  unfold State.sendGroup
  dsimp only
  split
  · exact h
  · exact h.modNode.modCtx.post

theorem refuseUnits {r : CtxRef} {e : QEntry} {us : List UnitAcc} {c : Cause} : (s.refuseUnits r e us c).Canonical := by
  unfold State.refuseUnits
  dsimp only
  split
  · exact h.entryFault.modCtx
  · exact h.entryFault.keepUnits

theorem markIssued {r : CtxRef} {id : Nat} : (s.markIssued r id).Canonical := h.modCtx

theorem issueAccess {r : CtxRef} {e : QEntry} : (s.issueAccess r e).Canonical :=
  ite h.refuseUnits.settleOrderings (ite h (ite (h.foldl fun _ _ h => h.sendGroup).markIssued (h.foldl fun _ _ h => h.sendGroup)))

theorem issueHead {r : CtxRef} {q : QueueSel} : (s.issueHead r q).Canonical := by
  unfold State.issueHead
  dsimp only
  split
  · exact h
  · split
    · exact h
    · split
      · exact h.issueAccess
      · exact h.issueAccess
      · exact h.issueAccess
      · exact h.markIssued.settleOrderings
      · exact h.markIssued.settleOrderings
      · exact ite (h.foldl fun _ _ h => h.post).leaveQueue.sendAsks h
      · exact h

@[simp] theorem execQueueIssue {c : CtxRef} {q : QueueSel} : Out.Canonical (execQueueIssue c q s) := h.issueHead

theorem respond {q : RemoteReq} {status : BitVec 8} {pmask : Nat} {data : List Byte} :
    (s.respond q status pmask data).Canonical :=
  h.post

theorem serve {q : RemoteReq} {align : Nat} {wr : Bool} {f : State → State} (hf : ∀ t, t.Canonical → (f t).Canonical) :
    (s.serve q align wr f).Canonical := by
  unfold State.serve
  split
  · exact h.respond
  · exact hf _ h.markBank

@[simp] theorem execRemoteLoad {q : RemoteReq} : Out.Canonical (execRemoteLoad q s) :=
  h.taking fun _ h => h.serve fun _ h => h.respond

@[simp] theorem execRemoteStore {q : RemoteReq} : Out.Canonical (execRemoteStore q s) :=
  h.taking fun _ h => h.serve fun _ h => h.writeRange.respond

theorem serveAtom {q : RemoteReq} {op : AtomOp} {operand : Nat} {returns : Bool} :
    (s.serveAtom q op operand returns).Canonical := by
  unfold State.serveAtom
  refine h.serve fun _ h => ?_
  split
  · next old s1 heq => exact (h.bankAtom heq).respond
  · exact h.respond

@[simp] theorem execRemoteAtom {q : RemoteReq} : Out.Canonical (execRemoteAtom q s) := h.taking fun _ h => h.serveAtom

@[simp] theorem execRemoteAtomCas {q : RemoteReq} : Out.Canonical (execRemoteAtomCas q s) :=
  h.taking fun _ h => h.serveAtom

@[simp] theorem execRemoteRed {q : RemoteReq} : Out.Canonical (execRemoteRed q s) := h.taking fun _ h => h.serveAtom

@[simp] theorem execRemoteUnknownOperation {q : RemoteReq} : Out.Canonical (execRemoteUnknownOperation q s) :=
  h.taking fun _ h => h.respond

theorem entryResponse {r : CtxRef} {id : Nat} {q : RemoteResp} : (s.entryResponse r id q).Canonical := by
  unfold State.entryResponse
  dsimp only
  split
  · exact h
  · refine settleOrderings ?_
    split
    · split
      · exact h.entryFault.modCtx
      · exact h.entryFault.keepUnits
    · split
      · exact h.loadTook
      · exact h.loadTook
      · exact h.modCtx
      · exact h.keepUnits

theorem serveQuery {r : CtxRef} {l : Landing} : (s.serveQuery r l).Canonical := by
  unfold State.serveQuery
  dsimp only
  split
  · exact h.detect
  · refine modCtx ?_
    split
    · exact h.serveView
    · exact h.serveSeq
    · exact h.serveProbe

theorem arriveLanding {r : CtxRef} {k : Nat} : (s.arriveLanding r k).Canonical := by
  unfold State.arriveLanding
  dsimp only
  split
  · exact h
  · exact ite h (ite h.serveQuery h).modCtx

@[simp] theorem execLandingArrival {c : CtxRef} {k : Nat} : Out.Canonical (execLandingArrival c k s) := h.arriveLanding

theorem arriveFault {r : CtxRef} {k : Nat} : (s.arriveFault r k).Canonical := by
  unfold State.arriveFault
  dsimp only
  split
  · exact h
  · exact ite h (ite h.modCtx.deferItem h.modCtx)

@[simp] theorem execLateFault {c : CtxRef} {k : Nat} : Out.Canonical (execLateFault c k s) := h.arriveFault

@[simp] theorem execCpyDispatch {c : CtxRef} : Out.Canonical (execCpyDispatch c s) := by
  unfold Machine.execCpyDispatch
  dsimp only
  split
  · split
    · exact ite h.modTile.leaveQueue h
    · exact h
  · exact h

theorem setCopy {r : TileRef} {id : Nat} {f : CopyJob → Option CopyJob} : (s.setCopy r id f).Canonical := h.modTile
theorem copyFaults {r : TileRef} {j : CopyJob} {f : Cause × Word} : (s.copyFaults r j f).Canonical := ite h.detect h

theorem stopCopy {r : TileRef} {j : CopyJob} {f : Cause × Word} : (s.stopCopy r j f).Canonical :=
  (ite h h.copyFaults).setCopy

theorem beginRow {r : TileRef} {j : CopyJob} : (s.beginRow r j).Canonical := by
  unfold State.beginRow
  dsimp only
  split
  · exact h.setCopy
  · split
    · exact h.stopCopy
    · split
      · exact h.stopCopy
      · exact h.setCopy

theorem askCopy {r : TileRef} {j : CopyJob} {p : Word} {e : RemoteReq → Event} {n : Nat} {data : List Byte} {pmask : Nat}
    {f : CopyJob → CopyJob} : (s.askCopy r j p e n data pmask f).Canonical := by
  unfold State.askCopy
  dsimp only
  split
  · exact h.setCopy.stopCopy
  · exact ite h h.modNode.setCopy.post

theorem fetchPiece {r : TileRef} {j : CopyJob} : (s.fetchPiece r j).Canonical :=
  ite h.askCopy (ite h.stopCopy h.markBank.setCopy)

theorem wrotePiece {r : TileRef} {j : CopyJob} {counted : Nat} : (s.wrotePiece r j counted).Canonical :=
  (ite h.modTile h).setCopy

theorem writeRuns {r g : TileRef} {rs : List (Nat × List Byte × Bool)} : (s.writeRuns r g rs).1.Canonical := by
  refine List.foldlRecOn (motive := fun acc : State × Nat × Option Nat => acc.1.Canonical) _ _ h fun acc hacc p _ => ?_
  dsimp only
  split
  · next s1 heq => exact hacc.bankWrite heq
  · exact hacc

theorem writePiece {r : TileRef} {j : CopyJob} {bs : List (Nat × Byte × Bool)} : (s.writePiece r j bs).Canonical := by
  unfold State.writePiece
  dsimp only
  split
  · exact h.askCopy
  · split
    · exact h.setCopy.stopCopy
    · refine wrotePiece (setCopy ?_)
      split
      · exact h.markBank.writeRuns.copyFaults
      · exact h.markBank.writeRuns

theorem endRow {r : TileRef} {j : CopyJob} : (s.endRow r j).Canonical := h.setCopy

@[simp] theorem execCopyRow {t : TileRef} {k : Nat} : Out.Canonical (execCopyRow t k s) := by
  unfold Machine.execCopyRow
  split
  · exact h
  · split
    · exact h
    · split
      · split
        · exact ite h.setCopy h
        · exact h.writePiece
      · split
        · exact h.beginRow
        · exact h.fetchPiece
        · split
          · exact h.endRow
          · exact h.writePiece

theorem copyResponse {r : TileRef} {j : CopyJob} {q : RemoteResp} : (s.copyResponse r j q).Canonical :=
  ite (ite h.setCopy h.stopCopy) (ite h.wrotePiece (ite h.copyFaults.wrotePiece h.setCopy.stopCopy))

@[simp] theorem execRemoteResponse {q : RemoteResp} : Out.Canonical (execRemoteResponse q s) := by
  unfold Machine.execRemoteResponse
  dsimp only
  refine h.taking fun _ h => ?_
  split
  · exact h
  · split
    · exact h.modNode.copyResponse
    · exact h.modNode.entryResponse

end State.Canonical
end Sys2Proof.Machine
end

section
/-! PROOFS. Canonical memories (O59): the fold unit at work, and the end of a tree. -/

namespace Sys2Proof.Machine
namespace State.Canonical

variable {s : State} (h : s.Canonical)
include h

@[simp] theorem execFoldDispatch {c : CtxRef} : Out.Canonical (execFoldDispatch c s) := by
  unfold Machine.execFoldDispatch
  dsimp only
  split
  · split
    · exact ite h.modTile.leaveQueue h
    · exact h
  · exact h

theorem setJob {r : TileRef} {id : Nat} {f : FoldJob → Option FoldJob} : (s.setJob r id f).Canonical := h.modTile
theorem countJob {r : TileRef} {j : FoldJob} {n : Nat} : (s.countJob r j n).Canonical := ite h.modTile h

theorem stopJob {r : TileRef} {j : FoldJob} {c : Cause} {at' : Word} {state rows : Nat} :
    (s.stopJob r j c at' state rows).Canonical :=
  ite h.setJob.modTile.modCtx.modTile.detect h.setJob.modTile

theorem rowDone {r : TileRef} {j : FoldJob} {done : Nat} : (s.rowDone r j done).Canonical := h.countJob.setJob

theorem loadRow {r : TileRef} {j : FoldJob} {v : View} : (s.loadRow r j v).Canonical := by
  unfold State.loadRow
  dsimp only
  split
  · exact h.stopJob
  · exact h.stopJob
  · next p st s1 heq =>
    exact ite h.stopJob (ite (h.findRead heq).writeBytes.healWhole.spoilRange (h.findRead heq).writeBytes.healWhole).rowDone

theorem growTo {n : Nat} {v : View} {upto : Nat} : (s.growTo n v upto).Canonical := by
  unfold State.growTo
  dsimp only
  split
  · exact h.setFoldRec.setFoldRec.updateViews
  · exact h

theorem appendRow {r : TileRef} {j : FoldJob} {v : View} : (s.appendRow r j v).Canonical := by
  unfold State.appendRow
  extract_lets pos n fail frozen
  have hfail (c : Cause) (st : Nat) : (fail c st).Canonical := h.stopJob
  clear_value fail frozen
  split
  · exact ite h h.modTile.rowDone
  · split
    · exact hfail _ _
    · next heq => exact ite (hfail _ _) (h.findWrite heq).writeRange.growTo.rowDone

@[simp] theorem execFoldRow {t : TileRef} {k : Nat} : Out.Canonical (execFoldRow t k s) := by
  unfold Machine.execFoldRow
  split
  · exact h
  · split
    · exact h
    · split
      · exact h.stopJob
      · exact ite h.loadRow h.appendRow

@[simp] theorem execFoldWalk {t : TileRef} {v : BitVec 5} {k : Nat} : Out.Canonical (execFoldWalk t v k s) := by
  unfold Machine.execFoldWalk
  dsimp only
  split
  · exact h
  · split
    · exact h
    · exact ite h.modTile h

@[simp] theorem execFoldTransferComplete {t : TileRef} {k : Nat} : Out.Canonical (execFoldTransferComplete t k s) := by
  unfold Machine.execFoldTransferComplete
  dsimp only
  split
  · exact h
  · exact ite h.setJob.releaseRetained.modTile h.setJob.releaseRetained

theorem setMover {n : Nat} {old : Nat × Nat × Nat} {new : Option (Nat × Nat × Nat)} : (s.setMover n old new).Canonical :=
  h.modNode

theorem settleMoved {n d : Nat} : (s.settleMoved n d).Canonical := ite h.setPd.freePage h.setPd.settlePd

theorem roomForPage {n ref g rpd : Nat} {x : Nat × State} (hx : s.roomForPage n ref g rpd = some x) : x.2.Canonical := by
  obtain ⟨a, ha, hx⟩ := Option.bind_eq_some_iff.1 hx
  obtain ⟨b, hb, rfl⟩ := Option.map_eq_some_iff.1 hx
  exact ((h.takeFrame ha).takeDesc hb).setPd

theorem fetchPage {n d phase : Nat} {t : State} (ht : s.fetchPage n d phase = some t) : t.Canonical := by
  unfold State.fetchPage at ht
  split at ht
  · cases ht
  · obtain ⟨a, ha, rfl⟩ := Option.map_eq_some_iff.1 ht
    exact (h.roomForPage ha).setPdState.setMover.post

theorem offerPage {n d dst : Nat} : (s.offerPage n d dst).Canonical := h.flushPage.setPd.setMover.post

theorem takingIf {e : Event} {f : State → Option State} (hf : ∀ t u, t.Canonical → f t = some u → u.Canonical) :
    Out.Canonical (s.takingIf e f) :=
  ite (getD (hf _ · h.withNet) h) h

@[simp] theorem execFoldReleaseMsg {m : FoldMsg} : Out.Canonical (execFoldReleaseMsg m s) := h.taking fun _ h => h.pdDec

theorem serveFetch {m : FoldMsg} {t : State} (ht : s.serveFetch m = some t) : t.Canonical := by
  unfold State.serveFetch at ht
  dsimp only at ht
  split at ht
  · cases ht
    exact h.modNode.post
  · split at ht
    · split at ht
      · next s1 heq =>
        cases ht
        exact (h.promotePage heq).modNode.post
      · cases ht
        exact h.post
    · split at ht
      · split at ht
        · cases ht
          exact h.setMover.post
        · split at ht
          · next s1 heq =>
            cases ht
            exact (h.fetchPage heq).send
          · cases ht
            exact h.post
      · split at ht
        · cases ht
        · cases ht
          exact h.post

@[simp] theorem execFoldFetchMsg {m : FoldMsg} : Out.Canonical (execFoldFetchMsg m s) :=
  h.takingIf fun _ _ h ht => h.serveFetch ht

@[simp] theorem execFoldOfferMsg {m : FoldMsg} : Out.Canonical (execFoldOfferMsg m s) := by
  refine h.taking fun _ h => ?_
  dsimp only
  split
  · exact h.post
  · next e s1 heq =>
    split at heq
    · cases heq
    · exact (h.roomForPage heq).modNode.post

@[simp] theorem execFoldAcceptMsg {m : FoldMsg} : Out.Canonical (execFoldAcceptMsg m s) := by
  unfold Machine.execFoldAcceptMsg
  dsimp only
  refine h.taking fun _ h => ?_
  split
  · exact h
  · exact h.setMover.setFoldRec

theorem giveRoom {n e : Nat} : (s.giveRoom n e).Canonical := h.giveFrame.giveDesc

theorem unfetched {n d e : Nat} : (s.unfetched n d e).Canonical :=
  ite h.giveRoom.setPdState.freePage h.giveRoom.setPdState

@[simp] theorem execFoldRefuseMsg {m : FoldMsg} : Out.Canonical (execFoldRefuseMsg m s) := by
  unfold Machine.execFoldRefuseMsg
  dsimp only
  refine h.taking fun _ h => ?_
  split
  · exact h
  · split
    · exact h.setMover.settleMoved
    · exact h.setMover.giveRoom
    · exact h.setMover
    · exact h.setMover.unfetched
    · exact h.setMover.unfetched

@[simp] theorem execFoldPageDataMsg {m : FoldMsg} : Out.Canonical (execFoldPageDataMsg m s) := by
  unfold Machine.execFoldPageDataMsg
  dsimp only
  refine h.taking fun _ h => ?_
  split
  · exact h
  · exact h.writeBytes.healWhole.setMover

theorem moveDone {n k : Nat} : (s.moveDone n k).Canonical := by
  unfold State.moveDone
  dsimp only
  split
  · exact h
  · exact (ite h.setMover.setPd.giveDesc h.setMover.setFoldRec).settleMoved.post

@[simp] theorem execPageMoveComplete {n k : Nat} : Out.Canonical (execPageMoveComplete n k s) := h.moveDone

@[simp] theorem execFoldMoveCompleteMsg {m : FoldMsg} : Out.Canonical (execFoldMoveCompleteMsg m s) := by
  unfold Machine.execFoldMoveCompleteMsg
  dsimp only
  refine h.taking fun _ h => ?_
  split
  · exact h
  · exact ite h.setMover.pdDec (ite h.setMover.giveFrame.setPdState.freePage h.setMover.giveFrame.setPdState)

theorem opDone {r : TileRef} {j : FoldJob} : (s.opDone r j).Canonical := h.countJob.setJob

theorem opFails {r : TileRef} {j : FoldJob} {c : Cause} {state : Nat} : (s.opFails r j c state).Canonical :=
  h.stopJob.countJob

theorem hintPage {n d : Nat} {opb : Word} {t : State} (ht : s.hintPage n d opb = .ok t) : t.Canonical := by
  unfold State.hintPage at ht
  dsimp only at ht
  split at ht
  · split at ht
    · split at ht
      · next s1 heq =>
        cases ht
        exact h.promotePage heq
      · cases ht
    · split at ht
      · split at ht
        · next s1 heq =>
          cases ht
          exact h.fetchPage heq
        · cases ht
      · cases ht
        exact h
  · cases ht
    exact h.compressPage
  · split_ifs at ht
    · cases ht
      exact h
    · cases ht
      exact h.offerPage

theorem hintPages {r : TileRef} {j : FoldJob} {v : View} {x : State × List Nat} (hx : s.hintPages r j v = .ok x) :
    x.1.Canonical := by
  refine List.foldlRecOn (motive := fun acc => ∀ x : State × List Nat, acc = Except.ok x → x.1.Canonical) _ _ ?_ ?_ x hx
  · rintro x ⟨⟩
    exact h
  · intro acc hacc k _ x hx
    split at hx
    · cases hx
    · next s1 ds =>
      have h1 : s1.Canonical := hacc _ rfl
      dsimp only at hx
      split at hx
      · cases hx
      · split at hx
        · cases hx
          exact h1
        · split at hx
          · cases hx
          · next s2 heq =>
            cases hx
            exact h1.hintPage heq

theorem commitMove {n : Nat} {x : Nat × Nat × Nat} : (s.commitMove n x).Canonical := ite h.setMover.post h.setMover

theorem undoMove {n : Nat} {x : Nat × Nat × Nat} : (s.undoMove n x).Canonical := by
  unfold State.undoMove
  dsimp only
  split
  · exact h.setMover.settleMoved.post
  · exact h.setMover.unfetched.post
  · exact h.setMover

theorem hintWait {r : TileRef} {j : FoldJob} : (s.hintWait r j).Canonical := by
  unfold State.hintWait
  dsimp only
  split
  · exact h
  · split
    · exact (h.foldl fun _ _ h => h.undoMove).opFails
    · exact ite (h.foldl fun _ _ h => h.commitMove) (ite h.opDone h)

theorem hintStep {r : TileRef} {j : FoldJob} : (s.hintStep r j).Canonical := by
  unfold State.hintStep
  split
  · exact h.hintWait
  · split
    · exact h.opDone
    · split
      · exact h.opFails
      · next s1 ds heq => exact (h.hintPages heq).setJob

theorem recordOp {r : TileRef} {j : FoldJob} : (s.recordOp r j).Canonical := by
  unfold State.recordOp
  dsimp only
  split
  · exact h.hintStep
  · split
    · exact h
    · split
      · exact h.opFails
      · split
        · split
          · next s1 heq => exact (h.forkSeq heq).opDone
          · exact h.opFails
        · split
          · next s1 heq => exact (h.truncSeq heq).opDone
          · exact h.opFails
        · exact ite h.opFails (ite h.setJob h.removeSeq.opDone)

@[simp] theorem execFoldRecordOp {t : TileRef} {k : Nat} : Out.Canonical (execFoldRecordOp t k s) := by
  unfold Machine.execFoldRecordOp
  split
  · exact h
  · exact ite h h.recordOp

theorem endTree {n : Nat} {id : BitVec 32} : (s.endTree n id).Canonical :=
  ite h.closeViews (h.closeViews.foldl fun _ _ h => h.removeSeq)

@[simp] theorem execTreeCancel {n : Nat} {k : BitVec 32} : Out.Canonical (execTreeCancel n k s) :=
  ite h (ite h.haltTree.withNet.endTree h.haltTree)

end State.Canonical
end Sys2Proof.Machine
end

section
/-! PROOFS. Canonical memories (O59): the lanes between nodes. -/

namespace Sys2Proof.Machine
namespace State.Canonical

variable {s : State} (h : s.Canonical)
include h

@[simp] theorem execFlitSlot {n b : Nat} : Out.Canonical (execFlitSlot n b s) := by
  unfold Machine.execFlitSlot
  dsimp only
  split
  · exact h
  · split
    · exact h
    · exact h.modLink.send

theorem packetTook {id : Nat} {bs : List Byte} {last : Bool} : (s.packetTook id bs last).Canonical := by
  unfold State.packetTook
  extract_lets s1
  have h1 : s1.Canonical := h
  split
  · exact h1
  · exact ite h1.modTile h1

theorem streamFlit {n b : Nat} {f : Flit} : (s.streamFlit n b f).Canonical := by
  unfold State.streamFlit
  dsimp only
  split
  · exact h
  · exact h.packetTook.modNode

theorem wholeMessage {n b : Nat} {fs : List Flit} : (s.wholeMessage n b fs).Canonical := by
  unfold State.wholeMessage
  dsimp only
  split
  · exact h
  · split
    · exact (ite h.modLink h).sendAll
    · split
      · exact (ite h.modLink h).modLink
      · exact ite h.modLink h

theorem passOn {n b p : Nat} : (s.passOn n b p).Canonical := by
  unfold State.passOn
  dsimp only
  split
  · exact h
  · split
    · exact h.modNode
    · exact h.modNode.modLink.modNode

theorem passWaiting {n p : Nat} : (s.passWaiting n p).Canonical := h.foldl fun _ _ h => ite h h.passOn
theorem relayFlit {n b : Nat} {f : Flit} : (s.relayFlit n b f).Canonical := ite h.modNode h.modNode.passOn.passWaiting

theorem acceptFlit {n b : Nat} {f : Flit} : (s.acceptFlit n b f).Canonical :=
  ite (ite h.streamFlit h.relayFlit) (ite h.modNode.wholeMessage h.modNode)

theorem badFlit {n b : Nat} : (s.badFlit n b).Canonical := h.choose.modLink.send

theorem receiveFlit {n b : Nat} {f : Flit} : (s.receiveFlit n b f).Canonical :=
  ite h (ite h.badFlit (ite h.modLink (ite h.modLink.modLink.acceptFlit (ite h.modLink h.modLink.modLink))))

@[simp] theorem execLinkFlitReceive {n b : Nat} {fl : Flit} : Out.Canonical (execLinkFlitReceive n b fl s) :=
  ite h.withNet.receiveFlit (ite h h.receiveFlit)

@[simp] theorem execRequestCreditReturn {n b : Nat} : Out.Canonical (execRequestCreditReturn n b s) := by
  unfold Machine.execRequestCreditReturn
  dsimp only
  split
  · exact ite h.modLink.modLink h
  · exact h

theorem takeCredits {n : Nat} {w : Word} : (s.takeCredits n w).Canonical := ite h.modTile h

@[simp] theorem execCreditFlit {n : Nat} {ws : List Word} : Out.Canonical (execCreditFlit n ws s) :=
  h.taking fun _ h => h.foldl fun _ _ h => h.takeCredits

theorem exchangeTick {n : Nat} : (s.exchangeTick n).Canonical := ite h (h.foldl fun _ _ h => h.post)

@[simp] theorem execPastureTick {n : Nat} : Out.Canonical (execPastureTick n s) := by
  unfold Machine.execPastureTick
  extract_lets s1 s2
  have h1 : s1.Canonical := h.modNode
  have h2 : s2.Canonical := ite h1.exchangeTick h1
  exact ite h2.send h2

@[simp] theorem execTickExchangeMsg {n : Nat} {k : BitVec 56} : Out.Canonical (execTickExchangeMsg n k s) :=
  h.taking fun _ h => ite h h.modNode.sendAll

@[simp] theorem execMembershipUpdateMsg {n : Nat} {k : BitVec 6} {w : Word} : Out.Canonical (execMembershipUpdateMsg n k w s) :=
  h.taking fun _ h => h.modNode

end State.Canonical
end Sys2Proof.Machine
end

section
/-! PROOFS. Canonical memories (O59): integrity, wear, power and `RESET`. -/

namespace Sys2Proof.Machine
namespace State.Canonical

variable {s : State} (h : s.Canonical)
include h

@[simp] theorem execInterruptPending {t : TileRef} {l : BitVec 4} : Out.Canonical (execInterruptPending t l s) :=
  h.taking fun _ h => h.modTile

theorem rasLog {n kind : Nat} {u : RasUnit} {addr count : Nat} : (s.rasLog n kind u addr count).Canonical := by
  unfold State.rasLog
  dsimp only
  split
  · exact h.setNode.raiseLine
  · exact h.setNode

theorem retireUnit {n : Nat} {u : RasUnit} {addr count : Nat} : (s.retireUnit n u addr count).Canonical := by
  unfold State.retireUnit
  dsimp only
  split
  · split
    · exact h.rasLog.send
    · exact h.rasLog.send
    · exact h.rasLog.send
    · exact h.rasLog.modNode
    · exact h.rasLog
  · split
    · split
      · exact h.send
      · exact h
    · exact h.rasLog

theorem scrub {n : Nat} {u : RasUnit} : (s.scrub n u).Canonical := by
  unfold State.scrub
  split
  · exact h.modLink
  · exact h

theorem countErrors {n : Nat} {u : RasUnit} {amount addr : Nat} : (s.countErrors n u amount addr).Canonical :=
  ite h (ite h.modNode (ite h.modNode.retireUnit h.modNode.rasLog.scrub))

@[simp] theorem execCorrectedError {n : Nat} {u : RasUnit} {k : Nat} : Out.Canonical (execCorrectedError n u k s) :=
  h.withNet.rasLog.countErrors

@[simp] theorem execSuspectReversion {n : Nat} {u : RasUnit} : Out.Canonical (execSuspectReversion n u s) :=
  ite h.modNode h

@[simp] theorem execCounterHourBucket {n : Nat} : Out.Canonical (execCounterHourBucket n s) :=
  h.taking fun _ h => h.modNode

@[simp] theorem execBackgroundScrub {k : Nat} : Out.Canonical (execBackgroundScrub k s) := h

theorem clearLock {n : Nat} {w : Word} {bank : Nat} : (s.clearLock n w bank).Canonical :=
  (h.foldl fun _ _ h => h.wound).modNode.rasLog.countErrors

@[simp] theorem execCrookUe {n : Nat} {w : Word} : Out.Canonical (execCrookUe n w s) := h.choose.clearLock
theorem parityError {r : TileRef} {k : Nat} : (s.parityError r k).Canonical := h.modTile

theorem poisonLanding {r : TileRef} {id : Nat} : (s.poisonLanding r id).Canonical := by
  unfold State.poisonLanding
  dsimp only
  refine h.foldl fun _ _ h => ?_
  split
  · refine detect ?_
    split
    · exact h
    · exact h
  · exact h

theorem poisonQueue {id : Nat} : (s.poisonQueue id).Canonical := by
  unfold State.poisonQueue
  split
  · exact h.modCtx
  · exact h

theorem poisonPacket {r : TileRef} {k : Nat} : (s.poisonPacket r k).Canonical := h.modTile

theorem spoil {n : Nat} {u : RasUnit} {k : Nat} : (s.spoil n u k).Canonical := by
  unfold State.spoil
  dsimp only
  split
  · exact h
  · exact h.parityError
  · exact h
  · exact h.poisonLanding
  · exact h.poisonPacket
  · exact h.poisonQueue
  · exact h

@[simp] theorem execUncorrectedError {n : Nat} {u : RasUnit} {k : Nat} : Out.Canonical (execUncorrectedError n u k s) :=
  ite h.clearLock h.spoil.rasLog.countErrors

@[simp] theorem execBankRetirement {t : TileRef} {k : Nat} : Out.Canonical (execBankRetirement t k s) :=
  h.taking fun _ h => h.modTile.modNode

@[simp] theorem execTileCoreRetirement {t : TileRef} : Out.Canonical (execTileCoreRetirement t s) := ite h.withNet.modNode h

@[simp] theorem execLaneRetirement {n k : Nat} : Out.Canonical (execLaneRetirement n k s) := by
  unfold Machine.execLaneRetirement
  split
  · exact h
  · exact h.taking fun _ h => h.modNode

@[simp] theorem execLaneRetrained {n k : Nat} : Out.Canonical (execLaneRetrained n k s) := by
  unfold Machine.execLaneRetrained
  split
  · exact h.modLink
  · exact h

theorem pushFlit {n : Nat} {f : Flit} : (s.pushFlit n f).Canonical := by
  unfold State.pushFlit
  split
  · exact h.modLink
  · exact h

theorem leaveBundle {n b : Nat} : (s.leaveBundle n b).Canonical := by
  unfold State.leaveBundle
  dsimp only
  split
  · exact h
  · exact h.modNode.modLink.foldl fun _ _ h => h.pushFlit

@[simp] theorem execBundleDown {n k : Nat} : Out.Canonical (execBundleDown n k s) := by
  unfold Machine.execBundleDown
  dsimp only
  refine h.taking fun _ h => ?_
  split
  · exact h
  · exact h.rasLog.modLink.modLink.leaveBundle.leaveBundle

@[simp] theorem execRascfgLock {n : Nat} {w : Word} : Out.Canonical (execRascfgLock n w s) := h.modNode
@[simp] theorem execPwrcapWrite {n : Nat} {w : Word} : Out.Canonical (execPwrcapWrite n w s) := h.modNode
@[simp] theorem execThrottleStep {n : Nat} {x' : Bool} : Out.Canonical (execThrottleStep n x' s) := h.modNode
theorem forgetBundle {m b : Nat} : (s.forgetBundle m b).Canonical := h.modNode.foldl fun _ _ h => h.passWaiting

theorem forgetNode {n : Nat} : (s.forgetNode n).Canonical := by
  unfold State.forgetNode
  refine h.foldl fun _ _ h => ?_
  split
  · exact h.forgetBundle
  · exact h

theorem answerHomeless {r : CtxRef} {home : Nat} : (s.answerHomeless r home).Canonical := h.sendAll.sendAll

theorem answerAll {home : Nat} : (s.answerAll home).Canonical :=
  h.foldl fun _ _ h => ite h (h.foldl fun _ _ h => h.foldl fun _ _ h => ite h h.answerHomeless)

theorem failNode {n : Nat} : (s.failNode n).Canonical := ite h h.modNode.forgetNode.withPackets.answerAll
@[simp] theorem execLaneSilence {n : Nat} : Out.Canonical (execLaneSilence n s) := h.failNode
@[simp] theorem execThermalTrip {n : Nat} : Out.Canonical (execThermalTrip n s) := h.rasLog.failNode
@[simp] theorem execPowerLoss {n : Nat} : Out.Canonical (execPowerLoss n s) := h.failNode

@[simp] theorem execReset {n : Nat} : Out.Canonical (execReset n s) := by
  have hf : (s.forgetNode n).Canonical := h.forgetNode
  exact ⟨Memory.wf_filter _ hf.1, hf.2⟩

end State.Canonical
end Sys2Proof.Machine
end

section
/-! PROOFS. Canonical memories (O59): pre-emption and context save. -/

namespace Sys2Proof.Machine
namespace State.Canonical

variable {s : State} (h : s.Canonical)
include h

theorem cmdErr {t : TileRef} : (s.cmdErr t).Canonical := h.modTile
theorem beginSave {r : TileRef} {w : Word} : (s.beginSave r w).Canonical := ite h.cmdErr h.modTile

theorem haltEngine {r : TileRef} : (s.haltEngine r).Canonical := by
  unfold State.haltEngine
  dsimp only
  split
  · exact h
  · exact ite h (ite h.modTile h.runEngine.modTile)

theorem preempt {r : TileRef} : (s.preempt r).Canonical := by
  unfold State.preempt
  split
  · exact h
  · refine (ite h.haltEngine h).foldl fun _ _ h => ?_
    dsimp only
    split
    · exact h.haltCtx
    · exact h.haltCtx
    · exact h.modCtx
    · exact h.modTile

@[simp] theorem execPreemptHalt {t : TileRef} : Out.Canonical (execPreemptHalt t s) := h.preempt

@[simp] theorem execNestedLandingLost {c : CtxRef} {k : Nat} : Out.Canonical (execNestedLandingLost c k s) := by
  unfold Machine.execNestedLandingLost
  dsimp only
  split
  · exact ite h.modCtx h
  · exact h

theorem deadenMemory {r : CtxRef} {e : List Word} : (s.deadenMemory r e).Canonical := by
  unfold State.deadenMemory
  extract_lets t lt lsp s1 n
  have h1 : s1.Canonical := h.foldl fun _ _ h => ite h h.zeroBytes
  exact ite h1 h1.zeroBytes

theorem deferAll {r : CtxRef} : (s.deferAll r).Canonical := h.modCtx.foldl fun _ _ h => h.deferItem

theorem closeFrame {r : CtxRef} : (s.closeFrame r).Canonical := by
  unfold State.closeFrame
  extract_lets +onlyGivenNames t c stops held s0
  have h0 : s0.Canonical := h.modTile
  split
  · exact (h0.modTile.modCtx.foldl fun _ _ h => h.appendRecord).deferAll
  · split
    · exact h0
    · extract_lets s1 c1 all w s2
      have h2 : s2.Canonical := (show w.1.Canonical from h0.modCtx.writeFrame).modCtx.deferAll
      exact ite h2.doubleTrap h2

theorem markPoison {r : CtxRef} {reg scr : Bool} : (s.markPoison r reg scr).Canonical := h.writeWord.modTile

theorem saveCtx {r : CtxRef} {ckpt : Bool} : (s.saveCtx r ckpt).Canonical := by
  unfold State.saveCtx
  dsimp only
  refine modTile (markPoison (moveBytes (moveBytes (healWhole (placeBytes ?_)))))
  split
  · exact h.closeFrame.deadenMemory.modCtx
  · exact h.closeFrame

theorem condemn {r : CtxRef} {reason : Nat} : (s.condemn r reason).Canonical := h.markPoison.notice.send
theorem condemnTile {r : TileRef} : (s.condemnTile r).Canonical := h.foldl fun _ _ h => h.condemn

theorem savePort {r : TileRef} : (s.savePort r).Canonical :=
  ite h.moveBytes (h.moveBytes.foldl fun _ _ h => h.spoilRange).modTile.condemnTile

theorem saveTile {r : TileRef} : (s.saveTile r).Canonical := by
  unfold State.saveTile
  extract_lets t passes s1 s3 s4 s5 s6
  have h5 : s5.Canonical := (h.foldl fun _ _ h => h.placeBytes).placeBytes.placeBytes.savePort
  have h6 : s6.Canonical := h5.foldl fun _ _ h => h.healWhole
  exact h6.modTile

theorem completeSave {r : TileRef} : (s.completeSave r).Canonical := by
  unfold State.completeSave
  split
  · exact h
  · extract_lets s0 s1 s2
    have h0 : s0.Canonical := ite h.haltEngine h
    have h1 : s1.Canonical := h0.foldl fun _ _ h => h.saveCtx
    have h2 : s2.Canonical := ite h1.saveTile h1
    exact ite h (ite h0 h2.modTile)

@[simp] theorem execSaveComplete {t : TileRef} : Out.Canonical (execSaveComplete t s) := h.completeSave

theorem resumeCtx {r : CtxRef} : (s.resumeCtx r).Canonical :=
  (ite (h.moveBytes.moveBytes.setCtx.foldl fun _ _ h => h.newId.enqueue) h.moveBytes.moveBytes.setCtx).writeWord.modTile

theorem tryResume {r : CtxRef} : (s.tryResume r).Canonical := ite h.condemn h.markPoison.resumeCtx
theorem resumeTile {r : TileRef} : (s.resumeTile r).Canonical := h.moveBytes.modTile.modTile.writeWord

theorem resumeInPlace {r : TileRef} {w : Word} : (s.resumeInPlace r w).Canonical :=
  ite h.cmdErr (ite h.condemnTile.modTile ((ite h.resumeTile h).foldl fun _ _ h => h.tryResume).modTile)

theorem renameCtx {old new : CtxRef} : (s.renameCtx old new).Canonical := h

theorem moveCtx {r : TileRef} {from' k : Nat} : (s.moveCtx r from' k).Canonical :=
  h.moveBytes.moveBytes.moveBytes.moveBytes.writeWord.modTile.modTile.renameCtx

theorem resumeFrom {r : TileRef} {w : Word} : (s.resumeFrom r w).Canonical :=
  ite h.cmdErr (h.foldl fun _ _ h => h.moveCtx.tryResume).modTile

theorem psWrite {r : TileRef} {w : Word} : (s.psWrite r w).Canonical := by
  unfold State.psWrite
  split
  · exact h.cmdErr
  · split
    · exact h.beginSave
    · exact h.resumeInPlace
    · exact h.resumeFrom
    · exact h

@[simp] theorem execPsctlSave {t : TileRef} {w : Word} : Out.Canonical (execPsctlSave t w s) := ite h.psWrite h

@[simp] theorem execPsctlResumeInPlace {t : TileRef} {w : Word} : Out.Canonical (execPsctlResumeInPlace t w s) :=
  ite h.psWrite h

@[simp] theorem execPsctlResumeFromTile {t : TileRef} {w : Word} : Out.Canonical (execPsctlResumeFromTile t w s) :=
  ite h.psWrite h

end State.Canonical
end Sys2Proof.Machine
end

section
/-! PROOFS. Canonical memories (O59): the host's queues and its memory. -/

namespace Sys2Proof.Machine
namespace State.Canonical

variable {s : State} (h : s.Canonical)
include h

theorem hostWrite {a : Nat} {bs : List Byte} : (s.hostWrite a bs).Canonical := ⟨h.1, Memory.wf_write _ _ h.2⟩
theorem modQueue {n k : Nat} {f : HostQueue → HostQueue} : (s.modQueue n k f).Canonical := h.modNode
theorem recalled {n k : Nat} {b : QueueBinding} : (s.recall n k b).Canonical := h.withNet.modTile.modQueue

theorem writeQcfg {n k : Nat} {w : Word} : (s.writeQcfg n k w).Canonical := by
  unfold State.writeQcfg
  extract_lets q egress v cfg logn cap s1
  have h1 : s1.Canonical := h.modQueue
  clear_value s1 cap logn cfg
  split
  · exact h.modQueue
  · split
    · exact h.modQueue
    · split
      · exact ite h1.modQueue.post (ite h1.recalled h1)
      · exact h1

theorem writeQtail {n k : Nat} {w : Word} : (s.writeQtail n k w).Canonical := by
  unfold State.writeQtail
  extract_lets q i egress span s1 passed
  have h1 : s1.Canonical := h.modQueue
  clear_value s1 span
  split
  · exact h.modQueue
  · split
    · exact ite h1.post h1.modQueue
    · exact h1

@[simp] theorem execQcfgWrite {n k : Nat} {w : Word} : Out.Canonical (execQcfgWrite n k w s) := ite h.writeQcfg h
@[simp] theorem execQtailWrite {n k : Nat} {w : Word} : Out.Canonical (execQtailWrite n k w s) := ite h.writeQtail h
theorem endRecord {n k code : Nat} : (s.endRecord n k code).Canonical := h.hostWrite.modQueue

theorem ingressPacket {n k : Nat} {b : QueueBinding} {ws : List Word} {act : BitVec 4} :
    (s.ingressPacket n k b ws act).Canonical :=
  h.newId.modQueue.sendPacket

theorem wakeLoader {n : Nat} {d : BitVec 32} : (s.wakeLoader n d).Canonical := ite h h.modNode

theorem answerRecord {n k : Nat} {b : QueueBinding} : (s.answerRecord n k b).Canonical := by
  unfold State.answerRecord
  exact ite h.endRecord (ite h.endRecord (ite h.ingressPacket.endRecord
    (ite h.withFree.endRecord h.withFree.ingressPacket.endRecord)))

theorem takeRecord {n k : Nat} : (s.takeRecord n k).Canonical := by
  unfold State.takeRecord
  dsimp only
  split
  · exact h
  · split
    · exact h.wakeLoader
    · split
      · exact h
      · exact ite h h.modNode.answerRecord

@[simp] theorem execIngressRecord {n k : Nat} : Out.Canonical (execIngressRecord n k s) := h.takeRecord

theorem refuseHeld {n k fuel : Nat} {d : BitVec 32} : (s.refuseHeld n k d fuel).Canonical := by
  induction fuel generalizing s with
  | zero => exact h
  | succ fuel ih =>
    unfold State.refuseHeld
    dsimp only
    split
    · exact ih h.endRecord
    · exact h

theorem egress {n k : Nat} : (s.egress n k).Canonical := by
  unfold State.egress
  dsimp only
  split
  · exact h
  · exact ite h h.dropPacket.hostWrite.hostWrite.modQueue.modNode

@[simp] theorem execEgressPacket {n k : Nat} : Out.Canonical (execEgressPacket n k s) := h.egress

end State.Canonical
end Sys2Proof.Machine
end

section
/-! PROOFS. Canonical memories (O59): loading and generations. -/

namespace Sys2Proof.Machine
namespace State.Canonical

variable {s : State} (h : s.Canonical)
include h

theorem verify {gs : List Segment} : (s.verify gs).2.Canonical := h
theorem load {sp : MemSpace} {r : TileRef} {off : Nat} {bs : List Byte} : (s.load sp r off bs).Canonical := h.placeBytes

theorem writeSegment {g : Segment} : (s.writeSegment g).Canonical := by
  unfold State.writeSegment
  dsimp only
  split
  · exact h.load
  · exact h.load
  · exact h.load
  · exact h.load
  · exact h.load
  · exact h.modTile
  · exact h

theorem loadTile {im : DroveImage} {i : TileInit} : (s.loadTile im i).Canonical :=
  (ite h.zeroBytes.modTile.load h.zeroBytes.modTile).zeroBytes.load

theorem openFold {n : Nat} {d : BitVec 32} {f : FoldRegion} : (s.openFold n d f).Canonical := h.modNode.zeroBytes

theorem loadFails {n : Nat} {d : BitVec 32} {code : Nat} : (s.loadFails n d code).Canonical :=
  ite h.modNode (h.modNode.foldl fun _ _ h => h.refuseHeld)

theorem muster {n : Nat} {im : DroveImage} : (s.muster n im).Canonical := h.foldl fun _ _ h => h.post
theorem admitTile {r : TileRef} : (s.admitTile r).Canonical := (h.foldl fun _ _ h => h.admitHeld).modTile

theorem settleDrove {n : Nat} {im : DroveImage} {segs : List Segment} : (s.settleDrove n im segs).Canonical := by
  unfold State.settleDrove
  extract_lets mine s1 s2 s3 s4
  have h1 : s1.Canonical := h.foldl fun _ _ h => h.loadTile
  have h2 : s2.Canonical := h1.foldl fun _ _ h => h.writeSegment
  have h3 : s3.Canonical := by
    simp only [s3]
    split
    · exact h2.openFold
    · exact h2
  have h4 : s4.Canonical := h3.modNode
  exact h4.foldl fun _ _ h => h.admitTile

theorem extend {n : Nat} {im : DroveImage} {segs : List Segment} {e : DroveEntry} : (s.extend n im segs e).Canonical :=
  ((h.foldl fun _ _ h => h.writeSegment).foldl fun _ _ h => h.modTile).modNode

theorem loadDrove {n : Nat} {im : DroveImage} : (s.loadDrove n im).Canonical := by
  unfold State.loadDrove
  extract_lets x segs e code v
  have hv : v.2.Canonical := h.muster.verify
  clear_value v code e
  split
  · exact h
  · split
    · exact h
    · split
      · exact h.loadFails
      · split
        · exact h.loadFails
        · split
          · exact hv.loadFails
          · split
            · exact hv.extend
            · exact hv.settleDrove

@[simp] theorem execDroveLoad {n : Nat} {im : DroveImage} : Out.Canonical (execDroveLoad n im s) := h.loadDrove

@[simp] theorem execMusterSegmentMsg {n k : Nat} {bs : List Byte} : Out.Canonical (execMusterSegmentMsg n k bs s) :=
  h.taking fun _ h => h.modNode

theorem modDrove {n k : Nat} {f : DroveEntry → DroveEntry} : (s.modDrove n k f).Canonical := h.modNode

@[simp] theorem execDroveRemoval {n k : Nat} : Out.Canonical (execDroveRemoval n k s) := by
  unfold Machine.execDroveRemoval
  split
  · exact ite (h.modDrove.foldl fun _ _ h => h.modTile) h
  · exact h

theorem clearRecord {n : Nat} {d : BitVec 32} {g : BitVec 4} : (s.clearRecord n d g).Canonical := by
  unfold State.clearRecord
  refine h.foldl fun _ _ h => ?_
  split
  · exact h.writeWord
  · exact h

theorem clearRecords {n : Nat} {d : BitVec 32} : (s.clearRecords n d).Canonical :=
  (h.foldl fun _ _ h => h.clearRecord).foldl fun _ _ h => h.writeWord

theorem withdraw {n k : Nat} {e : DroveEntry} : (s.withdraw n k e).Canonical :=
  (h.clearRecords.foldl fun _ _ h => h.zeroBytes.zeroBytes.modTile).modNode.modNode

@[simp] theorem execDroveWithdrawal {n k : Nat} : Out.Canonical (execDroveWithdrawal n k s) := by
  unfold Machine.execDroveWithdrawal
  split
  · exact ite h.withdraw h
  · exact h

theorem genErr {n k : Nat} : (s.genErr n k).Canonical := h.modDrove
theorem setGen {n k : Nat} {e : DroveEntry} : (s.setGen n k e).Canonical := h.modDrove.foldl fun _ _ h => h.raiseLine
theorem admitDrove {n : Nat} {d : BitVec 32} : (s.admitDrove n d).Canonical := h.foldl fun _ _ h => h.admitTile

theorem rejectTag {r : TileRef} {g : BitVec 4} : (s.rejectTag r g).Canonical :=
  h.foldl fun _ _ h => h.foldl fun _ _ h => ite h (ite h.modTile.settlePairs h.freeBuffer.modTile)

theorem genLoad {n k : Nat} {g : BitVec 4} : (s.genLoad n k g).Canonical := by
  unfold State.genLoad
  split
  · exact h
  · exact ite h.setGen h.genErr

theorem genSwitch {n k : Nat} : (s.genSwitch n k).Canonical := by
  unfold State.genSwitch
  split
  · exact h
  · exact ite h.setGen h.genErr

theorem genAbort {n k : Nat} : (s.genAbort n k).Canonical := by
  unfold State.genAbort
  dsimp only
  split
  · exact h
  · exact ite (h.clearRecord.foldl fun _ _ h => h.rejectTag).setGen h.genErr

@[simp] theorem execDgcmdLoad {n k : Nat} {g : BitVec 4} : Out.Canonical (execDgcmdLoad n k g s) := ite h.genLoad h
@[simp] theorem execDgcmdSwitch {n k : Nat} : Out.Canonical (execDgcmdSwitch n k s) := ite h.genSwitch h
@[simp] theorem execDgcmdAbort {n k : Nat} : Out.Canonical (execDgcmdAbort n k s) := ite h.genAbort h

theorem dgcmd {n k : Nat} {w : Word} : (s.dgcmd n k w).Canonical := by
  unfold State.dgcmd
  split
  · exact h.genLoad
  · exact h.genSwitch
  · exact h.genAbort
  · exact ite h.genErr h

@[simp] theorem execDgcmdInvalid {n k : Nat} {w : Word} : Out.Canonical (execDgcmdInvalid n k w s) := ite h.dgcmd h

theorem verifyGeneration {n k : Nat} : (s.verifyGeneration n k).Canonical := by
  unfold State.verifyGeneration
  dsimp only
  split
  · exact h
  · exact ite h (ite (h.verify.foldl fun _ _ h => h.writeSegment).setGen.admitDrove h.verify.clearRecord.setGen)

@[simp] theorem execGenerationVerified {n k : Nat} : Out.Canonical (execGenerationVerified n k s) := h.verifyGeneration

@[simp] theorem execGenerationDrained {n k : Nat} : Out.Canonical (execGenerationDrained n k s) := by
  unfold Machine.execGenerationDrained
  split
  · exact ite h.clearRecord.setGen h
  · exact h

end State.Canonical
end Sys2Proof.Machine
end

section
/-! PROOFS. Canonical memories (O59): repair, boot and management. -/

namespace Sys2Proof.Machine
namespace State.Canonical

variable {s : State} (h : s.Canonical)
include h

theorem setHold {c : CtxRef} : (s.setHold c).Canonical := ite h.modTile h.modQueue
theorem sendHolds {r : TileRef} {st : Nat} : (s.sendHolds r st).Canonical := h.send.foldl fun _ _ h => h.post
theorem writeCresync {n : Nat} {w : Word} : (s.writeCresync n w).Canonical := ite h (ite h.modNode.sendHolds h.modNode)
@[simp] theorem execCresync {n : Nat} {w : Word} : Out.Canonical (execCresync n w s) := ite h.writeCresync h

@[simp] theorem execHoldMsg {n src : Nat} {w : Word} : Out.Canonical (execHoldMsg n src w s) := by
  unfold Machine.execHoldMsg
  extract_lets e g cs s1 s2
  have h1 : s1.Canonical := h.foldl fun _ _ h => h.setHold
  have h2 : s2.Canonical := h1
  exact ite (ite (ite (ite h2.post h2) (h2.foldl fun _ _ h => h.post)) h1) h

theorem endResync {n : Nat} {q : Resync} : (s.endResync n q).Canonical :=
  h.modNode.foldl fun _ _ h => ite h.post h.modQueue

@[simp] theorem execHoldAnswerMsg {n src : Nat} {w v : Word} : Out.Canonical (execHoldAnswerMsg n src w v s) := by
  refine h.takingIf fun t u h hu => ?_
  split at hu
  · cases hu
    exact h
  · extract_lets got at hu
    clear_value got
    split at hu
    · cases hu
      exact h
    · split at hu
      · split at hu
        · cases hu
        · cases hu
          exact h.endResync
      · cases hu
        exact h.modNode

@[simp] theorem execHoldEndMsg {n src : Nat} {w v : Word} : Out.Canonical (execHoldEndMsg n src w v s) :=
  h.taking fun _ h => h.foldl fun _ _ h => h.modTile

@[simp] theorem execMovePointMsg {n : Nat} {w : Word} : Out.Canonical (execMovePointMsg n w s) :=
  h.taking fun _ h => h.modNode

theorem announceMove {n k : Nat} {nodes : List Nat} : (s.announceMove n k nodes).Canonical :=
  h.modNode.foldl fun _ _ h => h.post

theorem carryOver {n k : Nat} : (s.carryOver n k).Canonical := by
  unfold State.carryOver
  extract_lets nodes ts s1 x q s3 s4 claim s5
  have h1 : s1.Canonical := h.foldl fun _ _ h => h.moveBytes.moveBytes
  have h3 : s3.Canonical := h1.modNode
  have h4 : s4.Canonical := h3.modNode.foldl fun _ _ h => h.zeroBytes.setTile
  have h5 : s5.Canonical := h4
  exact h5.announceMove

theorem beginLeave {n : Nat} : (s.beginLeave n).Canonical :=
  h.foldl fun _ _ h => (h.foldl fun _ _ h => h.sendHolds).psWrite

theorem rebuildDrove {n k : Nat} {d : BitVec 32} : (s.rebuildDrove n k d).Canonical := by
  unfold State.rebuildDrove
  dsimp only
  split
  · exact h.rasLog
  · split
    · exact h.rasLog
    · split
      · exact h.rasLog
      · exact ite h.rasLog ((h.foldl fun _ _ h => h.loadTile).foldl fun _ _ h => h.writeSegment).modNode

theorem leaveFailed {n k : Nat} : (s.leaveFailed n k).Canonical := by
  unfold State.leaveFailed
  dsimp only
  refine announceMove ?_
  split
  · exact (h.foldl fun _ _ h => h.rebuildDrove).openFold
  · exact h.foldl fun _ _ h => h.rebuildDrove

@[simp] theorem execTranshumance {n k : Nat} : Out.Canonical (execTranshumance n k s) :=
  ite h.withNet (ite h.withNet.leaveFailed (ite (ite h.withNet.carryOver h) h.beginLeave.send))

@[simp] theorem execBoot {n : Nat} {im : FirmwareImage} : Out.Canonical (execBoot n im s) := h.modNode
@[simp] theorem execRecoveryImage {n : Nat} {im : FirmwareImage} : Out.Canonical (execRecoveryImage n im s) := h.modNode

@[simp] theorem execAttestationRequest {n : Nat} {bs : List Byte} : Out.Canonical (execAttestationRequest n bs s) :=
  h.modNode

@[simp] theorem execAttestationComplete {n : Nat} : Out.Canonical (execAttestationComplete n s) := h.modNode
theorem swint {n : Nat} {w : Word} : (s.swint n w).Canonical := h.raiseLine
theorem mbin7 {n : Nat} {w : Word} : (s.mbin7 n w).Canonical := h.modNode.raiseLine

theorem writeBlock {n off : Nat} {w : Word} : (s.writeBlock n off w).Canonical :=
  ite h.modNode
    (ite h (ite h.send
      (ite h.swint
        (ite h.writeCresync
          (ite h.mbin7
            (ite h.modNode (ite h.modNode (ite h.modNode (ite h.modNode (ite h.modNode (ite h.modNode (ite h.modNode h))))))))))))

theorem writeDrove {n off : Nat} {w : Word} : (s.writeDrove n off w).Canonical :=
  ite h (ite (ite h.modDrove h) (ite h.dgcmd h))

theorem writeSched {r : TileRef} {off : Nat} {w : Word} : (s.writeSched r off w).Canonical :=
  ite h.modTile (ite h.modTile (ite h.psWrite (ite h.modTile h)))

theorem writeQueue {n k off : Nat} {w : Word} : (s.writeQueue n k off w).Canonical := by
  unfold State.writeQueue
  dsimp only
  split
  · exact ite h h.modQueue
  · exact h.writeQcfg
  · exact ite h h.modQueue
  · exact h.writeQtail
  · exact ite h.modQueue h
  · exact h

theorem barWrite {n off : Nat} {w : Word} : (s.barWrite n off w).Canonical :=
  ite h.writeBlock (ite h (ite h.writeDrove (ite h.writeSched (ite h.writeQueue (ite h.modNode h)))))

@[simp] theorem execRegisterWrite {n : Nat} {k : BitVec 26} {w : Word} : Out.Canonical (execRegisterWrite n k w s) :=
  h.barWrite

@[simp] theorem execSwint {n : Nat} {w : Word} : Out.Canonical (execSwint n w s) := h.barWrite
@[simp] theorem execMbin7Write {n : Nat} {w : Word} : Out.Canonical (execMbin7Write n w s) := h.barWrite

@[simp] theorem execMailboxAccess {t : TileRef} {w : Word} : Out.Canonical (execMailboxAccess t w s) :=
  h.taking fun _ h => h.send

theorem mailboxDone {r : TileRef} : (s.mailboxDone r).Canonical := (ite h (ite h.barWrite h.modTile)).modTile

@[simp] theorem execMailboxComplete {t : TileRef} : Out.Canonical (execMailboxComplete t s) := by
  unfold Machine.execMailboxComplete
  dsimp only
  split
  · exact h.taking fun _ h => h.mailboxDone
  · exact h

end State.Canonical
end Sys2Proof.Machine
end

section
/-! PROOFS. Canonical memories (O59): the operations of the slots, by the effect that `runOp` gives them. -/

namespace Sys2Proof.Machine

open Sys2Proof.Laws

namespace State.Canonical

variable {s : State} (h : s.Canonical)
include h

theorem runOp {sl : Slot} {g : Guard} {k : State → Checks} {eff : State → State}
    (heff : ∀ t, t.Canonical → (eff t).Canonical) :
    Out.Canonical (runOp sl g k eff s) := by
  unfold Machine.runOp
  split
  · exact ite (heff s h) h
  · split
    · exact h.withIssue
    · exact h.withIssue
  · split
    · exact h.issueTrap
    · exact ite (heff s h) h

/-- What runs by `runOp`, in whatever words its definition says so. -/
theorem slotOp {f : State → Out} {sl : Slot} {g : Guard} {k : State → Checks} {eff : State → State}
    (hf : ∀ t, f t = Machine.runOp sl g k eff t) (heff : ∀ t, t.Canonical → (eff t).Canonical) : (f s).Canonical := by
  rw [hf]
  exact h.runOp heff

@[simp] theorem execNop : Out.Canonical (execNop s) := h

theorem exec_register {i : Instr} (hi : registerOnly i = true) : Out.Canonical (exec i s) := by
  cases i
  case nop => exact h.execNop
  case add | sub | and | or | xor | andn | shl | shr | sar | rol | min | max | minu | maxu | addx | clz | ctz | popc | brev | bswap
      | sext | zext | mov | mul | mulh | mulhu | div | divu | rem | remu | extr | insr | sel | addi | subi | andi | ori | xori | shli |
      shri | sari | movi | movh1 | movh2 | movh3 | mfcr =>
    exact h.slotOp (fun _ => rfl) fun _ h => h.resultWord
  case cmp | pand | por | pnot | cmpi | mtcr | xmov | vcmp | vfcmp | kand | kor | knot | kmov =>
    exact h.slotOp (fun _ => rfl) fun _ h => h.result
  case br | jmp | ret => exact h.slotOp (fun _ => rfl) fun _ h => h.transfer
  case call | callr => exact h.slotOp (fun _ => rfl) fun _ h => h.resultWord.transfer
  case loopi | loop => exact h.slotOp (fun _ => rfl) fun _ h => h.startLoop
  case trap => exact h.slotOp (fun _ => rfl) fun _ h => h.withIssue
  case ifence => exact h.slotOp (fun _ => rfl) fun _ h => h.modCur
  case dchk | vdchk => exact h.slotOp (fun _ => rfl) fun _ h => h
  case vadd | vsub | vmul | vmulh | vmulhU | vand | vor | vxor | vshl | vshr | vsar | vmin | vmax | vminU | vmaxU | vperm | vfadd |
      vfsub | vfmul | vfmax | vfmin | vshlImm | vshrImm | vsarImm | vabs | vneg | vsplatLane | vrot | vslide | vcompress | vscanF |
      vscanI | vfabs | vfneg | vfclass | vfrcp | vfrsq | vfexp2 | vflog2 | vunpack | vredsumF | vredmaxF | vredminF | vfma | vfms |
      vfnma | vfscale | vrope | vrand =>
    exact h.slotOp (fun _ => rfl) fun _ h => h.vresult.popIf
  case vsel | vsplatImm | vexpand | vredsum | vredmax | vredmin | vcbx | vcbq | vpack =>
    exact h.slotOp (fun _ => rfl) fun _ h => h.vresult
  case vcvt | vqblk | vdqblk =>
    refine h.slotOp (fun _ => rfl) fun _ h => ?_
    dsimp only
    split
    · exact h.vresult.popIf
    · exact h
  all_goals exact absurd hi Bool.false_ne_true

section
variable {g : Guard}

theorem execLdsp {d : Dst} {i : BitVec 10} : Out.Canonical (execLdsp g d i s) := by
  refine h.slotOp (fun _ => rfl) fun _ h => ?_
  split
  · exact ite h.spillUe h.resultWord
  · exact h

theorem execStsp {a : Src} {i : BitVec 10} : Out.Canonical (execStsp g a i s) := by
  refine h.slotOp (fun _ => rfl) fun _ h => ?_
  split
  · exact h.writeWord.withPoison
  · exact h

theorem execSwr {st : BitVec 5} {a b : Src} : Out.Canonical (execSwr g st a b s) := by
  refine h.slotOp (fun _ => rfl) fun _ h => ?_
  dsimp only
  split
  · exact h
  · exact h.queueOp

theorem execSclose {st : BitVec 5} {a : Src} : Out.Canonical (execSclose g st a s) := by
  refine h.slotOp (fun _ => rfl) fun _ h => ?_
  dsimp only
  split
  · exact h
  · exact h.writeWord.modHere.queueOp.modCur

theorem execStag {st : BitVec 5} {a b : Src} : Out.Canonical (execStag g st a b s) := by
  refine h.slotOp (fun _ => rfl) fun _ h => ?_
  dsimp only
  split
  · exact h
  · exact h.writeWord.writeWord

/-- The check of its bundle apart, `SOPEN` waits for credit or opens a packet; in the check it may wait. -/
theorem execSopen {st : BitVec 5} : Out.Canonical (execSopen g st s) := by
  unfold Machine.execSopen
  dsimp only
  split
  · split
    · exact h.awaitCredit
    · exact h.runOp fun _ h => h
  · refine h.runOp fun _ h => ?_
    exact ite h.awaitCredit h.openPacket

theorem execEwr {a : Src} {r : EReg} : Out.Canonical (execEwr g a r s) := by
  refine h.slotOp (fun _ => rfl) fun _ h => ?_
  split
  · exact h.issueEngine
  · exact h.pend.usesBarrier
  · exact h

theorem execCbld {k : BitVec 2} {a b : Src} : Out.Canonical (execCbld g k a b s) := by
  refine h.runOp fun _ h => ?_
  dsimp only
  split
  · exact h.spillUe
  · exact h.issueCodebook

end

theorem exec_memory {i : Instr} (hi : memoryOp i = true) : Out.Canonical (exec i s) := by
  cases i
  case tret => exact h.slotOp (fun _ => rfl) fun _ h => h.trapReturn.withIssue
  case ldB | ldH | ldW | ldD | ldBu | ldHu | ldWu | ldv | ldvs | ldvg => exact h.slotOp (fun _ => rfl) fun _ h => h.issueLoad
  case atomW | atomD | atomCasW | atomCasD => exact h.slotOp (fun _ => rfl) fun _ h => h.takeLanding.enqueue
  case redW | redD | mark | fence => exact h.slotOp (fun _ => rfl) fun _ h => h.queueOp
  case stB | stH | stW | stD | stv | stvs | stvx => exact h.slotOp (fun _ => rfl) fun _ h => h.issueStore
  case ldsp => exact h.execLdsp
  case stsp => exact h.execStsp
  case shdr | srd => exact h.slotOp (fun _ => rfl) fun _ h => h.issuePkt
  case swait => exact h.slotOp (fun _ => rfl) fun _ h => h.donePacket.withIssue
  case sdone => exact h.slotOp (fun _ => rfl) fun _ h => h.donePacket
  case sopen => exact h.execSopen
  case swr => exact h.execSwr
  case sclose => exact h.execSclose
  case sfree => exact h.slotOp (fun _ => rfl) fun _ h => h.discardOpen
  case sbind | lkmat | cbwrNw => exact h.slotOp (fun _ => rfl) fun _ h => h.pend
  case stag => exact h.execStag
  case fview | fseq | fprobe => exact h.slotOp (fun _ => rfl) fun _ h => h.takeLanding.modCur
  case fldk | fapp => exact h.slotOp (fun _ => rfl) fun _ h => ite h.issueFold.modHere h.issueFold
  case ffork | ftrunc | ffree | fhint => exact h.slotOp (fun _ => rfl) fun _ h => h.issueFold
  case ewr => exact h.execEwr
  case erd | estat | cpyq => exact h.slotOp (fun _ => rfl) fun _ h => h.resultWord
  case ego | mloadw | mmac | mdrain => exact h.slotOp (fun _ => rfl) fun _ h => h.issueEngine
  case eabort => exact h.slotOp (fun _ => rfl) fun _ h => h.abortEngine
  case cpy => exact h.slotOp (fun _ => rfl) fun _ h => ite h.queueOp.usesBarrier h.queueOp
  case binit | badd => exact h.slotOp (fun _ => rfl) fun _ h => h.pend.usesBarrier
  case barr => exact h.slotOp (fun _ => rfl) fun _ h => h.queueOp.usesBarrier
  case bwait => exact h.slotOp (fun _ => rfl) fun _ h => h.usesBarrier.withIssue
  case gbar => exact h.slotOp (fun _ => rfl) fun _ h => h.modTile.withIssue
  case tfork => exact h.slotOp (fun _ => rfl) fun _ h => h.fork.resultWord
  case tjoin | texit | tyield => exact h.slotOp (fun _ => rfl) fun _ h => h.withIssue
  case tcancel => exact h.slotOp (fun _ => rfl) fun _ h => ite h.send.modCur h.send
  case lktry => exact h.slotOp (fun _ => rfl) fun _ h => h.takeLanding.modCur.request
  case lkqry => exact h.slotOp (fun _ => rfl) fun _ h => ite h.takeLanding.ask h.takeLanding.send
  case lkacq => exact h.slotOp (fun _ => rfl) fun _ h => h.issueLock.modCur
  case lkupg => exact h.slotOp (fun _ => rfl) fun _ h => h.issueLock
  case lkrel => exact h.slotOp (fun _ => rfl) fun _ h => h.queueOp.modCur
  case lkrela => exact h.slotOp (fun _ => rfl) fun _ h => h.releaseEntries
  case cbwr | cbinv => exact h.slotOp (fun _ => rfl) fun _ h => h.issueCodebook
  case cbld => exact h.execCbld
  all_goals exact absurd hi Bool.false_ne_true

end State.Canonical
end Sys2Proof.Machine
end

section
/-! PROOFS. Canonical memories (O59): every step of the machine keeps them. -/

namespace Sys2Proof.Machine

open Sys2Proof.Laws

namespace State.Canonical

variable {s : State} (h : s.Canonical)
include h

theorem runEvent {e : Event} : Out.Canonical (runEvent e s) := by cases e <;> simp [Machine.runEvent, h]

/-- What has no guard is a step, or `NOP`. -/
theorem exec_step {i : Instr} (hi : guardOf i = none) : Out.Canonical (exec i s) := by
  cases i <;> cases hi <;> simp [Machine.exec, h]

theorem exec {i : Instr} : Out.Canonical (exec i s) := by
  cases hg : guardOf i with
  | none => exact h.exec_step hg
  | some g =>
    rcases registerOnly_or_memoryOp hg with hr | hm
    · exact h.exec_register hr
    · exact h.exec_memory hm

theorem chosen {i : Instr} : Out.Canonical (s.chosen i) := by
  unfold State.chosen
  split
  · split
    · next t ht => exact runBundle ((h.exec).of_next ht) fun i t ht => ht.exec
    · exact h.exec
  · trivial

theorem cycleStep : Out.Canonical s.cycleStep := by
  unfold State.cycleStep
  split
  · next t ht =>
    have hb : Out.Canonical (State.runBundle Machine.exec t) := (h.execBundleIssue.of_next ht).runBundle fun _ _ h => h.exec
    split
    · next u hu =>
      have hc : u.Canonical := hb.of_next hu
      exact hc
    · exact hb
  · exact h.execBundleIssue

theorem firstChange {es : List Event} {o : Out} (ho : s.firstChange es = some o) : o.Canonical := by
  induction es with
  | nil => cases ho
  | cons e es ih =>
    have he : Out.Canonical (Machine.runEvent e s) := h.runEvent
    unfold State.firstChange at ho
    split at ho
    · next t ht =>
      split at ho
      · exact ih ho
      · cases ho
        exact he.of_next ht
    · cases ho
      exact he

theorem step : Out.Canonical (step s) := by
  unfold Machine.step
  split
  · next i rest _ =>
    have hs : ({ s with agenda := rest, issue := Issue.idle } : State).Canonical := h
    exact hs.chosen
  · split
    · next o ho => exact h.firstChange ho
    · exact h.cycleStep

end State.Canonical
end Sys2Proof.Machine

namespace Sys2Proof.Laws

open Sys2Proof.Machine

/-- Settles O59: every function of the model that a step runs keeps both memories canonical, by the rules above. -/
theorem memoryStaysCanonical : Obligations.MemoryStaysCanonical := by
  unfold Obligations.MemoryStaysCanonical
  intro s t hm hh ht
  exact (State.Canonical.step ⟨hm, hh⟩).of_next ht

end Sys2Proof.Laws
end

section
/-! The segments of an access and their units (R237, R242), and what a load of the M slot does at its issue (O17): its landing entry and
its entry of the load queue. -/

namespace Sys2Proof.Machine

/-! Segments and units -/

/-- The segments of an access outside the spill window, and those in it, with their numbers (R237). -/
def queuedSegs (segs : List Word) : List (Word × Nat) := segs.zipIdx.filter (fun p => winOf p.1 != 1)
def spilledSegs (segs : List Word) : List (Word × Nat) := segs.zipIdx.filter (fun p => winOf p.1 == 1)

theorem numbered_eq (segs : List Word) (size : Nat) : numbered segs size = segs.zipIdx.map (fun p => (p.1, p.2 * size)) :=
  List.ext_getElem (by simp [numbered]) (fun i _ _ => by simp [numbered])

/-- Segments split by their window, each side with what it adds. -/
theorem foldl_split {β γ : Type} (f : Word × Nat → List β) (g : Word × Nat → List γ) (xs : List (Word × Nat))
    (acc : List β × List γ) :
    xs.foldl (fun acc x => if winOf x.1 = 1 then (acc.1, acc.2 ++ g x) else (acc.1 ++ f x, acc.2)) acc =
      (acc.1 ++ (xs.filter (fun x => winOf x.1 != 1)).flatMap f, acc.2 ++ (xs.filter (fun x => winOf x.1 == 1)).flatMap g) := by
  induction xs generalizing acc with
  | nil => simp
  | cons x xs ih =>
    rw [List.foldl_cons, ih]
    by_cases h : winOf x.1 = 1 <;> simp [h]

/-- The units of an access are where its dwords are, each with its part of the bytes (R242). -/
theorem accUnits_eq (p : Word) (size pos : Nat) (data : List Byte) (idem : Bool) : accUnits p size pos data idem =
    (if size ≤ 8 then [(p, size, pos, data)]
      else (List.range (size / 8)).map (fun i => (p + BitVec.ofNat 64 (8 * i), 8, pos + 8 * i, (data.drop (8 * i)).take 8))).map
        (fun u => (⟨u.1, u.2.1, u.2.2.2, u.2.2.1, idem, none⟩ : UnitAcc)) := by
  unfold accUnits
  split <;> simp

theorem accUnits_ne_nil {p : Word} {size pos : Nat} {data : List Byte} {idem : Bool} : accUnits p size pos data idem ≠ [] := by
  rw [accUnits_eq]
  split
  · simp
  · simp
    omega

/-- The offset of a spill pointer in its share (R237). -/
theorem ptrOff_spill {p : Word} (h : winOf p = 1) : ptrOff p = p.toNat % 32768 := by
  rw [ptrOff, h]
  rfl

theorem winOf_of_mem_spilledSegs {segs : List Word} {p : Word × Nat} (h : p ∈ spilledSegs segs) : winOf p.1 = 1 := by
  simpa using (List.mem_filter.mp h).2

/-! The entry of a queue -/

section
variable {s : State}

@[simp] theorem State.me_modCur (f : Ctx → Ctx) : (s.modCur f).me = s.me := by simp [State.me]

/-- An entry of the issuing context's queues is a change of that context. -/
theorem State.enqueue_me {r : CtxRef} {e : QEntry} (h : s.me = r) : s.enqueue r e =
    s.modCur (fun c => { c with queue := c.queue ++ [e] }) := by
  subst h
  rfl

end

/-! Loads -/

section
variable {s : State} {kind : LandKind} {l : BitVec 10} {file : RFile} {reg : BitVec 5} {addr : Word} {segs : List Word} {size : Nat}

/-- The units that a load queues, and the bytes that its spill segments give, with their places in the value (R237, R244). -/
def State.loadUnits (s : State) (segs : List Word) (size : Nat) : List UnitAcc :=
  (queuedSegs segs).flatMap (fun p => accUnits p.1 size (p.2 * size) [] (loadIdem s s.me p.1 size))
def State.loadBytes (s : State) (segs : List Word) (size : Nat) : List (Nat × Byte) :=
  (spilledSegs segs).flatMap (fun p => (s.spillBytes s.me p.1 size).zipIdx.map (fun y => (p.2 * size + y.2, y.1)))

theorem State.loadParts_eq : s.loadParts s.me segs size = (s.loadUnits segs size, s.loadBytes segs size) := by
  have hsplit := foldl_split (fun x => accUnits x.1 size x.2 [] (loadIdem s s.me x.1 size))
    (fun x => (s.spillBytes s.me x.1 size).zipIdx.map (fun b => (x.2 + b.2, b.1))) (numbered segs size) ([], [])
  refine hsplit.trans ?_
  rw [numbered_eq, List.filter_map, List.filter_map, List.flatMap_map, List.flatMap_map]
  rfl

theorem State.loadUnits_eq_nil : s.loadUnits segs size = [] ↔ queuedSegs segs = [] := by
  rw [State.loadUnits, List.flatMap_eq_nil_iff, List.eq_nil_iff_forall_not_mem]
  exact forall₂_congr fun _ _ => iff_false_intro accUnits_ne_nil

theorem State.loadUnits_eq : s.loadUnits segs size = (queuedSegs segs).flatMap (fun p =>
    (if size ≤ 8 then [(p.1, size, p.2 * size)]
      else (List.range (size / 8)).map (fun i => (p.1 + BitVec.ofNat 64 (8 * i), 8, p.2 * size + 8 * i))).map
        (fun u => (⟨u.1, u.2.1, [], u.2.2, loadIdem s s.me p.1 size, none⟩ : UnitAcc))) := by
  refine List.flatMap_congr fun p _ => ?_
  unfold accUnits
  split <;> simp

theorem State.loadBytes_eq : s.loadBytes segs size = (spilledSegs segs).flatMap (fun p =>
    (s.readBytes .spill s.focus (s.slot * s.here.spillShare + p.1.toNat % 32768) size).zipIdx.map (fun y => (p.2 * size + y.2, y.1))) := by
  refine List.flatMap_congr fun p hp => ?_
  rw [← ptrOff_spill (winOf_of_mem_spilledSegs hp)]
  rfl

/-- The landing entry of a load (R31, R32). -/
def State.loadLanding (s : State) (kind : LandKind) (l : BitVec 10) (file : RFile) (reg : BitVec 5) (addr : Word) (segs : List Word)
    (size : Nat) : Landing :=
  landingOf s .m kind l file reg addr (size * segs.length)
    (segs.foldl (fun m p => max m (earliestLoad s.me p (size * segs.length) false)) 0) ((s.loadUnits segs size).all (fun u => u.idem))

/-- The next state of a timed operation with its landing entry. -/
def State.landing (s : State) (y : Landing) : State :=
  { s with ids := s.ids + 1 }.modCur (fun c => { c with landings := c.landings ++ [y] })

theorem State.me_landing {y : Landing} : (s.landing y).me = s.me := State.me_modCur _

theorem State.takeLanding_eq {sl : Slot} {n early : Nat} {idem : Bool} : s.takeLanding sl kind l file reg addr n early idem =
    (s.ids, s.landing (landingOf s sl kind l file reg addr n early idem)) := rfl

/-- A landing entry just taken that is changed at once. -/
theorem State.landing_modLanding {y : Landing} {f : Landing → Landing} (hf : FreshId s) (hy : y.id = s.ids) :
    (s.landing y).modCur (fun c => c.modLanding s.ids f) = s.landing (f y) := by
  have hadded := Ctx.modLanding_append (c := s.cur) (x := y) (f := f) (fun x hx => hy ▸ hf x hx)
  rw [hy] at hadded
  rw [State.landing, State.modCur_modCur]
  exact State.modCur_congr hadded

/-- The like where a spill access with it meets a poisoned unit. -/
theorem State.landing_spillUe {y : Landing} {x : Word} (hf : FreshId s) (hy : y.id = s.ids) :
    (s.landing y).spillUe x (some s.ids) = (s.landing { y with faulted := true }).modCur (fun c => { c with late := c.late ++
      [⟨.ue, some s.cur.pc.toNat, .m, x, 0, s.here.issued * 256 + 2, some s.ids, true, none, false⟩] }) := by
  have hseq : (s.landing y).here.seqOf .m = s.here.issued * 256 + 2 := by
    rw [State.landing, State.here_modCur]
    rfl
  have hadded : (s.cur.landings ++ [y]).map (fun (l : Landing) => if some s.ids = some l.id then { l with faulted := true } else l) =
      s.cur.landings ++ [{ y with faulted := true }] := by
    have hold : s.cur.landings.map (fun (l : Landing) => if some s.ids = some l.id then { l with faulted := true } else l) = s.cur.landings :=
      (List.map_congr_left (fun z hz => if_neg (fun he => hf z hz (Option.some.inj he).symm))).trans (List.map_id _)
    rw [List.map_append, hold, List.map_singleton, if_pos (congrArg some hy.symm)]
  rw [State.spillUe, hseq, State.landing, State.landing, State.modCur_modCur, State.modCur_modCur]
  refine State.modCur_congr ?_
  exact congrArg (fun ls => ({ s.cur with landings := ls, late := s.cur.late ++
    [⟨.ue, some s.cur.pc.toNat, .m, x, 0, s.here.issued * 256 + 2, some s.ids, true, none, false⟩] } : Ctx)) hadded

/-- A load with a segment outside the spill window: its landing entry with the spill bytes, and its entry of the load queue. -/
theorem State.issueLoad_queued (hf : FreshId s) (hb : s.segBad s.me segs size = none) (hq : queuedSegs segs ≠ []) :
    s.issueLoad kind l file reg addr segs size =
      (s.landing { s.loadLanding kind l file reg addr segs size with got := s.loadBytes segs size }).modCur (fun c =>
        { c with queue := c.queue ++ [entryOf s .m s.ids true false (.load (s.loadUnits segs size))] }) := by
  have hu : (s.loadUnits segs size).isEmpty = false := by
    rw [List.isEmpty_eq_false_iff]
    exact mt State.loadUnits_eq_nil.mp hq
  simp only [State.issueLoad, State.loadParts_eq, State.takeLanding_eq, hb, hu]
  rw [State.landing_modLanding hf rfl]
  exact State.enqueue_me State.me_landing

/-- A load of spill bytes alone: its landing entry with its whole value, which arrives in the next wall cycle (R237). -/
theorem State.issueLoad_spilled (hf : FreshId s) (hb : s.segBad s.me segs size = none) (hq : queuedSegs segs = []) :
    s.issueLoad kind l file reg addr segs size =
      s.landing { s.loadLanding kind l file reg addr segs size with
        got := s.loadBytes segs size, value := some (kind.value (gotNat (s.loadBytes segs size))), arrive := some (s.here.wall + 1) } := by
  have hu : (s.loadUnits segs size).isEmpty = true := List.isEmpty_iff.mpr (State.loadUnits_eq_nil.mpr hq)
  simp only [State.issueLoad, State.loadParts_eq, State.takeLanding_eq, hb, hu]
  exact State.landing_modLanding hf rfl

/-- A load with a spill byte in error: a class 3 `UE` against its landing entry, and no queue entry (R397, R423). -/
theorem State.issueLoad_bad {x : Word} (hf : FreshId s) (hb : s.segBad s.me segs size = some x) :
    s.issueLoad kind l file reg addr segs size =
      (s.landing { s.loadLanding kind l file reg addr segs size with faulted := true }).modCur (fun c => { c with late := c.late ++
        [⟨.ue, some s.cur.pc.toNat, .m, x, 0, s.here.issued * 256 + 2, some s.ids, true, none, false⟩] }) := by
  simp only [State.issueLoad, State.loadParts_eq, State.takeLanding_eq, hb]
  exact State.landing_spillUe hf rfl

end

end Sys2Proof.Machine

namespace Sys2Proof.Laws

open Sys2Proof.Machine

/-- A load that runs has the effect of its issue. -/
theorem runLoad_runs {s : State} {g : Guard} {l : BitVec 10} {x : RFile} {d b : BitVec 5} {size : Nat} {signed : Bool}
    (h : Runs s g (unsetM s b.toNat) (AccessOk s [accessAddr s b size] size size false ∧ LandingFree s)) :
    runLoad size signed g l x d b s = .next (s.issueLoad (.load size signed) l x d (accessAddr s b size) [accessAddr s b size] size) :=
  runOp_runs h (fun hk => ⟨rfl, rfl, rfl, hk.1, fun _ => hk.2⟩) rfl

theorem ldv_runs {s : State} {g : Guard} {l : BitVec 10} {d b : BitVec 5}
    (h : Runs s g (unsetM s b.toNat) (AccessOk s [accessAddr s b 128] 128 32 false ∧ LandingFree s)) :
    exec (.ldv g l d b) s = .next (s.issueLoad .vector l .v d (accessAddr s b 128) [accessAddr s b 128] 128) :=
  (exec_ldv s).trans (runOp_runs h (fun hk => ⟨rfl, rfl, rfl, hk.1, fun _ => hk.2⟩) rfl)

theorem runSegLoad_runs {s : State} {g : Guard} {l : BitVec 10} {d b : BitVec 5} {segs : Ctx → Byte → List Word}
    (h : Runs s g (unsetM s b.toNat || unsetM s (s.issue.xm.toNat % 32))
      (AccessOk s (segs s.cur s.issue.xm) 32 32 false ∧ LandingFree s)) :
    runSegLoad segs g l d b s = .next (s.issueLoad .vector l .v d (s.cur.regM b.toNat) (segs s.cur s.issue.xm) 32) :=
  runOp_runs h (fun hk => ⟨rfl, rfl, rfl, hk.1, fun _ => hk.2⟩) rfl

/-- Settles O17: each load issues its segments, whose units are queued and whose spill bytes are read, beside its landing entry. -/
theorem loadsTakeALanding : Obligations.LoadsTakeALanding := by
  unfold Obligations.LoadsTakeALanding
  intro s g l x d b ub u2 unitsOf loads scalar
  have load : ∀ i u kind f addr segs size align,
      (Runs s g u (AccessOk s segs size align false ∧ LandingFree s) → exec i s = .next (s.issueLoad kind l f d addr segs size)) →
      loads i u kind f addr segs size align := by
    intro i u kind f addr segs size align hexec h hf
    refine ⟨fun hb hq => ?_, fun hb hq => ?_, fun bad hb => ?_⟩
    · rw [hexec h, State.issueLoad_queued hf hb hq, State.loadLanding, State.loadUnits_eq, State.loadBytes_eq]
      rfl
    · rw [hexec h, State.issueLoad_spilled hf hb hq, State.loadLanding, State.loadUnits_eq, State.loadBytes_eq]
      rfl
    · rw [hexec h, State.issueLoad_bad hf hb, State.loadLanding, State.loadUnits_eq]
      rfl
  have word : ∀ i size signed, exec i s = runLoad size signed g l x d b s → scalar i size signed := fun i size signed he =>
    load _ _ _ _ _ _ _ _ (fun h => he.trans (runLoad_runs h))
  exact ⟨word _ 1 true (exec_ldB s), word _ 2 true (exec_ldH s), word _ 4 true (exec_ldW s), word _ 8 true (exec_ldD s),
    word _ 1 false (exec_ldBu s), word _ 2 false (exec_ldHu s), word _ 4 false (exec_ldWu s), load _ _ _ _ _ _ _ _ ldv_runs,
    load _ _ _ _ _ _ _ _ (fun h => (exec_ldvs s).trans (runSegLoad_runs h)),
    load _ _ _ _ _ _ _ _ (fun h => (exec_ldvg s).trans (runSegLoad_runs h))⟩

end Sys2Proof.Laws
end

section
/-! What the stores of the M slot do at their issue (O19): what a spill segment's write leaves, and the entry of the store queue. -/

namespace Sys2Proof.Machine

/-! What the operations of one bundle have in common -/

/-- One state issues as another does: its next access has the same number, bundle, place in the order of issue and level. -/
structure State.IssuesAs (s t : State) : Prop where
  ids : t.ids = s.ids
  issued : t.here.issued = s.here.issued
  pc : t.cur.pc = s.cur.pc
  xstat : t.cur.xstat = s.cur.xstat

namespace State.IssuesAs

variable {s t u : State}

theorem refl (s : State) : s.IssuesAs s := ⟨rfl, rfl, rfl, rfl⟩

theorem trans (h : s.IssuesAs t) (k : t.IssuesAs u) : s.IssuesAs u :=
  ⟨k.ids.trans h.ids, k.issued.trans h.issued, k.pc.trans h.pc, k.xstat.trans h.xstat⟩

theorem foldl {α : Type} {f : State → α → State} (h : ∀ (t : State) a, t.IssuesAs (f t a)) (l : List α) (s : State) :
    s.IssuesAs (l.foldl f s) := by
  induction l generalizing s with
  | nil => exact refl s
  | cons a l ih => exact (h s a).trans (ih _)

/-- A change of the issuing context beside its place and its level. -/
theorem modCur {f : Ctx → Ctx} (hpc : (f s.cur).pc = s.cur.pc) (hx : (f s.cur).xstat = s.cur.xstat) : s.IssuesAs (s.modCur f) := by
  have hissued : (s.modCur f).here.issued = s.here.issued := by rw [State.here_modCur, Tile.issued_modCtx]
  by_cases hk : s.slot < 8
  · have hcur := s.cur_modCur f hk
    exact ⟨rfl, hissued, (congrArg Ctx.pc hcur).trans hpc, (congrArg Ctx.xstat hcur).trans hx⟩
  · have hcur : (s.modCur f).cur = s.cur := by
      rw [State.cur, State.slot_modCur, Tile.ctx_of_le _ (Nat.not_lt.mp hk), State.cur, Tile.ctx_of_le _ (Nat.not_lt.mp hk)]
    exact ⟨rfl, hissued, congrArg Ctx.pc hcur, congrArg Ctx.xstat hcur⟩

theorem spillUe (s : State) (x : Word) (access : Option Nat) : s.IssuesAs (s.spillUe x access) := modCur rfl rfl

theorem entryOf (h : s.IssuesAs t) (sl : Slot) (id : Nat) (inLoad inStore : Bool) (op : QOp) :
    entryOf t sl id inLoad inStore op = entryOf s sl id inLoad inStore op := by
  simp only [Sys2Proof.entryOf, Ctx.level, h.issued, h.pc, h.xstat]

end State.IssuesAs

/-! The write of a spill segment -/

section
variable {s : State} {r : CtxRef} {p : Word} {bs : List Byte}

/-- Without a unit in error a spill segment's bytes are written as they are. -/
theorem State.storeSpill_clean (hp : s.poison = []) (ht : s.tainted = []) : s.storeSpill r p bs =
    s.writeBytes .spill (tileOf r) ((s.tile (tileOf r)).spillOff r.slot (ptrOff p)) bs := by
  simp [State.storeSpill, hp, ht]

theorem State.issuesAs_storeSpill (s : State) (r : CtxRef) (p : Word) (bs : List Byte) : s.IssuesAs (s.storeSpill r p bs) := by
  have hbytes : ∀ (part : List Nat) (k off : Nat) (ps : List Nat) (ts : List (Nat × CtxRef)),
      s.IssuesAs { bs.zipIdx.foldl (fun s b =>
        if part.any (fun u => decide (u ≤ k + b.2) && decide (k + b.2 < u + 8)) then s
        else s.writeBytes .spill (tileOf r) (off + b.2) [b.1]) s with poison := ps, tainted := ts } := by
    intro part k off ps ts
    refine (State.IssuesAs.foldl (fun t b => ?_) _ s).trans ⟨rfl, rfl, rfl, rfl⟩
    split
    · exact .refl t
    · exact ⟨rfl, rfl, rfl, rfl⟩
  unfold State.storeSpill
  dsimp only
  split
  · exact ⟨rfl, rfl, rfl, rfl⟩
  · split
    · exact hbytes ..
    · exact (hbytes ..).trans (State.IssuesAs.spillUe ..)

end

/-! A store at its issue -/

section
variable {s : State} {segs : List Word} {size : Nat} {data : List Byte}

/-- The spill segments of a store, each written as `w` writes it. -/
def State.storeSegs (s : State) (segs : List Word) (w : State → Word × Nat → State) : State := (spilledSegs segs).foldl w s

/-- A store's bytes for a segment (R258). -/
def segPart (data : List Byte) (size : Nat) (p : Word × Nat) : List Byte := (data.drop (p.2 * size)).take size

/-- The units that a store queues, with the bytes they hold (R244). -/
def queuedUnits (segs : List Word) (size : Nat) (data : List Byte) : List UnitAcc :=
  (queuedSegs segs).flatMap (fun p => accUnits p.1 size (p.2 * size) (segPart data size p) false)

theorem queuedUnits_eq_nil : queuedUnits segs size data = [] ↔ queuedSegs segs = [] := by
  rw [queuedUnits, List.flatMap_eq_nil_iff, List.eq_nil_iff_forall_not_mem]
  exact forall₂_congr fun _ _ => iff_false_intro accUnits_ne_nil

/-- A store writes its spill segments, and queues the others where there are any (R237, R258). -/
theorem State.issueStore_eq : s.issueStore segs size data =
    (let t := s.storeSegs segs (fun t p => t.storeSpill s.me p.1 (segPart data size p))
    if queuedSegs segs = [] then t
    else { t with ids := s.ids + 1 }.modCur (fun c =>
      { c with queue := c.queue ++ [entryOf s .m s.ids false true (.store (queuedUnits segs size data) size)] })) := by
  have hspill : (numbered segs size).foldl (fun t x => if winOf x.1 = 1 then t.storeSpill s.me x.1 ((data.drop x.2).take size) else t) s =
      s.storeSegs segs (fun t p => t.storeSpill s.me p.1 (segPart data size p)) := by
    rw [numbered_eq, List.foldl_map, State.storeSegs, spilledSegs, List.foldl_filter]
    simp [segPart]
  have hunits : (numbered segs size).foldl (fun acc x =>
      if winOf x.1 = 1 then acc else acc ++ accUnits x.1 size x.2 ((data.drop x.2).take size) false) [] = queuedUnits segs size data := by
    have hfold := (List.flatMap_eq_foldl (f := fun p => accUnits p.1 size (p.2 * size) (segPart data size p) false) (l := queuedSegs segs)).symm
    refine Eq.trans ?_ hfold
    rw [numbered_eq, List.foldl_map, queuedSegs, List.foldl_filter]
    simp [segPart]
  have hissues : s.IssuesAs (s.storeSegs segs (fun t p => t.storeSpill s.me p.1 (segPart data size p))) :=
    .foldl (fun t p => t.issuesAs_storeSpill ..) _ s
  simp only [State.issueStore, hspill, hunits, List.isEmpty_iff, queuedUnits_eq_nil]
  split
  · rfl
  · rw [State.queueOp_eq, hissues.ids, hissues.entryOf]

theorem queuedUnits_eq : queuedUnits segs size data = (queuedSegs segs).flatMap (fun p =>
    (if size ≤ 8 then [(p.1, size, p.2 * size, segPart data size p)]
      else (List.range (size / 8)).map (fun i =>
        (p.1 + BitVec.ofNat 64 (8 * i), 8, p.2 * size + 8 * i, ((segPart data size p).drop (8 * i)).take 8))).map
          (fun u => (⟨u.1, u.2.1, u.2.2.2, u.2.2.1, false, none⟩ : UnitAcc))) :=
  List.flatMap_congr fun _ _ => accUnits_eq ..

/-- Spill segments written without a unit in error are their bytes at their offsets in the share, one after the other (R237). -/
theorem State.foldl_storeSpill_clean {t : State} (hn : t.nodes = s.nodes) (hp : t.poison = []) (ht : t.tainted = [])
    {ps : List (Word × Nat)} (hw : ∀ p ∈ ps, winOf p.1 = 1) :
    ps.foldl (fun t p => t.storeSpill s.me p.1 (segPart data size p)) t = ps.foldl (fun t p =>
      t.writeBytes .spill s.focus (s.slot * s.here.spillShare + p.1.toNat % 32768) (segPart data size p)) t := by
  induction ps generalizing t with
  | nil => rfl
  | cons p ps ih =>
    have htile : t.tile (tileOf s.me) = s.here := by
      rw [State.tile, State.node, hn]
      rfl
    have hstep : t.storeSpill s.me p.1 (segPart data size p) =
        t.writeBytes .spill s.focus (s.slot * s.here.spillShare + p.1.toNat % 32768) (segPart data size p) := by
      rw [State.storeSpill_clean hp ht, htile, ptrOff_spill (hw p List.mem_cons_self)]
      rfl
    rw [List.foldl_cons, List.foldl_cons, hstep]
    exact ih (t := t.writeBytes ..) hn hp ht (fun q hq => hw q (List.mem_cons_of_mem _ hq))

theorem State.storeSegs_clean (h : (s.poison = [] ∧ s.tainted = []) ∨ spilledSegs segs = []) :
    s.storeSegs segs (fun t p => t.storeSpill s.me p.1 (segPart data size p)) = s.storeSegs segs (fun t p =>
      t.writeBytes .spill s.focus (s.slot * s.here.spillShare + p.1.toNat % 32768) (segPart data size p)) := by
  obtain ⟨hp, ht⟩ | hnone := h
  · exact State.foldl_storeSpill_clean rfl hp ht (fun _ => winOf_of_mem_spilledSegs)
  · rw [State.storeSegs, State.storeSegs, hnone]
    rfl

/-- The low bytes of a number are those of its lowest part. -/
theorem take_natToBytes {k n : Nat} (v : Nat) (h : k ≤ n) : (natToBytes n v).take k = natToBytes k v := by
  induction k generalizing n v with
  | zero => rfl
  | succ k ih =>
    obtain ⟨m, rfl⟩ : ∃ m, n = m + 1 := ⟨n - 1, by omega⟩
    rw [natToBytes, List.take_succ_cons, ih _ (Nat.le_of_succ_le_succ h), natToBytes]

end

end Sys2Proof.Machine

namespace Sys2Proof.Laws

open Sys2Proof.Machine

section
variable {s : State} {g : Guard} {d b : BitVec 5}

/-- A store that runs has the effect of its issue. -/
theorem runStore_runs {size : Nat} (hs : size ≤ 8)
    (h : Runs s g (unsetM s b.toNat || unsetM s d.toNat) (AccessOk s [accessAddr s b size] size size true)) :
    runStore size g d b s = .next (s.issueStore [accessAddr s b size] size ((wordBytes (s.cur.regM d.toNat)).take size)) := by
  rw [wordBytes, take_natToBytes _ hs]
  exact runOp_runs h (fun hk => ⟨rfl, rfl, rfl, hk, fun ht => Bool.noConfusion ht⟩) rfl

theorem runVecStore_runs {segs : Ctx → Byte → List Word} {second : Bool} {size : Nat}
    (h : Runs s g (unsetM s b.toNat || (second && unsetM s (s.issue.xm.toNat % 32)) || !s.cur.wv.getLsbD d.toNat)
      (AccessOk s (segs s.cur s.issue.xm) size 32 true)) :
    runVecStore segs second size g d b s =
      .next (s.issueStore (segs s.cur s.issue.xm) size (vecBytes (s.cur.regV d.toNat))) :=
  runOp_runs h (fun hk => ⟨rfl, rfl, rfl, hk, fun ht => Bool.noConfusion ht⟩) rfl

theorem stv_runs (h : Runs s g (unsetM s b.toNat || !s.cur.wv.getLsbD d.toNat) (AccessOk s [accessAddr s b 128] 128 32 true)) :
    exec (.stv g d b) s = .next (s.issueStore [accessAddr s b 128] 128 (vecBytes (s.cur.regV d.toNat))) :=
  (exec_stv s).trans (runVecStore_runs (second := false) (by rwa [Bool.false_and, Bool.or_false]))

end

/-- Settles O19: each store issues its segments, whose spill bytes are written and whose units are queued. -/
theorem storesEnterTheQueue : Obligations.StoresEnterTheQueue := by
  unfold Obligations.StoresEnterTheQueue
  intro s g d b ub u2 uv stores scalar
  have store : ∀ i u segs size align data,
      (Runs s g u (AccessOk s segs size align true) → exec i s = .next (s.issueStore segs size data)) →
      stores i u segs size align data := by
    intro i u segs size align data hexec h
    rw [hexec h, State.issueStore_eq, queuedUnits_eq]
    exact ⟨fun hclean => by rw [State.storeSegs_clean hclean]; rfl, rfl⟩
  have word : ∀ i size, size ≤ 8 → exec i s = runStore size g d b s → scalar i size := fun i size hs he =>
    store _ _ _ _ _ _ (fun h => he.trans (runStore_runs hs h))
  exact ⟨word _ 1 (by decide) (exec_stB s), word _ 2 (by decide) (exec_stH s), word _ 4 (by decide) (exec_stW s),
    word _ 8 (by decide) (exec_stD s), store _ _ _ _ _ _ stv_runs,
    store _ _ _ _ _ _ (fun h => (exec_stvs s).trans (runVecStore_runs h)),
    store _ _ _ _ _ _ (fun h => (exec_stvx s).trans (runVecStore_runs h))⟩

end Sys2Proof.Laws
end

section
/-! Spill dwords (O20): where they lie, and what their reads and writes do. -/

namespace Sys2Proof.Machine

section
variable {t : Tile} {slot n : Nat} {c : Ctx}

/-- Where a dword of the spill share, and of the extension area, lies (R195, R259); past both there is no place. -/
theorem spillPlace_share (h : n < t.spillShare / 8) : spillPlace t slot c n = some (.spill, slot * t.spillShare + 8 * n) := if_pos h

theorem spillPlace_extension (hn : t.spillShare / 8 ≤ n) (h : 0x1000 ≤ n ∧ n ≤ 0x17FF ∧ c.level ≠ 0 ∧ c.tf = true) :
    spillPlace t slot c n = some (.sram, extBase slot + 8 * (n - 0x1000)) := (if_neg (Nat.not_lt.mpr hn)).trans (if_pos h)

theorem spillPlace_none (hn : t.spillShare / 8 ≤ n) (h : ¬(0x1000 ≤ n ∧ n ≤ 0x17FF ∧ c.level ≠ 0 ∧ c.tf = true)) :
    spillPlace t slot c n = none := (if_neg (Nat.not_lt.mpr hn)).trans (if_neg h)

end

theorem spillFault_none {s : State} {n : Nat} {p : MemSpace × Nat} (h : spillPlace s.here s.slot s.cur n = some p) : spillFault s n = none := by
  rw [spillFault, h]
  rfl

theorem spillFault_bound {s : State} {n : Nat} (h : spillPlace s.here s.slot s.cur n = none) :
    spillFault s n = some (.bound, BitVec.ofNat 64 n) := by
  rw [spillFault, h]
  rfl

end Sys2Proof.Machine

namespace Sys2Proof.Laws

open Sys2Proof.Machine

section
variable {s : State} {g : Guard} {d : Dst} {a : Src} {i : BitVec 10} {p : MemSpace × Nat} {n : Nat} {ok : Prop}

/-- A read of a dword that has a place, without a poisoned unit of the share, and with one. -/
theorem ldsp_reads (h : Runs s g false ok) (hp : spillPlace s.here s.slot s.cur (s.issue.xm.toNat * 1024 + i.toNat) = some p)
    (hb : p.1 = .spill → s.spillBad s.focus p.2 8 = none) :
    exec (.ldsp g d i) s = .next (s.resultWord .m .m 2 d (s.readWord p.1 s.focus p.2)) := by
  rw [exec_ldsp, execLdsp, runOp_runs h (fun _ => ⟨rfl, rfl, rfl, spillFault_none hp, fun ht => Bool.noConfusion ht⟩) rfl, spillIndex, hp]
  exact congrArg Host.Outcome.next (if_neg (fun hbad => by simp [hb hbad.1] at hbad))

theorem ldsp_ue (h : Runs s g false ok) (hp : spillPlace s.here s.slot s.cur (s.issue.xm.toNat * 1024 + i.toNat) = some (.spill, n))
    (hb : s.spillBad s.focus n 8 ≠ none) :
    exec (.ldsp g d i) s = .next (s.spillUe (BitVec.ofNat 64 (2 ^ 60 + 8 * (s.issue.xm.toNat * 1024 + i.toNat))) none) := by
  rw [exec_ldsp, execLdsp, runOp_runs h (fun _ => ⟨rfl, rfl, rfl, spillFault_none hp, fun ht => Bool.noConfusion ht⟩) rfl, spillIndex, hp]
  dsimp only
  rw [if_pos ⟨rfl, Option.isSome_iff_ne_none.mpr hb⟩]

/-- A write of a dword that has a place clears its unit's poison. -/
theorem stsp_writes (h : Runs s g (s.cur.unsetM a) ok) (hp : spillPlace s.here s.slot s.cur (s.issue.xm.toNat * 1024 + i.toNat) = some p) :
    exec (.stsp g a i) s = .next { s.writeWord p.1 s.focus p.2 (s.cur.srcM a) with
      poison := s.poison.filter (fun u => u != memKey p.1 s.focus p.2) } := by
  rw [exec_stsp, execStsp, runOp_runs h (fun _ => ⟨rfl, rfl, rfl, spillFault_none hp, fun ht => Bool.noConfusion ht⟩) rfl, spillIndex, hp]

/-- A dword without a place is the trap `BOUND` with its index. -/
theorem spillDword_traps {unset : State → Bool} {eff : State → State} (hm : s.issue.mode = .direct) (hg : s.cur.guard g = true)
    (hpr : s.cur.poisonRd = false) (hp : spillPlace s.here s.slot s.cur n = none) (hn : spillIndex s.issue.xm i = n) :
    runOp .m g (fun s => (Checks.reads (unset s)).withOwn (spillFault s (spillIndex s.issue.xm i))) eff s =
      .next (s.issueTrap ⟨4, .m, .bound, BitVec.ofNat 64 n⟩) :=
  runOp_traps hm (opFailure_own hg (fun ht => by simp [hpr] at ht) rfl rfl rfl (hn ▸ spillFault_bound (hn ▸ hp)))

end

/-- Settles O20: a dword of the share or of the extension area is read and written at its place, and one past both traps. -/
theorem spillDwords : Obligations.SpillDwords := by
  unfold Obligations.SpillDwords
  intro s g d a i n share off ext extended v
  refine ⟨fun h hn hb => ldsp_reads (p := (.spill, off)) h (spillPlace_share hn) (fun _ => hb),
    fun h hn hb => ldsp_ue h (spillPlace_share hn) hb,
    fun h hn he => ldsp_reads (p := (.sram, ext)) h (spillPlace_extension hn he) (fun hp => MemSpace.noConfusion hp),
    fun h hn => stsp_writes (p := (.spill, off)) h (spillPlace_share hn),
    fun h hn he => stsp_writes (p := (.sram, ext)) h (spillPlace_extension hn he), fun hm hg hpr hn he => ?_⟩
  have hp : spillPlace s.here s.slot s.cur n = none := spillPlace_none hn he
  exact ⟨(exec_ldsp s).trans (spillDword_traps hm hg hpr hp rfl), (exec_stsp s).trans (spillDword_traps hm hg hpr hp rfl)⟩

end Sys2Proof.Laws
end

section
/-! Atomics, reductions and orderings at their issue (O21): their entry of the queues, and an atomic's landing entry. -/

namespace Sys2Proof.Laws

open Sys2Proof.Machine

section
variable {s : State} {g : Guard} {l : BitVec 10} {x : RFile} {d b : BitVec 5} {size : Nat}

/-- The checks of an atomic's address pass (R260). -/
def AtomOk (s : State) (b : BitVec 5) (size : Nat) : Prop :=
  memFault s s.me s.cur.level (s.cur.regM b.toNat) size size true (fun w => w == 1 || w == 4 || w == 5) = none

/-- The low bytes of an M register as an operand. -/
def lowReg (s : State) (n size : Nat) : Word := BitVec.ofNat 64 ((s.cur.regM n).toNat % 2 ^ (8 * size))

/-- An atomic that returns a value takes a landing entry and one entry of both queues. -/
theorem runAtom_runs {cas : Bool} (h : Runs s g (unsetM s b.toNat || unsetM s (s.issue.xm.toNat % 32) ||
      (cas && unsetM s (s.issue.xm.toNat % 32 + 1))) (AtomOk s b size ∧ LandingFree s)) :
    runAtom size cas g l x d b s = .next ((s.landing (landingOf s .m (.atom size) l x d (s.cur.regM b.toNat) size
      (earliestLoad s.me (s.cur.regM b.toNat) size true) false)).modCur (fun c => { c with queue := c.queue ++ [entryOf s .m s.ids true true
        (.atom true (if cas then .cas (lowReg s (s.issue.xm.toNat % 32) size) else atomOp s.issue.xm)
          ⟨s.cur.regM b.toNat, size, [], 0, false, none⟩
          (lowReg s (if cas then s.issue.xm.toNat % 32 + 1 else s.issue.xm.toNat % 32) size))] })) := by
  rw [← State.enqueue_me State.me_landing]
  exact runOp_runs h (fun hk => ⟨rfl, rfl, rfl, hk.1, fun _ => hk.2⟩) rfl

/-- A reduction takes an entry of the store queue. -/
theorem runRed_runs (h : Runs s g (unsetM s b.toNat || unsetM s (s.issue.xm.toNat % 32)) (AtomOk s b size)) :
    runRed size g b s = .next (s.queueOp .m false true (.atom false (atomOp s.issue.xm)
      ⟨s.cur.regM b.toNat, size, [], 0, false, none⟩ (lowReg s (s.issue.xm.toNat % 32) size))) :=
  runOp_runs h (fun hk => ⟨rfl, rfl, rfl, hk, fun ht => Bool.noConfusion ht⟩) rfl

end

/-- Settles O21: an atomic, a reduction and an ordering each take their one entry of the queues, an atomic beside its landing entry. -/
theorem atomicsAndOrderings : Obligations.AtomicsAndOrderings := by
  unfold Obligations.AtomicsAndOrderings
  intro s g l x d b sc m p low ub fits queues returns reduces
  have ordering : ∀ {i eff}, exec i s = runOp .m g (fun _ => Checks.reads false) eff s → Runs s g false True →
      exec i s = .next (eff s) := fun he h => he.trans (runOp_runs h (fun _ => ⟨rfl, rfl, rfl, rfl, fun ht => Bool.noConfusion ht⟩) rfl)
  exact ⟨fun h => (exec_atomW s).trans (runAtom_runs (cas := false) h), fun h => (exec_atomD s).trans (runAtom_runs (cas := false) h),
    fun h => (exec_atomCasW s).trans (runAtom_runs (cas := true) h), fun h => (exec_atomCasD s).trans (runAtom_runs (cas := true) h),
    fun h => (exec_redW s).trans (runRed_runs h), fun h => (exec_redD s).trans (runRed_runs h),
    ordering (exec_mark s), ordering (exec_fence s)⟩

end Sys2Proof.Laws
end

section
/-! The matrix engine's registers at issue (O25): writes of the shadow set, go-forms, reads and the abort (R269 to R276). -/

namespace Sys2Proof.Machine

/-! The abort of an operation -/

/-- An aborted operation without an error has error 4 and ends within 16 cycles; another keeps its own (R274). -/
theorem ActiveOp.abort_clear {o : ActiveOp} (h : o.err = 0) (wall k : Nat) :
    o.abort wall k = { o with err := 4, finish := min o.finish (wall + 1 + k % 16) } := if_pos h
theorem ActiveOp.abort_failed {o : ActiveOp} (h : o.err ≠ 0) (wall k : Nat) : o.abort wall k = o := if_neg h

section
variable {s : State} {o : ActiveOp}

/-- The operation of the engine is one of the issuing task's own. -/
def State.ownsOp (s : State) (o : ActiveOp) : Prop := o.slot = s.slot ∧ o.serial = s.cur.serial

/-- The issuing task's abort changes the engine of its tile (R274). -/
theorem State.here_abortEngine : (s.abortEngine s.me).here = { s.here with
    op := s.here.op.map (fun o =>
      if o.slot = s.slot ∧ o.serial = s.cur.serial then o.abort s.here.wall (Config.choice s.free % 16) else o)
    shadowSt := if s.here.shadowSt.mine s.slot s.cur.serial then .free else s.here.shadowSt } :=
  State.tile_modTile ..

theorem State.abortEngine_own (ho : s.here.op = some o) (hown : s.ownsOp o) (he : o.err = 0) :
    ∃ k < 16, (s.abortEngine s.me).here.op = some { o with err := 4, finish := min o.finish (s.here.wall + 1 + k) } := by
  refine ⟨Config.choice s.free % 16 % 16, Nat.mod_lt _ (by decide), ?_⟩
  rw [State.here_abortEngine, ho, ← ActiveOp.abort_clear he]
  exact congrArg some (if_pos hown)

theorem State.abortEngine_other (ho : s.here.op = some o) (h : ¬(s.ownsOp o ∧ o.err = 0)) : (s.abortEngine s.me).here.op = some o := by
  rw [State.here_abortEngine, ho]
  refine congrArg some ?_
  by_cases hown : s.ownsOp o
  · exact (if_pos hown).trans (ActiveOp.abort_failed (fun he => h ⟨hown, he⟩) ..)
  · exact if_neg hown

theorem State.abortEngine_idle (ho : s.here.op = none) : (s.abortEngine s.me).here.op = none := by
  rw [State.here_abortEngine, ho]
  rfl

/-- The registers of the issuing task stay. -/
theorem State.cur_abortEngine : (s.abortEngine s.me).cur = s.cur := by
  rw [State.cur, State.slot, State.here_abortEngine]
  rfl

end

end Sys2Proof.Machine

namespace Sys2Proof.Laws

open Sys2Proof.Machine

/-- An operation of the E slot that reads registers, without conditions of its own, has its effect. -/
theorem runOp_reads {s : State} {g : Guard} {u : Bool} {unset : State → Bool} {eff : State → State} (h : Runs s g u True)
    (hu : unset s = u) : runOp .e g (fun s => Checks.reads (unset s)) eff s = .next (eff s) :=
  runOp_runs h (fun _ => ⟨rfl, rfl, rfl, rfl, fun ht => Bool.noConfusion ht⟩) hu

/-- A go-form writes the shadow set (R274). -/
theorem runGo_runs {s : State} {g : Guard} {k : Option (BitVec 3)} (h : Runs s g false True) :
    runGo k g s = .next (s.issueEngine (.go k)) := runOp_plain h

/-- Settles O25: each operation has its effect, and what the abort leaves of the engine, the registers and memory. -/
theorem engineRegisters : Obligations.EngineRegisters := by
  unfold Obligations.EngineRegisters
  intro s g d a q b r v u starts
  refine ⟨fun h => (exec_ewr s).trans (runOp_reads h rfl), fun h => (exec_ewr s).trans (runOp_reads h rfl),
    fun h => (exec_erd s).trans (runOp_plain h), fun h => (exec_estat s).trans (runOp_plain h), fun h => (exec_ego s).trans (runGo_runs h),
    fun h => (exec_mloadw s).trans (runGo_runs h), fun h => (exec_mmac s).trans (runGo_runs h),
    fun h => (exec_mdrain s).trans (runGo_runs h), fun h => (exec_eabort s).trans (runOp_plain h), fun _ => State.abortEngine_own,
    fun _ => State.abortEngine_other, State.abortEngine_idle, ?_, rfl, State.cur_abortEngine, ?_⟩
  · rw [State.here_abortEngine]
  · rw [State.here_abortEngine]

end Sys2Proof.Laws
end

section
/-! Copies and barrier operations at issue (O26), and codebook writes, loads and invalidations (O29). -/

namespace Sys2Proof.Laws

open Sys2Proof.Machine

section
variable {s : State} {g : Guard} {q : BitVec 2} {h w : BitVec 3}

/-- A copy whose descriptor passes enters the store queue, and touches its barrier where it counts on one (R277, R278). -/
theorem cpy_runs (hr : Runs s g ((List.range 4).any (fun i => !s.cur.we.getLsbD (4 * q.toNat + i)))
      (copyFault s s.me (s.cur.copyDesc q) = none)) :
    exec (.cpy g q) s = .next (
      let t := s.queueOp .e false true (.copy (s.cur.copyDesc q))
      if (s.cur.copyDesc q).cnt then t.usesBarrier s.me (s.cur.copyDesc q).bar else t) :=
  (exec_cpy s).trans (runOp_runs hr (fun hk => ⟨rfl, rfl, rfl, hk, fun ht => Bool.noConfusion ht⟩) rfl)

/-- A group of a shape that the stage has passes its check, and another is refused (R231). -/
theorem gbar_runs (hr : Runs s g false (2 ^ w.toNat ≤ max 1 s.here.width ∧ 2 ^ h.toNat ≤ max 1 s.here.height)) :
    exec (.gbar g h w) s = .next (
      let t := s.modHere (fun t => t.arrive (h.toNat * 8 + w.toNat) s.slot s.ids)
      { t with issue := { t.issue with
          endBlock := some (.group (h.toNat * 8 + w.toNat) (s.here.arrivals (h.toNat * 8 + w.toNat)).length) } }) := by
  rw [exec_gbar, execGbar]
  exact runOp_runs hr (fun ⟨hw, hh⟩ => ⟨rfl, rfl, rfl, if_neg (fun hb => hb.elim (Nat.not_lt.mpr hw) (Nat.not_lt.mpr hh)),
    fun ht => Bool.noConfusion ht⟩) rfl

theorem gbar_traps (hm : s.issue.mode = .direct) (hg : s.cur.guard g = true) (hp : s.cur.poisonRd = false)
    (hf : ¬(2 ^ w.toNat ≤ max 1 s.here.width ∧ 2 ^ h.toNat ≤ max 1 s.here.height)) :
    exec (.gbar g h w) s = .next (s.issueTrap ⟨4, .e, .bound, BitVec.ofNat 64 (h.toNat * 8 + w.toNat)⟩) := by
  have hwide : max 1 s.here.width < 2 ^ w.toNat ∨ max 1 s.here.height < 2 ^ h.toNat :=
    (not_and_or.mp hf).imp Nat.lt_of_not_le Nat.lt_of_not_le
  rw [exec_gbar, execGbar]
  exact runOp_traps hm (opFailure_own hg (fun ht => by simp [hp] at ht) rfl rfl rfl (if_pos hwide))

end

/-- Settles O26: each operation has its effect; a group that the stage does not have is refused by the check of `GBAR`. -/
theorem copiesAndBarriers : Obligations.CopiesAndBarriers := by
  unfold Obligations.CopiesAndBarriers
  intro s g d a q k h w n desc v u queues code fits
  exact ⟨cpy_runs, fun hr => (exec_cpyq s).trans (runOp_plain hr), fun hr => (exec_binit s).trans (runOp_reads hr rfl),
    fun hr => (exec_badd s).trans (runOp_reads hr rfl), fun hr => (exec_barr s).trans (runOp_reads hr rfl),
    fun hr => (exec_bwait s).trans (runOp_plain hr), gbar_runs, gbar_traps⟩

section
variable {s : State} {g : Guard} {k : BitVec 2} {a b : Src}

/-- The fields of a codebook operation's sources: the entry in bits 7:0, the count in bits 16:8 (R287). -/
theorem wfld_entry (x : Word) : wfld x 0 8 = x.toNat % 256 := rfl
theorem wfld_count (x : Word) : wfld x 8 9 = x.toNat / 256 % 512 := by
  rw [wfld, fld, Nat.shiftRight_eq_div_pow]
  rfl

theorem cbwrNw_runs (h : Runs s g (s.cur.unsetE a || s.cur.unsetE b) (s.here.bankInUse k.toNat = false)) :
    exec (.cbwrNw g k a b) s =
      .next (s.pend .e 3 false (.codebook (.write k.toNat ((s.cur.srcE a).setWidth 8) (s.cur.srcE b)))) :=
  (exec_cbwrNw s).trans (runOp_runs h (fun hk => ⟨rfl, rfl, rfl, if_neg (Bool.eq_false_iff.mp hk), fun ht => Bool.noConfusion ht⟩) rfl)

/-- A bank in use is the trap `CB_HAZARD` (R288). -/
theorem cbwrNw_traps (hm : s.issue.mode = .direct) (hg : s.cur.guard g = true) (hp : s.cur.poisonRd = false)
    (hu : s.here.bankInUse k.toNat = true) : exec (.cbwrNw g k a b) s =
      .next (s.issueTrap ⟨4, .e, .cbHazard, BitVec.ofNat 64 (k.toNat * 256 + (s.cur.srcE a).toNat % 256)⟩) :=
  (exec_cbwrNw s).trans (runOp_traps hm (opFailure_own hg (fun ht => by simp [hp] at ht) rfl rfl rfl (if_pos hu)))

/-- The check of `CBLD` passes on entries and dwords in fours within the share (R287). -/
theorem cbldFault_none {t : Tile} {x y : Word} (hx : x.toNat % 4 = 0) (hy : y.toNat % 4 = 0) (hs : x.toNat + 3 < t.spillShare / 8) :
    cbldFault t x y = none := by
  have haligned : ¬(x.toNat % 4 ≠ 0 ∨ wfld y 0 8 % 4 ≠ 0) := by
    rw [wfld_entry]
    omega
  exact (if_neg haligned).trans (if_neg (Nat.not_le.mpr hs))

/-- `CBLD` of whole units writes its bank with the four dwords of its share. -/
theorem cbld_runs (h : Runs s g (s.cur.unsetE a || s.cur.unsetE b) ((s.cur.srcE a).toNat % 4 = 0 ∧ (s.cur.srcE b).toNat % 4 = 0 ∧
      (s.cur.srcE a).toNat + 3 < s.here.spillShare / 8))
    (hb : s.spillBad s.focus (s.here.spillOff s.slot (8 * (s.cur.srcE a).toNat)) 32 = none) :
    exec (.cbld g k a b) s = .next (s.issueCodebook (.load k.toNat ((s.cur.srcE b).setWidth 8) ((List.range 4).map (fun i =>
      s.readWord .spill s.focus (s.here.spillOff s.slot (8 * (s.cur.srcE a).toNat) + 8 * i))))) := by
  rw [exec_cbld, execCbld, runOp_runs h (fun ⟨hx, hy, hs⟩ =>
    ⟨rfl, rfl, rfl, cbldFault_none hx hy hs, fun ht => Bool.noConfusion ht⟩) rfl]
  dsimp only
  rw [hb]

theorem cbinv_runs (h : Runs s g (s.cur.unsetE a) ((s.cur.srcE a).toNat / 256 % 512 ≤ 256)) :
    exec (.cbinv g k a) s =
      .next (s.issueCodebook (.invalidate k.toNat ((s.cur.srcE a).setWidth 8) ((s.cur.srcE a).toNat / 256 % 512))) := by
  rw [← wfld_count] at h ⊢
  exact (exec_cbinv s).trans (runOp_runs h (fun hk => ⟨rfl, rfl, rfl, if_neg (Nat.not_lt.mpr hk), fun ht => Bool.noConfusion ht⟩) rfl)

end

/-- Settles O29: each operation writes its bank, or is held while the bank is in use; `CBWR.NW` is refused there. -/
theorem codebookWrites : Obligations.CodebookWrites := by
  unfold Obligations.CodebookWrites
  intro s g k a b x y uab off writes
  exact ⟨fun h => (exec_cbwr s).trans (runOp_reads h rfl), cbwrNw_runs, cbwrNw_traps, cbld_runs, cbinv_runs⟩

end Sys2Proof.Laws
end

section
/-! The matrix engine at work (R271 to R275): the swap-in of a Ready set, and what its completion leaves to its owner. -/

namespace Sys2Proof.Machine

/-! The swap-in -/

theorem Tile.settleEngine_nil {t : Tile} (h : t.pending = []) : t.settleEngine = t := by
  rw [Tile.settleEngine, h]
  rfl

/-- The operation that a Ready set becomes (R271, R272). -/
def Tile.opOf (t : Tile) (slot seq serial f : Nat) : ActiveOp :=
  let set := t.shadow
  let code := (t.resolveCode slot (setFormat set)).getD 0
  let bits := ((elemFmt t.fmt code).map ElemFmt.bits).getD 8
  ⟨slot, serial, seq, BitVec.ofNat 3 (wfld (setReg set .mctl) 0 3), t.wall,
    t.wall + engineTime set code bits (t.engineErr slot set) f, 0, BitVec.ofNat 4 (t.engineErr slot set), 0, false, false, code, t.fmt,
    (t.cbctl[wfld (setReg set .mctl) 25 2]?).getD 0, (t.ctx slot).tshape⟩

theorem Tile.swapTurn_ready {t : Tile} {slot seq serial f : Nat} (hp : t.pending = []) (hs : t.shadowSt = .ready slot seq serial)
    (ho : t.op = none) : t.swapTurn f = { t with
      active := t.shadow, shadowSt := .free, op := some (t.opOf slot seq serial f)
      wval := t.wval && !(t.engineErr slot t.shadow == 0 && wfld (setReg t.shadow .mctl) 0 3 == 1) } := by
  have hin : t.swapIn f = { t with
      active := t.shadow, shadowSt := .free, op := some (t.opOf slot seq serial f)
      wval := t.wval && !(t.engineErr slot t.shadow == 0 && wfld (setReg t.shadow .mctl) 0 3 == 1) } := by
    rw [Tile.swapIn, hs, ho]
    rfl
  rw [Tile.swapTurn, Tile.settleEngine_nil hp, hin]
  exact Tile.settleEngine_nil hp

/-- Columns that give way change no tile but in their number. -/
theorem State.tile_swapColumns (s : State) (r : TileRef) : ∃ n, (s.swapColumns r).tile r = { s.tile r with columnsRetired := n } := by
  have htaken : ∀ (us : List RasUnit) (x : Node), (us.foldl Node.takeOver x).tiles = x.tiles := by
    intro us
    induction us with
    | nil => exact fun _ => rfl
    | cons u us ih => exact fun x => ih (x.takeOver u)
  have htile : ∀ us : List RasUnit, (s.modNode r.node (fun x => us.foldl Node.takeOver x)).tile r = s.tile r := fun us => by
    rw [State.tile, State.node_modNode, htaken]
    rfl
  unfold State.swapColumns
  rw [State.tile_modTile, htile]
  exact ⟨_, rfl⟩

theorem State.swapTurn_cases (s : State) (r : TileRef) : ∃ n, (s.swapTurn r).mem = s.mem ∧
    (s.swapTurn r).tile r = { (s.tile r).swapTurn (s.throttle r) with columnsRetired := n } := by
  unfold State.swapTurn
  dsimp only
  split
  · obtain ⟨n, hn⟩ := (s.modTile r (fun t => t.swapTurn (s.throttle r))).tile_swapColumns r
    rw [State.tile_modTile] at hn
    exact ⟨n, rfl, hn⟩
  · exact ⟨_, rfl, State.tile_modTile ..⟩

/-! The passes -/

/-- Pass `p` of an operation by its kind (R270). -/
def State.enginePass (s : State) (r : TileRef) (o : ActiveOp) (f fw : ElemFmt) (cols : List (List Nat)) (abort : Option Nat) (p : Nat) :
    State × Nat × BitVec 7 :=
  let set := (s.tile r).active
  let idx := passIdx (setCounts set) p
  let ad := (nestAt (setStream set).1 (setStream set).2 idx).toNat
  let zrow := (nestAt ((setReg set .mzbase).toNat) (setSZ set) idx).toNat
  match o.kind.toNat with
  | 1 => s.loadwPass r o f abort p ad
  | 2 => s.macPass r o f fw cols abort p ad zrow
  | _ => s.drainPass r o f abort p ad zrow

theorem State.enginePasses_succ {s : State} {r : TileRef} {o : ActiveOp} {f fw : ElemFmt} {cols : List (List Nat)} {abort : Option Nat}
    {fuel p : Nat} {fl : BitVec 7} : s.enginePasses r o f fw cols abort (fuel + 1) p fl =
      (let q := s.enginePass r o f fw cols abort p
      if q.2.1 ≠ 0 then (q.1, p, q.2.1, fl ||| q.2.2) else q.1.enginePasses r o f fw cols abort fuel (p + 1) (fl ||| q.2.2)) := rfl

/-- One state has the contexts of a tile, and the saved ones among them, as another has. -/
structure State.KeepsOwners (r : TileRef) (s t : State) : Prop where
  ctxs : (t.tile r).ctxs = (s.tile r).ctxs
  psstat : (t.tile r).psstat = (s.tile r).psstat

namespace State.KeepsOwners

variable {r : TileRef} {s t u : State}

theorem refl (s : State) : s.KeepsOwners r s := ⟨rfl, rfl⟩
theorem trans (h : s.KeepsOwners r t) (k : t.KeepsOwners r u) : s.KeepsOwners r u :=
  ⟨k.ctxs.trans h.ctxs, k.psstat.trans h.psstat⟩

theorem modTile (s : State) {f : Tile → Tile} (hc : (f (s.tile r)).ctxs = (s.tile r).ctxs)
    (hp : (f (s.tile r)).psstat = (s.tile r).psstat) : s.KeepsOwners r (s.modTile r f) :=
  ⟨by rw [State.tile_modTile, hc], by rw [State.tile_modTile, hp]⟩

variable (s) (r) (o : ActiveOp) (f fw : ElemFmt) (abort : Option Nat)

theorem clearBank : s.KeepsOwners r (s.clearBank r o abort) := by
  unfold State.clearBank
  dsimp only
  split
  · exact modTile s rfl rfl
  · exact refl s

theorem loadwPass (p b : Nat) : s.KeepsOwners r (s.loadwPass r o f abort p b).1 := by
  unfold State.loadwPass
  dsimp only
  generalize (if (setReg (s.tile r).active NestReg.mctl).getLsbD 24 = true then _ else _ : List Nat × Bool × Bool) = x
  split
  · exact refl s
  · split
    · exact refl s
    · split
      · exact refl s
      · dsimp only
        exact modTile s rfl rfl

theorem macPass (cols : List (List Nat)) (p a zrow : Nat) : s.KeepsOwners r (s.macPass r o f fw cols abort p a zrow).1 := by
  unfold State.macPass
  dsimp only
  split
  · exact refl s
  · dsimp only
    exact modTile s rfl rfl

theorem drainPass (p b zrow : Nat) : s.KeepsOwners r (s.drainPass r o f none p b zrow).1 := by
  have hwritten : ∀ sp off bs, s.KeepsOwners r ((s.writeBytes sp r off bs).healWhole sp r off bs.length) := fun _ _ _ => ⟨rfl, rfl⟩
  unfold State.drainPass
  dsimp only
  exact (hwritten ..).trans (modTile _ rfl rfl)

theorem enginePass (cols : List (List Nat)) (p : Nat) : s.KeepsOwners r (s.enginePass r o f fw cols none p).1 := by
  unfold State.enginePass
  dsimp only
  split
  · exact loadwPass ..
  · exact macPass ..
  · exact drainPass ..

theorem enginePasses (cols : List (List Nat)) (fuel p : Nat) (fl : BitVec 7) :
    s.KeepsOwners r (s.enginePasses r o f fw cols none fuel p fl).1 := by
  induction fuel generalizing s p fl with
  | zero => exact refl s
  | succ fuel ih =>
    rw [State.enginePasses_succ]
    dsimp only
    split
    · exact enginePass ..
    · exact (enginePass ..).trans (ih ..)

theorem runEngine (upto : Nat) : s.KeepsOwners r (s.runEngine r o none upto).1 := by
  unfold State.runEngine
  dsimp only
  split
  · exact (clearBank ..).trans (enginePasses ..)
  · exact enginePasses ..

end State.KeepsOwners

/-! The completion -/

/-- The end of an operation with its error and its flags, once its writes have been made (R272). -/
def State.endOp (s : State) (r : TileRef) (o : ActiveOp) (err : Nat) (fl : BitVec 7) : State :=
  (s.reportSaved r o err fl).modTile r (fun t =>
    { t.engineReport o err fl with
      op := none
      wval := if o.kind = 1 ∧ ¬(o.err ≠ 0 ∧ o.err ≠ 4) then err == 0 else t.wval
      wtag := if o.kind = 1 ∧ err = 0 then o.fmt else t.wtag })

section
variable {s v : State} {r : TileRef} {o : ActiveOp} {n err : Nat} {fl : BitVec 7}

/-- What a refused operation leaves at its completion: an input said to be poisoned lets the bank that a `MAC` clears hold any of its values. -/
def State.refusedEngine (s : State) (r : TileRef) (o : ActiveOp) : State :=
  if o.err = 6 ∧ o.kind = 2 then { (s.runEngine r o (some s.free) 0).1 with free := s.free + abortSpan (setPasses (s.tile r).active) } else s

theorem State.completeEngine_refused (ho : (s.tile r).op = some o) (h0 : o.err ≠ 0) (h4 : o.err ≠ 4) :
    s.completeEngine r = (s.refusedEngine r o).endOp r o o.err.toNat 0 := by
  have herr : o.err.toNat = 6 ↔ o.err = 6 := by bv_omega
  simp only [State.completeEngine, ho, h0, h4, State.refusedEngine, State.endOp, ne_eq, not_false_eq_true, and_self, if_true, herr]
  split
  · next h => simp [h.1]
  · rfl

theorem State.completeEngine_succeeds (ho : (s.tile r).op = some o) (h0 : o.err = 0)
    (hrun : s.runEngine r o none (setPasses (s.tile r).active) = (v, n, 0, fl)) : s.completeEngine r = v.endOp r o 0 fl := by
  simp [State.completeEngine, ho, State.endOp, h0, hrun]

/-- The owner of an operation is told of its completion: it is there, and has not been saved (R272, R386). -/
def Tile.tells (t : Tile) (o : ActiveOp) : Prop :=
  o.orphan = false ∧ o.slot < 8 ∧ (t.ctx o.slot).serial = o.serial ∧ t.psstat.getLsbD (48 + o.slot) = false

theorem State.KeepsOwners.tells (k : s.KeepsOwners r v) (h : (s.tile r).tells o) : (v.tile r).tells o := by
  obtain ⟨horphan, hslot, hserial, hsaved⟩ := h
  exact ⟨horphan, hslot, (congrArg Ctx.serial (Tile.ctx_congr k.ctxs)).trans hserial, k.psstat ▸ hsaved⟩

theorem State.endOp_tells (h : (s.tile r).tells o) : (s.endOp r o err fl).mem = s.mem ∧ (s.endOp r o err fl).tile r =
    { (s.tile r).modCtx o.slot (fun c => { c with done := c.done + 1, err := BitVec.ofNat 4 err, eflags := c.eflags ||| fl }) with
      op := none
      wval := if o.kind = 1 ∧ ¬(o.err ≠ 0 ∧ o.err ≠ 4) then err == 0 else (s.tile r).wval
      wtag := if o.kind = 1 ∧ err = 0 then o.fmt else (s.tile r).wtag } := by
  obtain ⟨horphan, -, hserial, hsaved⟩ := h
  have hreport : s.reportSaved r o err fl = s := if_pos (.inr (.inr hsaved))
  have hnotice : (s.tile r).engineReport o err fl =
      (s.tile r).modCtx o.slot (fun c => { c with done := c.done + 1, err := BitVec.ofNat 4 err, eflags := c.eflags ||| fl }) :=
    if_neg (by simp [horphan, hserial, hsaved])
  rw [State.endOp, hreport, State.tile_modTile, hnotice]
  exact ⟨rfl, rfl⟩

/-- The owner counts one operation done, and has its code. -/
theorem State.ctx_endOp (h : (s.tile r).tells o) : ((s.endOp r o err fl).tile r).ctx o.slot =
    (let c := (s.tile r).ctx o.slot
    { c with done := c.done + 1, err := BitVec.ofNat 4 err, eflags := c.eflags ||| fl }) := by
  rw [(State.endOp_tells h).2]
  exact Tile.ctx_of_ctxs (f := fun c => { c with done := c.done + 1, err := BitVec.ofNat 4 err, eflags := c.eflags ||| fl }) rfl h.2.1

/-- Whether the completion of the active operation is due (R252, R272). -/
theorem State.engineDue_eq (ho : (s.tile r).op = some o) : s.engineDue r =
    (!o.halted && decide (o.finish ≤ (s.tile r).wall + 1) && s.engineFree r o) := by
  rw [State.engineDue, ho]

/-- What is left of an operation's run up to its first pass. -/
theorem State.runEngine_zero (abort : Option Nat) : (s.runEngine r o abort 0).1 = if o.passes = 0 then s.clearBank r o abort else s := by
  simp only [State.runEngine, Nat.zero_sub]
  rfl

/-- A bank that is cleared changes neither memory nor the array; it keeps its entries where every free choice of passes is 0 (R274). -/
theorem State.mem_clearBank (abort : Option Nat) : (s.clearBank r o abort).mem = s.mem := by
  unfold State.clearBank
  dsimp only
  split <;> rfl

theorem State.weights_clearBank (abort : Option Nat) : ((s.clearBank r o abort).tile r).weights = (s.tile r).weights := by
  unfold State.clearBank
  dsimp only
  split
  · rw [State.tile_modTile]
  · rfl

theorem State.acc_clearBank (abort : Option Nat) : ((s.clearBank r o abort).tile r).acc =
    if o.kind = 2 ∧ (setReg (s.tile r).active .mctl).getLsbD 5 = true then (s.tile r).acc.filter (fun e =>
      e.1 / 16384 != wfld (setReg (s.tile r).active .mctl) 4 1 ||
        (abort.isSome && passLimit abort (setPasses (s.tile r).active) e.1 == 0))
    else (s.tile r).acc := by
  unfold State.clearBank
  dsimp only
  split
  · rw [State.tile_modTile]
  · rfl

theorem State.acc_clearBank_kept {k : Nat} (h : ∀ key, passLimit (some k) (setPasses (s.tile r).active) key = 0) :
    ((s.clearBank r o (some k)).tile r).acc = (s.tile r).acc := by
  rw [State.acc_clearBank]
  split
  · simp [h]
  · rfl

/-- What a refused operation leaves is the state but for its free values, or it with the operation's bank cleared as they choose. -/
theorem State.refusedEngine_cases : ∃ w, s.refusedEngine r o = { s with free := w } ∨
    s.refusedEngine r o = { s.clearBank r o (some s.free) with free := w } := by
  unfold State.refusedEngine
  split
  · rw [State.runEngine_zero]
    split
    · exact ⟨_, .inr rfl⟩
    · exact ⟨_, .inl rfl⟩
  · exact ⟨s.free, .inl rfl⟩

theorem State.refusedEngine_keeps : s.KeepsOwners r (s.refusedEngine r o) ∧ (s.refusedEngine r o).mem = s.mem ∧
    ((s.refusedEngine r o).tile r).weights = (s.tile r).weights ∧
    ((∀ key, passLimit (some s.free) (setPasses (s.tile r).active) key = 0) → ((s.refusedEngine r o).tile r).acc = (s.tile r).acc) := by
  obtain ⟨w, h | h⟩ := s.refusedEngine_cases (r := r) (o := o)
  · rw [h]
    exact ⟨⟨rfl, rfl⟩, rfl, rfl, fun _ => rfl⟩
  · rw [h]
    obtain ⟨hctxs, hsaved⟩ := State.KeepsOwners.clearBank r s o (some s.free)
    exact ⟨⟨hctxs, hsaved⟩, State.mem_clearBank _, State.weights_clearBank _, State.acc_clearBank_kept⟩

end

end Sys2Proof.Machine
end

section
/-! What the steps of the engine give, and where O42 holds: exactly where the free choices that an operation of poisoned input takes
(R274) leave its bank as it was. The spec's refusals have the codes 1 to 3 (Table 9.9); O42 says the same of every code but 0 and 4. -/

namespace Sys2Proof.Laws

open Sys2Proof.Machine

section
variable {s v : State} {r : TileRef} {o : ActiveOp} {slot seq ser n : Nat} {fl : BitVec 7}

theorem shadowSwapIn_gives (hp : (s.tile r).pending = []) (hs : (s.tile r).shadowSt = .ready slot seq ser) (ho : (s.tile r).op = none) :
    Gives (.shadowSwapIn r) s (fun u => (u.tile r).active = (s.tile r).shadow ∧ (u.tile r).shadowSt = .free ∧ u.mem = s.mem ∧
      (u.tile r).op = some ((s.tile r).opOf slot seq ser (s.throttle r))) := by
  obtain ⟨n, hmem, htile⟩ := s.swapTurn_cases r
  rw [Tile.swapTurn_ready hp hs ho] at htile
  exact ⟨_, exec_shadowSwapIn s, by rw [htile], by rw [htile], hmem, by rw [htile]⟩

/-- The completion of the active operation is due: it is not halted, its cycle has come, and the accesses that it follows have been
performed (R252, R272). -/
def EngineDue (s : State) (r : TileRef) (o : ActiveOp) : Prop :=
  (s.tile r).op = some o ∧ o.halted = false ∧ o.finish ≤ (s.tile r).wall + 1 ∧ s.engineFree r o = true

theorem engineComplete_due (h : EngineDue s r o) : exec (.engineComplete r) s = .next (s.completeEngine r) := by
  obtain ⟨ho, hhalt, hfin, hfree⟩ := h
  exact congrArg Host.Outcome.next (if_pos (by simp [State.engineDue_eq ho, hhalt, hfin, hfree]))

theorem engineComplete_waits (ho : (s.tile r).op = some o) (h : (s.tile r).wall + 1 < o.finish ∨ s.engineFree r o = false) :
    exec (.engineComplete r) s = .next s := by
  refine congrArg Host.Outcome.next (if_neg ?_)
  rw [State.engineDue_eq ho]
  obtain hw | hf := h
  · simp [Nat.not_le.mpr hw]
  · simp [hf]

/-- A refused operation is counted to its owner with its code. -/
theorem engineComplete_refused (hd : EngineDue s r o) (ht : (s.tile r).tells o) (h0 : o.err ≠ 0) (h4 : o.err ≠ 4) :
    Gives (.engineComplete r) s (fun w => (w.tile r).op = none ∧
      ((w.tile r).ctx o.slot).done = ((s.tile r).ctx o.slot).done + 1 ∧ ((w.tile r).ctx o.slot).err = o.err ∧ w.mem = s.mem ∧
      (w.tile r).weights = (s.tile r).weights ∧ (w.tile r).acc = ((s.refusedEngine r o).tile r).acc) := by
  obtain ⟨hkeeps, hmem, hweights, -⟩ := s.refusedEngine_keeps (r := r) (o := o)
  have htells := hkeeps.tells ht
  have hctx : ((s.refusedEngine r o).tile r).ctx o.slot = (s.tile r).ctx o.slot := Tile.ctx_congr hkeeps.ctxs
  obtain ⟨hend, htile⟩ := State.endOp_tells (err := o.err.toNat) (fl := 0) htells
  refine ⟨_, (engineComplete_due hd).trans (congrArg _ (State.completeEngine_refused hd.1 h0 h4)), ?_, ?_, ?_, hend.trans hmem, ?_, ?_⟩
  · rw [htile]
  · rw [State.ctx_endOp htells, hctx]
  · rw [State.ctx_endOp htells, BitVec.ofNat_toNat, BitVec.setWidth_eq]
  · rw [htile]
    exact hweights
  · rw [htile]
    rfl

/-- An operation whose passes all succeeded leaves what they leave, and is counted to its owner; a `LOADW` leaves its array valid. -/
theorem engineComplete_succeeds (hd : EngineDue s r o) (ht : (s.tile r).tells o) (h0 : o.err = 0)
    (hrun : s.runEngine r o none (setPasses (s.tile r).active) = (v, n, 0, fl)) : Gives (.engineComplete r) s (fun w =>
      (w.tile r).op = none ∧ ((w.tile r).ctx o.slot).done = ((s.tile r).ctx o.slot).done + 1 ∧ ((w.tile r).ctx o.slot).err = 0 ∧
      w.mem = v.mem ∧ (w.tile r).weights = (v.tile r).weights ∧ (w.tile r).acc = (v.tile r).acc ∧
      (o.kind = 1 → (w.tile r).wval = true ∧ (w.tile r).wtag = o.fmt)) := by
  have hkeeps : s.KeepsOwners r v := by
    have h := State.KeepsOwners.runEngine r s o (setPasses (s.tile r).active)
    rwa [hrun] at h
  have htells := hkeeps.tells ht
  have hctx : (v.tile r).ctx o.slot = (s.tile r).ctx o.slot := Tile.ctx_congr hkeeps.ctxs
  obtain ⟨hend, htile⟩ := State.endOp_tells (err := 0) (fl := fl) htells
  refine ⟨_, (engineComplete_due hd).trans (congrArg _ (State.completeEngine_succeeds hd.1 h0 hrun)), ?_, ?_, ?_, hend, ?_, ?_,
    fun hk => ⟨?_, ?_⟩⟩
  · rw [htile]
  · rw [State.ctx_endOp htells, hctx]
  · rw [State.ctx_endOp htells]
    rfl
  · rw [htile]
    rfl
  · rw [htile]
    rfl
  · rw [htile]
    simp [hk, h0]
  · rw [htile]
    simp [hk]

end

/-- A `MAC` with ZCLR at its completion, said to be refused for a poisoned input, whose bank 0 has one entry, in a tile alone. -/
def poisonedMac : ActiveOp := { (default : ActiveOp) with kind := 2, err := 6 }
def clearing (set : Vector Word 17) (k : Nat) : State :=
  { State.reset with free := k }.modTile ⟨0, 0⟩ (fun t => { t with op := some poisonedMac, active := set.set 0 0x20, acc := [(0, 1)] })

theorem tile_clearing (set : Vector Word 17) (k : Nat) : (clearing set k).tile ⟨0, 0⟩ =
    { State.reset.tile ⟨0, 0⟩ with op := some poisonedMac, active := set.set 0 0x20, acc := [(0, 1)] } := State.tile_modTile ..

theorem setPasses_set_zero (set : Vector Word 17) (w : Word) : setPasses (set.set 0 w) = setPasses set := by
  have hcount : ∀ l, (set.set 0 w)[11 + l]? = set[11 + l]? := fun l => Vector.getElem?_set_ne (by decide) (by omega)
  simp [setPasses, setCounts, hcount]

theorem clearing_due (set : Vector Word 17) (k : Nat) :
    EngineDue (clearing set k) ⟨0, 0⟩ poisonedMac ∧ ((clearing set k).tile ⟨0, 0⟩).tells poisonedMac := by
  unfold EngineDue State.engineFree
  rw [tile_clearing]
  have hsaved : (State.reset.tile ⟨0, 0⟩).psstat.getLsbD 48 = false := by decide
  exact ⟨⟨rfl, rfl, Nat.zero_le _, rfl⟩, rfl, by decide, rfl, hsaved⟩

/-- What the completion leaves of its bank's one entry. -/
theorem acc_clearing (set : Vector Word 17) (k : Nat) : (((clearing set k).refusedEngine ⟨0, 0⟩ poisonedMac).tile ⟨0, 0⟩).acc =
    if passLimit (some k) (setPasses set) 0 = 0 then [(0, 1)] else [] := by
  have hcleared : ((clearing set k).refusedEngine ⟨0, 0⟩ poisonedMac).tile ⟨0, 0⟩ =
      ((clearing set k).clearBank ⟨0, 0⟩ poisonedMac (some k)).tile ⟨0, 0⟩ := by
    rw [State.refusedEngine, if_pos (by decide), State.runEngine_zero, if_pos (show poisonedMac.passes = 0 from rfl)]
    rfl
  have hmctl : setReg (set.set 0 0x20) .mctl = 0x20 := by simp [setReg, nestIdx]
  have hclears : poisonedMac.kind = 2 ∧ (0x20 : Word).getLsbD 5 = true := by decide
  rw [hcleared, State.acc_clearBank, tile_clearing, hmctl, setPasses_set_zero, if_pos hclears]
  split
  · next h => simp [h]
  · next h => simp [h, wfld, fld]

/-- O42 holds exactly where every free choice of passes is 0: it says that an operation of code 6 with ZCLR keeps its bank, which the model
fills by these choices. They are constants without a body (log entry 7), so that neither O42 nor its negation follows from the model. -/
theorem engineRuns_iff :
    Obligations.EngineRuns ↔ ∀ (k : Nat) (set : Vector Word 17) (key : Nat), passLimit (some k) (setPasses set) key = 0 := by
  unfold Obligations.EngineRuns
  constructor
  · intro hall k set key
    obtain ⟨⟨ho, hhalt, hfin, hfree⟩, ht⟩ := clearing_due set (k + key)
    obtain ⟨-, hrefused, -, -⟩ := hall (clearing set (k + key)) (clearing set (k + key)) ⟨0, 0⟩ 0 0 0 0 0 poisonedMac
    obtain ⟨w, hw, -, -, -, -, -, hacc⟩ := hrefused ⟨ho, hhalt, hfin, hfree⟩ ht (by decide) (by decide)
    obtain ⟨w', hw', -, -, -, -, -, hacc'⟩ := engineComplete_refused ⟨ho, hhalt, hfin, hfree⟩ ht (by decide) (by decide)
    rw [hw] at hw'
    cases hw'
    rw [hacc', acc_clearing, tile_clearing] at hacc
    by_contra hne
    rw [if_neg (show passLimit (some (k + key)) (setPasses set) 0 ≠ 0 from hne)] at hacc
    cases hacc
  · intro hchoice s v r slot seq ser n fl o t set code bits f c due told
    refine ⟨fun hp hs ho => ?_, fun hd ht h0 h4 => ?_, fun hd ht h0 hrun => engineComplete_succeeds hd ht h0 hrun, engineComplete_waits⟩
    · obtain ⟨u, hu, hactive, hfree, hmem, hop⟩ := shadowSwapIn_gives hp hs ho
      exact ⟨u, hu, hactive, hfree, hmem, _, hop, rfl, rfl, rfl, rfl, rfl, rfl⟩
    · obtain ⟨w, hw, hop, hdone, herr, hmem, hweights, hacc⟩ := engineComplete_refused hd ht h0 h4
      obtain ⟨-, -, -, hkept⟩ := s.refusedEngine_keeps (r := r) (o := o)
      exact ⟨w, hw, hop, hdone, herr, hmem, hweights, hacc.trans (hkept (fun _ => hchoice ..))⟩

end Sys2Proof.Laws
end
